-- ==== Sys2Proof/Word.lean ====
section
/-! DEFINITION. Word.lean: the bit-vector types the manual counts in (R7, R12, R16, R48). -/

namespace Sys2Proof

/-- A management register, 32 bits (R12). -/
abbrev Word := BitVec 32
/-- A byte, and a Reed-Solomon symbol (R138). -/
abbrev Byte := BitVec 8
/-- The 64 data bytes of a line; byte i is bits [8i+7:8i] (R16). -/
abbrev Data := BitVec 512
/-- A device physical address, bits [36:0] (R7). -/
abbrev Dpa := BitVec 37
/-- A host physical address as the HDM decoders take it (R96). -/
abbrev Hpa := BitVec 64
/-- Host identity H0 to H15, one per logical device (R7). -/
abbrev HostId := BitVec 4
/-- Port block 2p + h (R48). -/
abbrev PortBlk := BitVec 4
/-- Physical lane 0 to 63 (R48). -/
abbrev LaneId := BitVec 6
/-- Channel CH00 to CH63; channel = die × 4 + quadrant (R7). -/
abbrev ChanId := BitVec 6
/-- Core die CD00 to CD15 (R7). -/
abbrev DieId := BitVec 4
/-- Row bus RB0 to RB3 (R7). -/
abbrev BusId := BitVec 2
/-- Task label (R7). -/
abbrev Label := BitVec 16

/-- The 32-bit word whose bit 0 is the truth of `b`. -/
def bit (b : Bool) : Word := if b then 1 else 0

end Sys2Proof
end

