-- ==== Sys2Proof/Syntax.lean ====
section
/-! DEFINITION. Syntax.lean: the commands of the part, one constructor for each row of spec/opcode_table.json, with
the operands that host software, a link partner, management software, the fabric manager, firmware, an inspector or the
part's surroundings give the step. -/

namespace Sys2Proof

/-- What the link partner offers in stage 4 (R59, R60). -/
structure LinkOffer where
  width : Fin 9
  reversed : Bool
  cxl : Bool
  /-- The host chooses latency-optimised 256-byte flits for 64 GT/s (R54). -/
  latOpt : Bool := false
  /-- CXL.cache or port-based routing asked for; the part's advertised set stands (R60). -/
  unsupported : Bool := false
deriving DecidableEq, Repr

/-- A measured eye of a lane: its number within the port block (0 to 7, or 0 to 3 in a half), height, width, and the receiver
adaptation recorded with it. A lane mask of the commands below numbers lanes the same way. -/
structure LaneEye where
  lane : BitVec 3
  height : BitVec 8
  width : BitVec 8
  adapt : Word := 0
deriving DecidableEq, Repr

/-- A transmitter setting that the host requests in phase 3 (R64): one of the eleven standard presets, or a set of coefficients. -/
inductive TxSetting where
  | preset (n : Fin 11) | coefficients (c : Word)
deriving DecidableEq, Repr

/-- A received flit: whether its CRC passes after FEC, whether FEC corrected it, whether it is an IDLE or NOP flit,
whether the IDE MAC it completes verifies, and how many of the latest flits of the part it asks for again (R53, R67, R115). -/
structure Flit where
  crcOk : Bool
  corrected : Bool := false
  idle : Bool := false
  macOk : Bool := true
  resend : Nat := 0
deriving DecidableEq, Repr

/-- MetaField of a request (R106): No-Op, or Meta0-State with its MetaValue as stored in bits [17:16]. -/
inductive MetaField where
  | noOp | meta0 (st : BitVec 2)
deriving DecidableEq, Repr

/-- SnpType of a CXL.mem request: the snoop it asks the device for in an HDM-DB range (R240). -/
inductive SnpType where
  | noOp | data | cur | inv
deriving DecidableEq, Repr

/-- What the SEC-DED check of the initialisation map or of the directory cache finds when the request looks its word up
(R142, R237): nothing, a single-bit or a double-bit error, or a pattern of three bits or more that is not found: the bits of the
map's word that differ afterwards, and whether the decoder takes it for a corrected single-bit error. -/
inductive Upset where
  | none | mapSingle | mapDouble | dirSingle | dirDouble
  | mapPattern (flips : BitVec 64) (corrected : Bool)
deriving DecidableEq, Repr

/-- A CXL.mem request as the port receives it. -/
structure MemReq where
  port : PortBlk
  ld : HostId
  tag : BitVec 16
  hpa : Hpa
  metaField : MetaField := .noOp
  snp : SnpType := .noOp
  upset : Upset := .none
deriving DecidableEq, Repr

/-- A back-invalidate response (R241): I, S, E, or a response the manual does not list. -/
inductive BiRspKind where
  | i | s | e | other
deriving DecidableEq, Repr

/-- One context of a label slot (R118). -/
structure SlotContext where
  label : BitVec 16 := 0
  deadline : BitVec 12 := 0
  ld : HostId := 0
  valid : Bool := false
deriving DecidableEq, Repr

/-- What host software programs into an HDM decoder (R96): base and size in 256 MiB units, ways, position,
granularity as log2 of bytes, DPA base in 256 MiB units. -/
structure DecoderCfg where
  base : BitVec 36
  size : BitVec 36
  ways : BitVec 5
  pos : BitVec 4
  granLog2 : BitVec 4
  dpaBase : BitVec 9
deriving DecidableEq, Repr

/-- What the channel or the array does to the symbols of a line on its way to the decoder: pairs of a symbol number 0
to 79 and the byte XORed into it. -/
abbrev Noise := List (BitVec 7 × BitVec 8)

/-- What a drift visit measures of the eye it samples (R172): by data cane, the centre in steps of 1/64 UI from the trained value, and the
width in percent of the trained width. -/
structure DriftMeasure where
  centres : List Int
  widths : List Nat
deriving DecidableEq, Repr

/-- What the steps of R170 train: clock and command/address, strobe gating, the centres of the 40 data canes of both eyes, write levelling
and row-bus port timing, in steps of 1/64 UI. -/
structure TrainValues where
  clock : Int := 0
  gate : Int := 0
  readCentres : List Int := []
  level : Int := 0
  writeCentres : List Int := []
  rowPort : Int := 0
deriving DecidableEq, Repr

/-- The seven steps of R170, in order. -/
inductive TrainStep where
  | clock | gate | readEye | levelling | writeEye | rowPort | validation
deriving DecidableEq, Repr

/-- What a channel's training comes to (R170): the data canes that do not train and the step at which the channel cannot be trained on any
arrangement of its canes; the die's temperature at capture. -/
structure TrainResult where
  ch : ChanId
  values : TrainValues := {}
  temp : Int
  failedCanes : List (BitVec 6) := []
  failedAt : Option TrainStep := none
deriving DecidableEq, Repr

/-- What the load of a channel's stored-training record finds (R171): whether its CRC verifies, its part identity matches and the pattern
passes, the die's temperature, and what the full training of a rejected record comes to. -/
structure TrainCheck where
  ch : ChanId
  crcOk : Bool := true
  partOk : Bool := true
  patternOk : Bool
  full : TrainResult
deriving DecidableEq, Repr

/-- Who writes a register: management software through the endpoint, firmware on a core, a host through the Gletex
area of its logical device, the mover on its internal path (R455, R457, R467). -/
inductive Src where
  | mgmt | core (c : BitVec 2) | host (h : HostId) | mover
deriving DecidableEq, Repr

/-- The kinds of retraining item of R36, in falling precedence. -/
inductive PauseItem where
  | slice | caneShift | drift
deriving DecidableEq, Repr

/-- What firmware writes into a plan buffer for one epoch (R23, R36): the retraining items, the channels given a row of
scrub quota, the diodes to sample, the set entries (set, state 1 to 3; 0 an exit) of R360, the octants to drop, the bus
whose full-width test starts and the segment that goes out for test. -/
structure Plan where
  pauses : List (ChanId × PauseItem) := []
  scrub : List ChanId := []
  sensors : List (Fin 20) := []
  power : List (BitVec 2 × BitVec 2) := []
  drops : List (BitVec 5) := []
  fullWidth : Option BusId := none
  segment : Option (BusId × BitVec 11) := none
deriving DecidableEq, Repr

/-- What the sweep tests (R329): a position or spare of a channel (0 to 63), a segment of 8 canes of a row bus
(0 to 1,327), or the main heartbeat cane of a die. -/
inductive CaneUnit where
  | pos (ch : ChanId) (p : BitVec 6)
  | seg (b : BusId) (s : BitVec 11)
  | heartbeat (d : DieId)
deriving DecidableEq, Repr

/-- What the test of one cane measures (R331): whether the pattern passes at the trained phase, and the width. -/
structure CaneWidth where
  prbsOk : Bool
  width : BitVec 7
deriving DecidableEq, Repr

/-- How boot code finds a record of MRAM (R374): its primary copy good, good in its mirror alone, or lost. -/
inductive RecordRead where
  | sound | mirrored | lost
deriving DecidableEq, Repr

/-- How a cold boot finds the boot record (R426), the version directory and the record of the ACTIVE version (R502). -/
structure BootRecords where
  bootRecord : RecordRead := .sound
  directory : RecordRead := .sound
  active : RecordRead := .sound
deriving DecidableEq, Repr

/-- A firmware image as the boot ROM finds it in a slot (R424, R425). `digest` is the SHA-384 of the payload read;
`payloadOk` says it equals PAYLOAD_DIGEST. -/
structure Image where
  magic : Word
  headerVersion : Word
  version : Word
  svn : Word
  length : Word
  entry : Word := 0
  flags : Word := 0
  reservedZero : Bool := true
  keyHash : BitVec 384
  digest : BitVec 384
  sigOk : Bool
  payloadOk : Bool
deriving DecidableEq, Repr

/-- The parts of an authenticated command that R440 checks; where the serial number lies in IDENTITY the manual does
not say, so its comparison is the operand `serialOk`. -/
structure AuthCmd where
  serialOk : Bool
  nonce : BitVec 32
  keyHash : BitVec 384
  sigOk : Bool
deriving DecidableEq, Repr

/-- Who asks for a fuse operation (R430). -/
inductive FuseBy where
  | jtag | firmware | command (a : AuthCmd)
deriving DecidableEq, Repr

/-- One graft of a GRAFT_APPEND: the ROM line and its 16 bytes (R433). -/
structure GraftLine where
  line : BitVec 14
  w1 : Word
  w2 : Word
  w3 : Word
  w4 : Word
deriving DecidableEq, Repr

/-- What the margin scan or a margin read finds for a word: the bits whose three copies flip at low and at high
reference (R441). -/
structure MarginNoise where
  word : BitVec 11
  low : BitVec 96
  high : BitVec 96
deriving DecidableEq, Repr

/-- The MCTP transports (R462). -/
inductive Transport where
  | pcie | i3c
deriving DecidableEq, Repr

/-- The lower layers of an MCTP request (R462): whether it could be reassembled and its message type is supported,
and whether it is addressed to the null endpoint ID. -/
structure MctpReq where
  transport : Transport
  good : Bool := true
  toNull : Bool := false
deriving DecidableEq, Repr

/-- How the fabric manager's API reaches the part (R92, R462): tunnelled through the FM-owned logical device of a port, or through the
management port. -/
inductive FmPath where
  | tunnel (b : PortBlk) | mctp (r : MctpReq)
deriving DecidableEq, Repr

/-- The SPDM transports (R442). -/
inductive SpdmPath where
  | doe (h : HostId) | doeFm | pcie | i3c
deriving DecidableEq, Repr

/-- The paths of the object dictionary (R484). -/
inductive OdPath where
  | window | mctp (t : Transport) | mailbox (h : HostId) | firmware (core : BitVec 2)
deriving DecidableEq, Repr

/-- The rails whose brown-out acts as a cold reset (R537). -/
inductive CoreRail where
  | vddCore | vddArr | vpp | vddIo
deriving DecidableEq, Repr

/-- JTAG instructions (R544): those of IEEE 1149.1, and access under IEEE 1838 and 1687. -/
inductive JtagInstr where
  | bypass | idcode | sample | preload | extest | ieee1838 | ieee1687
deriving DecidableEq, Repr

/-- The commands and events of the part (spec/opcode_table.json). -/
inductive Instr where
  -- The epoch, commits, register writes and counter clears
  | epochBoundary
  | planComplete (plan : Plan)
  | firmwareWatchdog
  | commit (src : Src) (mask : BitVec 16)
  | registerWrite (src : Src) (off : BitVec 24) (val : Word) (be : BitVec 4)
  | deferClear (v : Word)
  | countClear (b : PortBlk) (v : Word)
  | hostCountClear (h : HostId) (v : Word)
  | layoutCountClear (v : Word)
  | dramCountClear (v : Word)
  | eccCountClear (v : Word)
  | chEccClear (ch : ChanId) (v : Word)
  | cohCountClear (v : Word)
  | moverCountClear (v : Word)
  | qosCountClear (v : Word)
  | qosHistClear
  | siCountClear (v : Word)
  | ptCountClear (v : Word)
  | faultCountClear (v : Word)
  | mgmtCountClear (v : Word)
  -- Fabric lanes and link bring-up
  | perstAssert (p : BitVec 3)
  | perstRelease (p : BitVec 3)
  | refclkLost (p : BitVec 3)
  | refclkRestored (p : BitVec 3)
  | detectRetry (b : PortBlk)
  | receiverDetected (b : PortBlk) (lanes : BitVec 8)
  | pollingComplete (b : PortBlk) (locked : BitVec 8)
  | pollingTimeout (b : PortBlk) (locked : BitVec 8)
  | symbolLockDone (b : PortBlk) (inverted : BitVec 8)
  | configurationComplete (b : PortBlk) (offer : LinkOffer)
  | configurationTimeout (b : PortBlk)
  | rateStepComplete (b : PortBlk) (rate : Fin 6) (failed : BitVec 8) (final : Bool)
  | eqFailed (b : PortBlk) (rate : Fin 6)
  | eqPhase2End (b : PortBlk) (rate : Fin 6) (eyes : List LaneEye)
  | phase3PresetRequest (b : PortBlk) (set : TxSetting)
  | flitReceived (b : PortBlk) (f : Flit)
  | flitAlignment (b : PortBlk)
  | alignmentLost (b : PortBlk)
  | lockLost (l : LaneId)
  | adaptFreeze (b : PortBlk)
  | eyeCheck (b : PortBlk) (eyes : List LaneEye)
  | hostRecoveryRequest (b : PortBlk) (reeq : Bool)
  | recoveryComplete (b : PortBlk) (rate : Fin 6) (failed : BitVec 8)
  | l0pEntry (b : PortBlk) (width : Fin 9)
  | l0pExit (b : PortBlk)
  | l1Entry (b : PortBlk)
  | l12Entry (b : PortBlk)
  | electricalIdleExit (b : PortBlk)
  | partLinkExit (b : PortBlk)
  | wakeTimeout (b : PortBlk)
  | hostLinkReset (b : PortBlk) (disable : Bool)
  | marginSessionStart (l : LaneId)
  | marginSessionEnd (l : LaneId)
  | portHoldDetect (b : PortBlk)
  | portRetrain (b : PortBlk)
  | portReeq (b : PortBlk)
  | eyeCheckDisable (b : PortBlk)
  | laneReadmit (l : LaneId)
  | laneForceExclude (l : LaneId)
  | pllUnlock (p : BitVec 3)
  | serdesRailBrownout
  | serdesRailRestored
  -- Fabric transactions and the label extension
  | memRd (r : MemReq)
  | memRdData (r : MemReq)
  | memInv (r : MemReq) (nt : Bool)
  | memSpecRd (r : MemReq)
  | memRdFwd (r : MemReq) (opcode : BitVec 4)
  | memWr (r : MemReq) (data : Data) (poison : Bool)
  | memWrPtl (r : MemReq) (data : Data) (be : BitVec 64)
  | biConflict (b : PortBlk) (ld : HostId) (tag : BitVec 16) (dpa : Dpa)
  | biRsp (b : PortBlk) (ld : HostId) (dpa : Dpa) (kind : BiRspKind)
  | labelSlot (b : PortBlk) (code : BitVec 4) (a c : SlotContext)
  | decoderCommit (ld : HostId) (k : Fin 4) (d : DecoderCfg)
  | labelExtensionEnable (ld : HostId) (enable : Bool) (code : BitVec 4)
  | dcAddRequest (h : HostId) (base limit : BitVec 9)
  | dcExtentAccept (h : HostId) (base limit : BitVec 9)
  | dcExtentRelease (h : HostId) (base limit : BitVec 9)
  | dcForcedRelease (h : HostId) (base limit : BitVec 9)
  | rangeHoldEnd (h : HostId) (base limit : BitVec 9)
  | ideKeySet (b : PortBlk) (enable : Bool) (aggregation : Fin 4)
  | getPoisonList (ld : HostId) (base limit : Dpa)
  | setOctantTolerance (h : HostId) (octant : BitVec 6) (tol : Word) (needed : Bool)
  | getOctantTolerance (h : HostId) (octant : BitVec 6)
  | clearEventRecords (ld : HostId) (handles : List Nat)
  | msixEnable (ld : HostId) (enable : Bool) (mask : BitVec 8) (entries : List (Fin 24 × Word))
  | ldConventionalReset (ld : HostId)
  | scanMedia (ld : HostId) (base limit : Dpa)
  | sanitize (ld : HostId)
  -- Address map, DRAM scheduling, error correction, coherence
  | fillComplete (stripe : BitVec 21)
  | fillFallback (stripe : BitVec 21) (quadrants : BitVec 4)
  | fillTableFull
  | xlateDpaHi (v : Word)
  | initmapQuery (v : Word)
  | channelSelect (ch : ChanId) (noise : Noise) (parity : Option (BitVec 5 × BitVec 11))
  | refreshTick (ch : ChanId) (bank : BitVec 5)
  | starvation (ch : ChanId)
  | trfComplete (ch : ChanId) (bank : BitVec 5)
  | throttleExpire (ch : ChanId) (bank : BitVec 5) (label : Label)
  | driftVisit (ch : ChanId) (m : DriftMeasure)
  | retrainSlice (ch : ChanId) (values : TrainValues)
  | trainCtrlStart (ch : ChanId)
  | channelTraining (group : Fin 4) (results : List TrainResult)
  | storedTrainingLoad (checks : List TrainCheck)
  | lineDecode (ch : ChanId) (noise : Noise)
  | healClosed (ch : ChanId) (bank : BitVec 5) (row : BitVec 16) (col : BitVec 4)
  | historyExpire (ch : ChanId)
  | bucketTick
  | spareMoveRowInStage (ch : ChanId) (noise : List Noise)
  | spareRowAssigned (ch : ChanId)
  | scrubRow (ch : ChanId)
  | scrubRowDecoded (ch : ChanId) (noise : List Noise)
  | scrubVerifyDone (ch : ChanId) (noise : List Noise)
  | scrubCycleLate (ch : ChanId)
  | injArmNextWrite (v : BitVec 3)
  | injRewriteNow (v : BitVec 3)
  | injClearAll (v : BitVec 3)
  | snoopTimeout (h : HostId) (line : BitVec 31)
  | sweepDone
  | trackersFull
  | hostIsolateClear (h : HostId)
  -- Row mover
  | moverDoorbell (h : HostId) (q : BitVec 2) (tail : BitVec 12)
  | descFetch (q : BitVec 6) (noise : Noise)
  | descStart (slot : BitVec 4)
  | rowBusCycle (bus : BusId) (ok : Bool) (noise : List Noise)
  | descComplete (slot : BitVec 4)
  | claimSlow (slot : BitVec 4)
  | moverStallReset
  | moverRecovery
  -- Task labels
  | lblStagePush (v : BitVec 2)
  | lblStageDiscard (v : BitVec 2)
  | lblViewSel (v : Word)
  -- Stack integrity
  | caneTestShift (u : CaneUnit)
  | caneTestResult (u : CaneUnit) (res : List CaneWidth)
  | caneTestShiftBack (u : CaneUnit)
  | sweepLate
  | fullwidthTestStart (b : BusId)
  | fullwidthTestDone (b : BusId) (failed : List (BitVec 14)) (min : Byte) (weakest : BitVec 14) (weak : Byte)
  | siTestChannel (ch : ChanId)
  | siFullwidthNow (b : BusId)
  | droopWarn (d : DieId) (arr vpp : Byte)
  | droopFault (d : DieId) (arr vpp : Byte)
  | droopHoldEnd (d : DieId)
  | heartbeatLoss (d : DieId)
  | guardExit (d : DieId)
  | guardStatusRead (ch : ChanId) (trip : Bool)
  | heartbeatRecovery (d : DieId)
  -- Power and thermal
  | powerStateEntry (set : BitVec 2) (state : BitVec 2)
  | sreIssue (set : BitVec 2)
  | chSetPowerOff (set : BitVec 2)
  | setExitComplete (set : BitVec 2)
  | octantDrop (k : BitVec 5)
  | sensorSample (d : Fin 20) (reading : Int) (trip loadChanged : Bool)
  | thermalTrip (d : Fin 20) (reading : Int) (mramCut coreFails : Bool)
  -- Faults and events
  | faultMessageAccept
  | reactionTimerExpire (scope : BitVec 6)
  | escalateTimerExpire (scope : BitVec 6)
  | faultAck (v : Word)
  | faultNPulseEnd
  | releaseFaultN
  | fenceClear (v : Word)
  | resetCtrl (v : Word)
  | shadowClose (block : BitVec 5)
  | flogSel (v : Word)
  | flogRd (v : Word)
  | mramLogPersist
  -- Boot, lifecycle, fuses and SPDM
  | internalColdResetRelease (straps : Byte) (strapError gradeE : Bool) (mram : BootRecords)
  | imageLoaded (slotB : Bool) (img : Image)
  | bootExit (who : BitVec 5)
  | memoryActive
  | resetCmdWarm (v : Word)
  | resetCmdCold (v : Word)
  | fmResetCommand
  | watchdogExpire
  | bootTimerExpire
  | wdogKick (who : BitVec 5) (v : Word)
  | fuseRead (v : Word) (low high : BitVec 96)
  | fuseProgram (by_ : FuseBy) (word : BitVec 11) (value : Word)
  | fuseProgramDone (ok : Bool)
  | fuseLock (region : Fin 7)
  | marginScan (noise : List MarginNoise)
  | graftAppend (a : AuthCmd) (entry : BitVec 7) (lines : List GraftLine)
  | voidWords (by_ : FuseBy) (words : List (BitVec 11))
  | lifecycleReturn (a : AuthCmd)
  | lifecycleVoid (by_ : FuseBy)
  | jtagUnlock (a : AuthCmd)
  | lifecycleAdvance (by_ : FuseBy) (bit : Fin 3)
  | raiseSvnFloor (p : OdPath) (v : Byte)
  | firmwareSlotWrite (slotB : Bool) (img : Image)
  | rcvGo (slotB : Bool) (chunk : BitVec 7)
  | rcvChunkDone (error : BitVec 2)
  | rcvFinish (slotB : Bool) (img : Image)
  | spdmGetVersion (p : SpdmPath)
  | spdmGetCapabilities (p : SpdmPath)
  | spdmNegotiateAlgorithms (p : SpdmPath) (offered : Bool)
  | spdmGetDigests (p : SpdmPath)
  | spdmGetCertificate (p : SpdmPath) (slot : BitVec 4)
  | spdmChallenge (p : SpdmPath) (slot : BitVec 4)
  | spdmGetMeasurements (p : SpdmPath) (index : Byte) (signed : Bool)
  | spdmKeyExchange (p : SpdmPath) (slot : BitVec 4) (session : BitVec 16)
  | spdmFinish (p : SpdmPath) (session : BitVec 16) (macOk : Bool)
  | spdmEndSession (p : SpdmPath) (session : BitVec 16)
  | spdmHeartbeat (p : SpdmPath) (session : BitVec 16)
  -- Management port and mailboxes
  | mgmtPerst
  | mgmtPerstRelease
  | barUnmapped (off : BitVec 24) (write : Bool)
  | diagWindowRead (off : BitVec 28) (bytes : BitVec 10)
  | diagWindowWrite (off : BitVec 28) (lines : List (BitVec 64 × Data))
  | appliedAddr (v : Word)
  | locksWrite (v : Word)
  | snapSel (v : Word)
  | mbxPost (who : BitVec 5) (c : BitVec 6) (v : Word)
  | mbxPop (who : BitVec 5) (c : BitVec 6)
  | mbxCrossedClear (who : BitVec 5) (c : BitVec 6)
  | mbxLockRead (who : BitVec 5) (c : BitVec 6)
  | mbxLockRelease (who : BitVec 5) (c : BitVec 6) (v : Word)
  | mbxWake (who : BitVec 5) (b : BitVec 5)
  | mbxWakeDone (b : BitVec 5)
  | mctpSetEndpointId (r : MctpReq) (eid : Byte)
  | mctpGetEndpointId (r : MctpReq)
  | mctpGetEndpointUuid (r : MctpReq)
  | mctpGetVersionSupport (r : MctpReq)
  | mctpGetMessageTypeSupport (r : MctpReq)
  | mctpGetVendorMsgSupport (r : MctpReq)
  | fmApiCommand (p : FmPath)
  | i3cEntdaa (addr : BitVec 7)
  | i3cSetdasa (staticAddr addr : BitVec 7)
  | domainPowerOff (b : BitVec 5)
  -- Object dictionary and configuration versions
  | odRead (p : OdPath) (op : Byte) (index : BitVec 16) (sub : Byte)
  | odWrite (p : OdPath) (index : BitVec 16) (sub : Byte) (data : List Byte)
  | versionOpen (p : OdPath)
  | versionDiscard (p : OdPath)
  | versionCommit (p : OdPath)
  | versionStored (mramOk : Bool)
  | versionConfirm (p : OdPath)
  | versionRollback (p : OdPath)
  | confirmWindowExpire
  | calendarSet (p : OdPath) (sec : BitVec 64) (ns : Word)
  | lifetimePersist
  -- Rind
  | rindTapFrame (words : List (BitVec 64))
  | rindMsTick
  | rindCheckpoint
  | rindPeriodRecord
  | rindPowerUp (lostRecord lostCounter chainBreak : Bool)
  | rindSealDelivery
  | rindGetInfo (busy : Bool)
  | rindGetRecord (seq : BitVec 64) (busy : Bool)
  | rindCloseInterval (busy : Bool)
  | rindChallenge (nonce : BitVec 256) (busy : Bool)
  | rindVoltageExcursion
  | rindClockFault
  -- Rails and JTAG
  | vddAuxBrownout
  | coreRailBrownout (rail : CoreRail)
  | vddRindLoss
  | jtagInstruction (op : JtagInstr)
  | tapReset
deriving DecidableEq, Repr

end Sys2Proof
end

