-- ==== Sys2Proof/Config.lean ====
section
/-! DEFINITION. Config.lean: what the manual leaves open, as constants without a body, and the few numbers an
implementation fixes. -/

namespace Sys2Proof.Config

/-- A free value: the data of a line the manual calls unspecified (R17), a label word, a digest: whatever the manual
does not state, taken in turn by a counter of the state. -/
opaque freeData : Nat → Data
/-- A free number. -/
opaque freeNat : Nat → Nat
/-- A set of coefficients lies in the transmitter's range at a rate (R64); the manual gives no range. -/
opaque txInRange : Nat → Word → Bool
/-- The offset of the capability that follows the label-extension DVSEC (R116), which boot code sets. -/
opaque dvsecNext : Nat
/-- SHA-384 over a list of words; the manual names the function and the model does not compute it. -/
opaque sha384 : List Nat → BitVec 384
/-- An ECDSA P-384 signature over a digest, by the key the number names. -/
opaque sign : Nat → BitVec 384 → BitVec 768
/-- The certificate chain of slot 0 (R443): a device identity key and the alias key it certifies, each named by a digest it is derived
from. -/
opaque certChain : BitVec 384 → BitVec 384 → List Byte
/-- The content of the boot ROM, which measurement 1 digests (R443). -/
opaque romContent : List Nat
/-- The hash of the manufacturing key in the boot ROM (R429). -/
opaque manufacturingKey : BitVec 384
/-- The serial number string of the part, from IDENTITY; the manual does not say in which words it lies. -/
opaque serialNumber : List Byte
/-- The identity of a die, 0 to 15, or of the base die, 16 (R489); the manual does not say in which words of IDENTITY it lies. -/
opaque dieIdentity : Nat → BitVec 40
/-- The low 16 bits of the serial number (R464). -/
opaque serialLow : BitVec 16
/-- The CRC-32 of a version's content (R495); the manual does not give the layout of a version in MRAM. -/
opaque versionCrc : List Nat → Word
/-- The identifier of a record of MRAM (R373): of the trip record (0), the boot record (1), the version directory (2) and the record of a
version (3). The manual gives each record one and does not number them. -/
opaque recordId : Nat → Nat
/-- The endpoint UUID (R462). -/
opaque uuid : BitVec 128
/-- The lowest code of a die's VDD_ARR (false) or VPP (true) over an epoch in which no crossing was reported (R342): the die, the boundary
count and the rail. -/
opaque railLow : Nat → Nat → Bool → Byte
/-- The always-on clock's measure of 60 s, in cycles of the controller clock: between 57 s and 63 s (R406, R40). -/
opaque aonTrim : Nat
/-- 60 s of the always-on clock in microseconds of real time (R406). -/
def aonMinute : Nat := 57000000 + aonTrim % 6000001

end Sys2Proof.Config
end

