-- ==== Sys2Proof/Machine/Kinds.lean ====
section
/-! DEFINITION. Machine/Kinds.lean: the kinds of fault message with their code, class and address type (R382, R383). -/

namespace Sys2Proof.Machine

/-- The class of a fault message (R382, R387). -/
inductive Class where
  | corrected | contained | fatal
deriving DecidableEq, Repr

/-- The kinds of fault message, one constructor for each row of the event tables (R84, R127, R151, R189, R228,
R259, R299, R326, R354, R381, R414, R446, R480, R504, R525, R550). -/
inductive Kind where
  | eyeBelowThreshold | lockLost | alignmentLost | laneExcluded
  | linkDown | widthReduced | rateBelowMinimum | eqFailed
  | recoveryStorm | portNoWidth | refclkLost | pllUnlock
  | wakeTimeout | strapReadError | firewallViolation | labelSubstituted
  | decoderCommitRefused | bindRefused | slotMalformed | slotUnexpected
  | unsupportedOpcode | ldNotBound | ideIntegrityFail | dcAddRefused
  | dcForcedRelease | dcRegionRefused | initmapEccCorrected | initmapEccUncorrected
  | fillFallback | fillTableFull | layoutWidthInvalid | refreshForced
  | hotRefreshChange | pauseForced | driftLimit | storedTrainingRejected
  | trainingFailed | retrainDone | neighbourRefresh | labelThrottled
  | throttleTableFull | rhCounterParity | starvation | trackerFull
  | stateChange | lineCorrected | lineUncorrectable | bucketOverflow
  | hardFaultRemapped | spareRowAssigned | sparesExhausted | healQueueFull
  | historyFull | injectedCorrected | injectedUncorrectable | correctedInjectionActive
  | uncorrectableInjectionActive | scrubRetryExhausted | scrubCycleLate | remapTableFull
  | spareAssignAborted | injectRefused | scrubShortfall | snoopTimeout
  | biProtocolError | ownerLost | trackersFull | dirEccCorrected
  | dirEccRecovered | windowCommitRefused | sweepDone | isolateClearRefused
  | descRejected | moverFirewall | doorbellInvalid | ringFault
  | descInterrupted | moverLabelSubst | transferRetry | transferFailed
  | fastPathLost | claimSlow | queueCommitRefused | admissionRefused
  | reservationCut | reservationRestored | thermalCut | stageFull
  | statusWriteRefused | deadlineMiss | targetReached | foldOverflow
  | caneWeak | caneShifted | caneErased | channelRetired
  | rbCaneErased | rowBusRetired | spareBad | sweepSkipped
  | sweepLate | fullwidthFail | guardEntered | heartbeatMoved
  | hbBackupLost | droopWarn | droopFault | supplyUnstable
  | declarationRefused | setStateChange | octantDropped | octantRestored
  | exitLate | throttleStep | sensorFailed | sampleLate
  | ltrClamped | thermalTrip | mramMirrorRepaired | mramRecordLost
  | faultEscalated | escalatedFatal | resetRateExceeded | shadowClosed
  | logWatermark | mramLogSkipped | planFallback | epochWrap
  | firmwareWatchdog | resetMarker | configClamped | bootImageRejected
  | slotFallback | bootRecovery | graftInvalid | fuseMarginal
  | fuseJournalIncomplete | fuseProgramFailed | fuseProgramRefused | fuseLockRefused
  | lifecycleAdvanced | watchdogReset | resetCmdRefused | fuseCommandRejected
  | lockedWrite | barUnmapped | versionBusy | mctpDropped
  | diagFirewall | recoveryChunkFailed | mbxPostRefused | mbxCrossed
  | mbxPoweredOff | mbxDenied | mbxNoticesLost | channelTableInvalid
  | versionActivated | versionRefused | versionRolledBack | versionConfirmed
  | calendarSet | dictDenied | rindRecord | rindTamper
deriving DecidableEq, Repr

/-- KIND, bits [18:11] of the message, as the chapter that owns the source lists it. -/
def Kind.code : Kind → Nat
  | .eyeBelowThreshold => 0x01 | .lockLost => 0x02 | .alignmentLost => 0x03 | .laneExcluded => 0x04
  | .linkDown => 0x10 | .widthReduced => 0x11 | .rateBelowMinimum => 0x12 | .eqFailed => 0x13
  | .recoveryStorm => 0x14 | .portNoWidth => 0x15 | .refclkLost => 0x20 | .pllUnlock => 0x21
  | .wakeTimeout => 0x30 | .strapReadError => 0x38 | .firewallViolation => 0x40 | .labelSubstituted => 0x41
  | .decoderCommitRefused => 0x42 | .bindRefused => 0x43 | .slotMalformed => 0x48 | .slotUnexpected => 0x49
  | .unsupportedOpcode => 0x4A | .ldNotBound => 0x4B | .ideIntegrityFail => 0x50 | .dcAddRefused => 0x58
  | .dcForcedRelease => 0x59 | .dcRegionRefused => 0x5A | .initmapEccCorrected => 0x60 | .initmapEccUncorrected => 0x61
  | .fillFallback => 0x62 | .fillTableFull => 0x63 | .layoutWidthInvalid => 0x64 | .refreshForced => 0x70
  | .hotRefreshChange => 0x71 | .pauseForced => 0x72 | .driftLimit => 0x73 | .storedTrainingRejected => 0x74
  | .trainingFailed => 0x75 | .retrainDone => 0x76 | .neighbourRefresh => 0x78 | .labelThrottled => 0x79
  | .throttleTableFull => 0x7A | .rhCounterParity => 0x7B | .starvation => 0x7C | .trackerFull => 0x7D
  | .stateChange => 0x7E | .lineCorrected => 0x80 | .lineUncorrectable => 0x81 | .bucketOverflow => 0x82
  | .hardFaultRemapped => 0x83 | .spareRowAssigned => 0x84 | .sparesExhausted => 0x85 | .healQueueFull => 0x86
  | .historyFull => 0x87 | .injectedCorrected => 0x88 | .injectedUncorrectable => 0x89 | .correctedInjectionActive => 0x8A
  | .uncorrectableInjectionActive => 0x8B | .scrubRetryExhausted => 0x8C | .scrubCycleLate => 0x8D | .remapTableFull => 0x8E
  | .spareAssignAborted => 0x8F | .injectRefused => 0x90 | .scrubShortfall => 0x9E | .snoopTimeout => 0xA0
  | .biProtocolError => 0xA1 | .ownerLost => 0xA2 | .trackersFull => 0xA3 | .dirEccCorrected => 0xA4
  | .dirEccRecovered => 0xA5 | .windowCommitRefused => 0xA6 | .sweepDone => 0xA7 | .isolateClearRefused => 0xA8
  | .descRejected => 0xB0 | .moverFirewall => 0xB1 | .doorbellInvalid => 0xB2 | .ringFault => 0xB3
  | .descInterrupted => 0xB4 | .moverLabelSubst => 0xB5 | .transferRetry => 0xB6 | .transferFailed => 0xB7
  | .fastPathLost => 0xB8 | .claimSlow => 0xB9 | .queueCommitRefused => 0xBA | .admissionRefused => 0xC0
  | .reservationCut => 0xC1 | .reservationRestored => 0xC2 | .thermalCut => 0xC3 | .stageFull => 0xC4
  | .statusWriteRefused => 0xC5 | .deadlineMiss => 0xC6 | .targetReached => 0xC7 | .foldOverflow => 0xC8
  | .caneWeak => 0xD0 | .caneShifted => 0xD1 | .caneErased => 0xD2 | .channelRetired => 0xD3
  | .rbCaneErased => 0xD4 | .rowBusRetired => 0xD5 | .spareBad => 0xD6 | .sweepSkipped => 0xD7
  | .sweepLate => 0xD8 | .fullwidthFail => 0xD9 | .guardEntered => 0xDA | .heartbeatMoved => 0xDB
  | .hbBackupLost => 0xDC | .droopWarn => 0xDD | .droopFault => 0xDE | .supplyUnstable => 0xDF
  | .declarationRefused => 0xE0 | .setStateChange => 0xE1 | .octantDropped => 0xE2 | .octantRestored => 0xE3
  | .exitLate => 0xE4 | .throttleStep => 0xE5 | .sensorFailed => 0xE6 | .sampleLate => 0xE7
  | .ltrClamped => 0xE8 | .thermalTrip => 0xE9 | .mramMirrorRepaired => 0xEA | .mramRecordLost => 0xEB
  | .faultEscalated => 0xF0 | .escalatedFatal => 0xF1 | .resetRateExceeded => 0xF2 | .shadowClosed => 0xF3
  | .logWatermark => 0xF4 | .mramLogSkipped => 0xF5 | .planFallback => 0xF6 | .epochWrap => 0xF7
  | .firmwareWatchdog => 0xF8 | .resetMarker => 0xF9 | .configClamped => 0x3A | .bootImageRejected => 0x91
  | .slotFallback => 0x92 | .bootRecovery => 0x93 | .graftInvalid => 0x94 | .fuseMarginal => 0x95
  | .fuseJournalIncomplete => 0x96 | .fuseProgramFailed => 0x97 | .fuseProgramRefused => 0x98 | .fuseLockRefused => 0x99
  | .lifecycleAdvanced => 0x9A | .watchdogReset => 0x9B | .resetCmdRefused => 0x9C | .fuseCommandRejected => 0x9D
  | .lockedWrite => 0x65 | .barUnmapped => 0x66 | .versionBusy => 0x67 | .mctpDropped => 0x68
  | .diagFirewall => 0x69 | .recoveryChunkFailed => 0x6A | .mbxPostRefused => 0x6B | .mbxCrossed => 0x6C
  | .mbxPoweredOff => 0x6D | .mbxDenied => 0x6E | .mbxNoticesLost => 0x6F | .channelTableInvalid => 0x7F
  | .versionActivated => 0xFA | .versionRefused => 0xFB | .versionRolledBack => 0xFC | .versionConfirmed => 0xFD
  | .calendarSet => 0xFE | .dictDenied => 0xFF | .rindRecord => 0xA9 | .rindTamper => 0xAA

/-- CLASS of the kind (R387). -/
def Kind.cls : Kind → Class
  | .linkDown => .contained | .portNoWidth => .contained | .refclkLost => .contained | .pllUnlock => .contained
  | .strapReadError => .fatal | .ideIntegrityFail => .contained | .initmapEccUncorrected => .contained | .trainingFailed => .contained
  | .lineUncorrectable => .contained | .sparesExhausted => .contained | .injectedUncorrectable => .contained | .uncorrectableInjectionActive => .contained
  | .snoopTimeout => .contained | .ownerLost => .contained | .channelRetired => .contained | .guardEntered => .contained
  | .supplyUnstable => .contained | .sensorFailed => .contained | .mramRecordLost => .contained | .escalatedFatal => .fatal
  | .resetRateExceeded => .fatal | .firmwareWatchdog => .contained | .bootRecovery => .fatal | .fuseProgramFailed => .contained
  | _ => .corrected

/-- The kinds marked "limited" (R388). -/
def Kind.limited : Kind → Bool
  | .firewallViolation | .labelSubstituted | .slotMalformed | .slotUnexpected => true
  | .unsupportedOpcode | .ldNotBound | .initmapEccCorrected | .fillFallback => true
  | .fillTableFull | .refreshForced | .pauseForced | .neighbourRefresh => true
  | .throttleTableFull | .rhCounterParity | .starvation | .trackerFull => true
  | .stateChange | .lineCorrected | .healQueueFull | .historyFull => true
  | .scrubRetryExhausted | .trackersFull | .dirEccCorrected | .descRejected => true
  | .moverFirewall | .doorbellInvalid | .moverLabelSubst | .transferRetry => true
  | .claimSlow | .stageFull | .statusWriteRefused | .deadlineMiss => true
  | .targetReached | .foldOverflow | .caneWeak | .sweepSkipped => true
  | .droopWarn | .droopFault | .declarationRefused | .setStateChange => true
  | .sampleLate | .logWatermark | .planFallback | .fuseMarginal => true
  | .resetCmdRefused | .lockedWrite | .barUnmapped | .versionBusy => true
  | .mctpDropped | .diagFirewall | .mbxPostRefused | .mbxCrossed => true
  | .mbxPoweredOff | .mbxDenied | .dictDenied | .rindTamper => true
  | _ => false

/-- The kinds whose address field holds a DPA or a block number (R383): ADDR_TYPE 1. -/
def Kind.isDpa : Kind → Bool
  | .firewallViolation | .labelSubstituted | .decoderCommitRefused | .dcForcedRelease
  | .initmapEccCorrected | .initmapEccUncorrected | .fillFallback | .fillTableFull | .layoutWidthInvalid
  | .lineCorrected | .lineUncorrectable | .hardFaultRemapped | .sparesExhausted
  | .injectedCorrected | .injectedUncorrectable | .correctedInjectionActive | .uncorrectableInjectionActive
  | .injectRefused | .snoopTimeout | .biProtocolError | .ownerLost | .trackersFull | .dirEccCorrected
  | .dirEccRecovered | .windowCommitRefused | .sweepDone | .isolateClearRefused | .moverFirewall
  | .diagFirewall => true
  | _ => false

/-- The kinds whose address field carries nothing (R383): ADDR_TYPE 0. DEDUCED for the kinds to which the owning
chapter gives no address (entry 14). -/
def Kind.isBare : Kind → Bool
  | .logWatermark | .mramLogSkipped | .epochWrap | .firmwareWatchdog | .mctpDropped
  | .versionBusy | .watchdogReset | .resetCmdRefused | .fuseCommandRejected | .graftInvalid | .rindRecord
  | .rindTamper | .foldOverflow | .thermalCut => true
  | _ => false

/-- ADDR_TYPE, bits [28:27] of the message (R383). -/
def Kind.addrType (k : Kind) : Nat := if k.isDpa then 1 else if k.isBare then 0 else 2

end Sys2Proof.Machine
end

