-- ==== Sys2Proof/Machine/Maps.lean ====
section
/-! DEFINITION. Machine/Maps.lean: sparse tables held as sorted lists in one canonical form: keys strictly
rising and no entry equal to the table's default. Registers, memory bytes, label entries, map bits and every
numbered collection of the part are held so; an unlisted key reads as the default. -/

namespace Sys2Proof.Machine

/-- A sparse table: key and value pairs. -/
abbrev Tab (α : Type) := List (Nat × α)

/-- The value at key `k`; an unlisted key reads as `d`. -/
def Tab.get {α : Type} (d : α) : Tab α → Nat → α
  | [], _ => d
  | (j, v) :: t, k => if j = k then v else Tab.get d t k

/-- Insert `v` at `k` in a list whose keys rise. -/
def Tab.insert {α : Type} (k : Nat) (v : α) : Tab α → Tab α
  | [] => [(k, v)]
  | (j, w) :: t => if k < j then (k, v) :: (j, w) :: t else if j = k then (k, v) :: t else (j, w) :: Tab.insert k v t

/-- Remove what is held at `k`. -/
def Tab.erase {α : Type} (k : Nat) (t : Tab α) : Tab α := t.filter fun e => e.1 != k

/-- Write `v` at `k`; writing the default removes the entry, so the form stays canonical. -/
def Tab.set {α : Type} [DecidableEq α] (d : α) (t : Tab α) (k : Nat) (v : α) : Tab α :=
  if v = d then Tab.erase k t else Tab.insert k v t

/-- Apply `f` to the value at `k`. -/
def Tab.upd {α : Type} [DecidableEq α] (d : α) (t : Tab α) (k : Nat) (f : α → α) : Tab α :=
  Tab.set d t k (f (Tab.get d t k))

/-- The entries at keys satisfying `p` are replaced by those of `new` at such keys. -/
def Tab.overlay {α : Type} [DecidableEq α] (d : α) (p : Nat → Bool) (old new : Tab α) : Tab α :=
  (new.filter fun e => p e.1).foldl (fun t e => Tab.set d t e.1 e.2) (old.filter fun e => !p e.1)

/-- The canonical form: keys strictly rising and no entry equal to the default. -/
def Tab.wf {α : Type} [DecidableEq α] (d : α) : Tab α → Bool
  | [] => true
  | [(_, v)] => v != d
  | (j, v) :: (k, w) :: t => decide (j < k) && (v != d) && Tab.wf d ((k, w) :: t)

/-- Keep the first element of each list that meets `p`, put `x` in its place. -/
def replaceFirst {α : Type} (p : α → Bool) (x : α) : List α → List α
  | [] => []
  | a :: t => if p a then x :: t else a :: replaceFirst p x t

/-- Drop the first element that meets `p`. -/
def dropFirst {α : Type} (p : α → Bool) : List α → List α
  | [] => []
  | a :: t => if p a then t else a :: dropFirst p t

/-- Apply `f` to the first element that meets `p`. -/
def updFirst {α : Type} (p : α → Bool) (f : α → α) : List α → List α
  | [] => []
  | a :: t => if p a then f a :: t else a :: updFirst p f t

end Sys2Proof.Machine
end

