-- ==== Sys2Proof/Machine/Registers.lean ====
section
/-! DEFINITION. Machine/Registers.lean: the register map of the management endpoint's BAR0 (R448): the offset of every
register the manual lists, its access code (R9), the bits a write may change (R13), its reset value and its
commit group (R454). -/

namespace Sys2Proof.Machine

/-- The access codes of R9. -/
inductive Access where
  | ro | rw | rws | rw1c | wo | lock
deriving DecidableEq, Repr

/-- One row of a register table: the registers at base + s1 × i + s2 × j for i below n1 and j below n2. -/
structure RegRow where
  base : Nat
  s1 : Nat
  n1 : Nat
  s2 : Nat
  n2 : Nat
  access : Access
  mask : Word
  reset : Word
  group : Option Nat
deriving DecidableEq, Repr

/-- MGMT_ID (R478). -/
abbrev Reg.MGMT_ID : Nat := 0x0
/-- COMMIT (R478). -/
abbrev Reg.COMMIT : Nat := 0x4
/-- COMMIT_STATUS (R478). -/
abbrev Reg.COMMIT_STATUS : Nat := 0x8
/-- COMMIT_LAST (R478). -/
abbrev Reg.COMMIT_LAST : Nat := 0xC
/-- APPLIED_ADDR (R478). -/
abbrev Reg.APPLIED_ADDR : Nat := 0x10
/-- APPLIED_DATA (R478). -/
abbrev Reg.APPLIED_DATA : Nat := 0x14
/-- LOCKS (R478). -/
abbrev Reg.LOCKS : Nat := 0x18
/-- SNAP_SEL (R478). -/
abbrev Reg.SNAP_SEL : Nat := 0x1C
/-- SNAP_VALID (R478). -/
abbrev Reg.SNAP_VALID : Nat := 0x20
/-- SNAP_DATA (R478). -/
abbrev Reg.SNAP_DATA (k : Nat) : Nat := 0x24 + 0x4 * k
/-- DIAG_CFG (R478). -/
abbrev Reg.DIAG_CFG : Nat := 0x44
/-- DIAG_LABEL (R478). -/
abbrev Reg.DIAG_LABEL : Nat := 0x48
/-- DIAG_FW_BASE (R478). -/
abbrev Reg.DIAG_FW_BASE : Nat := 0x4C
/-- DIAG_FW_LIMIT (R478). -/
abbrev Reg.DIAG_FW_LIMIT : Nat := 0x50
/-- MCTP_STATUS (R478). -/
abbrev Reg.MCTP_STATUS : Nat := 0x54
/-- MGMT_COUNT_CLEAR (R478). -/
abbrev Reg.MGMT_COUNT_CLEAR : Nat := 0x58
/-- UNMAPPED_COUNT (R478). -/
abbrev Reg.UNMAPPED_COUNT : Nat := 0x5C
/-- LOCKED_WRITE_COUNT (R478). -/
abbrev Reg.LOCKED_WRITE_COUNT : Nat := 0x60
/-- MCTP_DROP_COUNT (R478). -/
abbrev Reg.MCTP_DROP_COUNT : Nat := 0x64
/-- DIAG_FW_COUNT (R478). -/
abbrev Reg.DIAG_FW_COUNT : Nat := 0x68
/-- EPOCH_STATUS (R44). -/
abbrev Reg.EPOCH_STATUS : Nat := 0x20000
/-- DEFER_REFRESH (R44). -/
abbrev Reg.DEFER_REFRESH : Nat := 0x20004
/-- DEFER_RETRAIN (R44). -/
abbrev Reg.DEFER_RETRAIN : Nat := 0x20008
/-- DEFER_SCRUB (R44). -/
abbrev Reg.DEFER_SCRUB : Nat := 0x2000C
/-- DEFER_SENSOR (R44). -/
abbrev Reg.DEFER_SENSOR : Nat := 0x20010
/-- SNAPSHOT_OVERRUN (R44). -/
abbrev Reg.SNAPSHOT_OVERRUN : Nat := 0x20014
/-- PLAN_FALLBACK_COUNT (R44). -/
abbrev Reg.PLAN_FALLBACK_COUNT : Nat := 0x20018
/-- DEFER_CLEAR (R44). -/
abbrev Reg.DEFER_CLEAR : Nat := 0x2001C
/-- LAST_COMMIT_EPOCH (R44). -/
abbrev Reg.LAST_COMMIT_EPOCH : Nat := 0x20020
/-- SNAPSHOT_CFG (R44). -/
abbrev Reg.SNAPSHOT_CFG : Nat := 0x20024
/-- SNAPSHOT_STATUS (R44). -/
abbrev Reg.SNAPSHOT_STATUS : Nat := 0x20028
/-- PORT_STATUS (R85). -/
abbrev Reg.PORT_STATUS (i : Nat) : Nat := 0x30000 + 0x100 * i
/-- PORT_CTRL (R85). -/
abbrev Reg.PORT_CTRL (i : Nat) : Nat := 0x30004 + 0x100 * i
/-- PORT_LTR (R85). -/
abbrev Reg.PORT_LTR (i : Nat) : Nat := 0x30008 + 0x100 * i
/-- EYE_POLICY (R85). -/
abbrev Reg.EYE_POLICY (i : Nat) : Nat := 0x3000C + 0x100 * i
/-- RECOVERY_COUNT (R85). -/
abbrev Reg.RECOVERY_COUNT (i : Nat) : Nat := 0x30010 + 0x100 * i
/-- LOCK_LOSS_COUNT (R85). -/
abbrev Reg.LOCK_LOSS_COUNT (i : Nat) : Nat := 0x30014 + 0x100 * i
/-- FEC_CORRECTED_COUNT (R85). -/
abbrev Reg.FEC_CORRECTED_COUNT (i : Nat) : Nat := 0x30018 + 0x100 * i
/-- REPLAY_COUNT (R85). -/
abbrev Reg.REPLAY_COUNT (i : Nat) : Nat := 0x3001C + 0x100 * i
/-- LINK_DOWN_COUNT (R85). -/
abbrev Reg.LINK_DOWN_COUNT (i : Nat) : Nat := 0x30020 + 0x100 * i
/-- COUNT_CLEAR (R85). -/
abbrev Reg.COUNT_CLEAR (i : Nat) : Nat := 0x30024 + 0x100 * i
/-- STRAP_STATUS (R85). -/
abbrev Reg.STRAP_STATUS : Nat := 0x31000
/-- LANE_STATUS (R85). -/
abbrev Reg.LANE_STATUS (i : Nat) : Nat := 0x32000 + 0x20 * i
/-- LANE_EYE (R85). -/
abbrev Reg.LANE_EYE (i : Nat) : Nat := 0x32004 + 0x20 * i
/-- LANE_EYE_BASE (R85). -/
abbrev Reg.LANE_EYE_BASE (i : Nat) : Nat := 0x32008 + 0x20 * i
/-- LANE_ERR_COUNT (R85). -/
abbrev Reg.LANE_ERR_COUNT (i : Nat) : Nat := 0x3200C + 0x20 * i
/-- LANE_CTRL (R85). -/
abbrev Reg.LANE_CTRL (i : Nat) : Nat := 0x32010 + 0x20 * i
/-- HOST_BIND (R125). -/
abbrev Reg.HOST_BIND (i : Nat) : Nat := 0x40000 + 0x400 * i
/-- HOST_PORT_MASK (R125). -/
abbrev Reg.HOST_PORT_MASK (i : Nat) : Nat := 0x40004 + 0x400 * i
/-- HOST_LABEL_RANGE (R125). -/
abbrev Reg.HOST_LABEL_RANGE (i : Nat) : Nat := 0x40008 + 0x400 * i
/-- HOST_DEFAULT_LABEL (R125). -/
abbrev Reg.HOST_DEFAULT_LABEL (i : Nat) : Nat := 0x4000C + 0x400 * i
/-- FW_BOUND_BASE (R125). -/
abbrev Reg.FW_BOUND_BASE (i : Nat) (k : Nat) : Nat := 0x40010 + 0x400 * i + 0x8 * k
/-- FW_BOUND_LIMIT (R125). -/
abbrev Reg.FW_BOUND_LIMIT (i : Nat) (k : Nat) : Nat := 0x40014 + 0x400 * i + 0x8 * k
/-- ALLOC_BASE (R125). -/
abbrev Reg.ALLOC_BASE (i : Nat) (k : Nat) : Nat := 0x40040 + 0x400 * i + 0x8 * k
/-- ALLOC_LIMIT (R125). -/
abbrev Reg.ALLOC_LIMIT (i : Nat) (k : Nat) : Nat := 0x40044 + 0x400 * i + 0x8 * k
/-- HOST_STATUS (R125). -/
abbrev Reg.HOST_STATUS (i : Nat) : Nat := 0x40080 + 0x400 * i
/-- FIREWALL_COUNT (R125). -/
abbrev Reg.FIREWALL_COUNT (i : Nat) : Nat := 0x40084 + 0x400 * i
/-- LABEL_SUBST_COUNT (R125). -/
abbrev Reg.LABEL_SUBST_COUNT (i : Nat) : Nat := 0x40088 + 0x400 * i
/-- SLOT_MALFORMED_COUNT (R125). -/
abbrev Reg.SLOT_MALFORMED_COUNT (i : Nat) : Nat := 0x4008C + 0x400 * i
/-- HOST_COUNT_CLEAR (R125). -/
abbrev Reg.HOST_COUNT_CLEAR (i : Nat) : Nat := 0x40090 + 0x400 * i
/-- WIN_BASE (R125). -/
abbrev Reg.WIN_BASE (i : Nat) (k : Nat) : Nat := 0x40100 + 0x400 * i + 0xC * k
/-- WIN_LIMIT (R125). -/
abbrev Reg.WIN_LIMIT (i : Nat) (k : Nat) : Nat := 0x40104 + 0x400 * i + 0xC * k
/-- WIN_LABEL (R125). -/
abbrev Reg.WIN_LABEL (i : Nat) (k : Nat) : Nat := 0x40108 + 0x400 * i + 0xC * k
/-- PORT_LD_MODE (R125). -/
abbrev Reg.PORT_LD_MODE (k : Nat) : Nat := 0x48000 + 0x4 * k
/-- DC_REGION_BASE (R125). -/
abbrev Reg.DC_REGION_BASE (k : Nat) : Nat := 0x49000 + 0x8 * k
/-- DC_REGION_LIMIT (R125). -/
abbrev Reg.DC_REGION_LIMIT (k : Nat) : Nat := 0x49004 + 0x8 * k
/-- LAYOUT_CFG (R149). -/
abbrev Reg.LAYOUT_CFG : Nat := 0x50000
/-- LAYOUT_STATUS (R149). -/
abbrev Reg.LAYOUT_STATUS : Nat := 0x50004
/-- XLATE_DPA_LO (R149). -/
abbrev Reg.XLATE_DPA_LO : Nat := 0x50008
/-- XLATE_DPA_HI (R149). -/
abbrev Reg.XLATE_DPA_HI : Nat := 0x5000C
/-- XLATE_RESULT (R149). -/
abbrev Reg.XLATE_RESULT : Nat := 0x50010
/-- INITMAP_QUERY (R149). -/
abbrev Reg.INITMAP_QUERY : Nat := 0x50014
/-- INITMAP_MARKED (R149). -/
abbrev Reg.INITMAP_MARKED : Nat := 0x50018
/-- FILL_COUNT (R149). -/
abbrev Reg.FILL_COUNT : Nat := 0x5001C
/-- FILL_FALLBACK_COUNT (R149). -/
abbrev Reg.FILL_FALLBACK_COUNT : Nat := 0x50020
/-- FILL_WAIT_COUNT (R149). -/
abbrev Reg.FILL_WAIT_COUNT : Nat := 0x50024
/-- INITMAP_ECC_COUNT (R149). -/
abbrev Reg.INITMAP_ECC_COUNT : Nat := 0x50028
/-- LAYOUT_COUNT_CLEAR (R149). -/
abbrev Reg.LAYOUT_COUNT_CLEAR : Nat := 0x5002C
/-- SCHED_CFG (R186). -/
abbrev Reg.SCHED_CFG : Nat := 0x60000
/-- TRAIN_CFG (R186). -/
abbrev Reg.TRAIN_CFG : Nat := 0x60004
/-- TRAIN_CTRL (R186). -/
abbrev Reg.TRAIN_CTRL : Nat := 0x60008
/-- TRAIN_STATUS (R186). -/
abbrev Reg.TRAIN_STATUS : Nat := 0x6000C
/-- HOT_DIES (R186). -/
abbrev Reg.HOT_DIES : Nat := 0x60010
/-- NEIGHBOUR_REFRESH_COUNT (R186). -/
abbrev Reg.NEIGHBOUR_REFRESH_COUNT : Nat := 0x60014
/-- THROTTLE_COUNT (R186). -/
abbrev Reg.THROTTLE_COUNT : Nat := 0x60018
/-- STARVE_COUNT (R186). -/
abbrev Reg.STARVE_COUNT : Nat := 0x6001C
/-- SLICED_RETRAIN_COUNT (R186). -/
abbrev Reg.SLICED_RETRAIN_COUNT : Nat := 0x60020
/-- DRAM_COUNT_CLEAR (R186). -/
abbrev Reg.DRAM_COUNT_CLEAR : Nat := 0x60024
/-- CH_STATUS (R187). -/
abbrev Reg.CH_STATUS (i : Nat) : Nat := 0x61000 + 0x40 * i
/-- CH_QUEUE (R187). -/
abbrev Reg.CH_QUEUE (i : Nat) : Nat := 0x61004 + 0x40 * i
/-- CH_DRIFT (R187). -/
abbrev Reg.CH_DRIFT (i : Nat) : Nat := 0x61008 + 0x40 * i
/-- CH_THROTTLE (R187). -/
abbrev Reg.CH_THROTTLE (i : Nat) : Nat := 0x6100C + 0x40 * i
/-- CH_REFRESH (R187). -/
abbrev Reg.CH_REFRESH (i : Nat) : Nat := 0x61010 + 0x40 * i
/-- ECC_CFG (R225). -/
abbrev Reg.ECC_CFG : Nat := 0x70000
/-- ECC_LABELS (R225). -/
abbrev Reg.ECC_LABELS : Nat := 0x70004
/-- SCRUB_STATUS (R225). -/
abbrev Reg.SCRUB_STATUS : Nat := 0x70008
/-- CORRECTED_COUNT (R225). -/
abbrev Reg.CORRECTED_COUNT : Nat := 0x7000C
/-- UNCORRECTABLE_COUNT (R225). -/
abbrev Reg.UNCORRECTABLE_COUNT : Nat := 0x70010
/-- HEAL_COUNT (R225). -/
abbrev Reg.HEAL_COUNT : Nat := 0x70014
/-- HEAL_DROP_COUNT (R225). -/
abbrev Reg.HEAL_DROP_COUNT : Nat := 0x70018
/-- HARD_FAULT_COUNT (R225). -/
abbrev Reg.HARD_FAULT_COUNT : Nat := 0x7001C
/-- ECC_COUNT_CLEAR (R225). -/
abbrev Reg.ECC_COUNT_CLEAR : Nat := 0x70020
/-- BUCKET_SEL (R225). -/
abbrev Reg.BUCKET_SEL : Nat := 0x70024
/-- BUCKET_DATA (R225). -/
abbrev Reg.BUCKET_DATA : Nat := 0x70028
/-- INJ_ENABLE (R225). -/
abbrev Reg.INJ_ENABLE : Nat := 0x7002C
/-- INJ_DPA_LO (R225). -/
abbrev Reg.INJ_DPA_LO : Nat := 0x70030
/-- INJ_DPA_HI (R225). -/
abbrev Reg.INJ_DPA_HI : Nat := 0x70034
/-- INJ_MASK0 (R225). -/
abbrev Reg.INJ_MASK0 : Nat := 0x70038
/-- INJ_MASK1 (R225). -/
abbrev Reg.INJ_MASK1 : Nat := 0x7003C
/-- INJ_MASK2 (R225). -/
abbrev Reg.INJ_MASK2 : Nat := 0x70040
/-- INJ_PATTERN (R225). -/
abbrev Reg.INJ_PATTERN : Nat := 0x70044
/-- INJ_CTRL (R225). -/
abbrev Reg.INJ_CTRL : Nat := 0x70048
/-- INJ_STATUS (R225). -/
abbrev Reg.INJ_STATUS : Nat := 0x7004C
/-- CH_ECC_STATUS (R226). -/
abbrev Reg.CH_ECC_STATUS (i : Nat) : Nat := 0x71000 + 0x20 * i
/-- CH_REPAIR (R226). -/
abbrev Reg.CH_REPAIR (i : Nat) : Nat := 0x71004 + 0x20 * i
/-- CH_SCRUB_POS (R226). -/
abbrev Reg.CH_SCRUB_POS (i : Nat) : Nat := 0x71008 + 0x20 * i
/-- CH_CORRECTED (R226). -/
abbrev Reg.CH_CORRECTED (i : Nat) : Nat := 0x7100C + 0x20 * i
/-- CH_UNCORRECTABLE (R226). -/
abbrev Reg.CH_UNCORRECTABLE (i : Nat) : Nat := 0x71010 + 0x20 * i
/-- CH_HEALED (R226). -/
abbrev Reg.CH_HEALED (i : Nat) : Nat := 0x71014 + 0x20 * i
/-- CH_ECC_CLEAR (R226). -/
abbrev Reg.CH_ECC_CLEAR (i : Nat) : Nat := 0x71018 + 0x20 * i
/-- COH_CFG (R257). -/
abbrev Reg.COH_CFG : Nat := 0x80000
/-- COH_LABELS (R257). -/
abbrev Reg.COH_LABELS : Nat := 0x80004
/-- COH_STATUS (R257). -/
abbrev Reg.COH_STATUS : Nat := 0x80008
/-- HOST_ISOLATE_CLEAR (R257). -/
abbrev Reg.HOST_ISOLATE_CLEAR : Nat := 0x8000C
/-- BISNP_COUNT (R257). -/
abbrev Reg.BISNP_COUNT : Nat := 0x80010
/-- DIR_HIT_COUNT (R257). -/
abbrev Reg.DIR_HIT_COUNT : Nat := 0x80014
/-- DIR_MISS_COUNT (R257). -/
abbrev Reg.DIR_MISS_COUNT : Nat := 0x80018
/-- DIR_WRITEBACK_COUNT (R257). -/
abbrev Reg.DIR_WRITEBACK_COUNT : Nat := 0x8001C
/-- DIR_VICTIM_WAIT_COUNT (R257). -/
abbrev Reg.DIR_VICTIM_WAIT_COUNT : Nat := 0x80020
/-- SNOOP_TIMEOUT_COUNT (R257). -/
abbrev Reg.SNOOP_TIMEOUT_COUNT : Nat := 0x80024
/-- COH_COUNT_CLEAR (R257). -/
abbrev Reg.COH_COUNT_CLEAR : Nat := 0x80028
/-- SWEEP_STATUS (R257). -/
abbrev Reg.SWEEP_STATUS : Nat := 0x8002C
/-- SW_BASE (R257). -/
abbrev Reg.SW_BASE (k : Nat) : Nat := 0x81000 + 0x10 * k
/-- SW_LIMIT (R257). -/
abbrev Reg.SW_LIMIT (k : Nat) : Nat := 0x81004 + 0x10 * k
/-- SW_MEMBERS (R257). -/
abbrev Reg.SW_MEMBERS (k : Nat) : Nat := 0x81008 + 0x10 * k
/-- MOVER_CFG (R296). -/
abbrev Reg.MOVER_CFG : Nat := 0x90000
/-- MOVER_STATUS (R296). -/
abbrev Reg.MOVER_STATUS : Nat := 0x90004
/-- DESC_DONE_COUNT (R296). -/
abbrev Reg.DESC_DONE_COUNT : Nat := 0x90008
/-- DESC_ERROR_COUNT (R296). -/
abbrev Reg.DESC_ERROR_COUNT : Nat := 0x9000C
/-- DOORBELL_INVALID_COUNT (R296). -/
abbrev Reg.DOORBELL_INVALID_COUNT : Nat := 0x90010
/-- LINE_PATH_ROW_COUNT (R296). -/
abbrev Reg.LINE_PATH_ROW_COUNT : Nat := 0x90014
/-- TRANSFER_RETRY_COUNT (R296). -/
abbrev Reg.TRANSFER_RETRY_COUNT : Nat := 0x90018
/-- MOVER_COUNT_CLEAR (R296). -/
abbrev Reg.MOVER_COUNT_CLEAR : Nat := 0x9001C
/-- MQ_RING (R297). -/
abbrev Reg.MQ_RING (i : Nat) : Nat := 0x91000 + 0x20 * i
/-- MQ_CPL (R297). -/
abbrev Reg.MQ_CPL (i : Nat) : Nat := 0x91004 + 0x20 * i
/-- MQ_CFG (R297). -/
abbrev Reg.MQ_CFG (i : Nat) : Nat := 0x91008 + 0x20 * i
/-- MQ_STATUS (R297). -/
abbrev Reg.MQ_STATUS (i : Nat) : Nat := 0x9100C + 0x20 * i
/-- MQ_DONE (R297). -/
abbrev Reg.MQ_DONE (i : Nat) : Nat := 0x91010 + 0x20 * i
/-- QOS_CFG (R323). -/
abbrev Reg.QOS_CFG : Nat := 0xA0000
/-- QOS_STATUS (R323). -/
abbrev Reg.QOS_STATUS : Nat := 0xA0004
/-- DELIVERABLE (R323). -/
abbrev Reg.DELIVERABLE : Nat := 0xA0008
/-- DELIVERABLE_NOM (R323). -/
abbrev Reg.DELIVERABLE_NOM : Nat := 0xA000C
/-- RESERVE_03 (R323). -/
abbrev Reg.RESERVE_03 : Nat := 0xA0010
/-- RESERVE_ALL (R323). -/
abbrev Reg.RESERVE_ALL : Nat := 0xA0014
/-- COMMIT_REFUSED_COUNT (R323). -/
abbrev Reg.COMMIT_REFUSED_COUNT : Nat := 0xA0018
/-- DEADLINE_MISS_COUNT (R323). -/
abbrev Reg.DEADLINE_MISS_COUNT : Nat := 0xA001C
/-- CUT_COUNT (R323). -/
abbrev Reg.CUT_COUNT : Nat := 0xA0020
/-- QOS_COUNT_CLEAR (R323). -/
abbrev Reg.QOS_COUNT_CLEAR : Nat := 0xA0024
/-- LBL_STAGE_INDEX (R323). -/
abbrev Reg.LBL_STAGE_INDEX : Nat := 0xA0028
/-- LBL_STAGE_W0 (R323). -/
abbrev Reg.LBL_STAGE_W0 : Nat := 0xA002C
/-- LBL_STAGE_W1 (R323). -/
abbrev Reg.LBL_STAGE_W1 : Nat := 0xA0030
/-- LBL_STAGE_CTRL (R323). -/
abbrev Reg.LBL_STAGE_CTRL : Nat := 0xA0034
/-- LBL_STAGE_STATUS (R323). -/
abbrev Reg.LBL_STAGE_STATUS : Nat := 0xA0038
/-- LBL_VIEW_SEL (R323). -/
abbrev Reg.LBL_VIEW_SEL : Nat := 0xA003C
/-- CLASS_HIST_SEL (R323). -/
abbrev Reg.CLASS_HIST_SEL : Nat := 0xA0040
/-- CLASS_HIST_DATA (R323). -/
abbrev Reg.CLASS_HIST_DATA : Nat := 0xA0044
/-- LBL_VIEW (R323). -/
abbrev Reg.LBL_VIEW (k : Nat) : Nat := 0xA0060 + 0x4 * k
/-- SI_CFG (R352). -/
abbrev Reg.SI_CFG : Nat := 0xB0000
/-- SI_CFG2 (R352). -/
abbrev Reg.SI_CFG2 : Nat := 0xB0004
/-- SI_STATUS (R352). -/
abbrev Reg.SI_STATUS : Nat := 0xB0008
/-- SI_CTRL (R352). -/
abbrev Reg.SI_CTRL : Nat := 0xB000C
/-- CANE_FAIL_COUNT (R352). -/
abbrev Reg.CANE_FAIL_COUNT : Nat := 0xB0010
/-- SWEEP_SKIPPED_COUNT (R352). -/
abbrev Reg.SWEEP_SKIPPED_COUNT : Nat := 0xB0014
/-- DROOP_FAULT_COUNT (R352). -/
abbrev Reg.DROOP_FAULT_COUNT : Nat := 0xB0018
/-- GUARD_ENTRY_COUNT (R352). -/
abbrev Reg.GUARD_ENTRY_COUNT : Nat := 0xB001C
/-- SI_COUNT_CLEAR (R352). -/
abbrev Reg.SI_COUNT_CLEAR : Nat := 0xB0020
/-- CH_CANE_STATUS (R352). -/
abbrev Reg.CH_CANE_STATUS (k : Nat) : Nat := 0xB1000 + 0x10 * k
/-- CH_CANE_MAP (R352). -/
abbrev Reg.CH_CANE_MAP (k : Nat) : Nat := 0xB1004 + 0x10 * k
/-- RB_CANE_STATUS (R352). -/
abbrev Reg.RB_CANE_STATUS (k : Nat) : Nat := 0xB2000 + 0x10 * k
/-- RB_MARGIN (R352). -/
abbrev Reg.RB_MARGIN (k : Nat) : Nat := 0xB2004 + 0x10 * k
/-- RB_FW_EPOCH (R352). -/
abbrev Reg.RB_FW_EPOCH (k : Nat) : Nat := 0xB2008 + 0x10 * k
/-- DIE_GUARD (R352). -/
abbrev Reg.DIE_GUARD (k : Nat) : Nat := 0xB3000 + 0x10 * k
/-- DIE_SUPPLY (R352). -/
abbrev Reg.DIE_SUPPLY (k : Nat) : Nat := 0xB3004 + 0x10 * k
/-- POWER_CFG (R379). -/
abbrev Reg.POWER_CFG : Nat := 0xC0000
/-- DECL_DEFAULT (R379). -/
abbrev Reg.DECL_DEFAULT : Nat := 0xC0004
/-- POWER_STATUS (R379). -/
abbrev Reg.POWER_STATUS : Nat := 0xC0008
/-- THERMAL_STATUS (R379). -/
abbrev Reg.THERMAL_STATUS : Nat := 0xC000C
/-- TRIP_RECORD (R379). -/
abbrev Reg.TRIP_RECORD : Nat := 0xC0010
/-- STATE_CHANGE_COUNT (R379). -/
abbrev Reg.STATE_CHANGE_COUNT : Nat := 0xC0014
/-- WAKE_COUNT (R379). -/
abbrev Reg.WAKE_COUNT : Nat := 0xC0018
/-- THROTTLE_EPOCH_COUNT (R379). -/
abbrev Reg.THROTTLE_EPOCH_COUNT : Nat := 0xC001C
/-- SAMPLE_LATE_COUNT (R379). -/
abbrev Reg.SAMPLE_LATE_COUNT : Nat := 0xC0020
/-- PT_COUNT_CLEAR (R379). -/
abbrev Reg.PT_COUNT_CLEAR : Nat := 0xC0024
/-- SET_POWER (R379). -/
abbrev Reg.SET_POWER (k : Nat) : Nat := 0xC1000 + 0x10 * k
/-- SET_TOL (R379). -/
abbrev Reg.SET_TOL (k : Nat) : Nat := 0xC1004 + 0x10 * k
/-- OCTANT_MGMT (R379). -/
abbrev Reg.OCTANT_MGMT (k : Nat) : Nat := 0xC2000 + 0x8 * k
/-- OCTANT_STATUS (R379). -/
abbrev Reg.OCTANT_STATUS (k : Nat) : Nat := 0xC2004 + 0x8 * k
/-- TEMP (R379). -/
abbrev Reg.TEMP (k : Nat) : Nat := 0xC3000 + 0x4 * k
/-- FAULT_CFG (R412). -/
abbrev Reg.FAULT_CFG : Nat := 0xD0000
/-- FLOG_CFG (R412). -/
abbrev Reg.FLOG_CFG : Nat := 0xD0004
/-- FAULT_STATUS (R412). -/
abbrev Reg.FAULT_STATUS : Nat := 0xD0008
/-- FAULT_CTRL (R412). -/
abbrev Reg.FAULT_CTRL : Nat := 0xD000C
/-- FAULT_ACK_SEQ (R412). -/
abbrev Reg.FAULT_ACK_SEQ : Nat := 0xD0010
/-- FAULT_ACK (R412). -/
abbrev Reg.FAULT_ACK : Nat := 0xD0014
/-- PENDING_HOSTS (R412). -/
abbrev Reg.PENDING_HOSTS : Nat := 0xD0018
/-- PENDING_OCTANTS (R412). -/
abbrev Reg.PENDING_OCTANTS : Nat := 0xD001C
/-- FENCED_OCTANTS (R412). -/
abbrev Reg.FENCED_OCTANTS : Nat := 0xD0020
/-- FENCE_CLEAR (R412). -/
abbrev Reg.FENCE_CLEAR : Nat := 0xD0024
/-- RESET_CTRL (R412). -/
abbrev Reg.RESET_CTRL : Nat := 0xD0028
/-- RESET_STATUS (R412). -/
abbrev Reg.RESET_STATUS : Nat := 0xD002C
/-- FLOG_HEAD (R412). -/
abbrev Reg.FLOG_HEAD : Nat := 0xD0030
/-- FLOG_RD (R412). -/
abbrev Reg.FLOG_RD : Nat := 0xD0034
/-- FLOG_SEL (R412). -/
abbrev Reg.FLOG_SEL : Nat := 0xD0038
/-- FLOG_DATA (R412). -/
abbrev Reg.FLOG_DATA (k : Nat) : Nat := 0xD003C + 0x4 * k
/-- LOGGED_COUNT (R412). -/
abbrev Reg.LOGGED_COUNT : Nat := 0xD0050
/-- SUPPRESSED_COUNT (R412). -/
abbrev Reg.SUPPRESSED_COUNT : Nat := 0xD0054
/-- SHADOWED_COUNT (R412). -/
abbrev Reg.SHADOWED_COUNT : Nat := 0xD0058
/-- DROPPED_COUNT (R412). -/
abbrev Reg.DROPPED_COUNT : Nat := 0xD005C
/-- ESCALATION_COUNT (R412). -/
abbrev Reg.ESCALATION_COUNT : Nat := 0xD0060
/-- FAULT_COUNT_CLEAR (R412). -/
abbrev Reg.FAULT_COUNT_CLEAR : Nat := 0xD0064
/-- BOOT_PHASE (R444). -/
abbrev Reg.BOOT_PHASE : Nat := 0xE0000
/-- BOOT_CTRL (R444). -/
abbrev Reg.BOOT_CTRL : Nat := 0xE0004
/-- BOOT_STATUS (R444). -/
abbrev Reg.BOOT_STATUS : Nat := 0xE0008
/-- LIFECYCLE_STATUS (R444). -/
abbrev Reg.LIFECYCLE_STATUS : Nat := 0xE000C
/-- FW_VERSION (R444). -/
abbrev Reg.FW_VERSION : Nat := 0xE0010
/-- FW_SVN (R444). -/
abbrev Reg.FW_SVN : Nat := 0xE0014
/-- RESET_CMD (R444). -/
abbrev Reg.RESET_CMD : Nat := 0xE0018
/-- WDOG_CFG (R444). -/
abbrev Reg.WDOG_CFG : Nat := 0xE001C
/-- WDOG_KICK (R444). -/
abbrev Reg.WDOG_KICK : Nat := 0xE0020
/-- FUSE_RD_ADDR (R444). -/
abbrev Reg.FUSE_RD_ADDR : Nat := 0xE0024
/-- FUSE_RD_DATA (R444). -/
abbrev Reg.FUSE_RD_DATA : Nat := 0xE0028
/-- FUSE_RD_STATUS (R444). -/
abbrev Reg.FUSE_RD_STATUS : Nat := 0xE002C
/-- FUSE_STATUS (R444). -/
abbrev Reg.FUSE_STATUS : Nat := 0xE0030
/-- MARGIN_CFG (R444). -/
abbrev Reg.MARGIN_CFG : Nat := 0xE0034
/-- MBX_PTR_LO (R478). -/
abbrev Reg.MBX_PTR_LO (k : Nat) : Nat := 0xF0000 + 0x20 * k
/-- MBX_PTR_HI (R478). -/
abbrev Reg.MBX_PTR_HI (k : Nat) : Nat := 0xF0004 + 0x20 * k
/-- MBX_POST (R478). -/
abbrev Reg.MBX_POST (k : Nat) : Nat := 0xF0008 + 0x20 * k
/-- MBX_STATUS (R478). -/
abbrev Reg.MBX_STATUS (k : Nat) : Nat := 0xF000C + 0x20 * k
/-- MBX_HEAD_LO (R478). -/
abbrev Reg.MBX_HEAD_LO (k : Nat) : Nat := 0xF0010 + 0x20 * k
/-- MBX_HEAD_HI (R478). -/
abbrev Reg.MBX_HEAD_HI (k : Nat) : Nat := 0xF0014 + 0x20 * k
/-- MBX_HEAD_INFO (R478). -/
abbrev Reg.MBX_HEAD_INFO (k : Nat) : Nat := 0xF0018 + 0x20 * k
/-- MBX_LOCK (R478). -/
abbrev Reg.MBX_LOCK (k : Nat) : Nat := 0xF001C + 0x20 * k
/-- MBX_WAKE (R478). -/
abbrev Reg.MBX_WAKE (k : Nat) : Nat := 0xF0800 + 0x4 * k
/-- MBX_TABLE (R478). -/
abbrev Reg.MBX_TABLE (k : Nat) : Nat := 0xF1000 + 0x4 * k
/-- RCV_CTRL (R478). -/
abbrev Reg.RCV_CTRL : Nat := 0xF2000
/-- RCV_STATUS (R478). -/
abbrev Reg.RCV_STATUS : Nat := 0xF2004
/-- OD_CMD (R486). -/
abbrev Reg.OD_CMD : Nat := 0x110000
/-- OD_LEN (R486). -/
abbrev Reg.OD_LEN : Nat := 0x110004
/-- OD_GO (R486). -/
abbrev Reg.OD_GO : Nat := 0x110008
/-- OD_STATUS (R486). -/
abbrev Reg.OD_STATUS : Nat := 0x11000C
/-- OD_DATA (R486). -/
abbrev Reg.OD_DATA (k : Nat) : Nat := 0x110400 + 0x4 * k
/-- RCV_BUFFER (R477). -/
abbrev Reg.RCV_BUFFER (k : Nat) : Nat := 0x100000 + 0x4 * k
/-- MSIX_TABLE (R448). -/
abbrev Reg.MSIX_TABLE (k : Nat) : Nat := 0xF00000 + 0x4 * k
/-- MSIX_PBA (R448). -/
abbrev Reg.MSIX_PBA (k : Nat) : Nat := 0xF01000 + 0x4 * k

/-- Rows of the register tables, part 1. -/
def regTable0 : List RegRow := [
  ⟨0x0, 0x1, 1, 0x4, 1, .ro, 0x0, 0, none⟩,
  ⟨0x4, 0x1, 1, 0x4, 1, .wo, 0xFFFF, 0x0, none⟩,
  ⟨0x8, 0x1, 1, 0x4, 1, .ro, 0x0, 0, none⟩,
  ⟨0xC, 0x1, 1, 0x4, 1, .ro, 0x0, 0, none⟩,
  ⟨0x10, 0x1, 1, 0x4, 1, .rw, 0xFFFFFC, 0x0, none⟩,
  ⟨0x14, 0x1, 1, 0x4, 1, .ro, 0x0, 0, none⟩,
  ⟨0x18, 0x1, 1, 0x4, 1, .rw, 0xFFFF0001, 0x0, none⟩,
  ⟨0x1C, 0x1, 1, 0x4, 1, .rw, 0xFFFF, 0x0, none⟩,
  ⟨0x20, 0x1, 1, 0x4, 1, .ro, 0x0, 0, none⟩,
  ⟨0x24, 0x1, 1, 0x4, 8, .ro, 0x0, 0, none⟩,
  ⟨0x44, 0x1, 1, 0x4, 1, .rws, 0x800001FF, 0x0, (some 0)⟩,
  ⟨0x48, 0x1, 1, 0x4, 1, .rws, 0xFFFF, 0x0, (some 0)⟩,
  ⟨0x4C, 0x1, 1, 0x4, 1, .lock, 0x1FF, 0, none⟩,
  ⟨0x50, 0x1, 1, 0x4, 1, .lock, 0x1FF, 0, none⟩,
  ⟨0x54, 0x1, 1, 0x4, 1, .ro, 0x0, 0, none⟩,
  ⟨0x58, 0x1, 1, 0x4, 1, .wo, 0xFFFFFFFF, 0x0, none⟩,
  ⟨0x5C, 0x1, 1, 0x4, 1, .ro, 0x0, 0, none⟩,
  ⟨0x60, 0x1, 1, 0x4, 1, .ro, 0x0, 0, none⟩,
  ⟨0x64, 0x1, 1, 0x4, 1, .ro, 0x0, 0, none⟩,
  ⟨0x68, 0x1, 1, 0x4, 1, .ro, 0x0, 0, none⟩,
  ⟨0x20000, 0x1, 1, 0x4, 1, .ro, 0x0, 0, none⟩,
  ⟨0x20004, 0x1, 1, 0x4, 1, .ro, 0x0, 0, none⟩,
  ⟨0x20008, 0x1, 1, 0x4, 1, .ro, 0x0, 0, none⟩,
  ⟨0x2000C, 0x1, 1, 0x4, 1, .ro, 0x0, 0, none⟩,
  ⟨0x20010, 0x1, 1, 0x4, 1, .ro, 0x0, 0, none⟩]

/-- Rows of the register tables, part 2. -/
def regTable1 : List RegRow := [
  ⟨0x20014, 0x1, 1, 0x4, 1, .ro, 0x0, 0, none⟩,
  ⟨0x20018, 0x1, 1, 0x4, 1, .ro, 0x0, 0, none⟩,
  ⟨0x2001C, 0x1, 1, 0x4, 1, .wo, 0xFFFFFFFF, 0x0, none⟩,
  ⟨0x20020, 0x1, 1, 0x4, 1, .ro, 0x0, 0, none⟩,
  ⟨0x20024, 0x1, 1, 0x4, 1, .rws, 0x1FFFF, 0x103E8, (some 0)⟩,
  ⟨0x20028, 0x1, 1, 0x4, 1, .ro, 0x0, 0, none⟩,
  ⟨0x30000, 0x100, 16, 0x4, 1, .ro, 0x0, 0, none⟩,
  ⟨0x30004, 0x100, 16, 0x4, 1, .rw, 0xF, 0x0, none⟩,
  ⟨0x30008, 0x100, 16, 0x4, 1, .rws, 0x9FFF, 0, (some 1)⟩,
  ⟨0x3000C, 0x100, 16, 0x4, 1, .rws, 0xFFFFFFF, 0x20F0832, (some 1)⟩,
  ⟨0x30010, 0x100, 16, 0x4, 1, .ro, 0x0, 0, none⟩,
  ⟨0x30014, 0x100, 16, 0x4, 1, .ro, 0x0, 0, none⟩,
  ⟨0x30018, 0x100, 16, 0x4, 1, .ro, 0x0, 0, none⟩,
  ⟨0x3001C, 0x100, 16, 0x4, 1, .ro, 0x0, 0, none⟩,
  ⟨0x30020, 0x100, 16, 0x4, 1, .ro, 0x0, 0, none⟩,
  ⟨0x30024, 0x100, 16, 0x4, 1, .wo, 0xFFFFFFFF, 0x0, none⟩,
  ⟨0x31000, 0x1, 1, 0x4, 1, .ro, 0x0, 0, none⟩,
  ⟨0x32000, 0x20, 64, 0x4, 1, .ro, 0x0, 0, none⟩,
  ⟨0x32004, 0x20, 64, 0x4, 1, .ro, 0x0, 0, none⟩,
  ⟨0x32008, 0x20, 64, 0x4, 1, .ro, 0x0, 0, none⟩,
  ⟨0x3200C, 0x20, 64, 0x4, 1, .ro, 0x0, 0, none⟩,
  ⟨0x32010, 0x20, 64, 0x4, 1, .rw, 0x3, 0x0, none⟩,
  ⟨0x40000, 0x400, 16, 0x4, 1, .rws, 0x1F, 0, (some 2)⟩,
  ⟨0x40004, 0x400, 16, 0x4, 1, .lock, 0xFFFF, 0, none⟩,
  ⟨0x40008, 0x400, 16, 0x4, 1, .rws, 0xFFFFFFFF, 0x0, (some 3)⟩]

/-- Rows of the register tables, part 3. -/
def regTable2 : List RegRow := [
  ⟨0x4000C, 0x400, 16, 0x4, 1, .rws, 0xFFFF, 0x0, (some 3)⟩,
  ⟨0x40010, 0x400, 16, 0x8, 4, .lock, 0x800001FF, 0, none⟩,
  ⟨0x40014, 0x400, 16, 0x8, 4, .lock, 0x1FF, 0, none⟩,
  ⟨0x40040, 0x400, 16, 0x8, 8, .rws, 0x800001FF, 0, (some 2)⟩,
  ⟨0x40044, 0x400, 16, 0x8, 8, .rws, 0x1FF, 0, (some 2)⟩,
  ⟨0x40080, 0x400, 16, 0x4, 1, .ro, 0x0, 0, none⟩,
  ⟨0x40084, 0x400, 16, 0x4, 1, .ro, 0x0, 0, none⟩,
  ⟨0x40088, 0x400, 16, 0x4, 1, .ro, 0x0, 0, none⟩,
  ⟨0x4008C, 0x400, 16, 0x4, 1, .ro, 0x0, 0, none⟩,
  ⟨0x40090, 0x400, 16, 0x4, 1, .wo, 0xFFFFFFFF, 0x0, none⟩,
  ⟨0x40100, 0x400, 16, 0xC, 64, .rws, 0x81FFFFFF, 0x0, (some 3)⟩,
  ⟨0x40104, 0x400, 16, 0xC, 64, .rws, 0x1FFFFFF, 0x0, (some 3)⟩,
  ⟨0x40108, 0x400, 16, 0xC, 64, .rws, 0xFFFFFFF, 0x0, (some 3)⟩,
  ⟨0x48000, 0x1, 1, 0x4, 16, .rws, 0x1F, 0, (some 2)⟩,
  ⟨0x49000, 0x1, 1, 0x8, 8, .rws, 0x800001FF, 0, (some 2)⟩,
  ⟨0x49004, 0x1, 1, 0x8, 8, .rws, 0x1FF, 0, (some 2)⟩,
  ⟨0x50000, 0x1, 1, 0x4, 1, .lock, 0x3, 0, none⟩,
  ⟨0x50004, 0x1, 1, 0x4, 1, .ro, 0x0, 0, none⟩,
  ⟨0x50008, 0x1, 1, 0x4, 1, .rw, 0xFFFFFFFF, 0x0, none⟩,
  ⟨0x5000C, 0x1, 1, 0x4, 1, .rw, 0x1F, 0x0, none⟩,
  ⟨0x50010, 0x1, 1, 0x4, 1, .ro, 0x0, 0, none⟩,
  ⟨0x50014, 0x1, 1, 0x4, 1, .rw, 0x1FFFFF, 0x0, none⟩,
  ⟨0x50018, 0x1, 1, 0x4, 1, .ro, 0x0, 0, none⟩,
  ⟨0x5001C, 0x1, 1, 0x4, 1, .ro, 0x0, 0, none⟩,
  ⟨0x50020, 0x1, 1, 0x4, 1, .ro, 0x0, 0, none⟩]

/-- Rows of the register tables, part 4. -/
def regTable3 : List RegRow := [
  ⟨0x50024, 0x1, 1, 0x4, 1, .ro, 0x0, 0, none⟩,
  ⟨0x50028, 0x1, 1, 0x4, 1, .ro, 0x0, 0, none⟩,
  ⟨0x5002C, 0x1, 1, 0x4, 1, .wo, 0xFFFFFFFF, 0x0, none⟩,
  ⟨0x60000, 0x1, 1, 0x4, 1, .rws, 0xFF7F7F, 0xA2030, (some 4)⟩,
  ⟨0x60004, 0x1, 1, 0x4, 1, .rws, 0xFF0F, 0x3206, (some 4)⟩,
  ⟨0x60008, 0x1, 1, 0x4, 1, .wo, 0x8000003F, 0x0, none⟩,
  ⟨0x6000C, 0x1, 1, 0x4, 1, .ro, 0x0, 0, none⟩,
  ⟨0x60010, 0x1, 1, 0x4, 1, .ro, 0x0, 0, none⟩,
  ⟨0x60014, 0x1, 1, 0x4, 1, .ro, 0x0, 0, none⟩,
  ⟨0x60018, 0x1, 1, 0x4, 1, .ro, 0x0, 0, none⟩,
  ⟨0x6001C, 0x1, 1, 0x4, 1, .ro, 0x0, 0, none⟩,
  ⟨0x60020, 0x1, 1, 0x4, 1, .ro, 0x0, 0, none⟩,
  ⟨0x60024, 0x1, 1, 0x4, 1, .wo, 0xFFFFFFFF, 0x0, none⟩,
  ⟨0x61000, 0x40, 64, 0x4, 1, .ro, 0x0, 0, none⟩,
  ⟨0x61004, 0x40, 64, 0x4, 1, .ro, 0x0, 0, none⟩,
  ⟨0x61008, 0x40, 64, 0x4, 1, .ro, 0x0, 0, none⟩,
  ⟨0x6100C, 0x40, 64, 0x4, 1, .ro, 0x0, 0, none⟩,
  ⟨0x61010, 0x40, 64, 0x4, 1, .ro, 0x0, 0, none⟩,
  ⟨0x70000, 0x1, 1, 0x4, 1, .rws, 0x3F03FF, 0x300318, (some 5)⟩,
  ⟨0x70004, 0x1, 1, 0x4, 1, .rws, 0xFFFFFFFF, 0x0, (some 5)⟩,
  ⟨0x70008, 0x1, 1, 0x4, 1, .ro, 0x0, 0, none⟩,
  ⟨0x7000C, 0x1, 1, 0x4, 1, .ro, 0x0, 0, none⟩,
  ⟨0x70010, 0x1, 1, 0x4, 1, .ro, 0x0, 0, none⟩,
  ⟨0x70014, 0x1, 1, 0x4, 1, .ro, 0x0, 0, none⟩,
  ⟨0x70018, 0x1, 1, 0x4, 1, .ro, 0x0, 0, none⟩]

/-- Rows of the register tables, part 5. -/
def regTable4 : List RegRow := [
  ⟨0x7001C, 0x1, 1, 0x4, 1, .ro, 0x0, 0, none⟩,
  ⟨0x70020, 0x1, 1, 0x4, 1, .wo, 0xFFFFFFFF, 0x0, none⟩,
  ⟨0x70024, 0x1, 1, 0x4, 1, .rw, 0x7FF, 0x0, none⟩,
  ⟨0x70028, 0x1, 1, 0x4, 1, .ro, 0x0, 0, none⟩,
  ⟨0x7002C, 0x1, 1, 0x4, 1, .lock, 0x1, 0, none⟩,
  ⟨0x70030, 0x1, 1, 0x4, 1, .rw, 0xFFFFFFC0, 0x0, none⟩,
  ⟨0x70034, 0x1, 1, 0x4, 1, .rw, 0x1F, 0x0, none⟩,
  ⟨0x70038, 0x1, 1, 0x4, 1, .rw, 0xFFFFFFFF, 0x0, none⟩,
  ⟨0x7003C, 0x1, 1, 0x4, 1, .rw, 0xFFFFFFFF, 0x0, none⟩,
  ⟨0x70040, 0x1, 1, 0x4, 1, .rw, 0xFFFF, 0x0, none⟩,
  ⟨0x70044, 0x1, 1, 0x4, 1, .rw, 0xFF, 0x0, none⟩,
  ⟨0x70048, 0x1, 1, 0x4, 1, .wo, 0x7, 0x0, none⟩,
  ⟨0x7004C, 0x1, 1, 0x4, 1, .ro, 0x0, 0, none⟩,
  ⟨0x71000, 0x20, 64, 0x4, 1, .ro, 0x0, 0, none⟩,
  ⟨0x71004, 0x20, 64, 0x4, 1, .ro, 0x0, 0, none⟩,
  ⟨0x71008, 0x20, 64, 0x4, 1, .ro, 0x0, 0, none⟩,
  ⟨0x7100C, 0x20, 64, 0x4, 1, .ro, 0x0, 0, none⟩,
  ⟨0x71010, 0x20, 64, 0x4, 1, .ro, 0x0, 0, none⟩,
  ⟨0x71014, 0x20, 64, 0x4, 1, .ro, 0x0, 0, none⟩,
  ⟨0x71018, 0x20, 64, 0x4, 1, .wo, 0xFFFFFFFF, 0x0, none⟩,
  ⟨0x80000, 0x1, 1, 0x4, 1, .rws, 0x3FFF, 0x64, (some 6)⟩,
  ⟨0x80004, 0x1, 1, 0x4, 1, .rws, 0xFFFFFFFF, 0x0, (some 6)⟩,
  ⟨0x80008, 0x1, 1, 0x4, 1, .ro, 0x0, 0, none⟩,
  ⟨0x8000C, 0x1, 1, 0x4, 1, .wo, 0x8000000F, 0x0, none⟩,
  ⟨0x80010, 0x1, 1, 0x4, 1, .ro, 0x0, 0, none⟩]

/-- Rows of the register tables, part 6. -/
def regTable5 : List RegRow := [
  ⟨0x80014, 0x1, 1, 0x4, 1, .ro, 0x0, 0, none⟩,
  ⟨0x80018, 0x1, 1, 0x4, 1, .ro, 0x0, 0, none⟩,
  ⟨0x8001C, 0x1, 1, 0x4, 1, .ro, 0x0, 0, none⟩,
  ⟨0x80020, 0x1, 1, 0x4, 1, .ro, 0x0, 0, none⟩,
  ⟨0x80024, 0x1, 1, 0x4, 1, .ro, 0x0, 0, none⟩,
  ⟨0x80028, 0x1, 1, 0x4, 1, .wo, 0xFFFFFFFF, 0x0, none⟩,
  ⟨0x8002C, 0x1, 1, 0x4, 1, .ro, 0x0, 0, none⟩,
  ⟨0x81000, 0x1, 1, 0x10, 32, .rws, 0x800001FF, 0, (some 6)⟩,
  ⟨0x81004, 0x1, 1, 0x10, 32, .rws, 0x1FF, 0, (some 6)⟩,
  ⟨0x81008, 0x1, 1, 0x10, 32, .rws, 0xFFFF, 0, (some 6)⟩,
  ⟨0x90000, 0x1, 1, 0x4, 1, .rws, 0xFF07, 0x6404, (some 7)⟩,
  ⟨0x90004, 0x1, 1, 0x4, 1, .ro, 0x0, 0, none⟩,
  ⟨0x90008, 0x1, 1, 0x4, 1, .ro, 0x0, 0, none⟩,
  ⟨0x9000C, 0x1, 1, 0x4, 1, .ro, 0x0, 0, none⟩,
  ⟨0x90010, 0x1, 1, 0x4, 1, .ro, 0x0, 0, none⟩,
  ⟨0x90014, 0x1, 1, 0x4, 1, .ro, 0x0, 0, none⟩,
  ⟨0x90018, 0x1, 1, 0x4, 1, .ro, 0x0, 0, none⟩,
  ⟨0x9001C, 0x1, 1, 0x4, 1, .wo, 0xFFFFFFFF, 0x0, none⟩,
  ⟨0x91000, 0x20, 64, 0x4, 1, .rws, 0x1FFFFFF, 0x0, (some 7)⟩,
  ⟨0x91004, 0x20, 64, 0x4, 1, .rws, 0x1FFFFFF, 0x0, (some 7)⟩,
  ⟨0x91008, 0x20, 64, 0x4, 1, .rws, 0xFFFF003F, 0x0, (some 7)⟩,
  ⟨0x9100C, 0x20, 64, 0x4, 1, .ro, 0x0, 0, none⟩,
  ⟨0x91010, 0x20, 64, 0x4, 1, .ro, 0x0, 0, none⟩,
  ⟨0xA0000, 0x1, 1, 0x4, 1, .rws, 0xFFFF, 0x3E8, (some 8)⟩,
  ⟨0xA0004, 0x1, 1, 0x4, 1, .ro, 0x0, 0, none⟩]

/-- Rows of the register tables, part 7. -/
def regTable6 : List RegRow := [
  ⟨0xA0008, 0x1, 1, 0x4, 1, .ro, 0x0, 0, none⟩,
  ⟨0xA000C, 0x1, 1, 0x4, 1, .ro, 0x0, 0, none⟩,
  ⟨0xA0010, 0x1, 1, 0x4, 1, .ro, 0x0, 0, none⟩,
  ⟨0xA0014, 0x1, 1, 0x4, 1, .ro, 0x0, 0, none⟩,
  ⟨0xA0018, 0x1, 1, 0x4, 1, .ro, 0x0, 0, none⟩,
  ⟨0xA001C, 0x1, 1, 0x4, 1, .ro, 0x0, 0, none⟩,
  ⟨0xA0020, 0x1, 1, 0x4, 1, .ro, 0x0, 0, none⟩,
  ⟨0xA0024, 0x1, 1, 0x4, 1, .wo, 0x8, 0x0, none⟩,
  ⟨0xA0028, 0x1, 1, 0x4, 1, .rw, 0xFFFF, 0x0, none⟩,
  ⟨0xA002C, 0x1, 1, 0x4, 1, .rw, 0xFFFFFFFF, 0x7, none⟩,
  ⟨0xA0030, 0x1, 1, 0x4, 1, .rw, 0xFFFFFFFF, 0x0, none⟩,
  ⟨0xA0034, 0x1, 1, 0x4, 1, .wo, 0x3, 0x0, none⟩,
  ⟨0xA0038, 0x1, 1, 0x4, 1, .ro, 0x0, 0, none⟩,
  ⟨0xA003C, 0x1, 1, 0x4, 1, .rw, 0xFFFF, 0x0, none⟩,
  ⟨0xA0040, 0x1, 1, 0x4, 1, .rw, 0xF7, 0x0, none⟩,
  ⟨0xA0044, 0x1, 1, 0x4, 1, .ro, 0x0, 0, none⟩,
  ⟨0xA0060, 0x1, 1, 0x4, 8, .ro, 0x0, 0, none⟩,
  ⟨0xB0000, 0x1, 1, 0x4, 1, .rws, 0x33F3FFF, 0x3100818, (some 9)⟩,
  ⟨0xB0004, 0x1, 1, 0x4, 1, .rws, 0xFFFFFF3F, 0x140A101E, (some 9)⟩,
  ⟨0xB0008, 0x1, 1, 0x4, 1, .ro, 0x0, 0, none⟩,
  ⟨0xB000C, 0x1, 1, 0x4, 1, .wo, 0x77F, 0x0, none⟩,
  ⟨0xB0010, 0x1, 1, 0x4, 1, .ro, 0x0, 0, none⟩,
  ⟨0xB0014, 0x1, 1, 0x4, 1, .ro, 0x0, 0, none⟩,
  ⟨0xB0018, 0x1, 1, 0x4, 1, .ro, 0x0, 0, none⟩,
  ⟨0xB001C, 0x1, 1, 0x4, 1, .ro, 0x0, 0, none⟩]

/-- Rows of the register tables, part 8. -/
def regTable7 : List RegRow := [
  ⟨0xB0020, 0x1, 1, 0x4, 1, .wo, 0xFFFFFFFF, 0x0, none⟩,
  ⟨0xB1000, 0x1, 1, 0x10, 64, .ro, 0x0, 0, none⟩,
  ⟨0xB1004, 0x1, 1, 0x10, 64, .ro, 0x0, 0, none⟩,
  ⟨0xB2000, 0x1, 1, 0x10, 4, .ro, 0x0, 0, none⟩,
  ⟨0xB2004, 0x1, 1, 0x10, 4, .ro, 0x0, 0, none⟩,
  ⟨0xB2008, 0x1, 1, 0x10, 4, .ro, 0x0, 0, none⟩,
  ⟨0xB3000, 0x1, 1, 0x10, 16, .ro, 0x0, 0, none⟩,
  ⟨0xB3004, 0x1, 1, 0x10, 16, .ro, 0x0, 0, none⟩,
  ⟨0xC0000, 0x1, 1, 0x4, 1, .rws, 0x3FFFFFF, 0x30A0A02, (some 10)⟩,
  ⟨0xC0004, 0x1, 1, 0x4, 1, .rws, 0x1FFFF, 0x10000, (some 10)⟩,
  ⟨0xC0008, 0x1, 1, 0x4, 1, .ro, 0x0, 0, none⟩,
  ⟨0xC000C, 0x1, 1, 0x4, 1, .ro, 0x0, 0, none⟩,
  ⟨0xC0010, 0x1, 1, 0x4, 1, .ro, 0x0, 0, none⟩,
  ⟨0xC0014, 0x1, 1, 0x4, 1, .ro, 0x0, 0, none⟩,
  ⟨0xC0018, 0x1, 1, 0x4, 1, .ro, 0x0, 0, none⟩,
  ⟨0xC001C, 0x1, 1, 0x4, 1, .ro, 0x0, 0, none⟩,
  ⟨0xC0020, 0x1, 1, 0x4, 1, .ro, 0x0, 0, none⟩,
  ⟨0xC0024, 0x1, 1, 0x4, 1, .wo, 0xFFFFFFFF, 0x0, none⟩,
  ⟨0xC1000, 0x1, 1, 0x10, 4, .ro, 0x0, 0, none⟩,
  ⟨0xC1004, 0x1, 1, 0x10, 4, .ro, 0x0, 0, none⟩,
  ⟨0xC2000, 0x1, 1, 0x8, 32, .rws, 0x3, 0x0, (some 10)⟩,
  ⟨0xC2004, 0x1, 1, 0x8, 32, .ro, 0x0, 0, none⟩,
  ⟨0xC3000, 0x1, 1, 0x4, 20, .ro, 0x0, 0, none⟩,
  ⟨0xD0000, 0x1, 1, 0x4, 1, .rws, 0x3FFF3FF, 0x6400A, (some 11)⟩,
  ⟨0xD0004, 0x1, 1, 0x4, 1, .rws, 0x3FF, 0x300, (some 11)⟩]

/-- Rows of the register tables, part 9. -/
def regTable8 : List RegRow := [
  ⟨0xD0008, 0x1, 1, 0x4, 1, .ro, 0x0, 0, none⟩,
  ⟨0xD000C, 0x1, 1, 0x4, 1, .wo, 0x1, 0x0, none⟩,
  ⟨0xD0010, 0x1, 1, 0x4, 1, .rw, 0xFFFFFFFF, 0x0, none⟩,
  ⟨0xD0014, 0x1, 1, 0x4, 1, .wo, 0x8000003F, 0x0, none⟩,
  ⟨0xD0018, 0x1, 1, 0x4, 1, .ro, 0x0, 0, none⟩,
  ⟨0xD001C, 0x1, 1, 0x4, 1, .ro, 0x0, 0, none⟩,
  ⟨0xD0020, 0x1, 1, 0x4, 1, .ro, 0x0, 0, none⟩,
  ⟨0xD0024, 0x1, 1, 0x4, 1, .wo, 0x8000001F, 0x0, none⟩,
  ⟨0xD0028, 0x1, 1, 0x4, 1, .wo, 0x8000001F, 0x0, none⟩,
  ⟨0xD002C, 0x1, 1, 0x4, 1, .ro, 0x0, 0, none⟩,
  ⟨0xD0030, 0x1, 1, 0x4, 1, .ro, 0x0, 0, none⟩,
  ⟨0xD0034, 0x1, 1, 0x4, 1, .rw, 0xFFFFFFFF, 0x0, none⟩,
  ⟨0xD0038, 0x1, 1, 0x4, 1, .rw, 0xFFFFFFFF, 0x0, none⟩,
  ⟨0xD003C, 0x1, 1, 0x4, 5, .ro, 0x0, 0, none⟩,
  ⟨0xD0050, 0x1, 1, 0x4, 1, .ro, 0x0, 0, none⟩,
  ⟨0xD0054, 0x1, 1, 0x4, 1, .ro, 0x0, 0, none⟩,
  ⟨0xD0058, 0x1, 1, 0x4, 1, .ro, 0x0, 0, none⟩,
  ⟨0xD005C, 0x1, 1, 0x4, 1, .ro, 0x0, 0, none⟩,
  ⟨0xD0060, 0x1, 1, 0x4, 1, .ro, 0x0, 0, none⟩,
  ⟨0xD0064, 0x1, 1, 0x4, 1, .wo, 0xFFFFFFFF, 0x0, none⟩,
  ⟨0xE0000, 0x1, 1, 0x4, 1, .ro, 0x0, 0, none⟩,
  ⟨0xE0004, 0x1, 1, 0x4, 1, .wo, 0x1, 0x0, none⟩,
  ⟨0xE0008, 0x1, 1, 0x4, 1, .ro, 0x0, 0, none⟩,
  ⟨0xE000C, 0x1, 1, 0x4, 1, .ro, 0x0, 0, none⟩,
  ⟨0xE0010, 0x1, 1, 0x4, 1, .ro, 0x0, 0, none⟩]

/-- Rows of the register tables, part 10. -/
def regTable9 : List RegRow := [
  ⟨0xE0014, 0x1, 1, 0x4, 1, .ro, 0x0, 0, none⟩,
  ⟨0xE0018, 0x1, 1, 0x4, 1, .wo, 0xFFFF0003, 0x0, none⟩,
  ⟨0xE001C, 0x1, 1, 0x4, 1, .rws, 0xFFFF, 0x3E8, (some 12)⟩,
  ⟨0xE0020, 0x1, 1, 0x4, 1, .wo, 0x1, 0x0, none⟩,
  ⟨0xE0024, 0x1, 1, 0x4, 1, .rw, 0x107FF, 0x0, none⟩,
  ⟨0xE0028, 0x1, 1, 0x4, 1, .ro, 0x0, 0, none⟩,
  ⟨0xE002C, 0x1, 1, 0x4, 1, .ro, 0x0, 0, none⟩,
  ⟨0xE0030, 0x1, 1, 0x4, 1, .ro, 0x0, 0, none⟩,
  ⟨0xE0034, 0x1, 1, 0x4, 1, .rws, 0x1FF, 0x11E, (some 12)⟩,
  ⟨0xF0000, 0x1, 1, 0x20, 64, .rw, 0xFFFFFFFF, 0x0, none⟩,
  ⟨0xF0004, 0x1, 1, 0x20, 64, .rw, 0xFFFFFFFF, 0x0, none⟩,
  ⟨0xF0008, 0x1, 1, 0x20, 64, .wo, 0xFFFFFFFF, 0x0, none⟩,
  ⟨0xF000C, 0x1, 1, 0x20, 64, .rw, 0x80000100, 0x0, none⟩,
  ⟨0xF0010, 0x1, 1, 0x20, 64, .ro, 0x0, 0, none⟩,
  ⟨0xF0014, 0x1, 1, 0x20, 64, .ro, 0x0, 0, none⟩,
  ⟨0xF0018, 0x1, 1, 0x20, 64, .ro, 0x0, 0, none⟩,
  ⟨0xF001C, 0x1, 1, 0x20, 64, .rw, 0x1F, 0x0, none⟩,
  ⟨0xF0800, 0x1, 1, 0x4, 22, .rw, 0xFFFFFFFF, 0x0, none⟩,
  ⟨0xF1000, 0x1, 1, 0x4, 64, .lock, 0x80001F1F, 0, none⟩,
  ⟨0xF2000, 0x1, 1, 0x4, 1, .wo, 0x3FF, 0x0, none⟩,
  ⟨0xF2004, 0x1, 1, 0x4, 1, .ro, 0x0, 0, none⟩,
  ⟨0x110000, 0x1, 1, 0x4, 1, .rw, 0x3FFFFFF, 0x0, none⟩,
  ⟨0x110004, 0x1, 1, 0x4, 1, .rw, 0x7FF, 0x0, none⟩,
  ⟨0x110008, 0x1, 1, 0x4, 1, .wo, 0x1, 0x0, none⟩,
  ⟨0x11000C, 0x1, 1, 0x4, 1, .ro, 0x0, 0, none⟩]

/-- Rows of the register tables, part 11. -/
def regTable10 : List RegRow := [
  ⟨0x110400, 0x1, 1, 0x4, 256, .rw, 0xFFFFFFFF, 0x0, none⟩,
  ⟨0x100000, 0x1, 1, 0x4, 16384, .rw, 0xFFFFFFFF, 0x0, none⟩,
  ⟨0xF00000, 0x1, 1, 0x4, 256, .rw, 0xFFFFFFFF, 0x0, none⟩,
  ⟨0xF01000, 0x1, 1, 0x4, 2, .ro, 0x0, 0, none⟩]

/-- Every row of the register tables, in the order of offsets. -/
def regTable : List RegRow :=
  regTable0 ++ regTable1 ++ regTable2 ++ regTable3 ++ regTable4 ++ regTable5 ++ regTable6 ++ regTable7 ++ regTable8 ++ regTable9 ++ regTable10

/-- Does the row hold a register at offset `off`? -/
def RegRow.holds (r : RegRow) (off : Nat) : Bool :=
  let d := off - r.base
  let i := if r.n1 ≤ 1 then 0 else d / r.s1
  let x := if r.n1 ≤ 1 then d else d % r.s1
  decide (r.base ≤ off) && decide (i < r.n1) && decide (x % r.s2 = 0) && decide (x / r.s2 < r.n2)

/-- The row that lists a register at `off`; none where the offset is unmapped (R449). -/
def regRow? (off : Nat) : Option RegRow := regTable.find? fun r => r.holds off

/-- The commit group of the register at `off` (R454). -/
def groupOf (off : Nat) : Option Nat := (regRow? off).bind RegRow.group

/-- The offsets of a row's registers. -/
def RegRow.offsets (r : RegRow) : List Nat :=
  (List.range r.n1).flatMap fun i => (List.range r.n2).map fun j => r.base + r.s1 * i + r.s2 * j

/-- The registers whose Reset column gives a value other than zero, with that value. -/
def regResets : List (Nat × Word) :=
  (regTable.filter fun r => r.reset != 0).flatMap fun r => r.offsets.map fun o => (o, r.reset)

end Sys2Proof.Machine
end

