-- ==== Sys2Proof/Machine/State.lean ====
section
/-! DEFINITION. Machine/State.lean: everything the manual gives the part to remember, as plain data, and the state at
cold reset. A numbered collection (ports, channels, labels, memory bytes ...) is a `Tab`: an unlisted number holds the
element's default, which is its value at cold reset. -/

namespace Sys2Proof.Machine

/-- Why a command stops with a fault: no reason, as the manual gives every command an effect on every state. -/
inductive Fault where
deriving DecidableEq, Repr

/-- Why a command is refused. -/
inductive Refusal where
  /-- A command this model gives no meaning to, by its mnemonic. Raised by exec. Safe: the machine stops. -/
  | notModelled (mnemonic : String)
deriving DecidableEq, Repr

/-! ### What leaves the part -/

/-- The snoops of R240. -/
inductive SnoopKind where
  | cur | data | inv
deriving DecidableEq, Repr

/-- Responses to CXL.mem requests (R104, R240): data with its poison flag and the metadata state returned, or a
completion, plain or granting S, E or M. -/
inductive Rsp where
  | data (d : Data) (poison : Bool) (st : BitVec 2)
  | cmp | cmpS | cmpE | cmpM
deriving DecidableEq, Repr

/-- The answer to a command of host software, the fabric manager, management software or an inspector. -/
inductive Reply where
  | success
  | invalidInput
  | busy
  | rejected
  | errorCode (n : Nat)
  | word (w : Word)
  | number (n : Nat)
  | bytes (l : List Byte)
  | numbers (l : List Nat)
deriving DecidableEq, Repr

/-- What the part reports of its margining at the receiver (R77): spans in thousandths of a UI and in mV, each way. -/
structure MarginCaps where
  independentSampler : Bool := true
  independentLeftRight : Bool := true
  independentUpDown : Bool := true
  timingSpan : Nat := 500
  timingSteps : Nat := 32
  voltageSpan : Nat
  voltageSteps : Nat := 64
deriving DecidableEq, Repr

/-- What the part puts out at its balls, oldest first in `Base.out`. -/
inductive Emit where
  | rsp (b : PortBlk) (ld : HostId) (tag : BitVec 16) (r : Rsp)
  | biSnp (b : PortBlk) (ld : HostId) (k : SnoopKind) (line : Nat)
  | biConflictAck (b : PortBlk) (ld : HostId) (tag : BitVec 16)
  | recovery (b : PortBlk) (reeq : Bool)
  | linkExit (b : PortBlk)
  | presetAnswer (b : PortBlk) (accepted : Bool)
  /-- The transmitter setting that the part requests of the host in phase 2 (R64), a free value. -/
  | txRequest (b : PortBlk) (rate : Nat) (setting : Nat)
  | marginCaps (l : LaneId) (c : MarginCaps)
  | replay (b : PortBlk)
  | ltr (b : PortBlk) (v : Word)
  | viral (b : PortBlk)
  | msixHost (ld : HostId) (vec : Nat)
  | msixMgmt (vec : Nat)
  | diagData (bytes : List Byte) (ep : Bool)
  | diagAbort
  | hostReply (ld : HostId) (r : Reply)
  | fmReply (r : Reply)
  | mctp (t : Transport) (r : Reply)
  | spdm (p : SpdmPath) (r : Reply)
  | od (p : OdPath) (status : Nat) (type : Nat) (data : List Byte)
  | mbxRead (who : Nat) (w : Word)
  | internalIrq (who : Nat)
  | command (r : Reply)
  | rind (status : Nat) (r : Reply)
  | tapFrame (words : List (BitVec 64))
  | jtag (r : Reply)
deriving DecidableEq, Repr

/-- A label-slot context that waits for the later messages of its flit (R119, R120), as it arrived; `substituted` once its
replacement has been counted (R121). -/
structure SlotCtx where
  ld : HostId
  label : Label
  deadline : Nat
  substituted : Bool := false
deriving DecidableEq, Repr

/-! ### Planes, blocks and the epoch (chapter 1) -/

/-- The counts a telemetry snapshot holds for one channel (R47). -/
structure ChanCounts where
  activations : Nat := 0
  reads : Nat := 0
  writes : Nat := 0
  rows : Nat := 0
  refreshes : Nat := 0
  deferred : Nat := 0
  maxDepth : Nat := 0
  notActive : Nat := 0
deriving DecidableEq, Repr

/-- A telemetry snapshot (R47). -/
structure Snapshot where
  epoch : BitVec 48
  seq : Nat
  interval : Nat
  counts : Tab ChanCounts
deriving DecidableEq, Repr

/-- A retraining item that firmware has planned and that has not been done: how many consecutive epochs it has been deferred (R36). -/
structure PauseDue where
  ch : ChanId
  item : PauseItem
  deferred : Nat := 0
deriving DecidableEq, Repr

/-- The epoch planner and the controller clock. -/
structure Planner where
  /-- The 48-bit epoch counter (R31). -/
  epoch : BitVec 48 := 0
  /-- Boundaries since cold reset, never cleared: the model's time base. -/
  epochs : Nat := 0
  /-- Controller cycles since the last boundary, 0 to 999 (R27). -/
  phase : Nat := 0
  inactive : Plan := {}
  inactiveDone : Bool := false
  active : Plan := {}
  /-- The retraining items of this epoch that are still to be done: at most one of a channel (R36). -/
  due : List PauseDue := []
  /-- Retraining items displaced or carried, which wait for a later epoch of their channel (R36, R37). -/
  carried : List PauseDue := []
  fallback : Bool := false
  /-- Consecutive boundaries without a plan (R24). -/
  missed : Nat := 0
  boundaryCommit : Bool := false
  /-- Refresh credit of each channel in 39ths of a refresh (R38: 320/39 per epoch). -/
  credit : Tab Nat := []
  /-- Forced refreshes to be charged to the credit at the next boundary (R166). -/
  charged : Tab Nat := []
  /-- Counts since the last snapshot. -/
  acc : Tab ChanCounts := []
  /-- Boundary at which the running interval began. -/
  intervalFrom : Nat := 0
  newest : Option Snapshot := none
  /-- The newest snapshot has been opened (R47). -/
  newestOpened : Bool := true
  opened : Option Snapshot := none
  /-- The snapshot opened last was new. -/
  openedNew : Bool := false
  snapSeq : Nat := 0
  /-- Per-channel deferral counts kept for the object dictionary (R44): key 4 × channel + item. -/
  deferrals : Tab Nat := []
deriving DecidableEq, Repr

/-- A switchable power domain (R42, R471, R472). -/
inductive DomState where
  | on | goingOff | off | waking
deriving DecidableEq, Repr

/-! ### Fabric lanes and link bring-up (chapter 2) -/

/-- PORT_STATUS.LINK_STATE (R87), with stage 3 of R59 kept apart from Polling, and the Recovery with equalisation of a rate step
apart from the one of a running link. -/
inductive LinkState where
  | detect | polling | symbolLock | configuration | rateStep | l0 | recovery | recoveryEq | l0p | l1 | l12
  | hotReset | disabled | held
deriving DecidableEq, Repr

/-- A message of a flit whose MAC epoch has not been verified (R115): when the flit arrived, its number, and the message. -/
structure HeldMsg where
  at_ : Nat
  flit : Nat
  msg : Instr
deriving DecidableEq, Repr

/-- One port block 2p + h. -/
structure Port where
  link : LinkState := .detect
  /-- PORT_STATUS.RATE code: 0 2.5, 1 5, 2 8, 3 16, 4 32, 5 64 GT/s. -/
  rate : Nat := 0
  width : Nat := 0
  /-- The width in use now: below `width` in L0p (R72). -/
  activeWidth : Nat := 0
  /-- An exclusion has narrowed the width and WIDTH_REDUCED is still to be sent (R80). -/
  narrowed : Bool := false
  /-- Stage 5 goes on: no step has been the last (R59). -/
  stepping : Bool := false
  /-- Latency-optimised 256-byte flits at 64 GT/s (R54). -/
  latOpt : Bool := false
  /-- CXL agreed in stage 4 (R60). -/
  cxl : Bool := false
  /-- Lanes on which a receiver was detected. -/
  detected : BitVec 8 := 0
  /-- The widest width the link partner offered in stage 4. -/
  offered : Nat := 8
  reversed : Bool := false
  frozen : Bool := false
  idleRun : Nat := 0
  goodRun : Nat := 0
  badRun : Nat := 0
  aligned : Bool := false
  noWidth : Bool := false
  perst : Bool := false
  refclk : Bool := true
  pll : Bool := true
  /-- Boot code has enabled the port (R66). -/
  enabled : Bool := false
  /-- Times of the Recoveries of the last second, newest first (R84). -/
  recoveries : List Nat := []
  /-- A further Recovery with re-equalisation is owed (R71). -/
  reeqOwed : Bool := false
  /-- The rate and the eyes that the last phase 2 ended with, until phase 3 ends (R65). -/
  phase2Rate : Nat := 0
  phase2 : List LaneEye := []
  /-- The setting that the host's last accepted request gave the part's transmitter (R64). -/
  tx : Option TxSetting := none
  /-- The Recovery under way is an exit from L1 or L1.2. -/
  exiting : Bool := false
  /-- When the part asserted its need for an exit by WAKE_N (R73, R84). -/
  wakeAt : Option Nat := none
  /-- WAKE_TIMEOUT has been sent for it. -/
  wakeLate : Bool := false
  ltrSent : Bool := false
  /-- Responses waiting for the link to reach L0, oldest first. -/
  txq : List Emit := []
  /-- The replay buffer: the last 512 flits sent at 64 GT/s, newest first (R53). -/
  replay : List Emit := []
  flitsRx : Nat := 0
  flitsTx : Nat := 0
  flitsReplayed : Nat := 0
  /-- IDE stream of the port: 0 not established, 1 secure, 2 insecure (R114, R115). -/
  ide : Nat := 0
  /-- MAC aggregation in flits, and the flits of the running MAC epoch received so far (R114). -/
  ideAgg : Nat := 1
  ideFlits : Nat := 0
  /-- Messages of flits whose MAC epoch has not been verified, oldest first (R115). -/
  unverified : List HeldMsg := []
  /-- Label-slot contexts for the later messages of the flit: context, label and deadline (R119, R120). -/
  slot : List SlotCtx := []
  /-- When the flit that carries the running messages arrived; deadlines count from it (R118). -/
  flitAt : Nat := 0
deriving DecidableEq, Repr

/-- One physical lane. -/
structure Lane where
  bitLock : Bool := false
  symLock : Bool := false
  blockLock : Bool := false
  polarity : Bool := false
  excluded : Bool := false
  readmit : Bool := false
  margining : Bool := false
  logical : Nat := 255
  height : Byte := 0
  widthUI : Byte := 0
  /-- The receiver's adaptation, and the start value of R65 that the last phase 2 took; none for the receiver's defaults. -/
  adapt : Word := 0
  startFrom : Option Word := none
  /-- When LANE_EYE was measured, in cycles. -/
  eyeAt : Option Nat := none
  baseHeight : Byte := 0
  baseWidth : Byte := 0
  baseRate : Nat := 0
  /-- Consecutive checks below threshold (R69). -/
  below : Nat := 0
  /-- Times of the Recoveries this lane caused in the last second (R70). -/
  caused : List Nat := []
  /-- The next check is the first after a Recovery this lane caused (R70). -/
  recheck : Bool := false
  /-- The new baseline of a re-equalisation lies below the floor (R70). -/
  belowFloor : Bool := false
deriving DecidableEq, Repr

/-- Ports and lanes. -/
structure Links where
  /-- STRAP_BIF as sampled at the internal cold reset (R48). -/
  straps : Byte := 0
  ports : Tab Port := []
  lanes : Tab Lane := []
  /-- Receiver start values in MRAM by (lane, rate) (R65). -/
  eqStart : Tab Word := []
deriving DecidableEq, Repr

/-! ### Host binding, logical devices and dynamic capacity (chapter 3) -/

/-- An HDM decoder of a logical device (R96): base and size in HPA, ways, position, granularity in bytes, DPA base. -/
structure Decoder where
  base : Nat := 0
  size : Nat := 0
  ways : Nat := 1
  pos : Nat := 0
  gran : Nat := 256
  dpaBase : Nat := 0
  committed : Bool := false
  /-- Error Not Committed (R97). -/
  error : Bool := false
deriving DecidableEq, Repr

/-- Where an extent stands (R102, R103): offered to the host, accepted and waiting for group 2, in force, or
released and waiting for the boundary. -/
inductive ExtentStage where
  | offered | accepted | inForce | releasing
deriving DecidableEq, Repr

/-- A dynamic-capacity extent: whole 256 MiB blocks, inclusive. -/
structure Extent where
  host : HostId
  base : Nat
  limit : Nat
  tag : Nat
  stage : ExtentStage
deriving DecidableEq, Repr

/-- A removed range held until its last earlier request responds (R100): the former owner, the blocks, whether the
map bits clear at the end (R103, R233), and how many requests had passed the host-binding stage
when the hold began. -/
structure HeldRange where
  host : HostId
  base : Nat
  limit : Nat
  clears : Bool
  since : Nat
  /-- Other hosts that had the range when the hold began. -/
  others : BitVec 16 := 0
deriving DecidableEq, Repr

/-- One logical device, and the host binding of its host. -/
structure LogicalDev where
  decoders : List Decoder := [{}, {}, {}, {}]
  lblEnable : Bool := false
  slotCode : BitVec 4 := 15
  /-- LBL_STATUS.ACTIVE as last reported by vector 5 (R117). -/
  lblActive : Bool := false
  /-- The flits its port had received when ACTIVE last changed (R117). -/
  lblFrom : Nat := 0
  substCount : Nat := 0
  msixEnable : Bool := false
  /-- Masked MSI-X vectors, bit per vector. -/
  msixMask : BitVec 8 := 0xFF
  msixPending : BitVec 8 := 0
  /-- Message addresses and data of the MSI-X table: dword 3 × vector + 0, 1 or 2 (R111, R113). -/
  msixTable : Tab Word := []
  /-- The RAS capability (R111): status, mask and severity of uncorrectable errors, status and mask of correctable ones. The manual names
  the capability and nothing that it records. -/
  ras : List Word := [0, 0, 0, 0, 0]
  linesRead : Nat := 0
  linesWritten : Nat := 0
  bytesMoved : Nat := 0
deriving DecidableEq, Repr

/-- Logical devices, extents and held ranges. -/
structure Hosts where
  lds : Tab LogicalDev := []
  extents : List Extent := []
  held : List HeldRange := []
  nextTag : Nat := 1
deriving DecidableEq, Repr

/-! ### Requests, the address map and the channels (chapters 4 and 5) -/

/-- Who put a request into the data path: a host through its port, the diagnostic window (R451), a line-path unit of
a mover slot (R284), a line-path fill (R145), a healing or verify write or read (R200, R203), a poison stamp (R196),
a directory metadata read or write-back (R235, R236), REWRITE_NOW (R221), a scrub line read (R218), a spare-row move
on the line path (R212), a single-line update of a release sweep (R248). -/
inductive Who where
  | host (port : PortBlk) (ld : HostId) (tag : BitVec 16)
  /-- A host's request whose link went down: it completes and answers nothing (R81). -/
  | gone (ld : HostId)
  | diag (tag : Nat)
  | mover (slot : Nat) (line : Nat)
  | fill (stripe : Nat)
  | heal | verify | stamp | directory | inject | scrub | sweep
deriving DecidableEq, Repr

/-- A directory record (R234). -/
structure DirRec where
  vec : BitVec 16 := 0
  st : BitVec 2 := 0
deriving DecidableEq, Repr

/-- What a request asks of its line. `update` changes the directory record and no data (R137); `probe` recalls or
invalidates copies for the mover and makes no access of its own (R250); `inject` reads the line and rewrites it with an
injection, or without one when the mask is empty (R221, R223). -/
inductive ReqOp where
  | rd (snp : SnpType)
  | rdData
  | inv
  | wr (data : Data) (poison : Bool)
  | ptl (data : Data) (be : BitVec 64)
  | update (sharers : BitVec 16) (st : BitVec 2)
  | probe (write : Bool)
  | inject (mask : BitVec 80) (pattern : Byte)
deriving DecidableEq, Repr

/-- A request after the host-binding and label-lookup stages (R29, R124, R154). `line` is DPA / 64; `passed` is its
place in the order of passage of the host-binding stage (R107). -/
structure Req where
  who : Who
  op : ReqOp
  line : Nat
  metaField : MetaField := .noOp
  label : Label := 0
  cls : Nat := 7
  target : Nat := 0
  /-- The tenant of the label at lookup (R19, R508). -/
  tenant : Nat := 0
  deadline : Option Nat := none
  step : Nat := 0
  inBudget : Bool := true
  /-- The line counts in PENDING_OVER of its label (R312). -/
  owes : Bool := false
  arrived : Nat := 0
  passed : Nat := 0
  /-- The home agent has decided the flow: the record the line takes and the completion sent (R240). -/
  decided : Bool := false
  dir : DirRec := {}
  grant : Rsp := .cmp
deriving DecidableEq, Repr

/-- The metadata of a line (R135) without its reserved bits. -/
structure Meta where
  sharers : BitVec 16 := 0
  st : BitVec 2 := 0
  poison : Bool := false
  healed : Bool := false
deriving DecidableEq, Repr

/-- What a write entry stores: the enabled data bytes, and each metadata field, where `none` keeps the stored one.
An entry with every byte enabled and every field given is a full write; any other is a merge (R158). -/
structure LineWrite where
  be : BitVec 64 := BitVec.allOnes 64
  data : Data := 0
  sharers : Option (BitVec 16) := some 0
  st : Option (BitVec 2) := some 0
  poison : Option Bool := some false
  healed : Option Bool := some false
  /-- Symbols XORed after encoding, and the pattern (R221). -/
  inject : Option (BitVec 80 × Byte) := none
deriving DecidableEq, Repr

/-- An entry of a channel's read or write queue (R154). -/
structure Entry where
  req : Req
  bank : Nat
  row : Nat
  col : Nat
  wr : Option LineWrite := none
  arrival : Nat := 0
  starved : Bool := false
  /-- The write arms no supersede of its own kind: a heal or stamp (R196, R202). -/
  repair : Bool := false
  /-- A queued partial write that the read matched: its bytes replace those decoded (R155). -/
  merged : Option LineWrite := none
  /-- Order of arrival at the channel. -/
  seq : Nat := 0
  /-- A write of the line has entered the write queue before this rewrite of REWRITE_NOW (R221). -/
  overtaken : Bool := false
deriving DecidableEq, Repr

/-- The sources of row transfers (R263): a spare-row move, the zero-fill of a stripe, the descriptor of an execution slot, the release
sweep, the patrol scrubber. -/
inductive RowSrc where
  | move
  | fill (stripe : Nat)
  | desc (slot : Nat)
  | sweep
  | scrub
deriving DecidableEq, Repr

/-- An entry of a channel's row queue (R152, R154): an offer of the row mover that the channel has not accepted yet. A spare-row move is
under no label (R320). -/
structure RowEntry where
  src : RowSrc
  bank : Nat
  row : Nat
  read : Bool
  label : Option Label := none
  tenant : Nat := 0
  cls : Nat := 7
  step : Nat := 0
  inBudget : Bool := true
  arrival : Nat := 0
  starved : Bool := false
  /-- The row to be written leaves the stage no earlier than this ACT allows (R262). -/
  notBefore : Nat := 0
deriving DecidableEq, Repr

/-- A line read on its way from the DRAM to the decoder: its entry, the cycle of its ACT, the 80 symbols as read, and
whether a write of the line waited at the ACT or has entered the write queue since (R202). -/
structure Inflight where
  entry : Entry
  act : Nat
  raw : BitVec 640
  overtaken : Bool := false
  /-- A stamp of the line has entered the write queue since the ACT: the line has sent its message (R196). -/
  stamped : Bool := false
  /-- The line of a queued write that answers the read without a decode (R155). -/
  forwarded : Option (Data × Meta) := none
  /-- The ACT issued before the heal write of the line closed (R206). -/
  beforeHeal : Bool := false
deriving DecidableEq, Repr

/-- A reserved column command (R157): when it issues, its bank group, and whether it is a read. `dq` is false for a
row-bus command, which uses no data pins. -/
structure ColSlot where
  at_ : Nat
  group : Nat
  read : Bool
  dq : Bool
deriving DecidableEq, Repr

/-- A tracker of a row neighbourhood (R184). -/
structure RhTracker where
  nbh : Nat
  labels : List (Label × Nat) := []
  other : Nat := 0
deriving DecidableEq, Repr

/-- A throttle entry (R185): the last boundary count at which it holds, and the label's last ACT to the bank. -/
structure Throttle where
  label : Label
  bank : Nat
  until_ : Nat
  lastAct : Option Nat := none
deriving DecidableEq, Repr

/-- A stored-training record: the trained values, and the die temperature at capture (R170, R171). -/
structure TrainRecord where
  values : TrainValues := {}
  temp : Int := 0
deriving DecidableEq, Repr

/-- A heal-queue place (R196, R200): the write it carries, whether it is a stamp, and whether it has been overtaken. -/
structure HealPlace where
  entry : Entry
  stamp : Bool
  overtaken : Bool := false
deriving DecidableEq, Repr

/-- A history entry (R204, R205). -/
structure History where
  bank : Nat
  row : Nat
  col : Nat
  pos : BitVec 80
  healDone : Bool := false
  readsLeft : Nat := 3
  lastEp : Nat := 0
deriving DecidableEq, Repr

/-- A line-remap entry (R208). -/
structure Remap where
  bank : Nat
  row : Nat
  col : Nat
  word : BitVec 640
deriving DecidableEq, Repr

/-- A repair latch of a bank (R211 to R213). -/
structure SpareRow where
  bank : Nat
  row : Nat
  spare : Nat
  factory : Bool := false
  confirmed : Bool := true
deriving DecidableEq, Repr

/-- A spare-row move (R212): the row and its spare, the lines read so far, and the steps done: the lines are in the stage, corrected, and
the latch is PROGRAMMED from `programmedAt` on; `written` of them have landed in the spare; the latch is CONFIRMED at `confirmAt`. -/
structure SpareMove where
  bank : Nat
  row : Nat
  spare : Nat
  declared : Nat := 0
  lines : List (BitVec 640) := []
  programmedAt : Option Nat := none
  written : Nat := 0
  confirmAt : Option Nat := none
deriving DecidableEq, Repr

/-- A row the patrol scrubber works on (R216, R217). -/
structure ScrubJob where
  bank : Nat
  row : Nat
  attempt : Nat := 0
  /-- The row as read, once its RBR has issued. -/
  lines : Option (List (BitVec 640)) := none
  /-- A write to the row entered the write queue, or a row transfer writing it was accepted, since the RBR ACT. -/
  overtaken : Bool := false
  /-- When the RBR's ACT issued. -/
  readAt : Nat := 0
  /-- Columns that an earlier attempt has counted in the bucket, or reported as uncorrectable (R196, R216). -/
  counted : List Nat := []
  lost : List Nat := []
  /-- Columns corrected in the first read, with their error positions, awaiting the verify read. -/
  corrected : List (Nat × BitVec 80) := []
  verifying : Bool := false
deriving DecidableEq, Repr

/-- The copies and commit words of an MRAM record (R373). `x` and `y` hold the content each copy has with its match
against the commit's CRC; a commit word is (sequence, primary is Y, mirror valid), none when its own CRC fails. -/
structure MramRec (α : Type) where
  x : Option α
  y : Option α
  a : Option (Nat × Bool × Bool)
  b : Option (Nat × Bool × Bool)
deriving DecidableEq, Repr

/-- What the field repair map records of a channel: the remapped lines by bank, row and column, and the field assignments of spare rows
(R210, R213). -/
structure RepairMap where
  lines : List (Nat × Nat × Nat) := []
  spares : List SpareRow := []
deriving DecidableEq, Repr

/-- What the cane map of MRAM records of a channel (R339): the positions its spares carry and those that are bad, its erased positions, and
whether it is retired. -/
structure CaneMap where
  use : Tab Nat := []
  erased : List Nat := []
  retired : Bool := false
deriving DecidableEq, Repr

/-- The same of a row bus: shifts as cane and spare, and bad spares. -/
structure BusMap where
  shifts : List (Nat × Nat) := []
  bad : List Nat := []
  erased : List Nat := []
  retired : Bool := false
deriving DecidableEq, Repr

/-- Training state of a channel (CH_STATUS.STATE codes 5 to 7, R187). -/
inductive TrainState where
  | untrained | training | trained | sliced | retired
deriving DecidableEq, Repr

/-- One channel controller with its line codec. -/
structure Chan where
  readQ : List Entry := []
  writeQ : List Entry := []
  /-- Offered row transfers, at most 8 (R152, R263). -/
  rowQ : List RowEntry := []
  /-- Requests waiting in the crossbar's input buffer of 16 entries, and those that the crossbar has not accepted (R153). -/
  xbar : List Entry := []
  upstream : List Entry := []
  /-- Writes of the mover and reads and writes of the codec that wait for a queue place. -/
  feed : List Entry := []
  inflight : List Inflight := []
  drain : Bool := false
  lastAct : Option Nat := none
  /-- Times of the last activations, newest first, at most four (tFAW). -/
  acts : List Nat := []
  bankFree : Tab Nat := []
  cols : List ColSlot := []
  debt : Tab Nat := []
  heldTick : Tab Bool := []
  /-- Owed refreshes of each bank already counted as deferred (R37). -/
  counted : Tab Nat := []
  refPtr : Tab Nat := []
  lastRefreshed : Nat := 31
  /-- The bank whose refresh tick comes next, and when, in 224ths of a ns (R166). -/
  tickBank : Nat := 0
  tickDue : Nat := 0
  slots : Nat := 0
  /-- Activation count of each neighbourhood, key bank × 2,048 + row[15:5] (R182). -/
  rh : Tab Nat := []
  rhTrackers : List RhTracker := []
  throttles : List Throttle := []
  lastThrottled : Label := 0
  /-- Banks with a targeted refresh due: bank, neighbourhood. -/
  trfDue : List (Nat × Nat) := []
  /-- Targeted refreshes under way: bank, neighbourhood, end. -/
  trfRunning : List (Nat × Nat × Nat) := []
  trfCount : Nat := 0
  pauseUntil : Nat := 0
  train : TrainState := .untrained
  record : Option TrainRecord := none
  /-- The last boot used the channel's stored training (R171, R188). -/
  usedStored : Bool := false
  /-- By data cane, the centres of the read and write eyes from their trained values, in steps, and the eye widths in percent of
  trained (R172, R188). -/
  readCentres : List Int := []
  writeCentres : List Int := []
  readWidths : List Nat := []
  writeWidths : List Nat := []
  visitAt : Nat := 0
  /-- The next drift visit samples the write eye (R172). -/
  writeEye : Bool := false
  slicesLeft : Nat := 0
  lastSlice : Nat := 0
  /-- Lines queued for a heal rewrite, oldest first (R196, R200). -/
  healQ : List HealPlace := []
  /-- Heal writes issued whose bank cycle has not closed: bank, row, column, close (R203, R206). -/
  healing : List (Nat × Nat × Nat × Nat) := []
  history : List History := []
  remap : List Remap := []
  remapFullSent : Bool := false
  /-- Repair latches, the one programmed last at the end. -/
  spares : List SpareRow := []
  /-- Spare-row moves of the channel by arrival; the first is under way (R160, R212). -/
  moves : List SpareMove := []
  /-- The channel's part of the field repair map in MRAM (R210, R213). -/
  repairMap : MramRec RepairMap := { x := some {}, y := some {}, a := some (0, false, true), b := some (0, false, true) }
  scrubPos : Nat := 0
  scrubCycles : Nat := 0
  scrubFrom : Nat := 0
  scrubRetries : Nat := 0
  scrubLate : Bool := false
  scrubOwed : Nat := 0
  scrubJob : Option ScrubJob := none
  /-- The row that the running release sweep has read: bank, row, and whether a write of it has been accepted since (R217, R248). -/
  sweptRow : Option (Nat × Nat × Bool) := none
  /-- Declared erased data pins, at most 2 (R191). -/
  erased : List Nat := []
deriving DecidableEq, Repr

/-- A zero-fill under way (R144 to R148): the stripe, the requests held on it with the starter first, the quadrants on
the line path and the rows written so far. -/
structure Fill where
  stripe : Nat
  held : List Req
  linePath : BitVec 4 := 0
  dispatched : BitVec 64 := 0
  /-- When the last bank cycle of the rows and lines written closes. -/
  closes : Nat := 0
  at_ : Nat := 0
  /-- The octant's stripes are to be unmarked once the held requests are in their queues (R147). -/
  clearAfter : Bool := false
  /-- The fill is confirmed and its starting request has not reached its write queue yet (R144). -/
  released : Bool := false
  /-- The slot whose claim the entry is (R280). -/
  claim : Option Nat := none
  /-- Label, tenant, class, step and budget flag of the starting request, for the rows (R320). -/
  label : Label := 0
  tenant : Nat := 0
  cls : Nat := 7
  step : Nat := 0
  inBudget : Bool := true
deriving DecidableEq, Repr

/-- The layout, the initialisation map and the fill table. -/
structure Layout where
  /-- log2 of the set width in force: 4, 5 or 6 (R128, R129). -/
  n : Nat := 4
  marked : Tab Bool := []
  fills : List Fill := []
  /-- Requests waiting for a fill entry, oldest first, with the cycle their wait began (R146). -/
  fillWait : List (Req × Nat) := []
  xlateValid : Bool := false
  xlate : Word := 0
deriving DecidableEq, Repr

/-- An injection record (R223). -/
structure Injection where
  line : Nat
  mask : BitVec 80
  pattern : Byte
deriving DecidableEq, Repr

/-- Channels and what the codecs share. -/
structure Dram where
  chans : Tab Chan := []
  /-- Dies refreshing at the doubled rate (R168); the rate changes at the next boundary. -/
  hot : BitVec 16 := 0
  hotNext : BitVec 16 := 0
  /-- Channel in a sliced retrain, and those waiting (R174). -/
  retraining : Option Nat := none
  retrainWait : List Nat := []
  /-- The group of CHANNEL_TRAINING that a cold boot trains next (R170). -/
  trainGroup : Nat := 0
  /-- Bank buckets, OVERFLOWED flags and correction counts by ch × 32 + bank (R198, R199). -/
  buckets : Tab Nat := []
  overflowed : Tab Bool := []
  corrections : Tab Nat := []
  poison : List Nat := []
  poisonLost : Bool := false
  injections : List Injection := []
  armed : Option Injection := none
  injRefused : Bool := false
  injReason : Nat := 0
  /-- Boundary count of the last bucket tick (R198). -/
  bucketAt : Nat := 0
  /-- Order of passage of the host-binding stage (R107). -/
  passes : Nat := 0
  /-- Lines whose bytes the manual calls unspecified (R17): line, tag of the free value that fills them. -/
  unspec : Tab Nat := []
deriving DecidableEq, Repr

/-! ### Coherence and the line directory (chapter 7) -/

/-- A directory-cache entry (R235): the record, DIRTY, and when it was last used. -/
structure DirEntry where
  dir : DirRec := {}
  dirty : Bool := false
  used : Nat := 0
deriving DecidableEq, Repr


/-- A snoop outstanding to a host (R241, R242, R245); `sentAt` is none until it leaves the transmitter. -/
structure Snoop where
  host : HostId
  kind : SnoopKind
  sentAt : Option Nat := none
  /-- It has left the part. -/
  sent : Bool := false
  resent : Bool := false
deriving DecidableEq, Repr

/-- A home-agent tracker (R239): its line, the flow's request, the record as the responses leave it, the snoops
outstanding, the hosts that answered BIRspS, and whether it waits for the record from DRAM. -/
structure Tracker where
  line : Nat
  req : Req
  dir : DirRec := {}
  snoops : List Snoop := []
  shared : BitVec 16 := 0
  waitMeta : Bool := false
  /-- The flow invalidates every other member after a recovery of the record (R237). -/
  purge : Bool := false
  /-- The flow is decided and waits for room for its record: the record, the completion, and whether it changes the record (R236). -/
  stuck : Option (DirRec × Rsp × Bool) := none
deriving DecidableEq, Repr

/-- A release sweep (R248): the host, its blocks, and the row it has reached. -/
structure Sweep where
  host : HostId
  blocks : List (Nat × Nat)
  /-- The release of an extent (R233) or an isolation (R246). -/
  release : Bool
  cacheDone : Bool := false
  /-- 64 × stripe + row of the stripe. -/
  at_ : Nat := 0
  /-- The row's lines as they are to be rewritten, with the columns whose lines are lost (R247). -/
  job : Option (List (BitVec 640) × List Nat) := none
  attempt : Nat := 0
  /-- When the ACT of the row's read issued. -/
  readAt : Nat := 0
deriving DecidableEq, Repr

/-- A row lock of the mover (R251); it ends when the bank cycle of the row's write closes. -/
structure RowLock where
  ch : Nat
  bank : Nat
  row : Nat
  /-- The execution slot whose transfer it protects. -/
  slot : Nat
  till : Option Nat := none
deriving DecidableEq, Repr

/-- What a request that waits at the home agent waits for: an earlier request or a lock of its line, a tracker, room for its record in the
victim buffer (R236, R239, R251). -/
inductive HomeNeed where
  | line | tracker | victim
deriving DecidableEq, Repr

/-- A request that waits at the home agent, since when, and the record it is decided from when that has been read. -/
structure Waiter where
  req : Req
  since : Nat
  need : HomeNeed := .line
  rec_ : Option DirRec := none
deriving DecidableEq, Repr

/-- The home agent. -/
structure Coherence where
  cache : Tab DirEntry := []
  victims : List (Nat × DirRec) := []
  uses : Nat := 0
  trackers : List Tracker := []
  /-- Requests that wait at the home agent, in order of passage. -/
  waiting : List Waiter := []
  /-- The victim buffer drains after a warm reset, and no flow starts (R238). -/
  draining : Bool := false
  /-- Row locks of the mover (R251). -/
  locks : List RowLock := []
  isolated : BitVec 16 := 0
  /-- Isolated hosts whose sweep has ended, and whose logical device has been reset since (R249). -/
  swept : BitVec 16 := 0
  ldReset : BitVec 16 := 0
  /-- Hosts whose isolation ends at the next boundary (R249). -/
  unisolate : BitVec 16 := 0
  /-- Blocks of windows each host has had in its effective ranges since its last sweep over them (R230). -/
  touched : Tab (BitVec 512) := []
  sweeps : List Sweep := []
  dirRecovered : Bool := false
  /-- Lines on which a host sent BIConflict and is owed the acknowledgement: port, host, tag, line, passage. -/
  conflicts : List (PortBlk × HostId × BitVec 16 × Nat × Nat) := []
deriving DecidableEq, Repr

/-! ### The row mover and row buses (chapter 8) -/

/-- A mover queue (R265 to R270, R298): STATE 0 idle, 1 running, 2 stopped on error, 3 not configured. -/
structure MoverQ where
  head : Nat := 0
  tail : Nat := 0
  state : Nat := 3
  error : Nat := 0
  /-- A commit of ENABLE = 0 is in force and descriptors still run (R266). -/
  stopping : Bool := false
  /-- The pass through the completion ring on which the next record falls is odd, counted from 0 (R272). -/
  oddPass : Bool := false
  /-- Records of running descriptors are written without MSI-X: link down or isolation (R253, R293). -/
  silent : Bool := false
  /-- The host has to zero the completion ring before its next doorbell: the first pass begins with it (R271, R272, R295). -/
  anew : Bool := false
  /-- The queue resets to HEAD 0, TAIL 0, STATE 0 once its running descriptors have ended (R293). -/
  resetting : Bool := false
  /-- The holders of the line of the descriptor at HEAD have been asked (R250, R268). -/
  asked : Bool := false
deriving DecidableEq, Repr

/-- A descriptor (R273). -/
structure Desc where
  opcode : Nat
  interrupt : Bool
  fence : Bool
  poisonStop : Bool
  mismatchMap : Bool
  label : Label
  seq : Word
  src : Nat
  dst : Nat
  length : Nat
  pattern : Word
  aux : BitVec 64
  /-- Which reserved fields hold a nonzero bit: of bytes 0 to 3 or the reserved bytes, of SRC, DST, LENGTH and AUX. -/
  badFixed : Bool
  badSrc : Bool
  badDst : Bool
  badLength : Bool
  badAux : Bool
deriving DecidableEq, Repr

/-- A line that the mover has read: its 64 bytes, and whether it reads as poisoned (R282). -/
structure LineRes where
  data : Data
  poison : Bool := false
deriving DecidableEq, Repr

/-- A unit of work: whether it zeroes, the DPAs it reads and writes, its bytes, its offset in the range, and whether it is made of whole rows:
a row group, or a whole stripe that is zeroed. Otherwise it is a part of a row group on the line path (R279, R282, R285). -/
structure MUnit where
  zero : Bool
  src : Nat
  dst : Nat
  size : Nat
  off : Nat
  body : Bool
deriving DecidableEq, Repr

/-- An execution slot (R269): the descriptor, how far it has come, and its counts; `status` is set when it has ended. The
range is worked in units (R279, R285). -/
structure Slot where
  queue : Nat
  index : Nat
  desc : Desc
  label : Label := 0
  subst : Bool := false
  /-- The descriptor line was poisoned (R268). -/
  badLine : Bool := false
  started : Bool := false
  /-- The prefix done, in bytes from the start of the range. -/
  pos : Nat := 0
  /-- Step of the unit under work: 0 not begun, 1 the first read, 2 the second, 3 the write, 5 a line of the mismatch map. -/
  phase : Nat := 0
  /-- The unit under work, once it has begun. -/
  cur : Option MUnit := none
  /-- Since when the slot waits for a fill entry, and for which stripe (R146, R280). -/
  fillSince : Option (Nat × Nat) := none
  /-- Lines of the unit read from SRC and, for COMPARE, from DST, by line of the unit. -/
  got : Tab LineRes := []
  got2 : Tab LineRes := []
  /-- By row of the unit, when the ACT of its last read over the row bus issued (R262). -/
  readAt : Tab Nat := []
  /-- Lines of the unit written in this step, and those whose holders have been asked (R250). -/
  wrote : BitVec 1024 := 0
  probed : BitVec 1024 := 0
  /-- A line read or write of the slot is under way. -/
  busy : Bool := false
  /-- Rows of the unit that have gone to the line path after a third failed transfer (R294). -/
  slow : List Nat := []
  /-- How far the source has been handled for clearing, SOURCE_CLEARED, and whether it still grows (R286). -/
  cleared : Nat := 0
  clearedTo : Nat := 0
  clearing : Bool := true
  poisoned : Nat := 0
  lost : Nat := 0
  mismatches : Nat := 0
  corrected : Nat := 0
  result : BitVec 64 := 0
  /-- Bits of the mismatch map not yet written, from line 8 × `mapped` on, and the map bytes written (R287). -/
  map : Nat := 0
  mapped : Nat := 0
  status : Option Nat := none
  endEpoch : BitVec 48 := 0
  /-- The completion record is on its way (R255). -/
  recSent : Bool := false
deriving DecidableEq, Repr

/-- A row bus: whether it is retired or out for its full-width test (R335, R337), its erased canes, consecutive failures
(R294), the bus cycles of descriptors in this epoch, the last cycles in which the mover made its offer and in which one was accepted, the
bus cycles assigned (R159, R263), the margins of the last sweep or test and of the sweep
under way (R353), and the request of SI_CTRL.FULLWIDTH_NOW. -/
structure RowBus where
  retired : Bool := false
  testing : Bool := false
  /-- The full-width test has ended; the bus returns at the next boundary. -/
  tested : Bool := false
  erased : List Nat := []
  failures : Nat := 0
  descCycles : Nat := 0
  offeredAt : Option Nat := none
  usedAt : Option Nat := none
  assigned : List Nat := []
  minWidth : Nat := 0
  weakest : Nat := 0
  weakCount : Nat := 0
  curMin : Nat := 255
  curWeakest : Nat := 0
  curWeak : Nat := 0
  lastTest : Word := 0
  fwNow : Bool := false
deriving DecidableEq, Repr

/-- The row mover. -/
structure Mover where
  queues : Tab MoverQ := []
  slots : List (Nat × Slot) := []
  /-- Queue the round robin looks at next (R269). -/
  rr : Nat := 0
  /-- The checkpoint table (R295). -/
  checkpoints : List Slot := []
  buses : Tab RowBus := []
  domain : DomState := .on
  rowTransfers : Nat := 0
  bytesDone : Nat := 0
  /-- The mover has stopped at once under a FATAL fault (R293, R398). -/
  stopped : Bool := false
  lastProgress : Nat := 0
deriving DecidableEq, Repr

/-! ### Task labels (chapter 9) -/

/-- A label-table entry (R300). EFF_RESERVE and BUDGET_LEFT follow from the reservation, the class's total in force and
the epoch of the last refill (R311). -/
structure LabelEntry where
  cls : Nat := 7
  tenant : Nat := 0
  target : Nat := 0
  reserve : Nat := 0
  budget : Nat := 0
  /-- One more than the boundary count at the last refill. -/
  refilledAt : Nat := 0
  /-- Measured latency in 1/256 ns (R307). -/
  m256 : Nat := 0
  step : Nat := 0
  throttles : Nat := 0
  throttleCh : Nat := 0
  pendingOver : Nat := 0
  reads : Nat := 0
  misses : Nat := 0
  overBudget : Nat := 0
  /-- Sum and count of the latencies sampled since the last fold. -/
  sum : Nat := 0
  count : Nat := 0
deriving DecidableEq, Repr

/-- A staged label entry (R303): the label, its two words, and the strobe that captured it. -/
structure Staged where
  label : Label
  w0 : Word
  w1 : Word
  strobe : Option Nat := none
deriving DecidableEq, Repr

/-- The QoS block. -/
structure Qos where
  table : Tab LabelEntry := []
  staging : List Staged := []
  pushRefused : Bool := false
  lastFolded : Nat := 65535
  foldOverflow : Bool := false
  lastRefused : Bool := false
  lastReason : Nat := 0
  d : Nat := 0
  dHold : Nat := 0
  dNominal : Nat := 0
  /-- Past values of D that can still be a minimum: boundary count and D, oldest first (R314). -/
  dHist : List (Nat × Nat) := []
  thermalCut : Bool := false
  /-- Class totals in force and the cut of each class (R317, R319). -/
  eff : List Nat := [0, 0, 0, 0, 0, 0, 0, 0]
  cut : List Nat := [0, 0, 0, 0, 0, 0, 0, 0]
  /-- Class histograms, key 16 × class + bin (R322). -/
  hist : Tab Nat := []
  view : List Word := []
  viewValid : Bool := false
deriving DecidableEq, Repr

/-! ### Stack integrity (chapter 10) -/

/-- The canes of a channel beside what its codec holds: SPk_USE codes of R353 by spare (0x3C free is the default; the
heartbeat backup of CH(4d) is written when the maps are loaded), the position out for test, its spare and the boundary
it went out, the widths of the last sweep, pin-error counts of R334 and targeted tests queued. -/
structure ChanCanes where
  use : Tab Nat := []
  testOut : Option Nat := none
  testSpare : Option Nat := none
  testFrom : Nat := 0
  /-- The test runs in erasure mode (R333). -/
  erasing : Bool := false
  minWidth : Nat := 0
  weakest : Nat := 0
  /-- The same in the sweep under way; 255 before its first result. -/
  curMin : Nat := 255
  curWeakest : Nat := 0
  pinErr : Tab Nat := []
  pinFrom : Nat := 0
  targets : List Nat := []
deriving DecidableEq, Repr

/-- A guard controller and the supply of its die (R342 to R351). -/
structure DieGuard where
  /-- DIE_GUARD.STATE: 0 ACTIVE, 1 GUARDING, 2 GUARDED, 3 exiting. -/
  state : Nat := 0
  onBackup : Bool := false
  reason : Nat := 0
  entries : Nat := 0
  ignored : Nat := 0
  /-- The main heartbeat cane has failed; the die stays guarded until the heartbeat runs on the backup (R350). -/
  failed : Bool := false
  /-- The failed heartbeat has been detected and the die's requests are held (R350). -/
  detected : Bool := false
  /-- Whole write bursts and rows accepted since the last guard-status read that found the die ACTIVE, by quadrant. -/
  accepted : Tab Nat := []
  /-- VDD_ARR and VPP codes at the crossings of this epoch and the last, with the boundary count (R342). -/
  lows : List (Nat × Byte × Byte) := []
  warns : List Nat := []
  holds : List Nat := []
  holdUntil : Nat := 0
  unstableAt : Option Nat := none
deriving DecidableEq, Repr

/-- The margin record of a cane (R340). -/
structure CaneRecord where
  baseline : Nat := 0
  latest : Nat := 0
  lowest : Nat := 0
  /-- Month, sum and count of the widths of the last 13 months with a result, newest first. -/
  months : List (Nat × Nat × Nat) := []
deriving DecidableEq, Repr

/-- The stack-integrity engine. -/
structure Integrity where
  canes : Tab ChanCanes := []
  guards : Tab DieGuard := []
  /-- The segment out for test: bus, segment, boundary, and whether in erasure mode (R333). -/
  segOut : Option (Nat × Nat × Nat × Bool) := none
  heartbeatOut : Option Nat := none
  /-- Permanent shifts of row-bus canes: bus, cane, spare; and bad spares: bus, spare. -/
  busShifts : List (Nat × Nat × Nat) := []
  busBad : List (Nat × Nat) := []
  busTargets : List (Nat × Nat) := []
  busErrors : Tab Nat := []
  busErrFrom : Nat := 0
  /-- Units tested in the sweep under way, by unit number, and when it began. -/
  tested : BitVec 9424 := 0
  sweepFrom : Nat := 0
  cycles : Nat := 0
  late : Bool := false
  fwActive : Option Nat := none
  records : Tab CaneRecord := []
  /-- The cane maps of MRAM, by channel and by bus (R339). -/
  caneMaps : Tab (MramRec CaneMap) := []
  busMaps : Tab (MramRec BusMap) := []
  /-- Lowest width of a unit in a month: unit × 256 + month. -/
  monthly : Tab Nat := []
  /-- Write logs of R349 by channel: bank, row, and the column (16 for a whole row), newest first. -/
  writeLog : Tab (List (Nat × Nat × Nat)) := []
  /-- The boundary count at the last reset, from which the supply minima run (R342). -/
  supplyFrom : Nat := 0
deriving DecidableEq, Repr

/-! ### Power and thermal (chapter 11) -/

/-- An interleave set (R358 to R360). -/
structure SetPower where
  /-- 0 ACTIVE, 1 POWERDOWN, 2 SELF_REFRESH, 3 DROPPED. -/
  state : Nat := 0
  exiting : Bool := false
  /-- When the exit began and the bound it has, in cycles. -/
  exitFrom : Nat := 0
  exitBound : Nat := 0
  /-- The state the exit leads to: 0, or 1 for an exit that firmware planned (R360, R369). -/
  exitTo : Nat := 0
  /-- When SRE issued (R178). -/
  sreAt : Nat := 0
  testHold : Bool := false
  /-- Whole epochs without a request, and whether one reached the set in this epoch. -/
  idle : Nat := 0
  seen : Bool := false
  /-- SRE issued on every channel; the CH_SET domain is off (R178). -/
  sre : Bool := false
  off : Bool := false
deriving DecidableEq, Repr

/-- A host's declaration for an octant (R355). `tol` in ns; 0xFFFFFFFF unlimited. -/
structure Decl where
  tol : Nat
  needed : Bool
deriving DecidableEq, Repr

/-- A declaration whose command has not completed: its host, octant and value (R361). -/
structure DeclWait where
  host : HostId
  octant : Nat
  decl : Decl
deriving DecidableEq, Repr

/-- A temperature diode; readings in quarters of a degree (R367 to R371). -/
structure Diode where
  reading : Int := 0
  valid : Bool := false
  failed : Bool := false
  sampledAt : Nat := 0
  /-- The boundary at which its next sample is due (R368). -/
  due : Nat := 0
  highest : Int := -256
  same : Nat := 0
  /-- The throttle step in force, and the step of the die's own readings, which the next boundary brings into force. -/
  step : Nat := 0
  stepNext : Nat := 0
deriving DecidableEq, Repr

/-- The trip record of R376. -/
structure TripRec where
  sensor : Nat
  reading : Int
  epoch : BitVec 48
  mramCut : Bool
  otpAborted : Bool
deriving DecidableEq, Repr

/-- Power-state management, sensors and the trip latch. -/
structure Power where
  sets : Tab SetPower := []
  /-- Declarations by 64 × host + octant. -/
  decls : Tab (Option Decl) := []
  waits : List DeclWait := []
  dropped : BitVec 32 := 0
  /-- Octants whose drop waits for map bits to be cleared (R147, R181). -/
  dropping : BitVec 32 := 0
  /-- Last boundary by octant at which a write, fill or mover write had reached it. -/
  lastWrite : Tab Nat := []
  diodes : Tab Diode := []
  /-- The floor that the base-die diodes set: 0, 2 or 3 (R372). -/
  floor : Nat := 0
  /-- Bring every SELF_REFRESH or DROPPED set to POWERDOWN at the next boundary (R369). -/
  wakeHot : Bool := false
  /-- The trip latch in AON (R375). -/
  tripped : Bool := false
  /-- The trip record in MRAM; its content is none until a first trip. -/
  tripRec : MramRec (Option TripRec) := { x := some none, y := some none, a := some (0, false, true), b := some (0, false, true) }
deriving DecidableEq, Repr

/-! ### Faults and events (chapter 12) -/

/-- A fault message (R382); CLASS and ADDR_TYPE follow from its kind. -/
structure Msg where
  source : Nat
  kind : Kind
  host : Option HostId := none
  injected : Bool := false
  addr : BitVec 40 := 0
  epoch : BitVec 48 := 0
  /-- The cycle in which the message was made, by the model's own clock (R384). -/
  time : Nat := 0
deriving DecidableEq, Repr

/-- An entry of the SRAM fault log (R408). `at` is the model's count of boundaries at acceptance, from which the
timers of R392 and R393 run. -/
structure LogEntry where
  seq : Nat
  msg : Msg
  acked : Bool := false
  escalated : Bool := false
  atEp : Nat := 0
deriving DecidableEq, Repr

/-- A scope's timer (R392, R394): the reaction timer, or the second timer; it expires at boundary `due`. -/
structure ScopeTimer where
  scope : Nat
  second : Bool
  due : Nat
deriving DecidableEq, Repr

/-- An open reset shadow (R402, R403): the block, when it opened, when it is to close, the shadowed messages counted
and the kinds sent inside it. -/
structure Shadow where
  block : Nat
  openedAt : Nat
  closeAt : Nat
  count : Nat := 0
  sent : List Msg := []
deriving DecidableEq, Repr

/-- An entry of the MRAM fault log (R410). -/
structure MramEntry where
  seq : Nat
  msg : Msg
  powerOn : Nat := 0
  acked : Bool := false
  escalated : Bool := false
deriving DecidableEq, Repr

/-- The CXL event logs of a logical device (R390, R470). -/
inductive EvLog where
  | informational | warning | failure | fatal | dynamicCapacity
deriving DecidableEq, Repr

/-- The form of an event record (R390, R470, R102). -/
inductive EvForm where
  | generalMedia (poison : Bool) | dram | memoryModule | vendor | mailbox (chan : Nat) (sender : Nat) (seq : BitVec 16)
  /-- A dynamic-capacity record; `what`: 0 add, 1 release, 2 forced release (CXL 3.1, entry 50). -/
  | capacity (what : Nat) (tag : Nat) (base : Nat) (limit : Nat)
deriving DecidableEq, Repr

/-- One event record held for host software. -/
structure EvRec where
  ld : HostId
  log : EvLog
  form : EvForm
  msg : Option Msg
  handle : Nat
deriving DecidableEq, Repr

/-- The fault collector and reset manager. -/
structure Faults where
  /-- Messages in the sources' outboxes, oldest first: at most 2 per source (R384). -/
  outbox : List Msg := []
  /-- CONTAINED and FATAL messages waiting in their blocks (R384). -/
  waiting : List Msg := []
  /-- The source the round robin looks at next, and the cycle of the last acceptance (R384). -/
  rr : Nat := 0
  acceptedAt : Option Nat := none
  log : List LogEntry := []
  nextSeq : Nat := 1
  /-- Windows of limited kinds: source, kind, the boundary count at which the window opened (R388). -/
  windows : List (Nat × Kind × Nat) := []
  timers : List ScopeTimer := []
  /-- Scopes escalated and not acknowledged since (R394). -/
  escalated : List Nat := []
  fenced : BitVec 32 := 0
  /-- Fences that end at the next boundary (R396). -/
  unfence : BitVec 32 := 0
  fatal : Bool := false
  lastFatal : Option (Kind × Nat) := none
  hold : Bool := false
  faultNLow : Bool := false
  /-- When the 2 µs pulse of R399 ends, in controller cycles. -/
  pulseEnd : Nat := 0
  releasePending : Bool := false
  /-- Ports signalling viral (R398, R400), bit per port block. -/
  viral : BitVec 16 := 0
  shadows : List Shadow := []
  /-- Times of the last counted resets of each block, newest first, in AON (R406). -/
  history : Tab (List Nat) := []
  refused : Bool := false
  lastRefused : Nat := 0
  /-- The watermark may raise vector 2 (R408). -/
  watermarkArmed : Bool := true
  /-- Scopes whose timers start at the boundary after BOOT_PHASE is left (R397). -/
  timersHeld : Bool := true
  mramLog : List MramEntry := []
  /-- Logged entries not yet persisted, oldest first (R410). -/
  unpersisted : List Nat := []
  records : List EvRec := []
  /-- Records lost to a full log, by 8 × logical device + log (R391). -/
  lostRecords : Tab Nat := []
  nextHandle : Nat := 1
  /-- Messages found during BOOT_PHASE, held until firmware runs (R446). -/
  bootHeld : List Msg := []
deriving DecidableEq, Repr

/-! ### Boot, lifecycle and fuses (chapter 13) -/

/-- The state of a journal entry (R435). -/
inductive JournalState where
  | complete | incomplete | failed
deriving DecidableEq, Repr

/-- A journal entry (R435). -/
structure JournalEntry where
  word : Nat
  value : Word
  state : JournalState
deriving DecidableEq, Repr

/-- What the fuse controller does with a word in progress: an ordinary program, a lock, a lifecycle advance. -/
inductive FuseOp where
  | program | lock | advance
deriving DecidableEq, Repr

/-- An SPDM session (R442). -/
structure Session where
  path : SpdmPath
  id : BitVec 16
  finished : Bool
deriving DecidableEq, Repr

/-- The boot ROM, reset control, lifecycle latch and fuse controller. -/
structure Boot where
  /-- AON holds the internal cold reset (R535). -/
  coldHeld : Bool := true
  /-- BOOT_PHASE.PHASE: false BOOT, true RUN (R422). -/
  run : Bool := false
  resetKind : Nat := 0
  slotB : Bool := false
  slotFallback : Bool := false
  retained : Bool := false
  attempts : Nat := 0
  recovery : Bool := false
  grafts : Nat := 0
  replacements : Nat := 0
  /-- The grafts applied at this boot, in entry order (R443). -/
  graftList : List (List Word) := []
  graftSeal : Nat := 0
  /-- State in force, latched in AON (R429): 0 BLANK to 5 VOID. -/
  lifecycle : Nat := 0
  jtagOpen : Bool := false
  fwVersion : Word := 0
  fwSvn : Nat := 0
  svnFloor : Nat := 0
  /-- MRAM boot record (R426). -/
  preferredB : Bool := false
  new : Bool := false
  /-- The AON digest, and that of the image in retention SRAM (R420). -/
  aonDigest : BitVec 384 := 0
  sramDigest : BitVec 384 := 0
  haveImage : Bool := false
  /-- Slots rejected at this boot, and whether an image is loaded. -/
  rejectedA : Bool := false
  rejectedB : Bool := false
  loaded : Bool := false
  memActive : Bool := false
  /-- When the watchdog was last kicked and when the boot timer started, in cycles. -/
  kickedAt : Nat := 0
  bootAt : Nat := 0
  /-- A warm reset's request still to come back as a message (R418). -/
  watchdogOwed : Bool := false
  tripOwed : Bool := false
  /-- A cold reset by command is due at this cycle (R417). -/
  coldDue : Option Nat := none
  gradeE : Bool := false
  graftTable : Tab (List Word) := []
  replaceTable : List (Nat × Word) := []
  /-- FUSE_STATUS.OP, the word under way and those to follow. -/
  fuseOp : Option FuseOp := none
  fuseQueue : List (Nat × Word) := []
  journal : List JournalEntry := []
  /-- The fuse-margin log: word, copies at normal, low and high reference, and the epoch (R441). -/
  marginLog : List (Nat × BitVec 96 × BitVec 96 × BitVec 96 × BitVec 48) := []
  marginal : Nat := 0
  readValid : Bool := false
  readData : Word := 0
  readFlags : BitVec 4 := 0
  cmdCounter : Nat := 0
  returnErased : Bool := false
  algsAgreed : List SpdmPath := []
  sessions : List Session := []
  powerOns : Nat := 0
deriving DecidableEq, Repr

/-! ### Management port and mailboxes (chapter 14) -/

/-- A group's captured shadows (R11, R455): the group, its registers, the strobe that captured it, the strobe's mask
and whether it came from the management endpoint. -/
structure Capture where
  group : Nat
  regs : Tab Word
  strobe : Nat
  mask : BitVec 16
  mgmt : Bool
deriving DecidableEq, Repr

/-- A mailbox notice (R469). -/
structure Notice where
  ptr : BitVec 64
  len : BitVec 16
  seq : BitVec 16
deriving DecidableEq, Repr

/-- A mailbox channel (R465 to R474); sender, receiver and validity are in MBX_TABLE. -/
structure MbxChan where
  ptr : BitVec 64 := 0
  fifo : List Notice := []
  lastPost : Nat := 0
  crossed : Bool := false
  /-- The cycle in which CROSSED was last set (R10). -/
  crossedAt : Option Nat := none
  /-- Owner's identity number plus 1; 0 when free (R473). -/
  lock : Nat := 0
deriving DecidableEq, Repr

/-- One line of a diagnostic read (R451): its tag, the first byte and the count of the bytes asked for, and its result. -/
structure DiagPart where
  tag : Nat
  first : Nat
  count : Nat
  res : Option LineRes := none
deriving DecidableEq, Repr

/-- The part's management services. -/
structure Mgmt where
  captures : List Capture := []
  /-- What the shadows written at `undoAt` held before that cycle (R455). -/
  undo : Tab Word := []
  undoAt : Nat := 0
  strobes : Nat := 0
  lastApplied : BitVec 16 := 0
  groupRefused : BitVec 16 := 0
  applyOffset : Nat := 0
  applyValid : Bool := false
  snapWords : List Word := []
  snapValid : Bool := false
  snapBad : Bool := false
  eidPcie : Byte := 0
  eidI3c : Byte := 0
  i3cAddr : BitVec 7 := 0
  perstAsserted : Bool := false
  /-- Domains PITH1 to PITH3, by number (R42). -/
  pith : Tab DomState := []
  /-- When a waking bank's domain is restored, by bank (R472). -/
  wakeDue : Tab Nat := []
  mbx : Tab MbxChan := []
  wakeDone : BitVec 22 := 0
  /-- Until when a woken bank's domain stays on (R472), in cycles, by bank. -/
  stayOn : Tab Nat := []
  rcvBusy : Bool := false
  rcvDone : Bool := false
  rcvError : Nat := 0
  rcvResult : Nat := 0
  rcvSlot : Bool := false
  rcvChunk : Nat := 0
  /-- MSI-X table dwords by index, a vector-control dword XOR 1, and pending bits of the management endpoint (R448). -/
  msixTable : Tab Word := []
  msixPending : BitVec 64 := 0
  /-- Completer Abort recorded in the endpoint's AER registers, and in those of each logical device (R452, R471). -/
  aerAbort : Bool := false
  /-- Reads of the diagnostic window under way, with the lines they still have to return, in address order; and the next tag (R451). -/
  diagReads : List (List DiagPart) := []
  diagTag : Nat := 0
  aerHost : BitVec 16 := 0
  /-- LOCKS (R459). -/
  locks : Word := 0
deriving DecidableEq, Repr

/-! ### The object dictionary and configuration versions (chapter 15) -/

/-- A configuration version (R496). Register values by BAR0 offset (an offset not listed has the register's reset
value), label words 0 and 1 by label (a label not listed has the reset values of R300). `role` is the code of R495. -/
structure Version where
  number : Nat
  regs : List (Nat × Word) := []
  labels : List (Label × Word × Word) := []
  setWidth : Nat := 0
  injEnable : Bool := false
  diagLock : Bool := false
  /-- READ_MASK and WRITE_MASK of the 16 rows of R488 that differ from the built-in table. -/
  access : List (Nat × Word × Word) := []
  windowS : Nat := 30
  role : Nat := 0
  confirmed : Bool := true
  activatedAt : Nat := 0
deriving DecidableEq, Repr

/-- Lifetime counters (R490). -/
structure Lifetime where
  powerNs : Nat := 0
  coldBoots : Nat := 0
  warmResets : Nat := 0
  /-- Time in ns by 16 × diode + bin. -/
  temp : Tab Nat := []
  bankActs : Tab Nat := []
  mramWrites : Nat := 0
  mramMaxWord : Nat := 0
  fuseMargin : Nat := 0
deriving DecidableEq, Repr

/-- The dictionary, the versions, the calendar and lifetime counters. -/
structure Dict where
  versions : List Version := []
  active : Nat := 0
  previous : Nat := 0
  pending : Option Version := none
  onTrial : Bool := false
  trialBoots : Nat := 0
  /-- Boundary at which the confirm window expires. -/
  windowEnd : Option Nat := none
  lastVersion : Nat := 0
  lastStep : Nat := 0
  lastReason : Nat := 0
  highest : Nat := 0
  /-- What firmware does with versions: 0 nothing, 3 it stores PENDING, 5 it activates it, 6 it applies the former ACTIVE again
  after a refusal at a boundary, 7 it applies the target of a rollback (R498, R499, R501). -/
  commitStep : Nat := 0
  /-- Label batches still to be staged for the activation under way. -/
  batches : List (List (Label × Word × Word)) := []
  /-- The groups that the last strobe of the application under way names beside the labels. -/
  actMask : BitVec 16 := 0
  /-- The strobe of the application under way that awaits its boundary. -/
  actStrobe : Option Nat := none
  /-- The object-dictionary access table in force (R423, R488): the rows that differ from the built-in table. -/
  access : List (Nat × Word × Word) := []
  readView : Tab Nat := []
  /-- Cursors by identity × 65,536 + index. -/
  cursors : Tab Nat := []
  calSec : Nat := 0
  calNs : Nat := 0
  /-- Boundary count at which the calendar was set. -/
  calAt : Nat := 0
  calValid : Bool := false
  life : Lifetime := {}
  lifeSaved : Lifetime := {}
  lifeFrom : Nat := 0
  retiredAccess : Tab Nat := []
  logOverwritten : Nat := 0
  logSkipped : Nat := 0
  noticesLost : Tab Nat := []
  odBusy : Bool := false
  odDone : Bool := false
  odStatus : Nat := 0
  odType : Nat := 0
  odLen : Nat := 0
deriving DecidableEq, Repr

/-! ### Rind (chapter 16) -/

/-- A tenant's cumulative counters (R508); energy below the millijoule is kept in 1/512 pJ. -/
structure Tenant where
  refused : Nat := 0
  bytesRead : Nat := 0
  bytesWritten : Nat := 0
  bytesMoved : Nat := 0
  capacity : Nat := 0
  energy : Nat := 0
  energyPj : Nat := 0
deriving DecidableEq, Repr

/-- A Rind record (R515), without the fields that follow from its place. -/
structure RindRecord where
  kind : Nat
  gap : Bool
  error : Bool
  unheard : Bool
  seq : Nat
  timeStart : Nat
  timeEnd : Nat
  epochEnd : BitVec 48
  tamperCount : Nat
  causes : BitVec 5
  rotated : Nat
  prevHash : BitVec 384
  tenants : Tab Tenant
  signature : BitVec 768
deriving DecidableEq, Repr

/-- What a host holds, as the last CAPACITY word said (R512). -/
structure HostCap where
  blocks : Nat := 0
  tenant : Nat := 0
  bound : Bool := false
deriving DecidableEq, Repr

/-- The metering island. -/
structure Rind where
  /-- VDD_RIND is present; the POWER_UP step is done. -/
  power : Bool := false
  up : Bool := false
  genesis : Bool := false
  tenants : Tab Tenant := []
  hosts : Tab HostCap := []
  time : Nat := 0
  nextSeq : Nat := 0
  /-- Records held, oldest first, at most 64. -/
  records : List RindRecord := []
  head : BitVec 384 := 0
  tamper : Nat := 0
  causes : BitVec 5 := 0
  gap : Bool := false
  error : Bool := false
  unheard : Bool := false
  lastEpoch : Option (BitVec 48) := none
  rotated : Nat := 0
  periodFrom : Nat := 0
  onDemandAt : Option Nat := none
  /-- Time each cause was last counted, by bit. -/
  causeAt : Tab Nat := []
  tamperRecAt : Option Nat := none
  /-- A TAMPER record is due at the next millisecond that allows one. -/
  tamperDue : Bool := false
  /-- The last record's time. -/
  lastRecord : Nat := 0
  /-- Checkpoint in Rind's MRAM (R511). -/
  savedTenants : Tab Tenant := []
  savedTime : Nat := 0
  /-- The seal copy verified at genesis: words 0x510 to 0x539. -/
  sealCopy : List Word := []
deriving DecidableEq, Repr

/-! ### Package (chapter 17) and the whole state -/

/-- A tenant's tallies of the running epoch, as the tap frame carries them (R512). -/
structure Tally where
  linesRead : Nat := 0
  bytesWritten : Nat := 0
  refused : Nat := 0
  moved : Nat := 0
  acts : Nat := 0
  rows : Nat := 0
deriving DecidableEq, Repr

/-- Rails, TAP and the base die's end of the tally tap. -/
structure Pack where
  /-- VDD_SRD or VDD_SRH is in brown-out (R537). -/
  serdesOff : Bool := false
  /-- AON senses VDD_RIND (R506). -/
  rindPresent : Bool := true
  tap : JtagInstr := .idcode
  tallies : Tab Tally := []
  /-- CAPACITY words as last sent, by host: blocks, tenant, bound; as a packed number plus one. -/
  capSent : Tab Nat := []
  framesSent : Nat := 0
  framesUnheard : Nat := 0
  recordNotices : Nat := 0
  tamperNotices : Nat := 0
deriving DecidableEq, Repr

/-- The base die and the core dies but for line contents, fuses and Rind. -/
structure Base where
  pl : Planner := {}
  /-- Values in force of the registers of the map, and of the counters, by BAR0 offset. -/
  regs : Tab Word := []
  /-- Shadows of the RWS registers (R9). -/
  shadow : Tab Word := []
  /-- What each counter of the map gained in the cycle `incAt`, the last in which one advanced (R46). -/
  incs : Tab Nat := []
  incAt : Nat := 0
  flt : Faults := {}
  mg : Mgmt := {}
  links : Links := {}
  hosts : Hosts := {}
  lay : Layout := {}
  dram : Dram := {}
  coh : Coherence := {}
  mov : Mover := {}
  qos : Qos := {}
  si : Integrity := {}
  pw : Power := {}
  boot : Boot := {}
  dict : Dict := {}
  pack : Pack := {}
  /-- What has left the part, newest first. -/
  out : List Emit := []
  /-- How many free values have been taken. -/
  free : Nat := 0
deriving DecidableEq, Repr

/-- The state of the part, and the queue of commands that wait. -/
structure State where
  pending : List Instr := []
  /-- Bytes of the DRAM arrays: 80 × line place + symbol (see Machine/Codec.lean); an unlisted byte reads as 0. -/
  mem : List Host.Cell := []
  /-- OTP words: copies 0, 1 and 2 in bits [31:0], [63:32] and [95:64] (R431). -/
  otp : Tab (BitVec 96) := []
  rind : Rind := {}
  base : Base := {}
deriving DecidableEq, Repr

/-- The registers as cold reset leaves them. -/
def resetRegs : Tab Word := regResets.foldl (fun t e => Tab.set 0 t e.1 e.2) []

/-- The part under cold reset (R9, R415, R535): the internal cold reset is held, every fuse is unprogrammed. -/
def State.reset : State := { base := { regs := resetRegs, shadow := resetRegs } }

end Sys2Proof.Machine
end

