-- ==== Sys2Proof/Machine/Tick.lean ====
section
/-! DEFINITION. Machine/Tick.lean: the passage of one controller cycle (R27, R40). -/

namespace Sys2Proof.Machine

/-- Cycles of the controller clock since cold reset: 1,000 for each boundary passed, and the cycles since. -/
def Base.now (b : Base) : Nat := 1000 * b.pl.epochs + b.pl.phase

/-- One cycle of the controller clock passes. The boundary itself is the command EPOCH_BOUNDARY, so the count stops
at the epoch's last cycle. -/
def tick (s : State) : State :=
  { s with base := { s.base with pl := { s.base.pl with phase := min 999 (s.base.pl.phase + 1) } } }

end Sys2Proof.Machine
end

