-- ==== Sys2Proof/Machine/Ops.lean ====
section
/-! DEFINITION. Machine/Ops.lean: the named operations over registers and state that every meaning uses: fields, register
values, counters, the parts of the state by number, what leaves the part, fault messages (R382 to R388, R403), MSI-X
vectors (R113, R450) and event records (R390, R391). -/

namespace Sys2Proof.Machine

/-- Bits [hi:lo] of a word as a number (R16). -/
def fld (w : Word) (hi lo : Nat) : Nat := (w.toNat >>> lo) % 2 ^ (hi + 1 - lo)

/-- Bit `i` of a word. -/
def tb (w : Word) (i : Nat) : Bool := w.getLsbD i

/-- A word with `v` in its bits [hi:lo]. -/
def setFld (w : Word) (hi lo v : Nat) : Word :=
  BitVec.ofNat 32 (w.toNat - fld w hi lo * 2 ^ lo + v % 2 ^ (hi + 1 - lo) * 2 ^ lo)

/-- Bit `i` of a 16-bit mask set or cleared. -/
def setBit {n : Nat} (m : BitVec n) (i : Nat) (v : Bool) : BitVec n :=
  if v then m ||| BitVec.ofNat n (2 ^ i) else m &&& ~~~(BitVec.ofNat n (2 ^ i))

/-- A sum held at its limit (the counters of the register maps saturate). -/
def satAdd (limit a n : Nat) : Nat := min limit (a + n)

/-- `n` more than `w`, saturating at 0xFFFF_FFFF. -/
def bumpWord (w : Word) (n : Nat) : Word := BitVec.ofNat 32 (satAdd 0xFFFFFFFF w.toNat n)

/-- Fold a step over the numbers 0 to n - 1. -/
def forN {α : Type} (n : Nat) (f : Nat → α → α) (a : α) : α := (List.range n).foldl (fun a i => f i a) a

/-! ### Registers -/

/-- The value in force of the register at a BAR0 offset. -/
def Base.reg (b : Base) (off : Nat) : Word := Tab.get 0 b.regs off

/-- A field of a register in force. -/
def Base.rf (b : Base) (off hi lo : Nat) : Nat := fld (b.reg off) hi lo

def Base.setReg (b : Base) (off : Nat) (v : Word) : Base := { b with regs := Tab.set 0 b.regs off v }

def Base.setShadow (b : Base) (off : Nat) (v : Word) : Base := { b with shadow := Tab.set 0 b.shadow off v }

/-- Both the value in force and the shadow, as boot code loads a register. -/
def Base.load (b : Base) (off : Nat) (v : Word) : Base := (b.setReg off v).setShadow off v

/-- What the counters of the register map have gained in the present cycle. -/
def Base.incsNow (b : Base) : Tab Nat := if b.incAt = b.now then b.incs else []

/-- A counter of the register map advances, saturating. -/
def Base.bump (b : Base) (off : Nat) (n : Nat := 1) : Base :=
  { b.setReg off (bumpWord (b.reg off) n) with incs := Tab.upd 0 b.incsNow off (· + n), incAt := b.now }

/-- A counter is cleared; what it gains in the cycle of the clear stays, whichever came first (R46). -/
def Base.clearCounter (b : Base) (off : Nat) : Base := b.setReg off (bumpWord 0 (Tab.get 0 b.incsNow off))

/-- Clear the counters at base + 4k for the bits k below n that are set in `v`. -/
def Base.clearCounters (b : Base) (base n : Nat) (v : Word) : Base :=
  forN n (fun k b => if tb v k then b.clearCounter (base + 4 * k) else b) b

/-! ### Parts of the state by number -/

def Base.port (b : Base) (i : Nat) : Port := Tab.get {} b.links.ports i
def Base.setPort (b : Base) (i : Nat) (p : Port) : Base :=
  { b with links := { b.links with ports := Tab.set {} b.links.ports i p } }
def Base.updPort (b : Base) (i : Nat) (f : Port → Port) : Base := b.setPort i (f (b.port i))

def Base.lane (b : Base) (i : Nat) : Lane := Tab.get {} b.links.lanes i
def Base.setLane (b : Base) (i : Nat) (l : Lane) : Base :=
  { b with links := { b.links with lanes := Tab.set {} b.links.lanes i l } }
def Base.updLane (b : Base) (i : Nat) (f : Lane → Lane) : Base := b.setLane i (f (b.lane i))

def Base.ld (b : Base) (h : Nat) : LogicalDev := Tab.get {} b.hosts.lds h
def Base.setLd (b : Base) (h : Nat) (d : LogicalDev) : Base :=
  { b with hosts := { b.hosts with lds := Tab.set {} b.hosts.lds h d } }
def Base.updLd (b : Base) (h : Nat) (f : LogicalDev → LogicalDev) : Base := b.setLd h (f (b.ld h))

def Base.chan (b : Base) (c : Nat) : Chan := Tab.get {} b.dram.chans c
def Base.setChan (b : Base) (c : Nat) (x : Chan) : Base :=
  { b with dram := { b.dram with chans := Tab.set {} b.dram.chans c x } }
def Base.updChan (b : Base) (c : Nat) (f : Chan → Chan) : Base := b.setChan c (f (b.chan c))

def Base.canes (b : Base) (c : Nat) : ChanCanes := Tab.get {} b.si.canes c
def Base.setCanes (b : Base) (c : Nat) (x : ChanCanes) : Base :=
  { b with si := { b.si with canes := Tab.set {} b.si.canes c x } }
def Base.updCanes (b : Base) (c : Nat) (f : ChanCanes → ChanCanes) : Base := b.setCanes c (f (b.canes c))

def Base.guard (b : Base) (d : Nat) : DieGuard := Tab.get {} b.si.guards d
def Base.setGuard (b : Base) (d : Nat) (g : DieGuard) : Base :=
  { b with si := { b.si with guards := Tab.set {} b.si.guards d g } }
def Base.updGuard (b : Base) (d : Nat) (f : DieGuard → DieGuard) : Base := b.setGuard d (f (b.guard d))

def Base.set_ (b : Base) (i : Nat) : SetPower := Tab.get {} b.pw.sets i
def Base.setSet (b : Base) (i : Nat) (x : SetPower) : Base :=
  { b with pw := { b.pw with sets := Tab.set {} b.pw.sets i x } }
def Base.updSet (b : Base) (i : Nat) (f : SetPower → SetPower) : Base := b.setSet i (f (b.set_ i))

def Base.diode (b : Base) (d : Nat) : Diode := Tab.get {} b.pw.diodes d
def Base.setDiode (b : Base) (d : Nat) (x : Diode) : Base :=
  { b with pw := { b.pw with diodes := Tab.set {} b.pw.diodes d x } }

def Base.bus (b : Base) (i : Nat) : RowBus := Tab.get {} b.mov.buses i
def Base.setBus (b : Base) (i : Nat) (x : RowBus) : Base :=
  { b with mov := { b.mov with buses := Tab.set {} b.mov.buses i x } }
def Base.updBus (b : Base) (i : Nat) (f : RowBus → RowBus) : Base := b.setBus i (f (b.bus i))

def Base.queue (b : Base) (i : Nat) : MoverQ := Tab.get {} b.mov.queues i
def Base.setQueue (b : Base) (i : Nat) (x : MoverQ) : Base :=
  { b with mov := { b.mov with queues := Tab.set {} b.mov.queues i x } }
def Base.updQueue (b : Base) (i : Nat) (f : MoverQ → MoverQ) : Base := b.setQueue i (f (b.queue i))

def Base.label (b : Base) (l : Nat) : LabelEntry := Tab.get {} b.qos.table l
def Base.setLabel (b : Base) (l : Nat) (e : LabelEntry) : Base :=
  { b with qos := { b.qos with table := Tab.set {} b.qos.table l e } }
def Base.updLabel (b : Base) (l : Nat) (f : LabelEntry → LabelEntry) : Base := b.setLabel l (f (b.label l))

def Base.mbx (b : Base) (c : Nat) : MbxChan := Tab.get {} b.mg.mbx c
def Base.setMbx (b : Base) (c : Nat) (x : MbxChan) : Base :=
  { b with mg := { b.mg with mbx := Tab.set {} b.mg.mbx c x } }
def Base.updMbx (b : Base) (c : Nat) (f : MbxChan → MbxChan) : Base := b.setMbx c (f (b.mbx c))

/-- Counts of the running telemetry interval for a channel (R47). -/
def Base.countChan (b : Base) (c : Nat) (f : ChanCounts → ChanCounts) : Base :=
  { b with pl := { b.pl with acc := Tab.upd {} b.pl.acc c f } }

/-- An ACT, REFpb or TRFpb of a bank in its lifetime count (R490). -/
def Base.countAct (b : Base) (ch bank : Nat) : Base :=
  { b with dict := { b.dict with life := { b.dict.life with bankActs := Tab.upd 0 b.dict.life.bankActs (32 * ch + bank) (fun n => satAdd (2 ^ 64 - 1) n 1) } } }

/-- Tallies of a tenant for the tap frame (R512). -/
def Base.tally (b : Base) (t : Nat) (f : Tally → Tally) : Base :=
  { b with pack := { b.pack with tallies := Tab.upd {} b.pack.tallies t f } }

def Base.updBoot (b : Base) (f : Boot → Boot) : Base := { b with boot := f b.boot }
def Base.updDict (b : Base) (f : Dict → Dict) : Base := { b with dict := f b.dict }
def Base.updMg (b : Base) (f : Mgmt → Mgmt) : Base := { b with mg := f b.mg }
def Base.updQos (b : Base) (f : Qos → Qos) : Base := { b with qos := f b.qos }
def Base.updPw (b : Base) (f : Power → Power) : Base := { b with pw := f b.pw }
def Base.updFlt (b : Base) (f : Faults → Faults) : Base := { b with flt := f b.flt }
def Base.updMov (b : Base) (f : Mover → Mover) : Base := { b with mov := f b.mov }
def Base.updSi (b : Base) (f : Integrity → Integrity) : Base := { b with si := f b.si }
def Base.updCoh (b : Base) (f : Coherence → Coherence) : Base := { b with coh := f b.coh }
def Base.updLay (b : Base) (f : Layout → Layout) : Base := { b with lay := f b.lay }
def Base.updDram (b : Base) (f : Dram → Dram) : Base := { b with dram := f b.dram }
def Base.updPl (b : Base) (f : Planner → Planner) : Base := { b with pl := f b.pl }
def Base.updPack (b : Base) (f : Pack → Pack) : Base := { b with pack := f b.pack }

/-- What the part puts out. -/
def Base.emit (b : Base) (e : Emit) : Base := { b with out := e :: b.out }

/-- Take the next free value's number. -/
def Base.takeFree (b : Base) : Nat × Base := (b.free, { b with free := b.free + 1 })

/-- The part is alive: the cold reset is released, no thermal trip is latched (R376, R535). -/
def Base.alive (b : Base) : Bool := !b.boot.coldHeld && !b.pw.tripped

/-- Firmware runs: BOOT_PHASE is RUN and the part is not in recovery or VOID (R422, R427, R429). -/
def Base.fwRuns (b : Base) : Bool := b.alive && b.boot.run && !b.boot.recovery && b.boot.lifecycle != 5

/-- The management endpoint answers (R376, R416, R422). -/
def Base.mgmtUp (b : Base) : Bool := b.alive && b.boot.run && !b.mg.perstAsserted

/-- The endpoint offers the registers of every chapter, and not only those of chapter 13 (R427, R429). -/
def Base.mgmtFull (b : Base) : Bool := b.mgmtUp && !b.boot.recovery && b.boot.lifecycle != 5

/-! ### Fault messages -/

/-- The sources whose messages a reset of the block shadows (R401). -/
def dependent (block src : Nat) : Bool :=
  if block < 16 then
    let p := block / 2
    (decide (8 * p ≤ src) && decide (src ≤ 8 * p + 7)) || src == 0x40 + block || src == 0x58 + p || src == 0x80 + block
      || src == 0xA0 + block
  else if block == 16 then
    src == 0x300 || src == 0x310 || src == 0x320 || src == 0x330 || (decide (0x341 ≤ src) && decide (src ≤ 0x344))
      || src == 0x3F0 || (decide (0x4C0 ≤ src) && decide (src ≤ 0x4D1))
  else if block == 17 then
    src == 0x500 || (decide (0x510 ≤ src) && decide (src ≤ 0x523)) || (decide (0x5BA ≤ src) && decide (src ≤ 0x5BE))
  else decide (src < 0x5E0)

/-- The place a message takes in its source's outbox (R384): the outbox, the messages waiting in their blocks, and
whether a message was dropped. A block that makes several messages in one cycle holds the later ones until the outbox has
room, so that each is sent, as in the example of R319 (DEDUCED, entry 45). -/
def enqueueMsg (outbox waiting : List Msg) (m : Msg) : List Msg × List Msg × Bool :=
  let mine := outbox.filter fun x => x.source == m.source
  if mine.length < 2 then (outbox ++ [m], waiting, false)
  else if (mine ++ waiting.filter fun x => x.source == m.source).any (fun x => x.time == m.time) = true then (outbox, waiting ++ [m], false)
  else if m.kind.cls = .corrected then (outbox, waiting, true)
  else if (mine.any fun x => decide (x.kind.cls = .corrected)) = true then
    let hit : Msg → Bool := fun x => x.source == m.source && decide (x.kind.cls = .corrected)
    ((dropFirst hit outbox.reverse).reverse ++ [m], waiting, true)
  else (outbox, waiting ++ [m], false)

/-- A message enters the outbox of its source (R384). -/
def Base.enqueue (b : Base) (m : Msg) : Base :=
  let (o, w, dropped) := enqueueMsg b.flt.outbox b.flt.waiting m
  let b := { b with flt := { b.flt with outbox := o, waiting := w } }
  if dropped then b.bump Reg.DROPPED_COUNT else b

/-- The shadows a source lies in that are open (R402). -/
def Base.shadowsOf (b : Base) (src : Nat) : List Shadow := b.flt.shadows.filter fun s => dependent s.block src

/-- Kinds that R446 and R480 hold until firmware runs. -/
def heldInBoot (m : Msg) : Bool :=
  m.kind != .bootRecovery && ((decide (0x5C0 ≤ m.source) && decide (m.source < 0x5E0)) || m.kind == .channelTableInvalid
    || m.kind == .thermalTrip || m.kind == .layoutWidthInvalid)

/-- Send a message (R382 to R384), outside any shadow. -/
def Base.sendMsg (b : Base) (m : Msg) : Base :=
  if !b.boot.run && heldInBoot m then { b with flt := { b.flt with bootHeld := b.flt.bootHeld ++ [m] } }
  else b.enqueue m

/-- The host that a source belongs to (R127, R259, R299, R383): host binding, snoop channel or mover queues. -/
def sourceHost (src : Nat) : Option HostId :=
  if src / 16 = 0x09 ∨ src / 16 = 0x41 ∨ src / 16 = 0x4C then some (BitVec.ofNat 4 src) else none

/-- The message a block makes when it detects a fault. -/
def Base.mkMsg (b : Base) (k : Kind) (src addr : Nat) (host : Option HostId := none) (injected : Bool := false) : Msg :=
  { source := src, kind := k, host := host.orElse fun _ => sourceHost src, injected := injected, addr := BitVec.ofNat 40 addr, epoch := b.pl.epoch, time := b.now }

/-- Send a fault message. Inside an open shadow of its source a CORRECTED or CONTAINED message is counted and goes no
further (R403). -/
def Base.send (b : Base) (k : Kind) (src addr : Nat) (host : Option HostId := none) (injected : Bool := false) : Base :=
  let m := b.mkMsg k src addr host injected
  if k.cls ≠ .fatal ∧ (b.shadowsOf src) ≠ [] then
    let b := b.bump Reg.SHADOWED_COUNT
    { b with flt := { b.flt with shadows := b.flt.shadows.map fun s =>
        if (dependent s.block src) = true then { s with count := satAdd 0xFFFF s.count 1, sent := s.sent ++ [m] } else s } }
  else b.sendMsg m

/-- Send a message that reports a reset itself, outside its shadow (R401). -/
def Base.sendOutside (b : Base) (k : Kind) (src addr : Nat) (host : Option HostId := none) : Base :=
  b.sendMsg (b.mkMsg k src addr host)

/-- Open a reset shadow (R402): it closes no later than 100 µs after it opened. A shadow of the block already open is
replaced, keeping its count. -/
def Base.openShadow (b : Base) (block closeIn : Nat) : Base :=
  let old := (b.flt.shadows.find? fun s => s.block == block).getD { block := block, openedAt := 0, closeAt := 0 }
  let s : Shadow := { old with openedAt := b.now, closeAt := b.now + min 100000 closeIn }
  { b with flt := { b.flt with shadows := (b.flt.shadows.filter fun s => s.block != block) ++ [s] } }

/-! ### Interrupts and event records -/

/-- The vector-control word of a management vector masks it. -/
def Base.msixMasked (b : Base) (v : Nat) : Bool := !(Tab.get 0 b.mg.msixTable (4 * v + 3)).getLsbD 0

/-- Raise a management MSI-X vector (R450): a message leaves, or while the vector is masked its pending bit is set. The
table's control words are held inverted in bit 0, so a stored 0 is a masked vector (PRESUMED, PCIe base). -/
def Base.msixMgmt (b : Base) (v : Nat) : Base :=
  if b.msixMasked v then b.updMg fun m => { m with msixPending := setBit m.msixPending v true } else b.emit (.msixMgmt v)

/-- Raise MSI-X vector `v` of a logical device (R113, R391). A masked vector keeps its pending bit; with MSI-X not
enabled nothing leaves. -/
def Base.msixHost (b : Base) (h v : Nat) : Base :=
  let d := b.ld h
  if !d.msixEnable then b
  else if d.msixMask.getLsbD v then b.setLd h { d with msixPending := setBit d.msixPending v true }
  else b.emit (.msixHost (BitVec.ofNat 4 h) v)

/-- A primary-mailbox command of a logical device completes: its result, and vector 0 (R113). -/
def Base.reply (b : Base) (h : HostId) (r : Reply) : Base := (b.emit (.hostReply h r)).msixHost h.toNat 0

/-- Place an event record in a log of a logical device (R390, R391): at most 64 a log, further records counted as lost;
vector 0 is raised for a new record. -/
def Base.addRecord (b : Base) (h : Nat) (log : EvLog) (form : EvForm) (msg : Option Msg) (logNo : Nat) : Base :=
  let held := (b.flt.records.filter fun r => r.ld.toNat == h && decide (r.log = log)).length
  if held ≥ 64 then { b with flt := { b.flt with lostRecords := Tab.upd 0 b.flt.lostRecords (8 * h + logNo) (· + 1) } }
  else
    let r : EvRec := { ld := BitVec.ofNat 4 h, log := log, form := form, msg := msg, handle := b.flt.nextHandle }
    let b := { b with flt := { b.flt with records := b.flt.records ++ [r], nextHandle := b.flt.nextHandle + 1 } }
    b.msixHost h 0

/-! ### Results of meanings -/

/-- A meaning that changes the base and no line, fuse or Rind. -/
def State.onBase (s : State) (f : Base → Base) : State := { s with base := f s.base }

/-- The next state in which a command did this to the base. -/
def State.then_ (s : State) (f : Base → Base) : Host.Outcome State Fault Refusal := .next (s.onBase f)

/-- A command that reaches a part which cannot act on it has no effect. -/
def State.whenBase (s : State) (p : Base → Bool) (f : Base → Base) : Host.Outcome State Fault Refusal :=
  s.then_ fun b => if p b then f b else b

end Sys2Proof.Machine
end

