-- ==== Sys2Proof/Machine/Operands.lean ====
section
/-! DEFINITION. Machine/Operands.lean: every form of address the manual gives: HDM decoding (R96), effective ranges
(R98), the address map with its hash and reverse (R130, R131), stripes, octants (R134), sets and quadrants (R129), the
sharing windows (R229) and label windows (R123). -/

namespace Sys2Proof.Machine

/-- Where a line lies: channel, bank, row and column. -/
structure Place where
  ch : Nat
  bank : Nat
  row : Nat
  col : Nat
deriving DecidableEq, Repr

/-- The hash pieces of a raw row folded into a bank number (R131). -/
def bankHash (x r : Nat) : Nat := x ^^^ (r % 32) ^^^ ((r / 32) % 32) ^^^ ((r / 1024) % 32)

/-- The address map of R131 for set width 2^n, from a DPA. -/
def placeOf (n dpa : Nat) : Place :=
  let col := ((dpa >>> 6) % 4) + 4 * ((dpa >>> (8 + n)) % 4)
  let cis := (dpa >>> 8) % 2 ^ n
  let b := (dpa >>> (10 + n)) % 32
  let r := (dpa >>> (15 + n)) % 65536
  let set := dpa >>> (31 + n)
  { ch := set * 2 ^ n + cis, bank := bankHash b r, row := r ^^^ (r >>> 8), col := col }

/-- The reverse map of R131: the DPA of a line's place. -/
def dpaOf (n : Nat) (p : Place) : Nat :=
  let r := p.row ^^^ (p.row >>> 8)
  let b := bankHash p.bank r
  (p.ch >>> n) * 2 ^ (31 + n) + r * 2 ^ (15 + n) + b * 2 ^ (10 + n) + (p.col / 4) * 2 ^ (8 + n)
    + (p.ch % 2 ^ n) * 256 + (p.col % 4) * 64

/-- The place of a line (DPA / 64) under the width in force. -/
def Base.place (b : Base) (line : Nat) : Place := placeOf b.lay.n (64 * line)

/-- The line at a place. -/
def Base.lineAt (b : Base) (p : Place) : Nat := dpaOf b.lay.n p / 64

/-- Stripe of a line: DPA[36:16] (R132). -/
def stripeOf (line : Nat) : Nat := line / 1024
/-- 256 MiB block of a line: DPA[36:28] (R101). -/
def blockOf (line : Nat) : Nat := line / 4194304
/-- Octant of a line: DPA[36:28+n] (R134). -/
def Base.octantOf (b : Base) (line : Nat) : Nat := line >>> (22 + b.lay.n)
/-- How many octants there are (R129). -/
def Base.octants (b : Base) : Nat := 2 ^ (9 - b.lay.n)
/-- How many sets there are (R129). -/
def Base.sets (b : Base) : Nat := 2 ^ (6 - b.lay.n)
/-- The set of a channel. -/
def Base.setOf (b : Base) (ch : Nat) : Nat := ch >>> b.lay.n
/-- The set of an octant: 8 octants a set. -/
def setOfOctant (k : Nat) : Nat := k / 8
/-- The channels of a set. -/
def Base.chansOfSet (b : Base) (s : Nat) : List Nat := (List.range (2 ^ b.lay.n)).map (· + s * 2 ^ b.lay.n)
/-- The die of a channel (R131). -/
def dieOf (ch : Nat) : Nat := ch / 4
/-- The quadrant of a channel, which is its row bus (R131). -/
def quadOf (ch : Nat) : Nat := ch % 4
/-- The set of a die. -/
def Base.setOfDie (b : Base) (d : Nat) : Nat := b.setOf (4 * d)
/-- The 256 MiB blocks of an octant. -/
def Base.blocksOfOctant (b : Base) (k : Nat) : List Nat :=
  let per := 2 ^ b.lay.n
  (List.range per).map (· + k * per)

/-! ### Effective ranges -/

/-- Registers base and limit at `o` and `o + 4` name a valid range that holds the block (R98, R125). -/
def Base.rangeHolds (b : Base) (o blk : Nat) : Bool :=
  let lo := b.reg o
  tb lo 31 && decide (fld lo 8 0 ≤ blk) && decide (blk ≤ b.rf (o + 4) 8 0)

/-- The block lies inside a firewall bound of the host (R98). -/
def Base.inBounds (b : Base) (h blk : Nat) : Bool := (List.range 4).any fun k => b.rangeHolds (Reg.FW_BOUND_BASE h k) blk

/-- The block lies in a static allocation of the host. -/
def Base.inAlloc (b : Base) (h blk : Nat) : Bool := (List.range 8).any fun k => b.rangeHolds (Reg.ALLOC_BASE h k) blk

/-- The block lies in an extent of the host that is in force: accepted, applied at a boundary and not yet left
(R102, R103). -/
def Base.inExtent (b : Base) (h blk : Nat) : Bool :=
  b.hosts.extents.any fun e => e.host.toNat == h && decide (e.base ≤ blk) && decide (blk ≤ e.limit)
    && (e.stage == .inForce || e.stage == .releasing)

/-- The block is held after it left another host, and this host did not have it then (R100). -/
def Base.heldForOther (b : Base) (h blk : Nat) : Bool :=
  b.hosts.held.any fun r => r.host.toNat != h && !r.others.getLsbD h && decide (r.base ≤ blk) && decide (blk ≤ r.limit)

/-- The block lies in the host's effective ranges (R98); one that is held for another host is not received yet (R100). -/
def Base.inEff (b : Base) (h blk : Nat) : Bool := (b.inAlloc h blk || b.inExtent h blk) && b.inBounds h blk && !b.heldForOther h blk

/-- The blocks of the host's effective ranges. -/
def Base.effBlocks (b : Base) (h : Nat) : List Nat := (List.range 512).filter fun k => b.inEff h k

/-- Some line of the DPA range [lo, hi] in blocks lies in the host's effective ranges. -/
def Base.effMeets (b : Base) (h : Nat) (blocks : List Nat) : Bool := blocks.any fun k => b.inEff h k

/-- Bytes lo to hi lie wholly inside the host's effective ranges. -/
def Base.effHolds (b : Base) (h lo hi : Nat) : Bool :=
  (List.range (hi / 268435456 - lo / 268435456 + 1)).all fun i =>
    decide (lo / 268435456 + i < 512) && b.inEff h (lo / 268435456 + i)

/-- HOST_BIND.BOUND of the host, the port block it is bound to, and the boot-written mask allows that port (R94). -/
def Base.boundTo (b : Base) (h p : Nat) : Bool :=
  tb (b.reg (Reg.HOST_BIND h)) 0 && b.rf (Reg.HOST_BIND h) 4 1 == p && tb (b.reg (Reg.HOST_PORT_MASK h)) p

def Base.bound (b : Base) (h : Nat) : Bool := tb (b.reg (Reg.HOST_BIND h)) 0

/-- The port block a bound host is reached on. -/
def Base.portOf (b : Base) (h : Nat) : Nat := b.rf (Reg.HOST_BIND h) 4 1

/-- The logical devices bound to a port block. -/
def Base.hostsOn (b : Base) (p : Nat) : List Nat := (List.range 16).filter fun h => b.boundTo h p

/-- The port carries a logical device: bound to it, and in SLD mode the one that PORT_LD_MODE names (R93, R94). -/
def Base.carriesLd (b : Base) (h p : Nat) : Bool :=
  b.boundTo h p && (tb (b.reg (Reg.PORT_LD_MODE p)) 0 || b.rf (Reg.PORT_LD_MODE p) 4 1 == h)

/-- The logical devices a port carries (R93). -/
def Base.ldsOn (b : Base) (p : Nat) : List Nat := (List.range 16).filter fun h => b.carriesLd h p

/-- The host's logical device is reached on the port its HOST_BIND names (R93, R94). -/
def Base.carried (b : Base) (h : Nat) : Bool := b.carriesLd h (b.portOf h)

/-- The address of a message of a port as a whole, and of one lane (R84, R127). -/
def portAddr (k : Nat) : Nat := k / 2 * 16 + 15
def laneAddr (l : Nat) : Nat := l / 8 * 16 + l % 8

/-- The logical device a message of the port names: its LD-ID in MLD mode, SLD_LD in SLD mode (R93). -/
def Base.ldOf (b : Base) (p ldId : Nat) : Nat :=
  let m := b.reg (Reg.PORT_LD_MODE p)
  if tb m 0 then ldId else fld m 4 1

/-- HDM decoding of one decoder (R96): the DPA, when the HPA lies inside it and its granule is this part's. -/
def Decoder.hit (d : Decoder) (hpa : Nat) : Option Nat :=
  if d.committed ∧ d.base ≤ hpa ∧ hpa < d.base + d.size then
    let g := (hpa - d.base) / d.gran
    if g % d.ways = d.pos then some (d.dpaBase + g / d.ways * d.gran + (hpa - d.base) % d.gran) else none
  else none

/-- The DPA of an HPA, or a decode miss (R96). -/
def Base.hdm (b : Base) (h hpa : Nat) : Option Nat := (b.ld h).decoders.findSome? fun d => d.hit hpa

/-! ### Windows -/

/-- The sharing window that holds a block, with its members (R229). -/
def Base.windowOf (b : Base) (blk : Nat) : Option Nat := (List.range 32).find? fun k => b.rangeHolds (Reg.SW_BASE k) blk

/-- Member mask of a sharing window. -/
def Base.membersOf (b : Base) (k : Nat) : BitVec 16 := BitVec.ofNat 16 (b.rf (Reg.SW_MEMBERS k) 15 0)

/-- The host is a member of the window that holds the block: the block is HDM-DB for it. -/
def Base.hdmDb (b : Base) (blk : Nat) : Bool := (b.windowOf blk).isSome

/-- Label and deadline (16 ns units) that the host's windows give a DPA, else its default label (R123). -/
def Base.windowLabel (b : Base) (h dpa : Nat) : Label × Nat :=
  let page := dpa / 4096
  match (List.range 64).find? fun w =>
      let lo := b.reg (Reg.WIN_BASE h w)
      tb lo 31 && decide (fld lo 24 0 ≤ page) && decide (page ≤ b.rf (Reg.WIN_LIMIT h w) 24 0) with
  | some w => (BitVec.ofNat 16 (b.rf (Reg.WIN_LABEL h w) 15 0), b.rf (Reg.WIN_LABEL h w) 27 16)
  | none => (BitVec.ofNat 16 (b.rf (Reg.HOST_DEFAULT_LABEL h) 15 0), 0)

/-- The default label of a host. -/
def Base.defaultLabel (b : Base) (h : Nat) : Label := BitVec.ofNat 16 (b.rf (Reg.HOST_DEFAULT_LABEL h) 15 0)

/-! ### Mover rings (R266) -/

/-- Bytes of a ring of the queue. -/
def Base.ringBytes (b : Base) (q : Nat) : Nat := 64 * 2 ^ b.rf (Reg.MQ_CFG q) 3 0

end Sys2Proof.Machine
end

