-- ==== Sys2Proof/Machine/Mailbox.lean ====
section
/-! DEFINITION. Machine/Mailbox.lean: the parties of a mailbox channel (R466), and what a reset, a link down, an isolation or a
domain power-off does to the banks and locks (R476). -/

namespace Sys2Proof.Machine

/-- The sender of a valid channel (R466). -/
def Base.mbxSender (b : Base) (c : Nat) : Option Nat :=
  let t := b.reg (Reg.MBX_TABLE c)
  if tb t 31 then some (fld t 4 0) else none
/-- The receiver of a valid channel. -/
def Base.mbxReceiver (b : Base) (c : Nat) : Option Nat :=
  let t := b.reg (Reg.MBX_TABLE c)
  if tb t 31 then some (fld t 12 8) else none
/-- The channels of a bank. -/
def Base.bankChans (b : Base) (bank : Nat) : List Nat := (List.range 64).filter fun c => b.mbxReceiver c == some bank

/-- The FIFOs of a bank are emptied; each notice lost is counted and one message sent (R476). -/
def Base.emptyBank (b : Base) (bank : Nat) : Base :=
  let cs := b.bankChans bank
  let lost := (cs.map fun c => (b.mbx c).fifo.length).sum
  let b := cs.foldl (fun b c => b.updMbx c fun m => { m with fifo := [] }) b
  if lost = 0 then b
  else (b.updDict fun d => { d with noticesLost := Tab.upd 0 d.noticesLost bank (· + lost) }).send .mbxNoticesLost (0x588 + bank) 0

/-- The locks that an identity owns are freed (R476). -/
def Base.freeLocksOf (b : Base) (who : Nat) : Base :=
  forN 64 (fun c b => if (b.mbx c).lock = who + 1 then b.updMbx c fun m => { m with lock := 0 } else b) b

/-- What an isolation, or a link down, of a host does to its bank, its locks and its declarations (R357, R476). -/
def Base.hostReset (b : Base) (h : Nat) : Base :=
  let b := (b.emptyBank h).freeLocksOf h
  b.updPw fun p => { p with
    decls := p.decls.filter (fun e => e.1 / 64 != h)
    waits := p.waits.filter (fun w => w.host.toNat != h) }

end Sys2Proof.Machine
end

