-- ==== Sys2Proof/Machine/Codec.lean ====
section
/-! DEFINITION. Machine/Codec.lean: the line code: Reed-Solomon (80, 68) over GF(2^8) with errors and erasures (R138, R191
to R193), and the line's 640-bit codeword (R135, R136, R138). -/

namespace Sys2Proof.Machine

/-! ### The field -/

/-- Multiply by α: shift, and reduce by 0x11D. -/
def gfDouble (a : Nat) : Nat := if a < 128 then 2 * a else (2 * a) ^^^ 0x11D

/-- Product in GF(2^8) (R138): add a·2^i for the bits of b. -/
def gfMul (a b : Nat) : Nat :=
  (forN 8 (fun i p => ((if b.testBit i then p.1 ^^^ p.2 else p.1), gfDouble p.2)) ((0, a) : Nat × Nat)).1

/-- a^n. -/
def gfPow (a : Nat) : Nat → Nat
  | 0 => 1
  | n + 1 => gfMul a (gfPow a n)

/-- The inverse, a^254. -/
def gfInv (a : Nat) : Nat :=
  let sq := fun x => gfMul x x
  let a2 := sq a; let a4 := sq a2; let a8 := sq a4; let a16 := sq a8; let a32 := sq a16; let a64 := sq a32; let a128 := sq a64
  gfMul a2 (gfMul a4 (gfMul a8 (gfMul a16 (gfMul a32 (gfMul a64 a128)))))

/-- Polynomials, coefficient of x^0 first. -/
abbrev Poly := List Nat

def polyAdd : Poly → Poly → Poly
  | [], q => q
  | p, [] => p
  | a :: p, b :: q => (a ^^^ b) :: polyAdd p q

def polyScale (c : Nat) (p : Poly) : Poly := p.map (gfMul c)

def polyMul : Poly → Poly → Poly
  | [], _ => []
  | a :: p, q => polyAdd (polyScale a q) (0 :: polyMul p q)

/-- Value at x (Horner). -/
def polyEval (p : Poly) (x : Nat) : Nat := p.foldr (fun c acc => c ^^^ gfMul acc x) 0

/-- Formal derivative in characteristic 2. -/
def polyDeriv (p : Poly) : Poly := (p.drop 1).mapIdx fun i c => if i % 2 = 0 then c else 0

/-- α^(79 − i), the locator of symbol c_i (R138). -/
def locator (i : Nat) : Nat := gfPow 2 (79 - i)

/-! ### Symbols -/

/-- The 80 symbols of a codeword: c_i is bits [8i+7:8i]. -/
def symbols (w : BitVec 640) : List Nat := (List.range 80).map fun i => (w.toNat >>> (8 * i)) % 256

/-- The codeword of a list of symbols, c0 first. -/
def fromSymbols (l : List Nat) : BitVec 640 := BitVec.ofNat 640 (l.foldr (fun c acc => c % 256 + 256 * acc) 0)

/-- g(x) = (x − α^0) … (x − α^11), coefficient of x^11 first, the leading 1 left out. -/
def genTail : List Nat :=
  ((forN 12 (fun i g => polyMul [gfPow 2 i, 1] g) [1]).reverse).drop 1

/-- One symbol into the divider of m(x) by g(x). -/
def divStep (r : List Nat) (c : Nat) : List Nat :=
  match r with
  | [] => []
  | h :: t => let f := c ^^^ h; polyAdd (t ++ [0]) (if f = 0 then [] else polyScale f genTail)

/-- The check symbols c68 to c79 of the symbols c0 to c67 (R138). -/
def checkSymbols (m : List Nat) : List Nat := m.foldl divStep (List.replicate 12 0)

/-! ### Lines -/

/-- The metadata bits [31:0] as stored: reserved bits zero (R135, R136). -/
def Meta.bits (m : Meta) : Nat :=
  m.sharers.toNat + m.st.toNat * 2 ^ 16 + (if m.poison then 2 ^ 18 else 0) + (if m.healed then 2 ^ 19 else 0)

/-- Metadata as read: reserved bits are ignored and state 11 is taken as 00 (R136). -/
def Meta.ofBits (n : Nat) : Meta :=
  let st := (n >>> 16) % 4
  { sharers := BitVec.ofNat 16 n, st := if st = 3 then 0 else BitVec.ofNat 2 st, poison := n.testBit 18, healed := n.testBit 19 }

/-- The codeword of a line (R138). The zero line is the zero codeword (R141). -/
def encodeLine (d : Data) (m : Meta) : BitVec 640 :=
  let body := (List.range 64).map (fun i => (d.toNat >>> (8 * i)) % 256) ++ (List.range 4).map (fun i => (m.bits >>> (8 * i)) % 256)
  if d = 0 ∧ m = {} then 0 else fromSymbols (body ++ checkSymbols body)

/-- Data bytes of a codeword as stored. -/
def wordData (w : BitVec 640) : Data := w.extractLsb' 0 512
/-- Metadata of a codeword as stored. -/
def wordMeta (w : BitVec 640) : Meta := Meta.ofBits ((w.toNat >>> 512) % 2 ^ 32)

/-! ### Decoding -/

/-- The four outcomes of R193. -/
inductive Outcome4 where
  | clean | cleanErased | corrected | uncorrectable
deriving DecidableEq, Repr

/-- What a decode gives: outcome, data, metadata, and the corrected positions other than declared erasures with the value
XORed at each. For UNCORRECTABLE, data and metadata are as read. -/
structure Decoded where
  out : Outcome4
  data : Data
  mt : Meta
  errs : List (Nat × Nat) := []
deriving DecidableEq, Repr

/-- Syndromes S_0 to S_11. -/
def syndromes (r : List Nat) : List Nat := (List.range 12).map fun j => r.foldl (fun acc c => gfMul acc (gfPow 2 j) ^^^ c) 0

/-- State of the Berlekamp-Massey recursion. -/
structure Bm where
  c : Poly := [1]
  b : Poly := [1]
  l : Nat := 0
  m : Nat := 1
  d : Nat := 1
deriving DecidableEq, Repr

/-- One step on the sequence `t` at index n. -/
def Bm.step (t : List Nat) (n : Nat) (s : Bm) : Bm :=
  let disc := (List.range (s.l + 1)).foldl (fun acc i => acc ^^^ gfMul (s.c.getD i 0) (t.getD (n - i) 0)) 0
  if disc = 0 then { s with m := s.m + 1 }
  else
    let k := gfMul disc (gfInv s.d)
    let c' := polyAdd s.c (List.replicate s.m 0 ++ polyScale k s.b)
    if 2 * s.l ≤ n then { c := c', b := s.c, l := n + 1 - s.l, m := 1, d := disc } else { s with c := c', m := s.m + 1 }

/-- The error locator of a sequence of n modified syndromes. -/
def errorLocator (t : List Nat) (n : Nat) : Poly × Nat :=
  let s := forN n (fun k s => Bm.step t k s) {}
  (s.c, s.l)

/-- Decode the symbols `r` with the declared erasures `er` (R191): the corrected symbols, or none when the pattern is
detected beyond capacity. A corrected word is a codeword that differs from `r` in the erasures and in at most
⌊(12 − f) / 2⌋ other symbols. -/
def rsCorrect (r : List Nat) (er : List Nat) : Option (List Nat) :=
  let s := syndromes r
  if s.all (· == 0) then some r
  else
    let f := er.length
    let gamma := er.foldl (fun g e => polyMul [1, locator e] g) [1]
    let xi := (polyMul s gamma).take 12
    let (lam, l) := errorLocator (xi.drop f) (12 - f)
    let psi := polyMul lam gamma
    let omega := (polyMul s psi).take 12
    let dpsi := polyDeriv psi
    let fix := r.mapIdx fun i c =>
      let x := locator i
      let xi := gfInv x
      if polyEval psi xi = 0 then c ^^^ gfMul x (gfMul (polyEval omega xi) (gfInv (polyEval dpsi xi))) else c
    let errs := ((List.range 80).filter fun i => !(er.contains i) && fix.getD i 0 != r.getD i 0).length
    if f ≤ 12 ∧ 2 * l + f ≤ 12 ∧ 2 * errs + f ≤ 12 ∧ (syndromes fix).all (· == 0) = true then some fix else none

/-- The decode of a line (R190 to R193). -/
def decodeWord (er : List Nat) (w : BitVec 640) : Decoded :=
  let r := symbols w
  match rsCorrect r er with
  | none => { out := .uncorrectable, data := wordData w, mt := wordMeta w }
  | some x =>
    let w' := fromSymbols x
    let errs := ((List.range 80).filter fun i => !(er.contains i) && x.getD i 0 != r.getD i 0).map fun i => (i, x.getD i 0 ^^^ r.getD i 0)
    let out := if errs ≠ [] then .corrected else if er = [] then .clean else .cleanErased
    { out := out, data := wordData w', mt := wordMeta w', errs := errs }

/-- Error positions as a mask of symbols. -/
def errMask (errs : List (Nat × Nat)) : BitVec 80 := BitVec.ofNat 80 (errs.map fun e => 2 ^ e.1).sum

/-- Noise XORed into a codeword. -/
def addNoise (w : BitVec 640) (n : Noise) : BitVec 640 :=
  n.foldl (fun w e => if e.1.toNat < 80 then w ^^^ BitVec.ofNat 640 (e.2.toNat * 2 ^ (8 * e.1.toNat)) else w) w

/-- The pattern XORed into the symbols of a mask (R221). -/
def injectWord (w : BitVec 640) (mask : BitVec 80) (pat : Byte) : BitVec 640 :=
  (List.range 80).foldl (fun w i => if mask.getLsbD i then w ^^^ BitVec.ofNat 640 (pat.toNat * 2 ^ (8 * i)) else w) w

/-- The symbols that erased data pins erase (R139). -/
def erasedSymbols (pins : List Nat) : List Nat := pins.flatMap fun p => [2 * p, 2 * p + 1]

/-- Erased pins are driven low on writes (R336). -/
def maskPins (pins : List Nat) (w : BitVec 640) : BitVec 640 :=
  pins.foldl (fun w p => w &&& ~~~(BitVec.ofNat 640 (0xFFFF * 2 ^ (16 * p)))) w

/-- The word of 640 ones that a GUARDED die answers (R345). -/
def guardBurst : BitVec 640 := BitVec.allOnes 640

/-! ### What a write makes of a line -/

/-- Bytes of `new` where enabled, of `old` elsewhere. -/
def mergeBytes (be : BitVec 64) (old new : Data) : Data :=
  let m : Data := BitVec.ofNat 512 ((List.range 64).foldl (fun acc i => if be.getLsbD i then acc + 255 * 2 ^ (8 * i) else acc) 0)
  (new &&& m) ||| (old &&& ~~~m)

/-- A write that holds the whole line needs no read (R155, R158). -/
def LineWrite.full (w : LineWrite) : Bool :=
  w.be == BitVec.allOnes 64 && w.sharers.isSome && w.st.isSome && w.poison.isSome && w.healed.isSome

/-- The line a write makes of the stored one. -/
def LineWrite.apply (w : LineWrite) (d : Data) (m : Meta) : Data × Meta :=
  (mergeBytes w.be d w.data,
   { sharers := w.sharers.getD m.sharers, st := w.st.getD m.st, poison := w.poison.getD m.poison, healed := w.healed.getD m.healed })

/-- A later write merged into a queued one (R155). -/
def LineWrite.over (new old : LineWrite) : LineWrite :=
  { be := old.be ||| new.be
    data := mergeBytes new.be old.data new.data
    sharers := new.sharers.orElse fun _ => old.sharers
    st := new.st.orElse fun _ => old.st
    poison := new.poison.orElse fun _ => old.poison
    healed := new.healed.orElse fun _ => old.healed
    inject := new.inject }

end Sys2Proof.Machine
end

