-- ==== Sys2Proof/Machine/Memory.lean ====
section
/-! DEFINITION. Machine/Memory.lean: the bytes of the DRAM arrays. Raw byte 80 × col + i of a row holds symbol c_i of the
column (R140); rows 65,536 to 65,539 of a bank are its spare rows (R211). -/

namespace Sys2Proof.Machine

/-- The canonical form: addresses rise strictly and no listed byte is what an unlisted address reads as, 0. -/
def Memory.wf (m : List Host.Cell) : Bool := Tab.wf (0 : BitVec 8) m

/-- One byte of the arrays. -/
def Memory.byte (m : List Host.Cell) (a : Nat) : BitVec 8 := Tab.get 0 m a

/-- The nonzero bytes among n bytes of a number, low byte first, from address a. -/
def bytesFrom (a v : Nat) : Nat → List Host.Cell
  | 0 => []
  | n + 1 => if v % 256 = 0 then bytesFrom (a + 1) (v / 256) n else (a, BitVec.ofNat 8 v) :: bytesFrom (a + 1) (v / 256) n

/-- Store n bytes at address a. -/
def Memory.store (m : List Host.Cell) (a v n : Nat) : List Host.Cell :=
  (m.filter fun c => decide (c.1 < a)) ++ bytesFrom a v n ++ m.filter fun c => decide (a + n ≤ c.1)

/-- Read n bytes at address a as a number. -/
def Memory.load (m : List Host.Cell) (a n : Nat) : Nat :=
  m.foldl (fun acc c => if a ≤ c.1 ∧ c.1 < a + n then acc + c.2.toNat * 2 ^ (8 * (c.1 - a)) else acc) 0

/-- The address of raw line (channel, bank, raw row, column). -/
def rawAddr (ch bank row col : Nat) : Nat := 80 * (((ch * 32 + bank) * 65540 + row) * 16 + col)

/-- The raw row that a row of a bank stands for: the spare of the latch programmed last for it (R211, R212). -/
def Chan.rawRow (c : Chan) (bank row : Nat) : Nat :=
  match c.spares.reverse.find? fun s => s.bank == bank && s.row == row with
  | some s => 65536 + s.spare
  | none => row

/-- The 640 bits stored at a place. -/
def State.rawLine (s : State) (p : Place) : BitVec 640 :=
  BitVec.ofNat 640 (Memory.load s.mem (rawAddr p.ch p.bank ((s.base.chan p.ch).rawRow p.bank p.row) p.col) 80)

/-- Store 640 bits at a place. -/
def State.storeLine (s : State) (p : Place) (w : BitVec 640) : State :=
  { s with mem := Memory.store s.mem (rawAddr p.ch p.bank ((s.base.chan p.ch).rawRow p.bank p.row) p.col) w.toNat 80 }

/-- The remap entry of a line (R208). -/
def Chan.remapOf (c : Chan) (bank row col : Nat) : Option Remap :=
  c.remap.find? fun r => r.bank == bank && r.row == row && r.col == col

/-- The codeword of a line: its remap entry, else the array (R208, R209). -/
def State.lineWord (s : State) (p : Place) : BitVec 640 :=
  match (s.base.chan p.ch).remapOf p.bank p.row p.col with
  | some r => r.word
  | none => s.rawLine p

/-- Write a line's codeword into its remap entry, else the array (R208, R209). -/
def State.putWord (s : State) (p : Place) (w : BitVec 640) : State :=
  match (s.base.chan p.ch).remapOf p.bank p.row p.col with
  | some _ => s.onBase fun b => b.updChan p.ch fun c =>
      { c with remap := updFirst (fun r => r.bank == p.bank && r.row == p.row && r.col == p.col) (fun r => { r with word := w }) c.remap }
  | none => s.storeLine p w

/-- The sixteen lines of a row. -/
def rowPlaces (ch bank row : Nat) : List Place := (List.range 16).map fun col => { ch := ch, bank := bank, row := row, col := col }

/-- The line numbers of a row, by column. -/
def Base.rowLines (b : Base) (ch bank row : Nat) : List Nat := (rowPlaces ch bank row).map b.lineAt

end Sys2Proof.Machine
end

