-- ==== Sys2Proof/Machine/Respond.lean ====
section
/-! DEFINITION. Machine/Respond.lean: label lookup, budgets and charges (R292, R311, R312, R317, R320), sampled latency
(R306, R322), deadline misses (R310), what a completed request sends (R81, R104, R244) and the poison list (R197). -/

namespace Sys2Proof.Machine

/-! ### Budgets -/

/-- Configured class total (R316). -/
def Base.classTotal (b : Base) (c : Nat) : Nat := (b.qos.table.map fun e => if e.2.cls = c then e.2.reserve else 0).sum

/-- EFF_RESERVE of an entry (R317). -/
def Base.effReserve (b : Base) (e : LabelEntry) : Nat :=
  let t := b.classTotal e.cls
  if t = 0 then 0 else e.reserve * b.qos.eff.getD e.cls 0 / t

/-- BUDGET_LEFT as the next lookup would use it (R311, R325). -/
def Base.budgetLeft (b : Base) (e : LabelEntry) : Nat := if e.refilledAt = b.pl.epochs + 1 then e.budget else b.effReserve e

/-- An access of n lines is charged to a label (R312): whether it fits, and the table after it. -/
def Base.charge (b : Base) (l n : Nat) : Bool × Base :=
  let e := b.label l
  let left := b.budgetLeft e
  if n ≤ left then
    (true, if n = 0 then b else b.setLabel l { e with budget := left - n, refilledAt := b.pl.epochs + 1 })
  else
    (false, b.setLabel l { e with budget := left, refilledAt := b.pl.epochs + 1, pendingOver := satAdd 0xFFFF e.pendingOver n, overBudget := (e.overBudget + n) % 2 ^ 32 })

/-- An access charged over budget issues (R312). -/
def Base.overIssued (b : Base) (l n : Nat) (inBudget : Bool) : Base :=
  if inBudget then b else b.updLabel l fun e => { e with pendingOver := e.pendingOver - n }

/-- A request takes its label's class, target, tenant and step at lookup and is charged n lines (R19, R29, R154, R311). -/
def Base.lookup (b : Base) (q : Req) (n : Nat) : Req × Base :=
  let e := b.label q.label.toNat
  let (ok, b) := b.charge q.label.toNat n
  ({ q with cls := e.cls, target := e.target, tenant := e.tenant, step := e.step, inBudget := ok, owes := !ok }, b)

/-- A line access leaves PENDING_OVER: it issues, or ends without a DRAM access (R312; DEDUCED, entry 142). -/
def Base.release (b : Base) (q : Req) : Base := b.overIssued q.label.toNat 1 (!q.owes)

/-- The tenant of a label (R508). -/
def Base.tenantOf (b : Base) (l : Label) : Nat := (b.label l.toNat).tenant

/-! ### Latency and deadlines -/

/-- The histogram bin of a latency in ns (R322). -/
def histBin (ns : Nat) : Nat := if ns < 112 then 0 else if 336 ≤ ns then 15 else (ns - 96) / 16

/-- A sampled read completes (R306, R307, R322). -/
def Base.sampleRead (b : Base) (q : Req) : Base :=
  let ns := b.now - q.arrived + 58
  let b := b.updLabel q.label.toNat fun e => { e with sum := e.sum + ns, count := e.count + 1, reads := (e.reads + 1) % 2 ^ 32 }
  b.updQos fun x => { x with hist := Tab.upd 0 x.hist (16 * q.cls + histBin ns) fun n => satAdd 0xFFFFFFFF n 1 }

/-- A response enters flit assembly (R310). -/
def Base.checkDeadline (b : Base) (q : Req) : Base :=
  match q.deadline with
  | some d =>
    if d < b.now then
      let b := b.updLabel q.label.toNat fun e => { e with misses := satAdd 0xFFFFFFFF e.misses 1 }
      (b.bump Reg.DEADLINE_MISS_COUNT).send .deadlineMiss 0x482 q.label.toNat
    else b
  | none => b

/-! ### Responses -/

/-- CXL_MODE of R87: CXL is negotiated and the rate is 8 GT/s or above (R52). -/
def Port.cxlMode (p : Port) : Bool := p.cxl && decide (2 ≤ p.rate)

/-- The link carries CXL.mem traffic now. -/
def Port.carries (p : Port) : Bool := (p.link == .l0 || p.link == .l0p) && p.cxlMode

/-- The link is not down (R81). -/
def Port.linked (p : Port) : Bool :=
  p.link == .rateStep || p.link == .l0 || p.link == .l0p || p.link == .l1 || p.link == .l12 || p.link == .recovery || p.link == .recoveryEq

/-- The link is up, and a response waits for it to carry traffic (R73, R81). -/
def Port.isUp (p : Port) : Bool := p.linked && p.cxlMode

/-- PORT_STATUS.FLIT (R52, R54, R87): none at 2.5 and 5 GT/s, 68-byte at 8 to 32, one of the 256-byte formats at 64 GT/s. -/
def Port.flitFormat (p : Port) : Nat :=
  if !p.linked || decide (p.rate < 2) then 0 else if p.rate < 5 then 1 else if p.latOpt then 3 else 2

/-- A CXL.io message of host software reaches its logical device (R52, R93, R94, R111). -/
def Base.hostUp (b : Base) (h : Nat) : Bool := b.alive && b.carried h && (b.port (b.portOf h)).carries

/-- A message for a logical device that the port does not carry is dropped (R94). -/
def Base.ldNotBound (b : Base) (k : Nat) : Base := b.send .ldNotBound (0x80 + k) (portAddr k)

/-- A CXL.io command of host software to its logical device. It names no port, so it arrives on the one that HOST_BIND names, and is
dropped where that port does not carry the device (R94; DEDUCED, entry 124). -/
def State.viaPort (s : State) (h : Nat) (p : Base → Bool) (f : Base → Base) : Host.Outcome State Fault Refusal :=
  s.whenBase (fun b => b.alive && (b.port (b.portOf h)).carries) fun b =>
    if !b.carried h then b.ldNotBound (b.portOf h) else if p b then f b else b

/-- A flit of the part enters the replay buffer at 64 GT/s, which holds 512 (R53). -/
def Port.sent (p : Port) (e : Emit) : Port :=
  { p with flitsTx := p.flitsTx + 1, replay := if p.rate = 5 then (e :: p.replay).take 512 else p.replay }

/-- A message leaves a port, or waits for its link to reach L0; a port whose link is down discards it (R81). One message is one flit
of the counts (DESIGN CHOICE, entry 117). -/
def Base.transmit (b : Base) (p : Nat) (e : Emit) : Base :=
  let x := b.port p
  if x.carries then ({ b with out := e :: b.out }).setPort p (x.sent e)
  else if x.isUp then b.setPort p { x with txq := x.txq ++ [e] }
  else b

/-- The part sends the responses of a host's request on the port it arrived on. -/
def Base.answer (b : Base) (q : Req) (rs : List Rsp) : Base :=
  match q.who with
  | .host p ld tag => rs.foldl (fun b r => b.transmit p.toNat (.rsp p ld tag r)) b
  | _ => b

/-- The line is HDM-DB. -/
def Base.isDb (b : Base) (line : Nat) : Bool := b.hdmDb (blockOf line)

/-- Every host request that has not answered yet, wherever it waits. A queued write of a host has answered. -/
def Base.waitingReqs (b : Base) : List Req :=
  b.coh.trackers.map (fun t => t.req) ++ b.coh.waiting.map (fun w => w.req) ++ b.lay.fills.flatMap (fun f => f.held)
    ++ b.lay.fillWait.map (fun w => w.1)
    ++ b.dram.chans.flatMap fun c => (c.2.readQ ++ c.2.xbar ++ c.2.upstream ++ c.2.inflight.map fun i => i.entry).map fun e => e.req

/-- The logical device of a request. -/
def Req.host? (q : Req) : Option Nat := match q.who with | .host _ ld _ => some ld.toNat | .gone ld => some ld.toNat | _ => none

/-- BIConflicts whose earlier requests have all answered are acknowledged (R244). -/
def Base.ackConflicts (b : Base) : Base :=
  let owed := fun c : PortBlk × HostId × BitVec 16 × Nat × Nat =>
    b.waitingReqs.any fun q => q.host? == some c.2.1.toNat && q.line == c.2.2.2.1 && decide (q.passed < c.2.2.2.2)
  let done := b.coh.conflicts.filter fun c => !owed c
  let b := { b with coh := { b.coh with conflicts := b.coh.conflicts.filter owed } }
  done.foldl (fun b c => b.transmit c.1.toNat (.biConflictAck c.1 c.2.1 c.2.2.1)) b

/-- A tracker ends when its flow's response has been sent (R239). -/
def Base.freeTracker (b : Base) (q : Req) : Base :=
  { b with coh := { b.coh with trackers := b.coh.trackers.filter fun t => !(t.line == q.line && t.req.passed == q.passed && decide (t.req.who = q.who)) } }

/-- The completions of a diagnostic read that may leave: those before the first line without a result (R451). -/
def diagReady (parts : List DiagPart) : List DiagPart := parts.takeWhile fun p => p.res.isSome

/-- The bytes of a completion. -/
def DiagPart.bytes (p : DiagPart) (d : Data) : List Byte := (List.range p.count).map fun i => d.extractLsb' (8 * (p.first + i)) 8

/-- A line of a diagnostic read has its result; completions leave in address order (R451, R452). -/
def Base.diagResult (b : Base) (tag : Nat) (r : LineRes) : Base :=
  let got := b.mg.diagReads.map fun l => l.map fun (p : DiagPart) => if p.tag = tag then { p with res := some r } else p
  let out := got.flatMap fun l => (diagReady l).filterMap fun p => p.res.map fun x => Emit.diagData (p.bytes x.data) x.poison
  let left := (got.map fun l => l.drop (diagReady l).length).filter fun l => !l.isEmpty
  out.foldl Base.emit (b.updMg fun m => { m with diagReads := left })

/-- A read of a host or of the diagnostic window is answered with data (R104, R240, R508). In an HDM-DB range the completion
the home agent gives goes with it. -/
def Base.answerRead (b : Base) (q : Req) (d : Data) (m : Meta) : Base :=
  let b := b.freeTracker q
  match q.who with
  | .host _ ld _ =>
    let db := b.isDb q.line
    let st : BitVec 2 := if db then 0 else m.st
    let b := b.answer q ([.data d m.poison st] ++ if db then [q.grant] else [])
    let b := b.updLd ld.toNat fun x => { x with linesRead := x.linesRead + 1 }
    let b := b.tally q.tenant fun t => { t with linesRead := t.linesRead + 1 }
    (b.sampleRead q).checkDeadline q
  | .diag t => b.diagResult t { data := d, poison := m.poison }
  | _ => b

/-- Bytes a host write counts for Rind (R508). -/
def ReqOp.bytes : ReqOp → Nat
  | .wr _ _ => 64
  | .ptl _ be => ((List.range 64).filter fun i => be.getLsbD i).length
  | _ => 0

/-- A write, or a MemInv, of a host is answered with Cmp or a grant (R34, R240). -/
def Base.answerCmp (b : Base) (q : Req) (r : Rsp) : Base :=
  let b := b.freeTracker q
  match q.who with
  | .host _ ld _ =>
    let n := q.op.bytes
    let b := b.answer q [r]
    let isWrite := match q.op with | .wr _ _ => true | .ptl _ _ => true | _ => false
    let b := if isWrite then
        (b.updLd ld.toNat fun x => { x with linesWritten := x.linesWritten + 1 }).tally q.tenant fun t => { t with bytesWritten := t.bytesWritten + n }
      else b
    b.checkDeadline q
  | _ => b

/-! ### The poison list (R197) -/

/-- A stamped line enters the list of 4,096. -/
def Base.listPoison (b : Base) (line : Nat) : Base :=
  if b.dram.poison.contains line then b
  else if 4096 ≤ b.dram.poison.length then b.updDram fun d => { d with poisonLost := true }
  else b.updDram fun d => { d with poison := d.poison ++ [line] }

/-- A line leaves the list. -/
def Base.unlistPoison (b : Base) (line : Nat) : Base := b.updDram fun d => { d with poison := d.poison.filter (· != line) }

/-- The lines of some stripes leave the list (R147). -/
def Base.unlistStripes (b : Base) (p : Nat → Bool) : Base := b.updDram fun d => { d with poison := d.poison.filter fun l => !p (stripeOf l) }

end Sys2Proof.Machine
end

