-- ==== Sys2Proof/Machine/Queue.lean ====
section
/-! DEFINITION. Machine/Queue.lean: how requests enter a channel's queues (R152 to R155), what waits for a place (R153, R200), what
a write in the queue overtakes (R202, R217), and the exit of a set that a request wakes (R176, R179). -/

namespace Sys2Proof.Machine

/-! ### The line write of a request -/

/-- The record a stamp stores (R196): the members of the line's window and state 01, or nothing in HDM-H. -/
def Base.stampRec (b : Base) (line : Nat) : DirRec :=
  match b.windowOf (blockOf line) with
  | some w => { vec := b.membersOf w, st := 1 }
  | none => {}

/-- What a request writes (R105, R106, R137, R158); none for one that writes nothing. In an HDM-DB range the record is the
home agent's; in HDM-H the vector is zero and the state is the MetaField's, or the stored one. The reserved MetaValue 3 is stored as
given, and is nonzero metadata (DESIGN CHOICE, entry 127). -/
def Base.lineWrite (b : Base) (q : Req) : Option LineWrite :=
  let db := b.isDb q.line
  let sharers : Option (BitVec 16) := some (if db then q.dir.vec else 0)
  let st : Option (BitVec 2) := if db then some q.dir.st else match q.who, q.metaField with
    | .diag _, _ => some 0
    | _, .noOp => none
    | _, .meta0 v => some v
  match q.op with
  | .wr d p => some { data := d, sharers := sharers, st := match q.who with | .mover _ _ => some 0 | .fill _ => some 0 | _ => st, poison := some p }
  | .ptl d be =>
    if be = BitVec.allOnes 64 then some { data := d, sharers := sharers, st := st, poison := some false }
    else some { be := be, data := d, sharers := sharers, st := st, poison := none }
  | .inv => if st.isSome ∧ !db then some { be := 0, sharers := sharers, st := st, poison := none, healed := none } else none
  | .update v t => some { be := 0, sharers := some v, st := some t, poison := none, healed := none }
  | _ => none

/-- A queue entry for a request. -/
def Base.entryOf (b : Base) (q : Req) (wr : Option LineWrite) : Entry :=
  let p := b.place q.line
  { req := q, bank := p.bank, row := p.row, col := p.col, wr := wr, arrival := b.now }

/-! ### Waking a set -/

/-- Address field of channel kinds (R189, R228). -/
def chAddr (ch bank row : Nat) (col : Nat := 0) : Nat := ch + 64 * bank + 2048 * row + 2 ^ 27 * col

/-- Event source of a channel (R189). -/
def chSrc (ch k : Nat) : Nat := 0x100 + 8 * ch + k

/-- A set has changed its state: counted and reported, by power management and by the set's channels (R187, R381). -/
def Base.reportSet (b : Base) (s st : Nat) : Base :=
  let b := (b.bump Reg.STATE_CHANGE_COUNT).send .setStateChange 0x500 (s + 16 * st)
  (b.chansOfSet s).foldl (fun b c => b.send .stateChange (chSrc c 4) (chAddr c 0 0)) b

/-- Entry to a state is abandoned before SRE (R179): the set is ACTIVE. -/
def Base.abandonEntry (b : Base) (s : Nat) : Base := (b.updSet s fun x => { x with state := 0, idle := 0 }).reportSet s 0

/-- The exit latency bound of a set's state (R177, R179, R358). -/
def SetPower.bound (x : SetPower) : Nat :=
  if x.state = 1 then 20 else (if x.off then 1500 else 515) + if x.state = 3 then 500 else 0

/-- An exit begins, to ACTIVE or to POWERDOWN. -/
def SetPower.leave (x : SetPower) (now goal : Nat) : SetPower := { x with exiting := true, exitFrom := now, exitBound := x.bound, exitTo := goal }

/-- Work for a channel reaches its set (R176, R179): a set that is not ACTIVE begins its exit; before SRE, entry is
abandoned. -/
def Base.touchSet (b : Base) (ch : Nat) : Base :=
  let i := b.setOf ch
  let x : SetPower := { b.set_ i with seen := true }
  if x.state = 0 then b.setSet i x
  else if x.exiting then b.setSet i { x with exitTo := 0 }
  else if 2 ≤ x.state ∧ x.sre = false then (b.setSet i x).abandonEntry i
  else b.setSet i (x.leave b.now 0)

/-! ### Entering the write queue -/

/-- The mover's domain is woken (R42): 2 µs. -/
def Base.wakeMover (b : Base) : Base :=
  match b.mov.domain with
  | .off => (b.updMov fun v => { v with domain := .waking }).updMg fun m => { m with wakeDue := Tab.set 0 m.wakeDue 21 (b.now + 2000) }
  | .goingOff => b.updMov fun v => { v with domain := .on }
  | _ => b

/-- The channel's set is ACTIVE and stays so: requests enter the queues; in any other set they wait (R35, R176). -/
def Base.setOpen (b : Base) (ch : Nat) : Bool :=
  let x := b.set_ (b.setOf ch)
  x.state == 0 && !x.exiting

/-- When a reserved column command and its data are complete (R156): 14 ns of tCL and the burst for a read, 10 ns of tCWL and the burst
for a write, 10 ns of tRBL and the bus cycle for an RBR, the bus cycle for an RBW. -/
def ColSlot.ends (x : ColSlot) : Nat := x.at_ + (if x.read then (if x.dq then 16 else 12) else if x.dq then 12 else 2)

/-- The same place. -/
def Entry.at_ (e : Entry) (bank row col : Nat) : Bool := e.bank == bank && e.row == row && e.col == col

/-- A write of a row enters the write queue, or a row transfer writing it is accepted: a scrub or a sweep of the row is overtaken (R217,
R248). -/
def Chan.rowWrite (c : Chan) (bank row : Nat) : Chan :=
  { c with
    scrubJob := c.scrubJob.map fun j => if j.bank = bank ∧ j.row = row then { j with overtaken := true } else j
    sweptRow := c.sweptRow.map fun x => if x.1 = bank ∧ x.2.1 = row then (bank, row, true) else x }

/-- A write of a line other than a heal reaches the write queue: reads of it under way, heals and stamps of it still queued and its rewrite
of REWRITE_NOW are overtaken (R196, R202, R221); `stamp` when the write is the line's stamp. -/
def Chan.overtake (c : Chan) (bank row col : Nat) (stamp : Bool := false) : Chan :=
  { c with
    inflight := c.inflight.map fun i => if i.entry.at_ bank row col then { i with overtaken := true, stamped := i.stamped || stamp } else i
    healQ := c.healQ.map fun h => if h.entry.at_ bank row col then { h with overtaken := true } else h
    feed := c.feed.map fun e => if e.at_ bank row col then { e with overtaken := true } else e }

/-- The key of R161, smaller first, without the tier's own part. -/
def keyOf (cls step : Nat) (deadline : Option Nat) (arrival : Nat) : List Nat :=
  let ec := if step = 4 ∧ 0 < cls then cls - 1 else cls
  [ec, (if deadline.isSome then 0 else 1), deadline.getD 0, 4 - step, arrival]

/-- Lexicographic order on keys. -/
def keyLt : List Nat → List Nat → Bool
  | a :: s, b :: t => if a < b then true else if b < a then false else keyLt s t
  | _, _ => false

/-- The tier of a queued request (R160, R163). A line read of the patrol scrubber is of tier 3 whatever its label (R160, R320). -/
def Entry.tier (e : Entry) : Nat :=
  if (match e.req.who with | .scrub => true | _ => false) then 3 else if e.starved ∨ e.req.inBudget then 1 else 2

/-- Tier and key of a queued request (R160, R161, R163). -/
def Entry.key (e : Entry) : List Nat :=
  if e.starved then 1 :: keyOf 0 4 none e.arrival else e.tier :: keyOf e.req.cls e.req.step e.req.deadline e.arrival

/-- A write merged into a queued one (R155): the queue position stays and the better key ranks. -/
def Entry.absorb (old new : Entry) : Entry :=
  let k := if keyLt new.key old.key then new else old
  { old with
    req := { new.req with cls := k.req.cls, step := k.req.step, deadline := k.req.deadline, inBudget := k.req.inBudget }
    wr := match new.wr, old.wr with | some n, some o => some (n.over o) | some n, none => some n | none, o => o
    repair := new.repair
    arrival := k.arrival
    starved := k.starved }

/-- The write is a heal: it overtakes nothing (R202). -/
def Entry.isHeal (e : Entry) : Bool := match e.req.who with | .heal => true | _ => false

/-- A write that matches no queued write, or merges into one (R155). A heal entry so taken over is counted (R201). -/
def Base.pushWrite (b : Base) (ch : Nat) (e : Entry) : Base :=
  let c := b.chan ch
  let ovt := (if e.isHeal then c else c.overtake e.bank e.row e.col (match e.req.who with | .stamp => true | _ => false)).rowWrite e.bank e.row
  match c.writeQ.find? fun x => x.at_ e.bank e.row e.col with
  | some old =>
    let b := (b.setChan ch { ovt with writeQ := updFirst (fun x => x.at_ e.bank e.row e.col) (fun x => x.absorb e) c.writeQ }).release old.req
    if old.isHeal && !e.repair then b.bump Reg.HEAL_DROP_COUNT else b
  | none => b.setChan ch { ovt with writeQ := c.writeQ ++ [e] }

/-- A full-line write that clears the line's poison takes it off the list (R197, R283). -/
def Base.clearsPoison (b : Base) (line : Nat) (w : LineWrite) : Base :=
  if w.be = BitVec.allOnes 64 ∧ w.poison = some false then b.unlistPoison line else b

/-- The arming of ARM_NEXT_WRITE is consumed by the next host write of its line (R221). -/
def Base.armed (b : Base) (q : Req) (w : LineWrite) : LineWrite × Base :=
  match q.who, q.op, b.dram.armed with
  | .host _ _ _, .wr _ _, some a | .host _ _ _, .ptl _ _, some a =>
    if a.line = q.line then ({ w with inject := some (a.mask, a.pattern) }, b.updDram fun d => { d with armed := none }) else (w, b)
  | _, _, _ => (w, b)

/-- Mark a stripe in the initialisation map (R144). -/
def Base.mark (b : Base) (st : Nat) : Base :=
  if Tab.get false b.lay.marked st then b
  else (b.updLay fun l => { l with marked := Tab.set false l.marked st true }).setReg Reg.INITMAP_MARKED (bumpWord (b.reg Reg.INITMAP_MARKED) 1)

/-- The fill entry of a stripe ends once its starting request has reached its write queue; one whose octant drops meanwhile
stays until the stripe can be unmarked (R144, R147). -/
def Base.fillEnds (b : Base) (st : Nat) : Base :=
  b.updLay fun l => { l with fills := l.fills.filter fun f => !(f.stripe == st && f.released && !f.clearAfter) }

/-- A slot's line write has entered its queue (R290). -/
def Base.moverDone (b : Base) (slot : Nat) (f : Slot → Slot) : Base :=
  b.updMov fun v => { v with slots := v.slots.map fun e => if e.1 = slot then (e.1, f e.2) else e }

/-- A write, a fill or a mover write reaches an octant (R362). -/
def Base.noteWrite (b : Base) (line : Nat) : Base := b.updPw fun p => { p with lastWrite := Tab.set 0 p.lastWrite (b.octantOf line) b.pl.epochs }

/-- Writes that keep an octant from being dropped (R362). -/
def Who.keeps : Who → Bool
  | .host _ _ _ | .gone _ | .diag _ | .mover _ _ | .fill _ => true
  | _ => false

/-- A rewrite of REWRITE_NOW that another write of the line has overtaken is discarded, with reason 5 when it carries an injection (R221,
R223). -/
def Base.rewriteLost (b : Base) (ch line : Nat) (injects : Bool) : Base :=
  if injects then (b.updDram fun x => { x with injRefused := true, injReason := 5 }).send .injectRefused (chSrc ch 7) (64 * line) else b

/-- A write enters its channel's write queue: its stripe is marked, its completion is sent (R34, R144). -/
def Base.acceptWrite (b : Base) (ch : Nat) (e : Entry) : Base :=
  match e.wr with
  | none => b
  | some w =>
    if e.overtaken && decide (e.req.who = .inject) then (b.release e.req).rewriteLost ch e.req.line w.inject.isSome else
    let (w, b) := b.armed e.req w
    let b := b.pushWrite ch { e with wr := some w }
    let b := if e.req.who.keeps then b.noteWrite e.req.line else b
    let claimed := b.lay.fills.any fun f => f.stripe == stripeOf e.req.line && f.claim.isSome
    let b := match e.req.who with
      | .fill _ => b
      | _ => if claimed then b.clearsPoison e.req.line w else ((b.mark (stripeOf e.req.line)).fillEnds (stripeOf e.req.line)).clearsPoison e.req.line w
    match e.req.who with
    | .host _ _ _ | .gone _ => b.answerCmp e.req (if b.isDb e.req.line && (match e.req.op with | .inv => true | _ => false) then e.req.grant else .cmp)
    | .mover s _ => (b.freeTracker e.req).moverDone s fun x => { x with busy := false }
    | .diag _ => b.freeTracker e.req
    | .directory => { b with coh := { b.coh with victims := b.coh.victims.filter fun v => v.1 != e.req.line } }
    | _ => b

/-! ### Places -/

/-- A read's answer from a queued write that holds the whole line (R155). -/
def Chan.forward (c : Chan) (e : Entry) : Option LineWrite :=
  match c.writeQ.find? fun x => x.at_ e.bank e.row e.col with
  | some x => x.wr
  | none => none

/-- A read of which the flow is decided is answered with a line (R104, R206, R250). Reads of the codec that meet a queued write
end there: the write holds the newer line. -/
def Base.finishRead (b : Base) (e : Entry) (d : Data) (m : Meta) : Base :=
  let b := b.release e.req
  match e.req.who with
  | .host _ _ _ | .diag _ | .gone _ => b.answerRead e.req d m
  | .mover s k =>
    let res : LineRes := { data := d, poison := m.poison }
    (b.freeTracker e.req).moverDone s fun x => if k < 4096 then { x with busy := false, got := Tab.insert k res x.got } else { x with busy := false, got2 := Tab.insert (k - 4096) res x.got2 }
  | _ => b

/-- A read takes a place in the read queue; its key keeps its arrival at the channel (R154, R176), and the largest depth seen is
counted (R47). -/
def Base.enterRead (b : Base) (ch : Nat) (e : Entry) : Base :=
  let b := b.updChan ch fun c => { c with readQ := c.readQ ++ [e] }
  b.countChan ch fun k => { k with maxDepth := max k.maxDepth (b.chan ch).readQ.length }

/-- The counts of an interval at its start: the reads that are queued then are the depth seen. -/
def Base.freshCounts (b : Base) : Tab ChanCounts :=
  (List.range 64).foldl (fun (t : Tab ChanCounts) (ch : Nat) => Tab.upd {} t ch fun k => { k with maxDepth := (b.chan ch).readQ.length }) []

/-- A read whose data the home agent, a rewrite or a metadata read still works on: the answer goes to the decoder's place, not to the
requester (R221, R235). -/
def Base.readsOn (b : Base) (q : Req) : Bool :=
  match q.who with | .inject => true | .directory => true | .sweep => true | _ => b.isDb q.line && !q.decided

/-- A read enters the read queue, or is answered from a queued write that holds the whole line (R155). One that matches a partial
write takes its bytes when decoded. -/
def Base.acceptRead (b : Base) (ch : Nat) (e : Entry) : Base :=
  match (b.chan ch).forward e with
  | some w =>
    if w.full then
      let r := w.apply 0 {}
      if b.readsOn e.req then
        (b.release e.req).updChan ch fun c => { c with inflight := c.inflight ++ [{ entry := { e with req := { e.req with owes := false } }, act := b.now, raw := 0, forwarded := some r }] }
      else b.finishRead e r.1 r.2
    else b.enterRead ch { e with merged := some w }
  | none => b.enterRead ch e

/-- There is a place in the queue the entry goes to: 64 in each (R152). A write that merges needs none, nor does a read that a queued write
answers (R155). -/
def Chan.room (c : Chan) (e : Entry) : Bool :=
  if e.wr.isSome then decide (c.writeQ.length < 64) || c.writeQ.any fun x => x.at_ e.bank e.row e.col
  else decide (c.readQ.length < 64) || (match c.forward e with | some w => w.full | none => false)

def Base.accept1 (b : Base) (ch : Nat) (e : Entry) : Base := if e.wr.isSome then b.acceptWrite ch e else b.acceptRead ch e

/-- The next place in the order of arrival at the channels, which shares its counter with the order of passage (R107). -/
def Base.inOrder (b : Base) (e : Entry) : Entry × Base :=
  ({ e with seq := b.dram.passes }, b.updDram fun d => { d with passes := d.passes + 1 })

/-- The oldest heal place enters the write queue; one overtaken is discarded (R200, R202). -/
def Base.drainHeal (b : Base) (ch : Nat) : Base :=
  let c := b.chan ch
  match c.healQ with
  | [] => b
  | h :: t =>
    if h.overtaken then (b.setChan ch { c with healQ := t }).release h.entry.req
    else if c.room h.entry then
      let (e, b) := b.inOrder h.entry
      (b.updChan ch fun c => { c with healQ := t }).acceptWrite ch e
    else b

/-- The first waiting entry that has room; with the entries that go on waiting. -/
def takeReady (room : Entry → Bool) : List Entry → List Entry → Option (Entry × List Entry)
  | _, [] => none
  | before, e :: t => if room e then some (e, before ++ t) else takeReady room (before ++ [e]) t

/-- The entry may enter its queue: there is a place, and no entry of its line that arrived before it still waits (R107, R153). -/
def Chan.enters (c : Chan) (e : Entry) : Bool :=
  c.room e && !(c.feed ++ c.xbar ++ c.upstream).any fun x => x.at_ e.bank e.row e.col && decide (x.seq < e.seq)

/-- A waiting entry of the codec and the mover enters its queue. -/
def Base.drainFeed (b : Base) (ch : Nat) : Base :=
  let c := b.chan ch
  match takeReady c.enters [] c.feed with
  | none => b
  | some (e, t) => (b.setChan ch { c with feed := t }).accept1 ch e

/-- The crossbar accepts requests for the channel while its input buffer of 16 has room (R153). -/
def Chan.refill (c : Chan) : Chan :=
  let n := 16 - c.xbar.length
  { c with xbar := c.xbar ++ c.upstream.take n, upstream := c.upstream.drop n }

/-- A request in the crossbar's buffer enters its queue. -/
def Base.drainXbar (b : Base) (ch : Nat) : Base :=
  let c := (b.chan ch).refill
  match takeReady c.enters [] c.xbar with
  | none => b.setChan ch c
  | some (e, t) => ((b.setChan ch { c with xbar := t }).accept1 ch e).updChan ch Chan.refill

/-- What waits for a place in a channel's queues enters them, oldest first: repairs, then the mover's, then the crossbar's. While the
set is not ACTIVE everything waits (R35, R42, R176). -/
def Base.drainChan (b : Base) (ch : Nat) : Base :=
  if !b.setOpen ch then b else
  let b := forN (b.chan ch).healQ.length (fun _ b => b.drainHeal ch) b
  let b := forN (b.chan ch).feed.length (fun _ b => b.drainFeed ch) b
  forN ((b.chan ch).xbar.length + (b.chan ch).upstream.length) (fun _ b => b.drainXbar ch) b

/-- An entry arrives at the crossbar, which accepts it for the channel while its buffer has room (R153). -/
def Base.arrive (b : Base) (ch : Nat) (e : Entry) : Base :=
  let (e, b) := b.inOrder e
  ((b.touchSet ch).updChan ch fun c => { c with upstream := c.upstream ++ [e] }.refill).drainChan ch

/-- An entry of the codec or the mover arrives. -/
def Base.feedIn (b : Base) (ch : Nat) (e : Entry) : Base :=
  let (e, b) := b.inOrder e
  ((b.touchSet ch).updChan ch fun c => { c with feed := c.feed ++ [e] }).drainChan ch

/-- The place of a request in the order of passage of the host-binding stage (R107). -/
def Base.pass (b : Base) (q : Req) : Req × Base :=
  ({ q with passed := b.dram.passes }, b.updDram fun d => { d with passes := d.passes + 1 })

/-- An internal request under a label (R320): charged `n` lines. -/
def Base.internal (b : Base) (who : Who) (op : ReqOp) (line : Nat) (label : Label) (n : Nat := 1) : Req × Base :=
  let (q, b) := b.pass { who := who, op := op, line := line, label := label, arrived := b.now }
  b.lookup q n

/-! ### Retired channels, fences, dropped octants -/

/-- The channel is retired (R338). -/
def Base.retired (b : Base) (ch : Nat) : Bool := (b.chan ch).train == .retired

/-- The octant is fenced (R396). -/
def Base.fencedOct (b : Base) (k : Nat) : Bool := b.flt.fenced.getLsbD k

/-- Lines that no access reaches: of a retired channel or a fenced octant. -/
def Base.noAccess (b : Base) (line : Nat) : Bool := b.retired (b.place line).ch || b.fencedOct (b.octantOf line)

/-- The stripe's map bit. -/
def Base.isMarked (b : Base) (line : Nat) : Bool := Tab.get false b.lay.marked (stripeOf line)

end Sys2Proof.Machine
end

