-- ==== Sys2Proof/Machine/Repair.lean ====
section
/-! DEFINITION. Machine/Repair.lean: what every decode leads to: buckets (R198, R199), injection records (R224), history and the
hard-fault rule (R204, R205), heals and stamps (R196, R200), remap entries (R208), spare rows (R212) and pin errors (R334). -/

namespace Sys2Proof.Machine

/-- Data pins declared erased to a channel's codec: permanent ones, and the pin under an erasure-mode test (R191, R333). -/
def Base.declaredPins (b : Base) (ch : Nat) : List Nat :=
  let x := b.canes ch
  (b.chan ch).erased ++ (match x.testOut with | some p => if x.erasing ∧ p < 40 then [p] else [] | none => [])

/-- Symbols of a column that the bus's erased canes cover (R140, R191), with a segment under an erasure-mode test. -/
def Base.busSymbols (b : Base) (bus col : Nat) : List Nat :=
  let canes := (b.bus bus).erased.filter fun c => c / 640 == col
  let seg := match b.si.segOut with
    | some (q, s, _, er) => if q = bus ∧ s < 1280 ∧ s / 80 = col ∧ er = true then [s % 80] else []
    | none => []
  (canes.map (fun c => c % 640 / 8) ++ seg).eraseDups

/-- What becomes of a CORRECTED line: it is tracked and healed (R204); tracked, and rewritten by the operation that read it (R216, R221);
neither, since the operation unmarks or moves it (R212, R220). -/
inductive Fix where
  | heal | rewrite | none
deriving DecidableEq, Repr

/-- Where a decode took place. `rowStage` decodes come from a row bus; all but those of scrub and of verify reads are of demand reads
(R200). -/
structure DecodeAt where
  place : Place
  line : Nat
  src : Nat
  rowStage : Bool := false
  demand : Bool := true
  fix : Fix := .heal
  /-- An uncorrectable line is stamped through the heal queue; else the operation clears or stamps it (R212, R216, R282). -/
  stamps : Bool := true
  /-- An earlier attempt of a scrub has counted the line in its bucket, or has reported it (R196, R216). -/
  counted : Bool := false
  silent : Bool := false
  overtaken : Bool := false
  beforeHeal : Bool := false
  /-- The line as the array holds it when the read is decoded. -/
  stored : BitVec 640 := 0
  erasures : List Nat := []
  /-- The host whose read is decoded (R383). -/
  host : Option HostId := none
deriving DecidableEq, Repr

/-- The bucket of a bank takes the correction of a line; the message names the line (R198, R199, R228). -/
def Base.bucketAdd (b : Base) (p : Place) : Base :=
  let k := p.ch * 32 + p.bank
  let level := Tab.get 0 b.dram.buckets k
  let b := b.updDram fun d => { d with corrections := Tab.upd 0 d.corrections k fun n => satAdd 0xFFFF n 1 }
  if level < 64 then b.updDram fun d => { d with buckets := Tab.set 0 d.buckets k (level + 1) }
  else if Tab.get false b.dram.overflowed k then b
  else (b.updDram fun d => { d with overflowed := Tab.set false d.overflowed k true }).send .bucketOverflow (chSrc p.ch 5) (chAddr p.ch p.bank p.row p.col)

/-- Corrected and uncorrectable decodes are counted (R193). -/
def Base.countCorrected (b : Base) (ch : Nat) : Base := (b.bump Reg.CORRECTED_COUNT).bump (Reg.CH_CORRECTED ch)
def Base.countUncorrectable (b : Base) (ch : Nat) : Base := (b.bump Reg.UNCORRECTABLE_COUNT).bump (Reg.CH_UNCORRECTABLE ch)

/-- The label of heal writes, verify reads and stamps (R227). -/
def Base.healLabel (b : Base) : Label := BitVec.ofNat 16 (b.rf Reg.ECC_LABELS 15 0)
def Base.scrubLabel (b : Base) : Label := BitVec.ofNat 16 (b.rf Reg.ECC_LABELS 31 16)

/-- A full-line repair write (R196, R200). -/
def Base.repairEntry (b : Base) (who : Who) (line : Nat) (d : Data) (m : Meta) : Entry × Base :=
  let (q, b) := b.internal who (.wr d m.poison) line b.healLabel
  ({ b.entryOf q (some { data := d, sharers := some m.sharers, st := some m.st, poison := some m.poison, healed := some m.healed }) with repair := true }, b)

/-- A heal joins the queue of 16 places, or is dropped (R200). -/
def Base.queueHeal (b : Base) (a : DecodeAt) (d : Data) (m : Meta) : Base :=
  let c := b.chan a.place.ch
  if a.overtaken then b
  else if 16 ≤ c.healQ.length then (b.bump Reg.HEAL_DROP_COUNT).send .healQueueFull (chSrc a.place.ch 6) (chAddr a.place.ch a.place.bank a.place.row a.place.col)
  else
    let (e, b) := b.repairEntry .heal a.line d { m with healed := true }
    b.updChan a.place.ch fun c => { c with healQ := c.healQ ++ [{ entry := e, stamp := false }] }

/-- Replace the youngest heal by a stamp (R196); with the heal that leaves. -/
def placeStamp (q : List HealPlace) (h : HealPlace) : List HealPlace × Option HealPlace :=
  if q.length < 16 then (q ++ [h], none)
  else match q.reverse.find? fun x => !x.stamp with
    | some x => ((dropFirst (fun x => !x.stamp) q.reverse).reverse ++ [h], some x)
    | none => (q ++ [h], none)

/-- A stamp is queued and the line listed (R196, R197). A stamp is never dropped. -/
def Base.queueStamp (b : Base) (a : DecodeAt) (d : Data) : Base :=
  if a.overtaken then b
  else
    let b := b.listPoison a.line
    let r := b.stampRec a.line
    let (e, b) := b.repairEntry .stamp a.line d { sharers := r.vec, st := r.st, poison := true, healed := false }
    let (q, dropped) := placeStamp (b.chan a.place.ch).healQ { entry := e, stamp := true }
    let b := b.updChan a.place.ch fun c => { c with healQ := q }
    match dropped with
    | some x => ((b.release x.entry.req).bump Reg.HEAL_DROP_COUNT).send .healQueueFull (chSrc a.place.ch 6) (chAddr a.place.ch a.place.bank a.place.row a.place.col)
    | none => b

/-- A spare of a bank is in use, or a move waits for it (R211, R212). -/
def Chan.spareUsed (c : Chan) (bank k : Nat) : Bool :=
  (c.spares.any fun s => s.bank == bank && s.spare == k) || c.moves.any fun m => m.bank == bank && m.spare == k

/-- Free spares of a bank (R211), and the lowest of them. -/
def Chan.sparesLeft (c : Chan) (bank : Nat) : Nat := 4 - ((List.range 4).filter fun k => c.spares.any fun s => s.bank == bank && s.spare == k).length
def Chan.freeSpare (c : Chan) (bank : Nat) : Option Nat := (List.range 4).find? fun k => !c.spareUsed bank k

/-- The row waits for its move to a spare, or is being moved (R212). -/
def Chan.moving (c : Chan) (bank row : Nat) : Bool := c.moves.any fun m => m.bank == bank && m.row == row

/-- The spare-row move under way: the first by arrival (R160). -/
def Chan.move (c : Chan) : Option SpareMove := c.moves.head?

/-- A heal of the line waits, or its bank cycle has not closed (R206). -/
def Chan.healPending (c : Chan) (bank row col : Nat) : Bool :=
  (c.healing.any fun h => h.1 == bank && h.2.1 == row && h.2.2.1 == col) || (c.healQ.any fun h => h.entry.at_ bank row col && !h.stamp)
    || c.writeQ.any fun x => x.at_ bank row col && x.isHeal

/-- A stamp of the line waits: it has sent its message (R196). -/
def Chan.stampPending (c : Chan) (bank row col : Nat) : Bool :=
  (c.healQ.any fun h => h.entry.at_ bank row col && h.stamp)
    || c.writeQ.any fun x => x.at_ bank row col && (match x.req.who with | .stamp => true | _ => false)

/-- A hard line takes a remap entry with its corrected codeword (R208, R210); a line that a write has rewritten since the read's ACT takes
what that write stored (DEDUCED, entry 131). The table's message names no place but the channel (DESIGN CHOICE, entry 132). -/
def Base.remapInsert (b : Base) (a : DecodeAt) (d : Data) (m : Meta) : Base :=
  let p := a.place
  let word := if a.overtaken && !(b.chan p.ch).writeQ.any (fun e => e.at_ p.bank p.row p.col) then a.stored else encodeLine d { m with healed := true }
  let b := b.updChan p.ch fun c => { c with remap := c.remap ++ [{ bank := p.bank, row := p.row, col := p.col, word := word }] }
  let b := b.send .hardFaultRemapped (chSrc p.ch 6) (64 * a.line)
  if (b.chan p.ch).remap.length = 8 ∧ (b.chan p.ch).remapFullSent = false then
    (b.updChan p.ch fun c => { c with remapFullSent := true }).send .remapTableFull (chSrc p.ch 6) (chAddr p.ch 0 0)
  else b

/-- hard_fault of R204: a remap entry, else the move of the row to the lowest free spare, else a stamp with the corrected data (R208, R212,
R214). A row whose move waits or is under way has no second move. -/
def Base.hardFault (b : Base) (a : DecodeAt) (d : Data) (m : Meta) : Base :=
  let p := a.place
  let c := b.chan p.ch
  let b := b.bump Reg.HARD_FAULT_COUNT
  if c.remap.length < 8 then b.remapInsert a d m
  else if c.moving p.bank p.row then b
  else match c.freeSpare p.bank with
    | some k => b.updChan p.ch fun c => { c with moves := c.moves ++ [{ bank := p.bank, row := p.row, spare := k, declared := b.now }] }
    | none => (b.queueStamp a d).send .sparesExhausted (chSrc p.ch 6) (64 * a.line)

/-- The history entry of a line. -/
def Chan.hist (c : Chan) (p : Place) : Option History := c.history.find? fun h => h.bank == p.bank && h.row == p.row && h.col == p.col
def Chan.histFree (c : Chan) (p : Place) : Chan := { c with history := c.history.filter fun h => !(h.bank == p.bank && h.row == p.row && h.col == p.col) }

/-- Change the history entry of a line. -/
def Chan.histUpd (c : Chan) (p : Place) (f : History → History) : Chan :=
  { c with history := updFirst (fun x => x.bank == p.bank && x.row == p.row && x.col == p.col) f c.history }

/-- Insert a line, evicting the oldest entry with one read left when all 32 are in use (R205). -/
def Chan.histInsert (c : Chan) (h : History) : Option Chan :=
  if c.history.length < 32 then some { c with history := c.history ++ [h] }
  else if c.history.any fun x => x.healDone && x.readsLeft == 1 then
    some { c with history := dropFirst (fun x => x.healDone && x.readsLeft == 1) c.history ++ [h] }
  else none

/-- A pin's corrected lines within 1,000 epochs (R334): the counts run in windows of 1,000 epochs (DESIGN CHOICE). -/
def Base.pinError (b : Base) (ch : Nat) (errs : List (Nat × Nat)) : Base :=
  let x := b.canes ch
  let x := if x.pinFrom + 1000 ≤ b.pl.epochs then { x with pinErr := [], pinFrom := b.pl.epochs } else x
  let pins := (errs.map fun e => e.1 / 2).eraseDups
  let err := pins.foldl (fun t p => Tab.upd 0 t p (· + 1)) x.pinErr
  let hit := pins.filter fun p => Tab.get 0 err p == b.rf Reg.SI_CFG2 15 8 && !((b.chan ch).erased.contains p)
  b.setCanes ch { x with pinErr := err, targets := (x.targets ++ hit).eraseDups }

/-- The same for the segments of a row bus (R334): segment 80 × column + symbol. -/
def Base.segError (b : Base) (bus col : Nat) (errs : List (Nat × Nat)) : Base :=
  let fresh := b.si.busErrFrom + 1000 ≤ b.pl.epochs
  let t0 := if fresh then [] else b.si.busErrors
  let keys := errs.map fun e => bus * 2048 + 80 * col + e.1
  let t := keys.foldl (fun t k => Tab.upd 0 t k (· + 1)) t0
  let hit := (keys.filter fun k => Tab.get 0 t k == b.rf Reg.SI_CFG2 15 8).map fun k => (k / 2048, k % 2048)
  b.updSi fun s => { s with busErrors := t, busErrFrom := if fresh then b.pl.epochs else s.busErrFrom, busTargets := (s.busTargets ++ hit).eraseDups }

/-- The injection record of a line. -/
def Base.injRecord (b : Base) (line : Nat) : Option Injection := b.dram.injections.find? fun i => i.line == line

/-- The injected set of a record: its mask less the declared erasures (R224). -/
def Injection.set (i : Injection) (er : List Nat) : List Nat := (List.range 80).filter fun k => i.mask.getLsbD k && !(er.contains k)

/-- Positions that a record does not explain. -/
def unexplained (i : Option Injection) (er : List Nat) (errs : List (Nat × Nat)) : List (Nat × Nat) :=
  match i with
  | none => errs
  | some r => errs.filter fun e => !((r.set er).contains e.1 && e.2 == r.pattern.toNat)

/-- What is reported of a CORRECTED decode (R224, R228). -/
def Base.reportCorrected (b : Base) (a : DecodeAt) (d : Decoded) : Base :=
  match b.injRecord a.line with
  | none => b.send .lineCorrected a.src (64 * a.line) a.host
  | some r =>
    if d.errs.map (fun e => e.1) = r.set a.erasures ∧ (d.errs.all fun e => e.2 == r.pattern.toNat) = true then
      b.send .injectedCorrected a.src (64 * a.line) a.host true
    else b.send .correctedInjectionActive a.src (64 * a.line) a.host

/-- What is reported of an UNCORRECTABLE decode (R194, R224). -/
def Base.reportUncorrectable (b : Base) (a : DecodeAt) : Base :=
  match b.injRecord a.line with
  | none => b.send .lineUncorrectable a.src (64 * a.line) a.host
  | some r =>
    if 12 < 2 * (r.set a.erasures).length + a.erasures.length then b.send .injectedUncorrectable a.src (64 * a.line) a.host true
    else b.send .uncorrectableInjectionActive a.src (64 * a.line) a.host

/-- The error positions lie wholly among the symbols that the bus's erased canes cover (R337). -/
def Base.busExplains (b : Base) (a : DecodeAt) (errs : List (Nat × Nat)) : Bool :=
  !a.rowStage && errs != [] && errs.all fun e => (b.busSymbols (quadOf a.place.ch) a.place.col).contains e.1

/-- A CORRECTED decode is tracked and healed (R204). `real` are the positions no injection explains. -/
def Base.trackCorrected (b : Base) (a : DecodeAt) (d : Decoded) (real : BitVec 80) : Base :=
  let p := a.place
  let c := b.chan p.ch
  let heal := fun b : Base => if a.fix = .heal then b.queueHeal a d.data d.mt else b
  match c.hist p with
  | some h =>
    if h.healDone ∧ h.pos &&& real ≠ 0 then (b.setChan p.ch (c.histFree p)).hardFault a d.data d.mt
    else heal (b.setChan p.ch (c.histUpd p fun x => { x with pos := real, healDone := false, readsLeft := 3, lastEp := b.pl.epochs }))
  | none =>
    match c.histInsert { bank := p.bank, row := p.row, col := p.col, pos := real, lastEp := b.pl.epochs } with
    | some c => heal (b.setChan p.ch c)
    | none => heal (b.send .historyFull (chSrc p.ch 6) (chAddr p.ch p.bank p.row p.col))

/-- on_decode of R204, for a line read of a channel or a row in the row stage. Of a recorded line, CLEAN_ERASED counts as the CLEAN row of
the table, and one whose whole mask is declared erased has no injection left to be seen and sends nothing (DESIGN CHOICE, entry 133). -/
def Base.onDecode (b : Base) (a : DecodeAt) (d : Decoded) : Base :=
  let p := a.place
  let off := a.demand && !tb (b.reg Reg.ECC_CFG) 9
  match d.out with
  | .clean | .cleanErased =>
    let b := match b.injRecord a.line with
      | some r => if r.set a.erasures ≠ [] then b.send .correctedInjectionActive a.src (64 * a.line) a.host else b
      | none => b
    b.updChan p.ch fun c => match c.hist p with
      | some h =>
        if h.healDone then
          if h.readsLeft ≤ 1 then c.histFree p
          else c.histUpd p fun x => { x with readsLeft := x.readsLeft - 1, lastEp := b.pl.epochs }
        else c.histUpd p fun x => { x with lastEp := b.pl.epochs }
      | none => c
  | .uncorrectable =>
    let again := a.silent || (b.chan p.ch).stampPending p.bank p.row p.col
    let b := b.countUncorrectable p.ch
    let b := (if again then b else b.reportUncorrectable a).updChan p.ch fun c => c.histFree p
    if a.stamps && !again then b.queueStamp a d.data else b
  | .corrected =>
    if a.beforeHeal then b.bump (Reg.CH_CORRECTED p.ch)
    else if b.busExplains a d.errs then
      let b := (b.countCorrected p.ch).reportCorrected a d
      if a.fix = .heal ∧ off = false then b.queueHeal a d.data d.mt else b
    else
      let b := (b.countCorrected p.ch).reportCorrected a d
      let b := if a.counted then b else b.bucketAdd p
      let b := if a.rowStage then b.segError (quadOf p.ch) p.col d.errs else b.pinError p.ch d.errs
      let real := errMask (unexplained (b.injRecord a.line) a.erasures d.errs)
      if a.fix = .none ∨ off = true then b
      else if real = 0 then (if a.fix = .heal then b.queueHeal a d.data d.mt else b)
      else b.trackCorrected a d real

end Sys2Proof.Machine
end

