-- ==== Sys2Proof/Machine/Channel.lean ====
section
/-! DEFINITION. Machine/Channel.lean: the channel controllers: the timing rules (R156, R157), the selection rule (R160 to R164), what an
issued command does (R158, R166 to R168, R182 to R185), refresh ticks, starvation, and the counters of chapter 5. -/

namespace Sys2Proof.Machine

/-- A request that returns data. -/
def ReqOp.isRead : ReqOp → Bool
  | .rd _ | .rdData => true
  | _ => false

/-! ### Timing -/

/-- The activation window of a die under its throttle step (R38, R371): four activations in so many ns. -/
def Base.faw (b : Base) (ch : Nat) : Nat := [12, 14, 16, 20, 24, 48].getD (b.diode (dieOf ch)).step 48

/-- Two column commands are far enough apart (R156): 2 ns, or 4 ns in one bank group; 8 ns from a read to a write, and 16 ns from
a write to a read, when both use the data pins. -/
def ColSlot.apart (x y : ColSlot) : Bool :=
  let (a, z) := if x.at_ ≤ y.at_ then (x, y) else (y, x)
  let base := if a.group = z.group then 4 else 2
  let gap := if a.dq ∧ z.dq then (if a.read ∧ !z.read then 8 else if !a.read ∧ z.read then 16 else base) else base
  decide (a.at_ + gap ≤ z.at_)

/-- The column slots an access at `t` reserves (R157, R158). -/
def slotsOf (t bank : Nat) (read merge : Bool) : List ColSlot :=
  if merge then [{ at_ := t + 14, group := bank % 8, read := true, dq := true }, { at_ := t + 50, group := bank % 8, read := false, dq := true }]
  else [{ at_ := t + 14, group := bank % 8, read := read, dq := true }]

/-- The column slot of a row transfer: an RBR or RBW, which uses no data pins (R156, R157). -/
def rowSlot (t bank : Nat) (read : Bool) : List ColSlot := [{ at_ := t + 14, group := bank % 8, read := read, dq := false }]

/-- The bus cycle of a row transfer whose ACT issues at t: an RBR's row is on the bus 10 ns after it (R156, R159). -/
def rowCycle (t : Nat) (read : Bool) : Nat := t + (if read then 24 else 14)

/-- No reserved column command is too near (tCCD_S, tCCD_L, turnaround, tWTR). -/
def Chan.slotsFree (c : Chan) (l : List ColSlot) : Bool := l.all fun x => c.cols.all fun y => x.apart y

/-- An activation slot is free (tRRD, tFAW). -/
def Base.actFree (b : Base) (ch t : Nat) : Bool :=
  let c := b.chan ch
  (match c.lastAct with | some a => decide (a + 2 ≤ t) | none => true)
    && decide ((c.acts.filter fun a => decide (t < a + b.faw ch)).length < 4)

def Chan.bankIdle (c : Chan) (bank t : Nat) : Bool := decide (Tab.get 0 c.bankFree bank ≤ t)

/-! ### Row disturbance -/

/-- A throttle entry for a label and bank (R185, R321). -/
def Base.throttle (b : Base) (ch bank row : Nat) (label : Label) : Base :=
  let c := b.chan ch
  if c.throttles.any fun t => t.label == label && t.bank == bank then
    b.setChan ch { c with throttles := c.throttles.map fun t => if t.label = label ∧ t.bank = bank then { t with until_ := b.pl.epochs + 1000 } else t }
  else if 8 ≤ c.throttles.length then b.send .throttleTableFull (chSrc ch 3) (chAddr ch bank row)
  else
    let b := b.setChan ch { c with throttles := c.throttles ++ [{ label := label, bank := bank, until_ := b.pl.epochs + 1000 }], lastThrottled := label }
    let b := (b.bump Reg.THROTTLE_COUNT).updLabel label.toNat fun e => { e with throttles := satAdd 15 e.throttles 1, throttleCh := ch }
    b.send .labelThrottled (chSrc ch 3) (chAddr ch bank label.toNat)

/-- A tracker counts an activation: exactly for its first four labels, together for the others (R184). -/
def RhTracker.count (t : RhTracker) (label : Label) : RhTracker :=
  if t.labels.any fun e => e.1 == label then { t with labels := t.labels.map fun e => if e.1 = label then (e.1, e.2 + 1) else e }
  else if t.labels.length < 4 then { t with labels := t.labels ++ [(label, 1)] }
  else { t with other := t.other + 1 }

/-- An activation counts against its neighbourhood (R182 to R185), whose first row the messages name (DEDUCED, entry 49). A spare-row
move is under no label and counts as OTHER. -/
def Base.disturb (b : Base) (ch bank row : Nat) (label : Option Label) : Base :=
  let nbh := bank * 2048 + row / 32
  let first := 32 * (row / 32)
  let c := b.chan ch
  let n := Tab.get 0 c.rh nbh + 1
  let trackers := c.rhTrackers.map fun t => if t.nbh = nbh then (match label with | some l => t.count l | none => { t with other := t.other + 1 }) else t
  let b := b.setChan ch { c with rh := Tab.set 0 c.rh nbh (min 2047 n), rhTrackers := trackers }
  if n = 1000 then
    if trackers.length < 16 then b.updChan ch fun c => { c with rhTrackers := c.rhTrackers ++ [{ nbh := nbh }] }
    else b.send .trackerFull (chSrc ch 3) (chAddr ch bank first)
  else if n = 2000 then
    let b := b.updChan ch fun c => { c with trfDue := c.trfDue ++ [(bank, nbh)] }
    let b := (b.bump Reg.NEIGHBOUR_REFRESH_COUNT).send .neighbourRefresh (chSrc ch 3) (chAddr ch bank first)
    match trackers.find? fun t => t.nbh == nbh with
    | some t => match t.labels.find? fun e => decide (500 < e.2) with
      | some e => b.throttle ch bank first e.1
      | none => b
    | none => b
  else b

/-- The count and the tracker of a neighbourhood are cleared (R182, R184). -/
def Chan.clearNbh (c : Chan) (nbh : Nat) : Chan :=
  { c with rh := Tab.set 0 c.rh nbh 0, rhTrackers := c.rhTrackers.filter fun t => t.nbh != nbh }

/-- The label is throttled on the bank now (R185). -/
def Base.throttled (b : Base) (ch bank t : Nat) (label : Label) : Bool :=
  (b.chan ch).throttles.any fun e => e.label == label && e.bank == bank && decide (b.pl.epochs < e.until_)
    && (match e.lastAct with | some a => decide (t < a + 200) | none => false)

/-- The die ignores commands: its guard controller has closed (R345). -/
def Base.ignores (b : Base) (ch : Nat) : Bool := (b.guard (dieOf ch)).state != 0

/-- A guarded die ignores n commands and counts each (R345, R353; an ACT and its column commands count one each, DEDUCED, entry 145). -/
def Base.ignoring (b : Base) (ch n : Nat) : Base :=
  if b.ignores ch then b.updGuard (dieOf ch) fun g => { g with ignored := satAdd 0xFFFF g.ignored n } else b

/-- An ACT at time t (R156, R182): the bank is held, the window and the counts take it, and the tenant captured with the label (R512). -/
def Base.activate (b : Base) (ch bank row t hold : Nat) (by_ : Option (Label × Nat)) (cols : List ColSlot) : Base :=
  let c := b.chan ch
  let label := by_.map fun x => x.1
  let thr := c.throttles.map fun (e : Throttle) => if some e.label = label ∧ e.bank = bank then { e with lastAct := some t } else e
  let c := { c with
    lastAct := some t
    acts := (t :: c.acts).take 4
    bankFree := Tab.set 0 c.bankFree bank (t + hold)
    cols := (c.cols.filter fun x => decide (t < x.at_ + 64)) ++ cols
    throttles := thr }
  let b := ((b.setChan ch c).countAct ch bank).countChan ch fun k => { k with activations := k.activations + 1 }
  let b := match by_ with
    | some x => b.tally x.2 fun y => { y with acts := y.acts + 1 }
    | none => b
  (b.disturb ch bank row label).ignoring ch (1 + cols.length)

/-- The label of a request and the tenant captured with it. -/
def Req.by_ (q : Req) : Option (Label × Nat) := some (q.label, q.tenant)
def RowEntry.by_ (e : RowEntry) : Option (Label × Nat) := e.label.map fun l => (l, e.tenant)

/-! ### Eligibility -/

/-- The channel may issue commands: it is trained, its set is ACTIVE, no pause holds it, its die is not held after a failed
heartbeat, and the part is not in the FATAL state. -/
def Base.chanRuns (b : Base) (ch t : Nat) : Bool :=
  let c := b.chan ch
  let x := b.set_ (b.setOf ch)
  (c.train == .trained || c.train == .sliced) && decide (c.pauseUntil ≤ t) && x.state == 0 && !x.exiting
    && !(b.guard (dieOf ch)).detected && !b.flt.fatal && b.boot.memActive

/-- A request of the same line that must go first (R107, R155): a read goes before a later write of its line. -/
def Chan.behind (c : Chan) (e : Entry) : Bool :=
  e.wr.isSome && c.readQ.any fun x => x.at_ e.bank e.row e.col && decide (x.seq < e.seq)

/-- Every place of the heal queue holds a stamp: no further line read is selected (R196). -/
def Chan.stampsFull (c : Chan) : Bool := decide (16 ≤ c.healQ.length) && c.healQ.all fun h => h.stamp

/-- A bank owes its limit of refreshes, or has a targeted refresh due (R161). -/
def Chan.bankBarred (c : Chan) (bank : Nat) : Bool := Tab.get 0 c.debt bank == 8 || c.trfDue.any fun x => x.1 == bank

def Entry.isMerge (e : Entry) : Bool := match e.wr with | some w => !w.full | none => false

/-- A sequence's ACT may issue at t (R156, R161): the bank and a slot of the window are free, its column slots too, and no refresh of the
bank and no droop of the die holds it. -/
def Base.actReady (b : Base) (ch bank t : Nat) (cols : List ColSlot) : Bool :=
  let c := b.chan ch
  c.bankIdle bank t && b.actFree ch t && c.slotsFree cols && !c.bankBarred bank && decide ((b.guard (dieOf ch)).holdUntil ≤ t)

/-- eligible of R161, but for the direction of the pins. A remapped line needs no command of the array. -/
def Base.eligible (b : Base) (ch t : Nat) (e : Entry) : Bool :=
  let c := b.chan ch
  let remapped := (c.remapOf e.bank e.row e.col).isSome
  !c.behind e && !c.moving e.bank e.row && !(e.wr.isNone && c.stampsFull) && decide ((b.guard (dieOf ch)).holdUntil ≤ t)
    && (remapped || (b.actReady ch e.bank t (slotsOf t e.bank e.wr.isNone e.isMerge) && !b.throttled ch e.bank t e.req.label))

/-! ### Row transfers -/

/-- The bus serves row transfers now: it is not retired and not out for its full-width test (R218, R293). -/
def Base.busServes (b : Base) (bus : Nat) : Bool := !(b.bus bus).retired && !(b.bus bus).testing

/-- The bus can take a transfer whose ACT issues at t (R159, R260, R263): it starts on even cycles, one offer is made in a cycle, and the
assigned bus cycle is free. -/
def Base.busOpen (b : Base) (bus t : Nat) (read : Bool) : Bool :=
  let x := b.bus bus
  b.busServes bus && t % 2 == 0 && x.usedAt != some t && !x.assigned.contains (rowCycle t read)

/-- The tier of an offered row transfer (R160): moves of spare rows are of tier 0, scrub of tier 3, the others are requests. -/
def RowEntry.tier (e : RowEntry) : Nat :=
  match e.src with
  | .move => 0
  | .scrub => 3
  | _ => if e.starved ∨ e.inBudget then 1 else 2

/-- Tier and key of an offered row transfer (R160, R161, R163, R292). Moves rank by arrival after every other item of their tier. -/
def RowEntry.key (e : RowEntry) : List Nat :=
  match e.src with
  | .move => [0, 8, 1, 0, 4, e.arrival]
  | .scrub => 3 :: keyOf e.cls e.step none e.arrival
  | _ => if e.starved then 1 :: keyOf 0 4 none e.arrival else e.tier :: keyOf e.cls e.step none e.arrival

/-- The bank is needed for demand or mover traffic, to which scrub yields (R37). -/
def Chan.bankWanted (c : Chan) (bank : Nat) : Bool :=
  (c.readQ ++ c.writeQ ++ c.xbar ++ c.upstream ++ c.feed).any (fun e => e.bank == bank && !(match e.req.who with | .scrub => true | _ => false))
    || c.rowQ.any fun e => e.bank == bank && e.src != .scrub

/-- A write that waits in the channel lies in the row (R254). -/
def Chan.rowQueued (c : Chan) (bank row : Nat) : Bool :=
  (c.writeQ ++ c.xbar ++ c.upstream ++ c.feed).any fun e => e.bank == bank && e.row == row && e.wr.isSome

/-- eligible of R161 for an offered row transfer, with the free bus cycle of R159 and the re-encoded row of R262. A row with a line write
still queued is held, so that the order of its lines stands (DEDUCED, entry 136). -/
def Base.eligibleRow (b : Base) (ch t : Nat) (e : RowEntry) : Bool :=
  let c := b.chan ch
  b.chanRuns ch t && decide (e.notBefore ≤ t) && (e.src == .scrub || !c.rowQueued e.bank e.row) && b.actReady ch e.bank t (rowSlot t e.bank e.read) && b.busOpen (quadOf ch) t e.read
    && (e.src == .move || !c.moving e.bank e.row) && !(e.src == .scrub && c.bankWanted e.bank)
    && (match e.label with | some l => !b.throttled ch e.bank t l | none => true)

/-- A read or a write of a spare-row move goes line by line (R212): the row bus is out of service, or the lines have begun. -/
def Base.moveByLine (b : Base) (ch : Nat) (m : SpareMove) : Bool :=
  !b.busServes (quadOf ch) || (m.lines != [] && decide (m.lines.length < 16)) || (decide (0 < m.written) && decide (m.written < 16))

/-- The line that a move on the line path reads or writes next can have its ACT. -/
def Base.moveDue (b : Base) (ch t : Nat) : Bool :=
  match (b.chan ch).move with
  | some m => b.moveByLine ch m && b.chanRuns ch t && (match m.programmedAt with | some p => decide (p ≤ t ∧ m.written < 16) | none => true)
      && b.actReady ch m.bank t (slotsOf t m.bank m.programmedAt.isNone false)
  | none => false

/-- Tier and effective class alone, for the direction rule (R162). -/
def Entry.rank (e : Entry) : List Nat := e.key.take 2

/-- Write-drain mode (R162). -/
def Base.drainMode (b : Base) (ch : Nat) (readsEligible : Bool) : Bool :=
  let c := b.chan ch
  let cfg := b.reg Reg.SCHED_CFG
  let d := c.drain && decide (fld cfg 14 8 < c.writeQ.length)
  d || decide (fld cfg 6 0 ≤ c.writeQ.length) || (!c.writeQ.isEmpty && !readsEligible)

/-- The best of the entries by key; the first of equals (R161, R164). -/
def best : List Entry → Option Entry
  | [] => none
  | e :: t => some (t.foldl (fun a x => if keyLt x.key a.key then x else a) e)

/-- The same among offered row transfers. -/
def bestRow : List RowEntry → Option RowEntry
  | [] => none
  | e :: t => some (t.foldl (fun a x => if keyLt x.key a.key then x else a) e)

/-- What ranks first in a cycle of the controller. The ACT of a row transfer issues with its bus cycle, that of a move's line with the
move's own command. -/
inductive Pick where
  | line (e : Entry)
  | refresh (bank : Nat) (forced : Bool)
  | trf (bank nbh : Nat)
  | row (e : RowEntry)
  | move
deriving DecidableEq, Repr

/-- A bank owing 8 whose cycle allows its refresh (R166, R167). Of several the lowest goes first, and forced refreshes go before targeted
ones: tier 0 has no key for them (DESIGN CHOICE, entry 129). -/
def Base.forcedBank (b : Base) (ch t : Nat) : Option Nat :=
  let c := b.chan ch
  (List.range 32).find? fun k => Tab.get 0 c.debt k == 8 && c.bankIdle k t

/-- The bank a planned slot refreshes (R167): the highest debt, then the fewest queued requests, then the lowest number after the
bank last refreshed. A bank whose targeted refresh is due takes no planned one (R183). -/
def Base.slotBank (b : Base) (ch : Nat) : Option Nat :=
  let c := b.chan ch
  let queued := fun k => ((c.readQ ++ c.writeQ).filter fun e => e.bank == k).length + (c.rowQ.filter fun e => e.bank == k).length
  let key := fun k => [8 - Tab.get 0 c.debt k, queued k, (k + 31 - c.lastRefreshed) % 32]
  match (List.range 32).filter fun k => decide (0 < Tab.get 0 c.debt k) && !c.trfDue.any fun x => x.1 == k with
  | [] => none
  | k :: r => some (r.foldl (fun a x => if keyLt (key x) (key a) then x else a) k)

/-- The set is in POWERDOWN: refreshes go on, and nothing else issues (R177). -/
def Base.inPowerdown (b : Base) (ch : Nat) : Bool := (b.set_ (b.setOf ch)).state == 1

/-- Refreshes may issue: in an ACTIVE set or in POWERDOWN (R177). -/
def Base.refreshRuns (b : Base) (ch t : Nat) : Bool :=
  b.chanRuns ch t || (b.inPowerdown ch && (b.chan ch).train != .retired && (b.chan ch).train != .untrained && !b.flt.fatal && b.boot.memActive)

/-- Refreshes of tier 0 that may issue (R160, R183): of a bank owing 8, or a targeted one. -/
def Base.tier0 (b : Base) (ch t : Nat) : Option Pick :=
  let c := b.chan ch
  if !(b.refreshRuns ch t && b.actFree ch t) then none
  else match b.forcedBank ch t with
    | some k => some (.refresh k true)
    | none => match c.trfDue.find? fun x => c.bankIdle x.1 t && Tab.get 0 c.debt x.1 != 8 with
      | some x => if b.chanRuns ch t then some (.trf x.1 x.2) else none
      | none => none

/-- The best line request under the direction rule, and the mode of the pins (R161, R162). -/
def Base.bestLine (b : Base) (ch t : Nat) : Option Entry × Bool :=
  let c := b.chan ch
  let runs := b.chanRuns ch t
  let reads := if runs then c.readQ.filter (b.eligible ch t) else []
  let writes := if runs then c.writeQ.filter (b.eligible ch t) else []
  let drain := b.drainMode ch (!reads.isEmpty)
  let ahead := fun (x : Entry) (l : List Entry) => l.all fun y => keyLt x.rank y.rank
  let reads' := if drain then reads.filter fun x => ahead x writes else reads
  let writes' := if drain then writes else writes.filter fun x => ahead x reads
  (best (reads' ++ writes'), drain)

/-- A planned refresh slot that may issue (R166, R167). -/
def Base.slotPick (b : Base) (ch t : Nat) : Option Pick :=
  if b.refreshRuns ch t && b.actFree ch t && decide (0 < (b.chan ch).slots) && decide ((b.guard (dieOf ch)).holdUntil ≤ t) then
    match b.slotBank ch with
    | some k => if (b.chan ch).bankIdle k t then some (.refresh k false) else none
    | none => none
  else none

/-- What ranks first (R160, R161, R164): refreshes of tier 0, a move, the best request, and of tier 3 the planned refresh before scrub
(DESIGN CHOICE, entry 129). A row transfer is a candidate until its bus has made its offer of the cycle. -/
def Base.pick (b : Base) (ch t : Nat) : Option Pick × Bool :=
  let (line, drain) := b.bestLine ch t
  let own := fun e : RowEntry => e.src == .move || e.src == .scrub || (b.bus (quadOf ch)).offeredAt != some t
  let row := bestRow ((b.chan ch).rowQ.filter fun e => own e && b.eligibleRow ch t e)
  let low := fun (x : Option Pick) => (b.slotPick ch t).orElse fun _ => x
  let p := match b.tier0 ch t with
    | some m => some m
    | none => if b.moveDue ch t then some .move else match line, row with
      | some e, some r => if keyLt r.key e.key then some (.row r) else if e.tier = 3 then low (some (.line e)) else some (.line e)
      | some e, none => if e.tier = 3 then low (some (.line e)) else some (.line e)
      | none, some r => if r.tier = 3 then low (some (.row r)) else some (.row r)
      | none, none => low none
  (p, drain)

/-- A row transfer that its channel accepts now (R159 to R161, R164): it is eligible and nothing else of the channel ranks before it. -/
def Base.acceptsRow (b : Base) (ch t : Nat) (e : RowEntry) : Bool :=
  b.eligibleRow ch t e && (b.tier0 ch t).isNone && !b.moveDue ch t
    && (match (b.bestLine ch t).1 with | some x => keyLt e.key x.key | none => true)
    && ((b.chan ch).rowQ.filter (b.eligibleRow ch t)).all (fun x => decide (x = e) || !keyLt x.key e.key)
    && !(e.tier == 3 && (b.slotPick ch t).isSome)

/-- The transfer takes its bus cycle (R159). -/
def Base.useBus (b : Base) (ch t : Nat) (e : RowEntry) : Base :=
  b.updBus (quadOf ch) fun x => { x with usedAt := some t, assigned := (x.assigned.filter fun c => decide (t ≤ c)) ++ [rowCycle t e.read] }

/-- The transfer leaves the row queue; one charged over budget has issued (R312). -/
def Base.dropRow (b : Base) (ch n : Nat) (e : RowEntry) : Base :=
  let b := b.updChan ch fun c => { c with rowQ := dropFirst (fun x => decide (x = e)) c.rowQ }
  match e.label with
  | some l => b.overIssued l.toNat n e.inBudget
  | none => b

/-- The same transfer of the same source. -/
def RowEntry.same (x e : RowEntry) : Bool := x.src == e.src && x.bank == e.bank && x.row == e.row && x.read == e.read

/-- A planned pause may begin now: no item of a lower tier is eligible; a forced one is itself of tier 0, after the refreshes
(R160, entry 129). Nothing else has issued in the cycle. -/
def Base.pauseTurn (b : Base) (ch : Nat) (forced : Bool) : Bool :=
  (b.chan ch).lastAct != some b.now && (match (b.pick ch b.now).1 with
    | none => true
    | some (.refresh _ f) => !f
    | some (.trf _ _) => false
    | some (.row e) => forced || e.tier == 3
    | some (.line e) => forced || e.tier == 3
    | some .move => forced)

/-! ### Issue -/

/-- Octants of the channel's set that are dropped, by their number within the set (R169). -/
def Base.droppedIn (b : Base) (s : Nat) : List Nat := (List.range 8).filter fun j => b.pw.dropped.getLsbD (8 * s + j)

/-- The refresh pointer after a REFpb: 8 rows on, past dropped octants (R166, R169). -/
def skipDropped (dropped : List Nat) (p : Nat) : Nat :=
  forN 8 (fun _ p => if dropped.contains (p / 1024) then (p / 1024 + 1) % 8 * 1024 else p) (p % 8192)

/-- A REFpb (R166, R167, R182). -/
def Base.issueRefresh (b : Base) (ch bank t : Nat) (forced : Bool) : Base :=
  let c := b.chan ch
  let p := Tab.get 0 c.refPtr bank
  let debt := Tab.get 0 c.debt bank - 1 + (if Tab.get false c.heldTick bank then 1 else 0)
  let charged := forced && c.slots == 0
  let c := { c with
    debt := Tab.set 0 c.debt bank debt
    heldTick := Tab.set false c.heldTick bank false
    counted := Tab.set 0 c.counted bank (min debt (Tab.get 0 c.counted bank))
    refPtr := Tab.set 0 c.refPtr bank (skipDropped (b.droppedIn (b.setOf ch)) (p + 1))
    lastRefreshed := bank
    slots := c.slots - 1
    lastAct := some t
    acts := (t :: c.acts).take 4
    bankFree := Tab.set 0 c.bankFree bank (t + 160) }
  let c := if p % 4 = 3 then c.clearNbh (bank * 2048 + p / 4) else c
  let b := ((b.setChan ch c).countAct ch bank).countChan ch fun k => { k with refreshes := k.refreshes + 1 }
  let b := if charged then b.updPl fun x => { x with charged := Tab.upd 0 x.charged ch (· + 1) } else b
  (if forced then b.send .refreshForced (chSrc ch 1) (chAddr ch bank 0) else b).ignoring ch 1

/-- A TRFpb (R183): 320 ns of the bank and one slot of the window. -/
def Base.issueTrf (b : Base) (ch bank nbh t : Nat) : Base :=
  let b := (b.countAct ch bank).countChan ch fun k => { k with refreshes := k.refreshes + 1 }
  (b.ignoring ch 1).updChan ch fun c => { c with
    trfDue := dropFirst (fun x => decide (x = (bank, nbh))) c.trfDue
    trfRunning := c.trfRunning ++ [(bank, nbh, t + 320)]
    lastAct := some t
    acts := (t :: c.acts).take 4
    bankFree := Tab.set 0 c.bankFree bank (t + 320) }

/-- The write log of R349: 384 entries, the newest first; `col` 16 stands for a whole row. The die counts what it takes. -/
def Base.logWrite (b : Base) (ch bank row col : Nat) (taken : Bool) : Base :=
  let b := b.updSi fun s => { s with writeLog := Tab.upd [] s.writeLog ch fun l => ((bank, row, col) :: l).take 384 }
  if taken then b.updGuard (dieOf ch) fun g => { g with accepted := Tab.upd 0 g.accepted (quadOf ch) (· + 1) } else b

/-- Where a queue entry's line lies. -/
def Entry.place (e : Entry) (ch : Nat) : Place := { ch := ch, bank := e.bank, row := e.row, col := e.col }

/-- The context of a channel decode. -/
def Base.chanDecode (b : Base) (ch : Nat) (e : Entry) (overtaken : Bool) : DecodeAt :=
  { place := e.place ch, line := e.req.line, src := chSrc ch 5, overtaken := overtaken, erasures := erasedSymbols (b.declaredPins ch),
    demand := (match e.req.who with | .scrub | .verify => false | _ => true),
    host := if e.req.op.isRead then (match e.req.who with | .host _ ld _ => some ld | .gone ld => some ld | _ => none) else none }

/-- The line a merge writes (R105, R158): the queued bytes over the line as decoded; over an uncorrectable line, which is
then poisoned, listed and reported. -/
def State.mergeLine (s : State) (ch : Nat) (e : Entry) (w : LineWrite) (noise : Noise) : Data × Meta × State :=
  let a := s.base.chanDecode ch e true
  let d := decodeWord a.erasures (addNoise (s.lineWord a.place) noise)
  let s := s.onBase fun b => b.onDecode a d
  let r := w.apply d.data d.mt
  if d.out = .uncorrectable then
    let db := s.base.isDb e.req.line
    let st := s.base.stampRec e.req.line
    let m : Meta := { r.2 with poison := true, healed := false, sharers := w.sharers.getD st.vec, st := if db then w.st.getD st.st else w.st.getD 0 }
    (r.1, m, s.onBase fun b => b.listPoison e.req.line)
  else (r.1, r.2, s)

/-- Injection records follow the write of a line (R221, R223). -/
def Base.injectWrite (b : Base) (line : Nat) (w : LineWrite) : Base :=
  let others := b.dram.injections.filter fun i => i.line != line
  match w.inject with
  | some (mask, pat) => b.updDram fun d => { d with injections := others ++ [{ line := line, mask := mask, pattern := pat }] }
  | none => b.updDram fun d => { d with injections := others }

/-- A write entry issues (R157, R158, R208). -/
def State.issueWrite (s : State) (ch t : Nat) (e : Entry) (noise : Noise) : State :=
  match e.wr with
  | none => s
  | some w =>
    let p := e.place ch
    let remapped := ((s.base.chan ch).remapOf e.bank e.row e.col).isSome
    let ignored := s.base.ignores ch && !remapped
    let s := s.onBase fun b => b.updChan ch fun c => { c with writeQ := dropFirst (fun x => decide (x = e)) c.writeQ }
    let s := if remapped then s else s.onBase fun b =>
      ((b.activate ch e.bank e.row t (if w.full then 45 else 81) e.req.by_ (slotsOf t e.bank false (!w.full))).logWrite ch e.bank e.row e.col (!ignored)).countChan ch
        fun k => { k with writes := k.writes + 1 }
    let (d, m, s) := if w.full then (let r := w.apply 0 {}; (r.1, r.2, s)) else s.mergeLine ch e w noise
    let word := maskPins (s.base.chan ch).erased (match w.inject with | some (mask, pat) => injectWord (encodeLine d m) mask pat | none => encodeLine d m)
    let s := if ignored then s else s.putWord p word
    s.onBase fun b =>
      let b := b.injectWrite e.req.line w
      match e.req.who with
      | .heal => b.updChan ch fun c => { c with healing := c.healing ++ [(e.bank, e.row, e.col, t + 45)] }
      | .fill st => b.updLay fun l => { l with fills := l.fills.map fun (f : Fill) => if f.stripe = st then { f with closes := max f.closes (t + 45) } else f }
      | _ => b

/-- A read entry issues (R157): the symbols are taken as the array holds them now. A write of the line that waits in the write queue is
newer than what is read (R34, R202). A line served from its remap entry makes no DRAM access, and is not counted among the line reads
and line writes of a snapshot (R47, R208; DESIGN CHOICE, entry 130). -/
def State.issueRead (s : State) (ch t : Nat) (e : Entry) : State :=
  let p := e.place ch
  let c := s.base.chan ch
  let remapped := (c.remapOf e.bank e.row e.col).isSome
  let raw := if s.base.ignores ch && !remapped then guardBurst else s.lineWord p
  let i : Inflight := { entry := { e with req := { e.req with owes := false } }, act := t, raw := raw, overtaken := c.writeQ.any fun x => x.at_ e.bank e.row e.col && !x.isHeal }
  s.onBase fun b =>
    let b := b.updChan ch fun c => { c with readQ := dropFirst (fun x => decide (x = e)) c.readQ, inflight := c.inflight ++ [i] }
    if remapped then b
    else (b.activate ch e.bank e.row t 45 e.req.by_ (slotsOf t e.bank true false)).countChan ch fun k => { k with reads := k.reads + 1 }

/-- CHANNEL_SELECT (R161): one controller cycle of a channel. -/
def State.select (s : State) (ch : Nat) (noise : Noise) : State :=
  let t := s.base.now
  let (p, drain) := s.base.pick ch t
  let s := s.onBase fun b => b.updChan ch fun c => { c with drain := drain }
  match p with
  | none => s
  | some (.refresh k f) => s.onBase fun b => b.issueRefresh ch k t f
  | some (.trf k n) => s.onBase fun b => b.issueTrf ch k n t
  | some (.row _) | some .move => s
  | some (.line e) =>
    let s := s.onBase fun b => b.release e.req
    let s := if e.wr.isSome then s.issueWrite ch t e noise else s.issueRead ch t e
    s.onBase fun b => b.drainChan ch

/-- The time between two refresh ticks of a channel, in 224ths of a ns (R166, R168, R169): tREFI / 32 of 121.9 ns, half of it on a hot die,
stretched by 8 / (8 − d) with d octants dropped. -/
def Base.tickSpacing (b : Base) (ch : Nat) : Nat :=
  (if b.dram.hot.getLsbD (dieOf ch) then 109200 else 218400) / (8 - (b.droppedIn (b.setOf ch)).length)

/-- A tick for a bank (R166, R167): its debt, held at 8. The next bank's tick follows at the spacing; ticks that were not due in time, as
those of a set in SELF_REFRESH, are not made up. -/
def Base.tick (b : Base) (ch bank : Nat) : Base :=
  let at_ := if (b.chan ch).tickDue + 224 ≤ 224 * b.now then 224 * b.now else (b.chan ch).tickDue
  b.updChan ch fun c =>
    let c := { c with tickBank := (bank + 1) % 32, tickDue := at_ + b.tickSpacing ch }
    if Tab.get 0 c.debt bank < 8 then { c with debt := Tab.upd 0 c.debt bank (· + 1) }
    else { c with heldTick := Tab.set false c.heldTick bank true }

/-- REFRESH_TICK (R166, R167): the staggered tick of the bank whose turn it is, once it is due. -/
def execRefreshTick (ch : ChanId) (bank : BitVec 5) (s : State) : Host.Outcome State Fault Refusal :=
  s.whenBase (fun b => b.alive && b.boot.memActive && !b.retired ch.toNat && (b.droppedIn (b.setOf ch.toNat)).length != 8
      && (b.set_ (b.setOf ch.toNat)).state < 2 && (b.chan ch.toNat).tickBank == bank.toNat && decide ((b.chan ch.toNat).tickDue ≤ 224 * b.now)) fun b =>
    b.tick ch.toNat bank.toNat

/-- STARVATION (R163): every request of the channel that has waited STARVE_LIMIT becomes starved. Scrub and spare-row moves are no
requests (R160). -/
def execStarvation (ch : ChanId) (s : State) : Host.Outcome State Fault Refusal :=
  s.whenBase Base.alive fun b =>
    let c := b.chan ch.toNat
    let limit := 1000 * b.rf Reg.SCHED_CFG 23 16
    let due := fun e : Entry => !e.starved && e.tier != 3 && decide (e.arrival + limit ≤ b.now)
    let dueRow := fun e : RowEntry => !e.starved && (e.tier == 1 || e.tier == 2) && decide (e.arrival + limit ≤ b.now)
    let hit := (((c.readQ ++ c.writeQ).filter due).map fun e => (e.bank, e.row)) ++ (c.rowQ.filter dueRow).map fun e => (e.bank, e.row)
    let star := fun e : Entry => if due e then { e with starved := true } else e
    let b := b.setChan ch.toNat { c with
      readQ := c.readQ.map star, writeQ := c.writeQ.map star, rowQ := c.rowQ.map fun e => if dueRow e then { e with starved := true } else e }
    hit.foldl (fun b e => (b.bump Reg.STARVE_COUNT).send .starvation (chSrc ch.toNat 0) (chAddr ch.toNat e.1 e.2)) b

/-- TRF_COMPLETE (R182 to R184). -/
def execTrfComplete (ch : ChanId) (bank : BitVec 5) (s : State) : Host.Outcome State Fault Refusal :=
  s.whenBase Base.alive fun b =>
    let c := b.chan ch.toNat
    match c.trfRunning.find? fun x => x.1 == bank.toNat && decide (x.2.2 ≤ b.now) with
    | some x =>
      let c := { c with trfRunning := c.trfRunning.filter (fun y => decide (y ≠ x)), trfCount := satAdd 0xFFFF c.trfCount 1 }
      b.setChan ch.toNat (c.clearNbh x.2.1)
    | none => b

/-- THROTTLE_EXPIRE (R185, R321). -/
def execThrottleExpire (ch : ChanId) (bank : BitVec 5) (label : Label) (s : State) : Host.Outcome State Fault Refusal :=
  s.whenBase Base.alive fun b =>
    let c := b.chan ch.toNat
    let hit := fun t : Throttle => t.label == label && t.bank == bank.toNat && decide (t.until_ ≤ b.pl.epochs)
    if c.throttles.any hit then
      (b.setChan ch.toNat { c with throttles := c.throttles.filter fun t => !hit t }).updLabel label.toNat fun e => { e with throttles := e.throttles - 1 }
    else b

/-- DRAM_COUNT_CLEAR (R186). -/
def execDramCountClear (v : Word) (s : State) : Host.Outcome State Fault Refusal :=
  s.whenBase Base.mgmtFull fun b => b.clearCounters Reg.NEIGHBOUR_REFRESH_COUNT 4 v

end Sys2Proof.Machine
end

