-- ==== Sys2Proof/Machine/Coherence.lean ====
section
/-! DEFINITION. Machine/Coherence.lean: the initialisation map's stage (R143 to R147), the directory cache (R234 to R238), the home
agent's flows (R239 to R247), isolation and release sweeps (R246 to R249). -/

namespace Sys2Proof.Machine

/-! ### Records -/

/-- A record as the home agent takes it (R234): no holder or an impossible pair is 00. -/
def DirRec.norm (r : DirRec) : DirRec := if r.vec = 0 ∨ r.st = 0 ∨ r.st = 3 then {} else r

/-- The bit of a host. -/
def hostBit (h : Nat) : BitVec 16 := BitVec.ofNat 16 (2 ^ h)

/-- The hosts of a vector. -/
def hostsOf (v : BitVec 16) : List Nat := (List.range 16).filter fun h => v.getLsbD h

/-- The part's own label for directory accesses (R258). -/
def Base.dirLabel (b : Base) : Label := BitVec.ofNat 16 (b.rf Reg.COH_LABELS 15 0)
def Base.sweepLabel (b : Base) : Label := BitVec.ofNat 16 (b.rf Reg.COH_LABELS 31 16)

/-- The record the part holds for a line without reading the array: the cache, the victim buffer, or a queued write that stores
one (R235, R236). -/
def Base.heldRec (b : Base) (line : Nat) : Option DirRec :=
  match b.coh.cache.find? fun e => e.1 == line with
  | some e => some e.2.dir
  | none => match b.coh.victims.find? fun v => v.1 == line with
    | some v => some v.2
    | none =>
      let p := b.place line
      match (b.chan p.ch).writeQ.find? fun e => e.at_ p.bank p.row p.col with
      | some e => match e.wr with
        | some w => match w.sharers, w.st with | some v, some st => some { vec := v, st := st } | _, _ => none
        | none => none
      | none => none

/-- A request waits at the home agent, in order of passage (R239). -/
def Base.park (b : Base) (w : Waiter) : Base :=
  b.updCoh fun c => { c with waiting := (c.waiting.filter fun x => decide (x.req.passed ≤ w.req.passed)) ++ [w] ++ c.waiting.filter fun x => decide (w.req.passed < x.req.passed) }

/-- A request waits behind its line (R239). -/
def Base.waitHome (b : Base) (q : Req) : Base := b.park { req := q, since := b.now }

/-- Free a line's cache and victim entries. -/
def Base.dropRec (b : Base) (line : Nat) : Base :=
  b.updCoh fun c => { c with cache := Tab.erase line c.cache, victims := c.victims.filter fun v => v.1 != line }

/-- The line has a cache entry. -/
def Base.cached (b : Base) (line : Nat) : Bool := b.coh.cache.any fun e => e.1 == line

/-- An access to a cache entry makes it the last used of its set (R235). -/
def Base.touchRec (b : Base) (line : Nat) : Base :=
  if b.cached line then b.updCoh fun c => { c with cache := c.cache.map fun e => if e.1 = line then (e.1, { e.2 with used := c.uses }) else e, uses := c.uses + 1 }
  else b

/-- The least recently used way of a set of 16 (R235): the cache is indexed by DPA[21:6]. -/
def lruOf (cache : Tab DirEntry) (set : Nat) : Option (Nat × DirEntry) :=
  match cache.filter fun e => e.1 % 65536 == set with
  | [] => none
  | e :: t => some (t.foldl (fun a x => if x.2.used < a.2.used then x else a) e)

/-- An entry of the line has room: it has one, a way is free, or the way it takes is clean or has room in the victim buffer of 32 (R236). -/
def Base.hasRoom (b : Base) (line : Nat) : Bool :=
  b.cached line || decide ((b.coh.cache.filter fun e => e.1 % 65536 == line % 65536).length < 16)
    || (match lruOf b.coh.cache (line % 65536) with | some e => !e.2.dirty || decide (b.coh.victims.length < 32) | none => true)

/-- A record can be placed (R236). -/
def Base.canPlace (b : Base) (line : Nat) (r : DirRec) : Bool := r.norm == {} || b.hasRoom line

/-- A directory update of a line, without data change, waits at the home agent (R137, R236). -/
def Base.updateLine (b : Base) (line : Nat) (r : DirRec) (l : Label) : Base :=
  let (q, b) := b.internal .directory (.update r.vec r.st) line l
  b.waitHome q

/-- Place, update or free a line's entry (R236). A DIRTY entry evicted goes to the victim buffer and its write-back waits at the
home agent. -/
def Base.putRec (b : Base) (line : Nat) (r : DirRec) (dirty : Bool) : Base :=
  let r := r.norm
  if r = {} then b.dropRec line
  else
    let full := !b.cached line && decide (16 ≤ (b.coh.cache.filter fun e => e.1 % 65536 == line % 65536).length)
    let b := if full then
        match lruOf b.coh.cache (line % 65536) with
        | some v =>
          let b := b.updCoh fun c => { c with cache := Tab.erase v.1 c.cache }
          if v.2.dirty then
            ((b.updateLine v.1 v.2.dir b.dirLabel).updCoh fun c => { c with victims := c.victims ++ [(v.1, v.2.dir)] }).bump Reg.DIR_WRITEBACK_COUNT
          else b
        | none => b
      else b
    b.updCoh fun c => { c with
      cache := Tab.insert line { dir := r, dirty := dirty, used := c.uses } c.cache
      uses := c.uses + 1
      victims := c.victims.filter fun v => v.1 != line }

/-- Change the record of a line whose codeword a write now on its way stores: in its cache and victim entries, where it has one. -/
def Base.stampedRec (b : Base) (line : Nat) (r : DirRec) : Base :=
  b.updCoh fun c => { c with
    cache := c.cache.map fun e => if e.1 = line then (e.1, { e.2 with dir := r, dirty := false }) else e
    victims := c.victims.map fun v => if v.1 = line then (line, r) else v }

/-- The record that a flow leaves is placed (R236): clean when the flow writes the codeword, DIRTY when it changes the record otherwise. A
flow that leaves a nonzero record as it was places it too. -/
def Base.placeRec (b : Base) (line : Nat) (r : DirRec) (writes changed : Bool) : Base :=
  if writes then b.putRec line r false
  else if changed then b.putRec line r true
  else if b.cached line then b.touchRec line
  else b.putRec line r false

/-! ### Flows -/

/-- The snoop a request sends, the record it leaves when it sends none, and its completion (R240, R250). `r` is the requester's
bit, zero for the mover. -/
def flow (op : ReqOp) (r : BitVec 16) (rec_ : DirRec) : Option SnoopKind × DirRec × Rsp :=
  let others := rec_.vec &&& ~~~r
  match op with
  | .rd .noOp | .rd .cur => if rec_.st = 2 ∧ others ≠ 0 then (some .cur, rec_, .cmp) else (none, rec_, .cmp)
  | .rd .data =>
    if rec_.st = 2 then (if others = 0 then (none, rec_, .cmpE) else (some .data, rec_, .cmpS))
    else (none, { vec := rec_.vec ||| r, st := 1 }, .cmpS)
  | .rdData =>
    if others = 0 then (none, { vec := r, st := 2 }, .cmpE)
    else if rec_.st = 1 then (none, { vec := rec_.vec ||| r, st := 1 }, .cmpS)
    else (some .data, rec_, .cmpS)
  | .rd .inv | .inv => if others ≠ 0 then (some .inv, rec_, .cmpE) else (none, { vec := r, st := 2 }, .cmpE)
  | .wr _ _ | .ptl _ _ => if others ≠ 0 then (some .inv, rec_, .cmp) else (none, { vec := r, st := 2 }, .cmp)
  | .probe false => if rec_.st = 2 then (some .cur, rec_, .cmp) else (none, rec_, .cmp)
  | .probe true => if rec_.vec ≠ 0 then (some .inv, rec_, .cmp) else (none, {}, .cmp)
  | .update v st => (none, { vec := v, st := st }, .cmp)
  | .inject _ _ => (none, rec_, .cmp)

/-- The record after a flow whose snoops have all been answered (R240, R241, R250). -/
def afterSnoops (t : Tracker) (r : BitVec 16) : DirRec :=
  match t.req.op with
  | .rd .data | .rdData => { vec := r ||| t.shared, st := 1 }
  | .rd .inv | .inv | .wr _ _ | .ptl _ _ => { vec := r, st := 2 }
  | .probe true => {}
  | _ => t.dir

/-- The completion of a request whose flow sent snoops (R240). -/
def ReqOp.snoopedGrant : ReqOp → Rsp
  | .rd .data | .rdData => .cmpS
  | .rd .inv | .inv => .cmpE
  | _ => .cmp

/-- A request that writes the line's data. -/
def ReqOp.isWrite : ReqOp → Bool
  | .wr _ _ | .ptl _ _ => true
  | _ => false

/-- The requester's bit. -/
def Req.bit (q : Req) : BitVec 16 := match q.who with | .host _ ld _ => hostBit ld.toNat | .gone ld => hostBit ld.toNat | _ => 0

/-- A record of state 10 with several holders, which only a recovery leaves: the next access invalidates every member (R234, R237). -/
def DirRec.recovered (r : DirRec) : Bool := r.norm.st == 2 && decide (1 < (hostsOf r.vec).length)

/-- What a flow whose snoops have all been answered leaves: the record and the completion (R240, R241). After the invalidation of a recovered
record the request is decided from what is left of it; the requester itself is not snooped (R237; DEDUCED, entry 134). -/
def Tracker.outcome (t : Tracker) : DirRec × Rsp :=
  if t.purge then (let o := flow t.req.op t.req.bit t.dir.norm; (o.2.1, o.2.2)) else (afterSnoops t t.req.bit, t.req.op.snoopedGrant)

/-! ### Snoops -/

/-- A snoop leaves for its host, or waits for its port (R245): while the link is down or its host has no port it is timed
already. -/
def Base.sendSnoop (b : Base) (h line : Nat) (k : SnoopKind) : Snoop × Base :=
  let b := b.bump Reg.BISNP_COUNT
  let p := b.portOf h
  let x := b.port p
  let s : Snoop := { host := BitVec.ofNat 4 h, kind := k }
  let e : Emit := .biSnp (BitVec.ofNat 4 p) (BitVec.ofNat 4 h) k line
  if x.carries then ({ s with sentAt := some b.now, sent := true }, (b.emit e).setPort p (x.sent e))
  else if x.isUp then (s, b)
  else ({ s with sentAt := some b.now }, b)

/-- Snoops held for a port leave when its link carries traffic (R245). -/
def Base.releaseSnoops (b : Base) (p : Nat) : Base :=
  let due := b.coh.trackers.flatMap fun t => (t.snoops.filter fun s => !s.sent && b.portOf s.host.toNat == p && b.bound s.host.toNat).map fun s => (t.line, s)
  let b := due.foldl (fun (b : Base) e =>
    let m : Emit := .biSnp (BitVec.ofNat 4 p) e.2.host e.2.kind e.1
    (b.emit m).updPort p fun x => x.sent m) b
  let go := fun s : Snoop => if !s.sent && b.portOf s.host.toNat == p && b.bound s.host.toNat then { s with sent := true, sentAt := s.sentAt.orElse fun _ => some b.now } else s
  b.updCoh fun c => { c with trackers := c.trackers.map fun t => { t with snoops := t.snoops.map go } }

/-! ### Lost lines -/

/-- A line that an isolated host alone held is stamped, listed and reported (R247). The stamp keeps the data bytes, and writes the codeword, so
that an entry of the line is clean (R236). -/
def Base.loseLine (b : Base) (line h : Nat) : Base :=
  let r := b.stampRec line
  let (q, b) := b.internal .stamp (.ptl 0 0) line b.healLabel
  let e := b.entryOf q (some { be := 0, sharers := some r.vec, st := some r.st, poison := some true, healed := some false })
  let b := ((b.listPoison line).feedIn (b.place line).ch e).send .ownerLost 0x400 (64 * line) (some (BitVec.ofNat 4 h))
  b.stampedRec line r

/-- The record as an access finds it: isolated hosts are absent, and a line they alone held exclusively is lost (R246,
R247). -/
def Base.foundRec (b : Base) (line : Nat) (r : DirRec) : DirRec × Base :=
  let r := r.norm
  let v := r.vec &&& ~~~b.coh.isolated
  if r.st = 2 ∧ v = 0 then
    let b := b.loseLine line (((hostsOf r.vec).head?).getD 0)
    let s := b.stampRec line
    (({ vec := s.vec &&& ~~~b.coh.isolated, st := s.st } : DirRec).norm, b)
  else (({ vec := v, st := r.st } : DirRec).norm, b)

/-! ### To the channel -/

/-- The answer of the requests that reach no line: a read's data, a write's completion. -/
def Base.refuse (b : Base) (q : Req) (d : Data) : Base := b.answer q [if q.op.isRead then .data d true 0 else .cmp]

/-- The answer with poisoned data of unstated bytes (R396, R398). -/
def Base.refusePoison (b : Base) (q : Req) : Base :=
  let (n, b) := b.takeFree
  b.refuse q (Config.freeData n)

/-- Poisoned data of which the manual does not state the bytes. -/
def Base.answerPoison (b : Base) (q : Req) : Base :=
  let (k, b) := b.takeFree
  b.finishRead (b.entryOf q none) (Config.freeData k) { poison := true }

/-- A request for a line of a retired channel (R338): a read answers poison, everything else completes and is discarded. -/
def Base.retiredReq (b : Base) (q : Req) : Base :=
  if q.op.isRead then b.answerPoison { q with decided := true, grant := .cmp }
  else
    let b := b.release q
    match q.who with
    | .host _ ld _ | .gone ld => (b.answerCmp q .cmp).updDict fun d => { d with retiredAccess := Tab.upd 0 d.retiredAccess ld.toNat (· + 1) }
    | .mover s _ => (b.freeTracker q).moverDone s fun x => { x with busy := false }
    | .directory => b.updCoh fun c => { c with victims := c.victims.filter fun v => v.1 != q.line }
    | _ => b.freeTracker q

/-- The metadata update that a read of an HDM-H line carries in its MetaValue (R106): a merge behind the read, which returns the stored
value. It is part of the read, and is charged and answered with it. -/
def Base.readMeta (b : Base) (q : Req) : Base :=
  match q.metaField with
  | .meta0 v =>
    if q.op.isRead && !b.isDb q.line then
      match q.who with
      | .host _ ld _ | .gone ld =>
        let (m, b) := b.pass { q with who := .gone ld, op := .update 0 v, deadline := none }
        b.arrive (b.place q.line).ch (b.entryOf m (b.lineWrite m))
      | _ => b
    else b
  | .noOp => b

/-- A request goes on to its channel (R29, R152). -/
def Base.toChannel (b : Base) (q : Req) : Base :=
  let ch := (b.place q.line).ch
  let e := b.entryOf q (b.lineWrite q)
  if b.retired ch then b.retiredReq q
  else match q.who with
  | .host _ _ _ | .gone _ | .diag _ => (b.arrive ch e).readMeta q
  | _ => b.feedIn ch e

/-- The flow's own tracker. -/
def Tracker.ofReq (t : Tracker) (q : Req) : Bool := t.line == q.line && t.req.passed == q.passed && decide (t.req.who = q.who)
def Base.ownTracker (b : Base) (q : Req) : Option Tracker := b.coh.trackers.find? fun t => t.ofReq q

/-- Replace a line's tracker. -/
def Base.setTracker (b : Base) (line : Nat) (t : Tracker) : Base :=
  b.updCoh fun c => { c with trackers := c.trackers.map fun x => if x.line = line then t else x }

/-- All 1,024 trackers are in use (R239). -/
def Base.trackersBusy (b : Base) : Bool := decide (1024 ≤ b.coh.trackers.length)

/-- A row lock holds the line (R251). -/
def Base.rowLocked (b : Base) (line : Nat) : Bool :=
  let p := b.place line
  b.coh.locks.any fun l => l.ch == p.ch && l.bank == p.bank && l.row == p.row && (match l.till with | none => true | some t => decide (b.now < t))

/-- An earlier read of the line is on its way to its record (R107, R235). -/
def Base.undecided (b : Base) (q : Req) : Bool :=
  let c := b.chan (b.place q.line).ch
  (c.readQ ++ c.xbar ++ c.upstream ++ c.inflight.map fun i => i.entry).any fun e =>
    e.req.line == q.line && !e.req.decided && e.req.op.isRead && decide (e.req.passed < q.passed)
      && (match e.req.who with | .host _ _ _ | .gone _ | .diag _ | .mover _ _ => true | _ => false)

/-- The line is held (R107, R239, R251): by another flow's tracker, by an earlier request that waits, by a row lock of the mover, which a
probe of the mover passes; or, for a request that reads no data, by an earlier read that is not decided. -/
def Base.lineHeld (b : Base) (q : Req) : Bool :=
  (b.coh.trackers.any fun t => t.line == q.line && !t.ofReq q)
    || (b.coh.waiting.any fun w => w.req.line == q.line && decide (w.req.passed < q.passed) && decide (w.req.who ≠ .directory))
    || (!(match q.op with | .probe _ => true | _ => false) && b.rowLocked q.line)
    || (!q.op.isRead && b.undecided q)

/-- A decided flow whose record has no room waits (R236): with its tracker, or with the record it is decided from. The wait is counted
once. -/
def Base.waitRoom (b : Base) (q : Req) (r0 after : DirRec) (grant : Rsp) (changed : Bool) : Base :=
  match b.ownTracker q with
  | some t => if t.stuck.isSome then b else (b.setTracker q.line { t with stuck := some (after, grant, changed) }).bump Reg.DIR_VICTIM_WAIT_COUNT
  | none => (b.park { req := q, since := b.now, need := .victim, rec_ := some r0 }).bump Reg.DIR_VICTIM_WAIT_COUNT

/-- A flow ends with a record and a completion: a read takes its data from the array or `data`, a write goes to its queue, a
MemInv is answered (R236, R240, R243). A tracker it holds stays until the response is sent (R239). -/
def Base.finishFlow (b : Base) (q : Req) (r0 : DirRec) (changed : Bool) (after : DirRec) (grant : Rsp) (data : Option (Data × Meta)) : Base :=
  let q' := { q with decided := true, dir := after.norm, grant := grant }
  if !b.canPlace q.line after then b.waitRoom q r0 after grant changed
  else
    let b := b.placeRec q.line after q.op.isWrite changed
    let b := b.updCoh fun c => { c with trackers := c.trackers.map fun t => if t.ofReq q then { t with req := q', stuck := none } else t }
    match q.op, data with
    | .probe _, _ => b.freeTracker q
    | .inv, _ => (b.release q).answerCmp q' grant
    | .rd _, some d | .rdData, some d => b.finishRead (b.entryOf q' none) d.1 d.2
    | _, _ => b.toChannel q'

/-- A flow takes a tracker and sends its snoops (R239, R240). The isolated hosts receive none. -/
def Base.startFlow (b : Base) (q : Req) (r : DirRec) (k : SnoopKind) (purge : Bool) : Base :=
  let targets := hostsOf (r.vec &&& ~~~q.bit)
  let (snoops, b) := targets.foldl (fun (l, b) h => let (s, b) := b.sendSnoop h q.line k; (l ++ [s], b)) (([] : List Snoop), b)
  let t : Tracker := { line := q.line, req := q, dir := r, snoops := snoops, purge := purge }
  let others := b.coh.trackers.filter fun t => t.line != q.line
  b.updCoh fun c => { c with trackers := others ++ [t] }

/-- The home agent decides a request from the record (R237, R240). -/
def Base.decide_ (b : Base) (q : Req) (r0 : DirRec) (data : Option (Data × Meta)) : Base :=
  let lost := (r0.norm.st == 2) && (r0.norm.vec &&& ~~~b.coh.isolated) == 0
  let (r, b) := b.foundRec q.line r0
  let (sn, after, grant) := flow q.op q.bit r
  let purge := r0.recovered && r.vec &&& ~~~q.bit != 0
  match if purge then some .inv else sn with
  | some k =>
    if b.trackersBusy && (b.ownTracker q).isNone then b.park { req := q, since := b.now, need := .tracker, rec_ := some (if lost then r else r0) }
    else b.startFlow q r k purge
  | none => b.finishFlow q r (decide (after.norm ≠ r0.norm)) after grant (if lost then none else data)

/-- A metadata read of the line (R235): the flow holds a tracker and waits for it. -/
def Base.startMeta (b : Base) (q : Req) : Base :=
  let (m, b) := b.internal .directory (.rd .cur) q.line b.dirLabel
  let b := b.updCoh fun c => { c with trackers := c.trackers ++ [{ line := q.line, req := q, waitMeta := true }] }
  b.toChannel m

/-- A write of an owner that a flow snoops: the host sends it before it answers (R242, R243). -/
def Base.writesBack (b : Base) (q : Req) : Option Tracker :=
  if q.op.isWrite then b.coh.trackers.find? fun t =>
    t.line == q.line && t.dir.st == 2 && t.dir.vec &&& q.bit != 0 && t.snoops.any fun s => some s.host.toNat == q.host?
  else none

/-- A request of a host, the diagnostic window or the mover for an HDM-DB line (R235, R239). The write-back of a snooped owner passes; its
line keeps the record in force, since the owner's bit follows its BIRsp alone (R243). -/
def Base.homeAgent (b : Base) (q : Req) : Base :=
  match b.writesBack q with
  | some t => b.toChannel { q with decided := true, dir := ((b.heldRec q.line).getD t.dir).norm, grant := .cmp }
  | none =>
    if b.coh.draining || b.lineHeld q then b.waitHome q
    else match b.heldRec q.line with
      | some r => ((b.bump Reg.DIR_HIT_COUNT).touchRec q.line).decide_ q r none
      | none =>
        let b := b.bump Reg.DIR_MISS_COUNT
        if q.op.isRead then b.toChannel q
        else if !b.isMarked q.line then b.decide_ q {} none
        else if b.trackersBusy then b.park { req := q, since := b.now, need := .tracker }
        else b.startMeta q

/-- A request that waits for a tracker or for room in the victim buffer goes on from the record it has, once there is one (R236, R239). -/
def Base.retryHome (b : Base) (w : Waiter) : Base :=
  let free := if w.need = .tracker then !b.trackersBusy else b.hasRoom w.req.line
  if b.lineHeld w.req || !free then b.park w
  else match b.heldRec w.req.line, w.rec_ with
    | some r, _ => b.decide_ w.req r none
    | none, some r => b.decide_ w.req r none
    | none, none => b.startMeta w.req

/-! ### The map stage -/

/-- A request of a marked stripe (R29). The mover asks the home agent like a host, with no bit in any vector (R250). -/
def Base.access (b : Base) (q : Req) : Base :=
  let home := match q.who with
    | .host _ _ _ | .gone _ | .diag _ | .mover _ _ => true
    | _ => false
  if home && b.isDb q.line && !q.decided then b.homeAgent q else b.toChannel q

/-- A request to an unmarked stripe with no fill pending needs no fill: it is answered here (R143). The record of such a line is
00. A read that stores nonzero metadata is no such request (R106). -/
def Base.zeroAnswer (b : Base) (q : Req) : Option Base :=
  let db := b.isDb q.line
  let stores := !db && (match q.who, q.metaField with | .host _ _ _, .meta0 v => v != 0 | .gone _, .meta0 v => v != 0 | _, _ => false)
  match q.op with
  | .rd snp =>
    if stores then none
    else if !db || (match snp with | .noOp | .cur => true | _ => false) || (match q.who with | .host _ _ _ | .gone _ => false | _ => true) then
      some (b.finishRead (b.entryOf { q with decided := true, grant := .cmp } none) 0 {})
    else none
  | .rdData => if db || stores then none else some (b.finishRead (b.entryOf { q with decided := true } none) 0 {})
  | .inv => if db then none else match q.metaField with
    | .noOp => some ((b.release q).answerCmp q .cmp)
    | .meta0 v => if v = 0 then some ((b.release q).answerCmp q .cmp) else none
  | .update v st => if ({ vec := v, st := st } : DirRec).norm = {} then some ((b.release q).updCoh fun c => { c with victims := c.victims.filter fun x => x.1 != q.line }) else none
  | .probe _ => some (b.freeTracker q)
  | _ => none

/-- A request waits for a fill entry, behind those that wait already (R146). -/
def Base.waitFill (b : Base) (q : Req) (since : Nat) : Base := b.updLay fun l => { l with fillWait := l.fillWait ++ [(q, since)] }

/-- An earlier request of the stripe waits for a fill entry. -/
def Base.fillWaits (b : Base) (st : Nat) : Bool := b.lay.fillWait.any fun w => stripeOf w.1.line == st

/-- A fill or a claim into an octant ends its drop first, or the drop whose mask has not taken effect (R362). -/
def Base.endDrop (b : Base) (line : Nat) : Base :=
  let oct := b.octantOf line
  let b := if b.pw.dropping.getLsbD oct then b.updPw fun p => { p with dropping := setBit p.dropping oct false } else b
  if b.pw.dropped.getLsbD oct then (b.updPw fun p => { p with dropped := setBit p.dropped oct false }).send .octantRestored 0x500 oct else b

/-- A request takes a fill entry, or waits for one (R144, R146). A fill wakes the mover (R42). -/
def Base.startFill (b : Base) (q : Req) : Base :=
  if 64 ≤ b.lay.fills.length then (b.waitFill q b.now).bump Reg.FILL_WAIT_COUNT
  else
    let b := b.endDrop q.line
    let f : Fill := { stripe := stripeOf q.line, held := [q], at_ := b.now, label := q.label, tenant := q.tenant, cls := q.cls, step := q.step, inBudget := q.inBudget }
    ((b.updLay fun l => { l with fills := l.fills ++ [f] }).bump Reg.FILL_COUNT).wakeMover

/-- A pending fill lets a request pass: it is confirmed, or is the claim of the slot whose access it is (R146, R280). -/
def Fill.passes (f : Fill) (q : Req) : Bool :=
  f.released || (match q.who with | .mover k _ => decide (f.claim = some k) | _ => false)

/-- A host's or the diagnostic port's request for a line of a retired channel, which is answered whatever the initialisation map holds (R338). -/
def Base.meetsRetired (b : Base) (q : Req) : Bool :=
  b.retired (b.place q.line).ch && match q.who with | .host _ _ _ | .gone _ | .diag _ => true | _ => false

/-- The initialisation map's stage (R143 to R146). -/
def Base.present (b : Base) (q : Req) : Base :=
  let st := stripeOf q.line
  if b.meetsRetired q then b.retiredReq q
  else match b.lay.fills.find? fun f => f.stripe == st with
  | some f =>
    if f.passes q then b.access q
    else b.updLay fun l => { l with fills := updFirst (fun x => x.stripe == st) (fun x => { x with held := x.held ++ [q] }) l.fills }
  | none =>
    if b.isMarked q.line then b.access q
    else if b.fillWaits st then b.waitFill q b.now
    else match b.zeroAnswer q with
      | some b => b
      | none => b.startFill q

/-- A request that waited for a fill entry tries again: one that still finds none goes on waiting since it began (R146). -/
def Base.retryFill (b : Base) (e : Req × Nat) : Base :=
  let st := stripeOf e.1.line
  if b.fillWaits st || (decide (64 ≤ b.lay.fills.length) && !(b.lay.fills.any fun f => f.stripe == st) && !b.isMarked e.1.line && (b.zeroAnswer e.1).isNone) then
    b.waitFill e.1 e.2
  else b.present e.1

/-- Requests that waited are presented again in order of passage (R146, R239). -/
def Base.pump1 (b : Base) : Base :=
  let w := b.coh.waiting
  let b := b.updCoh fun c => { c with waiting := [], draining := c.draining && !c.victims.isEmpty, locks := c.locks.filter fun l => match l.till with | none => true | some t => decide (b.now < t) }
  let b := w.foldl (fun (b : Base) (e : Waiter) => if e.need = .line then b.present e.req else b.retryHome e) b
  let f := if b.lay.fills.length < 64 then b.lay.fillWait else []
  let b := if f = [] then b else b.updLay fun l => { l with fillWait := [] }
  f.foldl (fun b e => b.retryFill e) b

/-- A request or a write of the stripe has not reached its queue yet. -/
def Base.stripeBusy (b : Base) (st : Nat) : Bool :=
  (b.waitingReqs.any fun q => stripeOf q.line == st) || b.dram.chans.any fun c => c.2.feed.any fun e => stripeOf e.req.line == st

/-- Map bits of some stripes are cleared, and leave the count of marked stripes (R147, R150). -/
def Base.clearBits (b : Base) (hit : Nat → Bool) : Base :=
  let n := (b.lay.marked.filter fun e => hit e.1).length
  let b := b.updLay fun l => { l with marked := l.marked.filter fun e => !hit e.1 }
  (b.setReg Reg.INITMAP_MARKED (BitVec.ofNat 32 ((b.reg Reg.INITMAP_MARKED).toNat - n))).unlistStripes hit

/-- The refresh mask of an octant takes effect once none of its map bits is set and no fill of it is pending (R181). -/
def Base.dropMasks (b : Base) : Base :=
  forN b.octants (fun (k : Nat) (b : Base) =>
    let mine := fun st : Nat => b.octantOf (1024 * st) == k
    if b.pw.dropping.getLsbD k && !(b.lay.fills.any fun f => mine f.stripe) && !(b.lay.marked.any fun e => mine e.1) then
      (b.updPw fun p => { p with dropped := setBit p.dropped k true, dropping := setBit p.dropping k false }).send .octantDropped 0x500 k
    else b) b

/-- Stripes whose octant dropped while a fill was pending are unmarked once every request held on it has reached its queue
(R147). -/
def Base.lateClears (b : Base) : Base :=
  let done := b.lay.fills.filter fun f => f.released && f.clearAfter && !b.stripeBusy f.stripe
  let b := b.updLay fun l => { l with fills := l.fills.filter fun f => !(done.any fun d => d.stripe == f.stripe) }
  (b.clearBits fun st => done.any fun d => d.stripe == st).dropMasks

/-- Flows of which no response is outstanding, and that have not ended (R243). -/
def Tracker.ready (t : Tracker) : Bool := !t.waitMeta && t.snoops == [] && !t.req.decided

/-- A tracker whose snoops have all been answered ends its flow (R243), as does one for which there is room now (R236). -/
def Base.flowDone (b : Base) (t : Tracker) : Base :=
  let changed := match b.heldRec t.line with | some r => decide (t.outcome.1.norm ≠ r.norm) | none => true
  let o := t.stuck.getD (t.outcome.1, t.outcome.2, changed)
  b.finishFlow t.req t.dir o.2.2 o.1 o.2.1 none

/-- The flows that are ready end. -/
def Base.endFlows (b : Base) : Base := (b.coh.trackers.filter Tracker.ready).foldl (fun b t => b.flowDone t) b

/-- What a step frees moves on: flows, what waited at the home agent, for a fill entry or behind a fill, and BIConflicts (R239, R244). -/
def Base.pump (b : Base) : Base := (b.endFlows.pump1.pump1.lateClears).ackConflicts

/-! ### Clearing map bits (R147) -/

/-- Clear the bits of some stripes: a clear that meets a pending fill waits for it. -/
def Base.unmark (b : Base) (p : Nat → Bool) : Base :=
  let pending := b.lay.fills.filter fun f => p f.stripe && f.claim.isNone
  let hit := fun st => p st && !(pending.any fun f => f.stripe == st)
  (b.updLay fun l => { l with fills := l.fills.map fun f => if p f.stripe && f.claim.isNone then { f with clearAfter := true } else f }).clearBits hit

/-- The stripes of some 256 MiB blocks. -/
def Base.unmarkBlocks (b : Base) (blocks : List Nat) : Base := b.unmark fun st => blocks.contains (st / 4096)

/-! ### Responses and ends of flows -/

/-- A response as the record takes it (R241); none when the snoop does not list it. -/
def Tracker.respond (t : Tracker) (h : Nat) (k : SnoopKind) (r : BiRspKind) : Option Tracker :=
  let off := t.dir.vec &&& ~~~hostBit h
  let snoops := t.snoops.filter fun s => s.host.toNat != h
  match k, r with
  | .inv, .i => some { t with dir := { t.dir with vec := off }, snoops := snoops }
  | .data, .i => some { t with dir := { t.dir with vec := off }, snoops := snoops }
  | .data, .s => some { t with shared := t.shared ||| hostBit h, snoops := snoops }
  | .cur, .i => some { t with dir := { vec := off, st := if off = 0 then 0 else t.dir.st }, snoops := snoops }
  | .cur, .s => some { t with dir := { t.dir with st := 1 }, snoops := snoops }
  | .cur, .e => some { t with snoops := snoops }
  | _, _ => none

/-! ### Isolation and sweeps -/

/-- The windows of which a host is a member, as block ranges. -/
def Base.memberWindows (b : Base) (h : Nat) : List (Nat × Nat) :=
  ((List.range 32).filter fun k => tb (b.reg (Reg.SW_BASE k)) 31 && (b.membersOf k).getLsbD h).map fun k => (b.rf (Reg.SW_BASE k) 8 0, b.rf (Reg.SW_LIMIT k) 8 0)

/-- A flow that waits on a host which stops answering (R246, R247): it goes on as if the host had answered BIRspI; a line the host
held alone is lost, and the access is decided anew from the stamp's record. -/
def Base.flowLoses (b : Base) (h : Nat) (t : Tracker) : Base :=
  match t.snoops.find? fun s => s.host.toNat == h with
  | none => b
  | some s =>
    let t' := (t.respond h s.kind .i).getD t
    if t.dir.st = 2 ∧ t.dir.vec = hostBit h then
      (b.loseLine t.line h).decide_ t.req (b.stampRec t.line) none
    else b.setTracker t.line t'

/-- The host stops answering in every flow (R246). -/
def Base.hostGone (b : Base) (h : Nat) : Base := b.coh.trackers.foldl (fun b t => b.flowLoses h t) b

/-- Isolation of a host (R246): at once, with a release sweep over its windows, if it is a member of any; by a timeout or a second
protocol error one message is sent. An isolation already in force is not begun anew. -/
def Base.isolate (b : Base) (h : Nat) (viaTimeout : Bool) (line : Nat := 0) : Base :=
  if b.coh.isolated.getLsbD h then b
  else
    let b := b.updCoh fun c => { c with
      isolated := setBit c.isolated h true
      swept := setBit c.swept h false
      ldReset := setBit c.ldReset h false
      unisolate := setBit c.unisolate h false }
    let b := if viaTimeout then b.send .snoopTimeout (0x410 + h) (64 * line) else b
    let b := (b.hostReset h).hostGone h
    let blocks := b.memberWindows h
    let b := b.updCoh fun c => if blocks = [] then { c with swept := setBit c.swept h true }
      else { c with sweeps := c.sweeps ++ [{ host := BitVec.ofNat 4 h, blocks := blocks, release := false }] }
    b.pump

/-- A BIRsp (R241, R242): a response updates its flow; one not listed has the snoop sent again once, and a second isolates the
host. The block forms come as one response for each line. -/
def Base.biRsp (b : Base) (p : PortBlk) (ld : HostId) (dpa : Dpa) (kind : BiRspKind) : Base :=
  let h := b.ldOf p.toNat ld.toNat
  let line := dpa.toNat / 64
  if !b.carriesLd h p.toNat then b.ldNotBound p.toNat
  else match b.coh.trackers.find? fun t => t.line == line && t.snoops.any fun s => s.host.toNat == h && s.sent with
    | none => b
    | some t => match t.snoops.find? fun s => s.host.toNat == h with
      | none => b
      | some sn => match t.respond h sn.kind kind with
        | some t' => (b.setTracker line t').pump
        | none =>
          let b := b.send .biProtocolError (0x410 + h) (64 * line)
          if sn.resent then b.isolate h true line
          else
            let (s', b) := b.sendSnoop h line sn.kind
            b.setTracker line { t with snoops := t.snoops.map fun x => if x.host.toNat = h then { s' with resent := true } else x }

/-- SNOOP_TIMEOUT (R245, R246). -/
def execSnoopTimeout (h : HostId) (line : BitVec 31) (s : State) : Host.Outcome State Fault Refusal :=
  s.whenBase Base.alive fun b =>
    let limit := 1000 * b.rf Reg.COH_CFG 13 0
    let due := fun s : Snoop => s.host == h && (match s.sentAt with | some t => decide (t + limit ≤ b.now) | none => false)
    if b.coh.trackers.any fun t => t.line == line.toNat && t.snoops.any due && !(b.coh.isolated.getLsbD h.toNat) then
      (b.bump Reg.SNOOP_TIMEOUT_COUNT).isolate h.toNat true line.toNat
    else b

/-- TRACKERS_FULL (R239): a wait for a tracker has passed 10 µs. -/
def execTrackersFull (s : State) : Host.Outcome State Fault Refusal :=
  s.whenBase Base.alive fun b =>
    match b.coh.waiting.find? fun w => decide (w.need = .tracker) && decide (w.since + 10000 < b.now) with
    | some w => b.send .trackersFull 0x400 (64 * w.req.line)
    | none => b

/-- A BIConflict (R244): acknowledged once every earlier request of the host to the line has answered. -/
def Base.biConflict (b : Base) (p : PortBlk) (ld : HostId) (tag : BitVec 16) (dpa : Dpa) : Base :=
  let h := b.ldOf p.toNat ld.toNat
  if !b.carriesLd h p.toNat then b.ldNotBound p.toNat
  else (b.updCoh fun c => { c with conflicts := c.conflicts ++ [(p, BitVec.ofNat 4 h, tag, dpa.toNat / 64, b.dram.passes)] }).ackConflicts

/-- A host's bit leaves the record of a line (R248, R249): in its cache entry, else by a directory update of the line, with which an entry of
the victim buffer changes. -/
def Base.dropHost (b : Base) (h line : Nat) (r : DirRec) (l : Label) : Base :=
  let r : DirRec := { vec := r.vec &&& ~~~hostBit h, st := r.st }
  if b.cached line then b.putRec line r true
  else (b.updCoh fun c => { c with victims := c.victims.map fun v => if v.1 = line then (line, r.norm) else v }).updateLine line r.norm l

/-- A sweep's clearing of a record (R248): the host's bit goes; what it held alone exclusively is lost. -/
def Base.sweepRec (b : Base) (h line : Nat) (r : DirRec) : Base :=
  if r.norm.st = 2 ∧ r.vec = hostBit h then b.loseLine line h else b.dropHost h line r b.sweepLabel

/-- The line lies in the sweep's blocks. -/
def Sweep.has (w : Sweep) (line : Nat) : Bool := w.blocks.any fun r => decide (r.1 ≤ blockOf line) && decide (blockOf line ≤ r.2)

/-- Step 1 of a sweep (R248): every entry of the cache and the victim buffer in its blocks. -/
def Base.sweepCache (b : Base) (w : Sweep) : Base :=
  let h := w.host.toNat
  let hits := (b.coh.cache.map fun e => (e.1, e.2.dir)) ++ b.coh.victims
  (hits.filter fun e => w.has e.1 && e.2.vec.getLsbD h).foldl (fun b e => b.sweepRec h e.1 e.2) b

/-- The marked stripes of the running sweep, in order. -/
def Base.sweepStripes (b : Base) (w : Sweep) : List Nat := (b.lay.marked.filter fun e => w.has (e.1 * 1024)).map fun e => e.1

/-- SWEEP_DONE (R248): the running sweep has passed its last row; the next may start. -/
def execSweepDone (s : State) : Host.Outcome State Fault Refusal :=
  s.whenBase Base.alive fun b =>
    match b.coh.sweeps with
    | [] => b
    | w :: rest =>
      let left := (b.sweepStripes w).any fun st => decide (w.at_ < 64 * st + 64)
      if !w.cacheDone || left then b
      else
        let done : BitVec 512 := BitVec.ofNat 512 ((List.range 512).foldl (fun acc k => if w.has (k * 4194304) then acc + 2 ^ k else acc) 0)
        let holds := (List.range 512).foldl (fun (m : BitVec 512) k => if b.inEff w.host.toNat k then m ||| BitVec.ofNat 512 (2 ^ k) else m) 0
        let b := b.updCoh fun c => { c with
          sweeps := rest
          swept := if w.release then c.swept else setBit c.swept w.host.toNat true
          touched := Tab.upd 0 c.touched w.host.toNat fun m => m &&& (~~~done ||| holds) }
        b.send .sweepDone 0x402 (((w.blocks.head?).map fun r => r.1 * 268435456).getD 0)

/-- HOST_ISOLATE_CLEAR (R249): accepted when the sweep has ended and the logical device has been reset since; the host starts
with no line recorded, and isolation ends at the next boundary. -/
def execHostIsolateClear (h : HostId) (s : State) : Host.Outcome State Fault Refusal :=
  s.whenBase Base.mgmtFull fun b =>
    if b.coh.isolated.getLsbD h.toNat && b.coh.swept.getLsbD h.toNat && b.coh.ldReset.getLsbD h.toNat then
      let held := ((b.coh.cache.map fun e => (e.1, e.2.dir)) ++ b.coh.victims).filter fun e => e.2.vec.getLsbD h.toNat
      let b := held.foldl (fun b e => b.dropHost h.toNat e.1 e.2 b.sweepLabel) b
      (b.updCoh fun c => { c with unisolate := setBit c.unisolate h.toNat true }).pump
    else b.send .isolateClearRefused 0x400 0

/-- COH_COUNT_CLEAR (R257). -/
def execCohCountClear (v : Word) (s : State) : Host.Outcome State Fault Refusal :=
  s.whenBase Base.mgmtFull fun b => b.clearCounters Reg.BISNP_COUNT 6 v

/-- A parity error in an activation count (R184): the count is set to 2,000, so that a targeted refresh follows without a
throttle, and a tracker of the neighbourhood is freed. -/
def Base.rhParity (b : Base) (ch bank nbh : Nat) : Base :=
  let key := bank * 2048 + nbh
  let b := b.updChan ch fun c => { c with
    rh := Tab.set 0 c.rh key 2000,
    rhTrackers := c.rhTrackers.filter (fun t => t.nbh != key),
    trfDue := if c.trfDue.contains (bank, key) then c.trfDue else c.trfDue ++ [(bank, key)] }
  ((b.bump Reg.NEIGHBOUR_REFRESH_COUNT).send .neighbourRefresh (chSrc ch 3) (chAddr ch bank (32 * nbh))).send .rhCounterParity (chSrc ch 3) (chAddr ch bank (32 * nbh))

/-- CHANNEL_SELECT (R161, R184): the controller issues what ranks first; `parity` names the activation count whose parity check
fails now. -/
def execChannelSelect (ch : ChanId) (noise : Noise) (parity : Option (BitVec 5 × BitVec 11)) (s : State) : Host.Outcome State Fault Refusal :=
  if s.base.alive then
    let s := match parity with
      | some (k, n) => s.onBase fun b => if b.retired ch.toNat then b else b.rhParity ch.toNat k.toNat n.toNat
      | none => s
    .next ((s.select ch.toNat noise).onBase Base.pump)
  else .next s

/-! ### Line decode (R193, R235) -/

/-- A metadata read answers the flow that waits for it, which keeps its tracker (R235, R239). -/
def Base.metaRead (b : Base) (line : Nat) (r : DirRec) : Base :=
  match b.coh.trackers.find? fun t => t.line == line && t.waitMeta with
  | some t => (b.setTracker line { t with waitMeta := false }).decide_ t.req ((b.heldRec line).getD r) none
  | none => b

/-- The rewrite of a line with or without an injection (R221, R223): lost when another write has entered the write queue since the read's ACT,
or does so before the rewrite. An uncorrectable line is not rewritten: its stamp, by which R202 has the rewrite superseded, is that other
write (DEDUCED, entry 135). -/
def Base.injectRewrite (b : Base) (i : Inflight) (out : Outcome4) (d : Data) (m : Meta) : Base :=
  match i.entry.req.op with
  | .inject mask pat =>
    let line := i.entry.req.line
    let ch := (b.place line).ch
    if i.overtaken || out == .uncorrectable then b.rewriteLost ch line (mask != 0)
    else
      let (e, b) := b.repairEntry .inject line d { m with healed := true }
      b.feedIn ch { e with wr := e.wr.map fun w => { w with inject := if mask = 0 then none else some (mask, pat) } }
  | _ => b

/-- A GUARD_BURST (R345, R350): the read is queued again with its key unchanged and the die's requests are held. -/
def Base.guardBurstRead (b : Base) (ch : Nat) (i : Inflight) : Base :=
  (b.updGuard (dieOf ch) fun g => { g with detected := true }).updChan ch fun c => { c with readQ := i.entry :: c.readQ }

/-- A read miss is decided from the record in the decoded line (R235, R240), or waits behind its line. A corrected line that answers the mover
is counted (R282). -/
def Base.decideRead (b : Base) (q : Req) (r : DirRec) (line : Data × Meta) (corrected : Bool) : Base :=
  if b.lineHeld q then b.waitHome q
  else
    let r0 := (b.heldRec q.line).getD r
    let b := match q.who with
      | .mover s _ => if corrected && (flow q.op q.bit (r0.norm)).1.isNone then b.moverDone s fun x => { x with corrected := satAdd 0xFFFFFFFF x.corrected 1 } else b
      | _ => b
    b.decide_ q r0 (some line)

/-- A decoded line goes to its requester (R193, R235, R240). -/
def Base.deliverLine (b : Base) (ch : Nat) (i : Inflight) (d : Decoded) : Base :=
  let e := i.entry
  let q := e.req
  let poisoned := d.out == .uncorrectable
  let base : Data × Meta := (d.data, { d.mt with poison := d.mt.poison || poisoned })
  let (dat, m) := match e.merged with | some w => w.apply base.1 base.2 | none => base
  let r : DirRec := if poisoned then b.stampRec q.line else { vec := m.sharers, st := m.st }
  match q.who with
  | .directory => b.metaRead q.line r
  | .inject => b.injectRewrite i d.out dat m
  | .mover s _ =>
    let late := b.isDb q.line && !q.decided
    let b := if d.out = .corrected && !late then b.moverDone s fun x => { x with corrected := satAdd 0xFFFFFFFF x.corrected 1 } else b
    if late then b.decideRead q r (dat, m) (d.out == .corrected) else b.finishRead e dat m
  | .sweep =>
    match b.coh.sweeps with
    | w :: _ => if (b.heldRec q.line).isNone && r.vec.getLsbD w.host.toNat && !poisoned then b.sweepRec w.host.toNat q.line r else b
    | [] => b
  | .host _ _ _ | .gone _ | .diag _ =>
    if b.isDb q.line && !q.decided then b.decideRead q r (dat, m) false else b.finishRead e dat m
  | _ => (b.drainChan ch)

/-- The slot reads a source that its operation clears (R282, R286). -/
def Slot.clearsSource (x : Slot) : Bool := x.phase == 1 && x.desc.opcode == 2

/-- MOVE unmarks the stripe of a source address: it lies wholly in the source range (R286). -/
def Slot.unmarks (x : Slot) (dpa : Nat) : Bool :=
  let a := dpa / 65536 * 65536
  x.clearsSource && decide (x.desc.src ≤ a) && decide (a + 65536 ≤ x.desc.src + x.desc.length)

/-- The slot for which the mover reads a line. -/
def Base.slotOf (b : Base) (q : Req) : Option Slot :=
  match q.who with | .mover k _ => (b.mov.slots.find? fun e => e.1 == k).map fun e => e.2 | _ => none

/-- The context of a line read that leaves the decoder (R190, R196, R204, R206, R220, R221, R282). -/
def State.readDecode (s : State) (ch : Nat) (i : Inflight) : DecodeAt :=
  let a := s.base.chanDecode ch i.entry i.overtaken
  let p := a.place
  let x := s.base.slotOf i.entry.req
  { a with
    stored := s.lineWord p
    silent := i.stamped
    beforeHeal := i.beforeHeal || (s.base.chan ch).healPending p.bank p.row p.col
    stamps := match x with | some x => !x.clearsSource | none => true
    fix := if i.entry.req.who = .inject then .rewrite else match x with | some x => (if x.unmarks (64 * a.line) then .none else .heal) | none => .heal }

/-- LINE_DECODE (R193): the oldest line read of the channel leaves the decoder. A read that a queued write answers has nothing to be decoded
(R155). -/
def execLineDecode (ch : ChanId) (noise : Noise) (s : State) : Host.Outcome State Fault Refusal :=
  s.then_ fun b =>
    let c := b.chan ch.toNat
    if !b.alive then b else
    match c.inflight with
    | [] => b
    | i :: t =>
      let b := b.setChan ch.toNat { c with inflight := t }
      match i.forwarded with
      | some (d, m) => ((b.deliverLine ch.toNat i { out := .clean, data := d, mt := m }).drainChan ch.toNat).pump
      | none =>
        if i.raw = guardBurst then b.guardBurstRead ch.toNat i
        else
          let a := s.readDecode ch.toNat i
          let d := decodeWord a.erasures (addNoise i.raw noise)
          (((b.onDecode a d).deliverLine ch.toNat i d).drainChan ch.toNat).pump

/-- HEAL_CLOSED (R203, R204, R206): the heal's bank cycle closes, the history entry is armed and a verify read queued. -/
def execHealClosed (ch : ChanId) (bank : BitVec 5) (row : BitVec 16) (col : BitVec 4) (s : State) : Host.Outcome State Fault Refusal :=
  s.whenBase Base.alive fun b =>
    let c := b.chan ch.toNat
    let p : Place := { ch := ch.toNat, bank := bank.toNat, row := row.toNat, col := col.toNat }
    let hit := fun h : Nat × Nat × Nat × Nat => h.1 == p.bank && h.2.1 == p.row && h.2.2.1 == p.col && decide (h.2.2.2 ≤ b.now)
    if c.healing.any hit then
      let inflight := c.inflight.map fun (i : Inflight) => if i.entry.at_ p.bank p.row p.col then { i with beforeHeal := true } else i
      let c := { c with healing := dropFirst hit c.healing, inflight := inflight }
      let b := b.setChan p.ch (c.histUpd p fun x => { x with healDone := true, readsLeft := 3, lastEp := b.pl.epochs })
      let b := (b.bump Reg.HEAL_COUNT).bump (Reg.CH_HEALED p.ch)
      let (q, b) := b.internal .verify (.rd .cur) (b.lineAt p) b.healLabel
      b.feedIn p.ch (b.entryOf { q with decided := true } none)
    else b

end Sys2Proof.Machine
end

