-- ==== Sys2Proof/Machine/Row.lean ====
section
/-! DEFINITION. Machine/Row.lean: rows on a row bus: when one may be taken, what the row stage reads and writes (R140, R190, R191,
R209, R337), and the rows of a stripe (R132). -/

namespace Sys2Proof.Machine

/-- The 64 rows of a stripe (R132): column 0 of each. -/
def stripeRows (n st : Nat) : List Place :=
  (List.range 64).map fun i => placeOf n (st * 65536 + (i % 2 ^ n) * 256 + (i / 2 ^ n) * 2 ^ (10 + n))

/-- The row stage's declared erasures of a column (R191). -/
def Base.rowErasures (b : Base) (ch col : Nat) : List Nat := b.busSymbols (quadOf ch) col

/-- What the bus drives for a column: erased canes are low (R337). -/
def Base.busDrive (b : Base) (bus col : Nat) (w : BitVec 640) : BitVec 640 :=
  let low := (b.bus bus).erased.filter fun c => c / 640 == col
  low.foldl (fun w c => w &&& ~~~(BitVec.ofNat 640 (2 ^ (c % 640)))) w

/-- An offered transfer takes a place of the channel's row queue (R152, R154, R263), and wakes its set (R176, R292). -/
def Base.placeRow (b : Base) (ch : Nat) (e : RowEntry) : Base :=
  (b.touchSet ch).updChan ch fun c => { c with rowQ := c.rowQ ++ [{ e with arrival := b.now }] }

/-- The entry of a transfer in the row queue. -/
def Chan.offered (c : Chan) (e : RowEntry) : Option RowEntry := c.rowQ.find? fun x => x.same e

/-- An offer of the mover outside the row-bus cycles, by the scrubber or for a spare-row move (R159, R212, R216): unless it waits already
it takes a place in the row queue, in that of an older offer of the same source. -/
def Base.offerRow (b : Base) (ch : Nat) (e : RowEntry) : Base :=
  match (b.chan ch).offered e with
  | some _ => b
  | none =>
    let b := b.updChan ch fun c => { c with rowQ := c.rowQ.filter fun x => x.src != e.src }
    if (b.chan ch).rowQ.length < 8 then b.placeRow ch e else b

/-- Lines that the offer of a transfer was charged (R292, R311, R320). -/
def RowEntry.lines (e : RowEntry) : Nat := match e.src with | .desc _ => 16 | .sweep => 16 | _ => 0

/-- The offers of a bus that leaves service are withdrawn (R335, R337). -/
def Base.clearOffers (b : Base) (bus : Nat) : Base :=
  forN 16 (fun (d : Nat) (b : Base) => (b.chan (4 * d + bus)).rowQ.foldl (fun (b : Base) (e : RowEntry) => b.dropRow (4 * d + bus) e.lines e) b) b

/-- A full-width test may start: they are enabled, no bus is out or retired, no segment is out (R329, R335), and no set is in SELF_REFRESH or
DROPPED (R360). -/
def Base.fwPermitted (b : Base) : Bool :=
  tb (b.reg Reg.SI_CFG) 25 && (List.range b.sets).all (fun s => decide ((b.set_ s).state < 2)) && b.si.segOut.isNone && (List.range 4).all fun i => !(b.bus i).retired && !(b.bus i).testing

/-- The plan in force takes the bus out for its full-width test: it takes no new offers, and rows already in the row stage finish their RBW
(R335 steps 1 and 2). -/
def Base.drains (b : Base) (bus : Nat) : Bool :=
  (match b.pl.active.fullWidth with | some q => q.toNat == bus | none => false) && b.fwPermitted

/-- The entry of an offer that its channel accepts now. -/
def Base.rowAccepted (b : Base) (ch : Nat) (e : RowEntry) : Option RowEntry :=
  match (b.chan ch).offered e with
  | some x => if b.acceptsRow ch b.now x then some x else none
  | none => none

/-- The ACT of a row transfer and its counts (R156, R512). -/
def Base.activateRow (b : Base) (ch t : Nat) (e : RowEntry) : Base :=
  let b := b.activate ch e.bank e.row t 45 e.by_ (rowSlot t e.bank e.read)
  let b := b.countChan ch fun k => { k with rows := k.rows + 1 }
  match e.by_ with
  | some x => b.tally x.2 fun y => { y with rows := y.rows + 1 }
  | none => b

/-- The lines a row read brings into the stage: remapped lines from their entries, the others from the bus with its noise (R209);
none when the die answers a row of ones (R345). -/
def State.rowWords (s : State) (ch bank row : Nat) (noise : List Noise) : Option (List (BitVec 640)) :=
  if s.base.ignores ch then none
  else some ((rowPlaces ch bank row).map fun p =>
    match (s.base.chan ch).remapOf bank row p.col with
    | some r => r.word
    | none => addNoise (s.rawLine p) (noise.getD p.col []))

/-- The row-stage decode of a row (R190). -/
def Base.decodeRow (b : Base) (ch : Nat) (words : List (BitVec 640)) : List Decoded :=
  words.mapIdx fun col w => decodeWord (b.rowErasures ch col) w

/-- Context of the decode of a column that its row stage has just read (R206, R228). -/
def Base.rowDecode (b : Base) (ch bank row col src : Nat) (fix : Fix := .heal) (stamps : Bool := true) : DecodeAt :=
  let p : Place := { ch := ch, bank := bank, row := row, col := col }
  { place := p, line := b.lineAt p, src := src, rowStage := true, fix := fix, stamps := stamps, erasures := b.rowErasures ch col
    beforeHeal := (b.chan ch).healPending bank row col
    overtaken := (b.chan ch).writeQ.any fun x => x.at_ bank row col && !x.isHeal }

/-- Source of the row-stage decoder of a channel's bus (R228). -/
def stageSrc (ch : Nat) : Nat := 0x341 + quadOf ch

/-- A row write is accepted: it overtakes reads, heals and scrubs of the row (R202, R217). -/
def Base.overtakeRow (b : Base) (ch bank row : Nat) : Base :=
  b.updChan ch fun c => (forN 16 (fun col c => c.overtake bank row col) c).rowWrite bank row

/-- RBW of a row (R140, R209, R223, R337, R349): the lines land in the array, and remapped ones in their entries too. A die that
ignores commands keeps its row. -/
def State.writeRow (s : State) (ch t : Nat) (e : RowEntry) (words : List (BitVec 640)) : State :=
  let ignored := s.base.ignores ch
  let bank := e.bank
  let row := e.row
  let s := s.onBase fun b => ((b.activateRow ch t e).overtakeRow ch bank row).logWrite ch bank row 16 (!ignored)
  let s := (words.zipIdx).foldl (fun s (e : BitVec 640 × Nat) =>
    let p : Place := { ch := ch, bank := bank, row := row, col := e.2 }
    let s := if ignored then s else s.storeLine p (s.base.busDrive (quadOf ch) e.2 e.1)
    match (s.base.chan ch).remapOf bank row e.2 with
    | some _ => s.putWord p e.1
    | none => s) s
  s.onBase fun b => (b.rowLines ch bank row).foldl (fun b l => b.injectWrite l {}) b

/-- A row read met a row of ones: the failed heartbeat of the die is detected (R348, R350). -/
def Base.rowBurst (b : Base) (ch : Nat) : Base := b.updGuard (dieOf ch) fun g => { g with detected := true }

end Sys2Proof.Machine
end

