-- ==== Sys2Proof/Machine/Layout.lean ====
section
/-! DEFINITION. Machine/Layout.lean: zero-fills (R143 to R148) and the registers of the layout (R149, R150). -/

namespace Sys2Proof.Machine

/-- Source of the initialisation map (R151). -/
def mapSrc : Nat := 0x3F0

/-- The row of a fill is still to be written: its channel serves, its quadrant stays on the row bus, and it has not been taken. -/
def Fill.rowDue (f : Fill) (b : Base) (i : Nat) (p : Place) : Bool :=
  !b.retired p.ch && !f.linePath.getLsbD (quadOf p.ch) && !f.dispatched.getLsbD i

/-- Entries of a fill still wait in a channel. -/
def Base.fillLines (b : Base) (st ch : Nat) : Bool :=
  let c := b.chan ch
  (c.writeQ ++ c.feed).any fun e => decide (e.req.who = .fill st)

/-- Every row of the fill has been written and closed its bank cycle (R144). -/
def Base.fillReady (b : Base) (f : Fill) : Bool :=
  let rows := stripeRows b.lay.n f.stripe
  rows.zipIdx.all (fun e => !f.rowDue b e.2 e.1 && !(b.fillLines f.stripe e.1.ch)) && decide (f.closes ≤ b.now)

/-- The starting request puts nothing into a write queue: the bit is set when the fill is confirmed (R144). -/
def Base.markNow (b : Base) (q : Req) : Bool := (b.lineWrite q).isNone

/-- A fill is confirmed (R144, R146): the starting request, then those held, proceed in the order of passage. -/
def Base.confirmFill (b : Base) (f : Fill) : Base :=
  let now := match f.held with | q :: _ => b.markNow q || b.retired (b.place q.line).ch | [] => true
  let b := b.updLay fun l => { l with fills := l.fills.map fun (g : Fill) => if g.stripe = f.stripe then { g with released := true, held := [] } else g }
  let b := if now then (b.mark f.stripe).fillEnds f.stripe else b
  (f.held.foldl (fun b q => b.access q) b).pump

/-- FILL_COMPLETE (R144). -/
def execFillComplete (stripe : BitVec 21) (s : State) : Host.Outcome State Fault Refusal :=
  s.whenBase Base.alive fun b =>
    match b.lay.fills.find? fun f => f.stripe == stripe.toNat && !f.released && f.claim.isNone with
    | some f => if b.fillReady f then b.confirmFill f else b
    | none => b

/-- A zero write of a line on the line path (R145), under the starting request's label and budget flag, and not charged (R320). -/
def Base.fillLine (b : Base) (f : Fill) (p : Place) : Base :=
  let (q, b) := b.pass { who := .fill f.stripe, op := .wr 0 false, line := b.lineAt p, label := f.label, tenant := f.tenant, cls := f.cls, step := f.step, inBudget := f.inBudget, arrived := b.now, decided := true }
  b.feedIn p.ch (b.entryOf q (some {}))

/-- The mover has begun the fill's rows in a quadrant. -/
def Fill.begun (f : Fill) (b : Base) (q : Nat) : Bool :=
  (stripeRows b.lay.n f.stripe).zipIdx.any fun e => quadOf e.1.ch == q && f.dispatched.getLsbD e.2

/-- FILL_FALLBACK (R145, R263): the rows of a quadrant that no row bus takes are written line by line: its bus is out of service, or
the mover has not begun them within 200 ns. -/
def execFillFallback (stripe : BitVec 21) (quadrants : BitVec 4) (s : State) : Host.Outcome State Fault Refusal :=
  s.whenBase Base.alive fun b =>
    match b.lay.fills.find? fun f => f.stripe == stripe.toNat && !f.released && f.claim.isNone with
    | none => b
    | some f =>
      let late := fun q : Nat => decide (f.at_ + 200 ≤ b.now) && !f.begun b q
      let qs := (List.range 4).filter fun q => quadrants.getLsbD q && !f.linePath.getLsbD q && (late q || !b.busServes q)
      let rows := (stripeRows b.lay.n f.stripe).zipIdx.filter fun e => qs.contains (quadOf e.1.ch) && f.rowDue b e.2 e.1
      let qs := qs.filter fun q => rows.any fun e => quadOf e.1.ch == q
      if qs = [] then b
      else
        let path := qs.foldl (fun m q => setBit m q true) f.linePath
        let b := b.updLay fun l => { l with fills := l.fills.map fun (g : Fill) => if g.stripe = f.stripe then { g with linePath := path } else g }
        let b := (b.bump Reg.FILL_FALLBACK_COUNT qs.length).send .fillFallback mapSrc (f.stripe * 65536)
        rows.foldl (fun b e => (rowPlaces e.1.ch e.1.bank e.1.row).foldl (fun b p => b.fillLine f p) b) b

/-- FILL_TABLE_FULL (R146, R280): a wait for a fill entry, of a request or of a slot of the mover, has passed 10 µs. -/
def execFillTableFull (s : State) : Host.Outcome State Fault Refusal :=
  s.whenBase Base.alive fun b =>
    let waits := (b.lay.fillWait.map fun w => (w.2, stripeOf w.1.line)) ++ b.mov.slots.filterMap fun e => e.2.fillSince
    match waits.find? fun w => decide (w.1 + 10000 < b.now) with
    | some w => b.send .fillTableFull mapSrc (w.2 * 65536)
    | none => b

/-- XLATE_RESULT of a DPA (R150). -/
def xlateWord (p : Place) : Word := BitVec.ofNat 32 (p.ch + 64 * p.bank + 2048 * p.col + 32768 * p.row + 2 ^ 31)

/-- XLATE_DPA_HI (R150): the DPA of both registers is translated under the width in force. -/
def execXlateDpaHi (v : Word) (s : State) : Host.Outcome State Fault Refusal :=
  s.whenBase Base.mgmtFull fun b =>
    let b := b.setReg Reg.XLATE_DPA_HI (v &&& 0x1F)
    let dpa := fld v 4 0 * 2 ^ 32 + (b.reg Reg.XLATE_DPA_LO).toNat
    b.updLay fun l => { l with xlate := xlateWord (placeOf l.n dpa), xlateValid := true }

/-- INITMAP_QUERY (R150): the register holds the stripe number; its read gives the bit. -/
def execInitmapQuery (v : Word) (s : State) : Host.Outcome State Fault Refusal :=
  s.whenBase Base.mgmtFull fun b => b.setReg Reg.INITMAP_QUERY (v &&& 0x1FFFFF)

/-- LAYOUT_COUNT_CLEAR (R149). -/
def execLayoutCountClear (v : Word) (s : State) : Host.Outcome State Fault Refusal :=
  s.whenBase Base.mgmtFull fun b => b.clearCounters Reg.FILL_COUNT 4 v

end Sys2Proof.Machine
end

