-- ==== Sys2Proof/Machine/Ecc.lean ====
section
/-! DEFINITION. Machine/Ecc.lean: the steps of chapter 6 beside the decodes of the channels: history and buckets in time (R198, R199,
R205), injection requests (R221 to R223), counters (R225, R226). Spare-row moves and the patrol scrub stand in Machine/Scrub.lean. -/

namespace Sys2Proof.Machine

/-- HISTORY_EXPIRE (R205): entries without a decode for 10,000 epochs are freed. -/
def execHistoryExpire (ch : ChanId) (s : State) : Host.Outcome State Fault Refusal :=
  s.whenBase Base.alive fun b => b.updChan ch.toNat fun c => { c with history := c.history.filter fun h => decide (b.pl.epochs < h.lastEp + 10000) }

/-- BUCKET_TICK (R198, R199): every 10,000,000 epochs of the epoch counter one leaves every bucket; a bank at or below the re-arm
level may overflow anew. -/
def execBucketTick (s : State) : Host.Outcome State Fault Refusal :=
  s.whenBase Base.alive fun b =>
    if b.pl.epoch.toNat % 10000000 = 0 ∧ b.dram.bucketAt < b.pl.epochs then
      let rearm := b.rf Reg.ECC_CFG 21 16
      let buckets := (b.dram.buckets.map fun e => (e.1, e.2 - 1)).filter fun e => e.2 != 0
      b.updDram fun d => { d with
        bucketAt := b.pl.epochs
        buckets := buckets
        overflowed := d.overflowed.filter fun e => decide (rearm < Tab.get 0 buckets e.1) }
    else b

/-! ### Injection -/

/-- The line, mask and pattern that the injection registers name (R221, R227). -/
def Base.injTarget (b : Base) : Injection :=
  let dpa := b.rf Reg.INJ_DPA_HI 4 0 * 2 ^ 32 + (b.reg Reg.INJ_DPA_LO).toNat
  let mask : BitVec 80 := BitVec.ofNat 80 ((b.reg Reg.INJ_MASK0).toNat + (b.reg Reg.INJ_MASK1).toNat * 2 ^ 32 + b.rf Reg.INJ_MASK2 15 0 * 2 ^ 64)
  { line := dpa / 64, mask := mask, pattern := BitVec.ofNat 8 (b.rf Reg.INJ_PATTERN 7 0) }

/-- The reason to refuse an injection (R222, R227); 0 none. -/
def Base.injReason (b : Base) (i : Injection) : Nat :=
  if tb (b.reg Reg.INJ_ENABLE) 0 = false then 1
  else if 16 ≤ b.dram.injections.length ∧ (b.injRecord i.line).isNone then 2
  else if b.retired (b.place i.line).ch then 3
  else if i.mask = 0 ∨ i.pattern = 0 then 4
  else 0

/-- A request is refused or goes on (R222). -/
def Base.injRequest (b : Base) (go : Injection → Base → Base) : Base :=
  let i := b.injTarget
  let r := b.injReason i
  if r = 0 then go i (b.updDram fun d => { d with injRefused := false, injReason := 0 })
  else (b.updDram fun d => { d with injRefused := true, injReason := r }).send .injectRefused (chSrc (b.place i.line).ch 7) (64 * i.line)

/-- The part reads a line and rewrites it (R221, R223); an unmarked stripe is filled first. The line is charged once, with the rewrite
(R320). -/
def Base.rewrite (b : Base) (i : Injection) : Base :=
  let (q, b) := b.internal .inject (.inject i.mask i.pattern) i.line b.healLabel 0
  (b.present q).pump

/-- A write of INJ_CTRL (R221, R223, R227): with CLEAR_ALL a heal rewrite of every recorded line and nothing else; with REWRITE_NOW a rewrite and
no arming; else an arming. -/
def Base.injCtrl (b : Base) (v : BitVec 3) : Base :=
  if v.getLsbD 2 then b.dram.injections.foldl (fun b i => b.rewrite { i with mask := 0 }) b
  else if v.getLsbD 1 then b.injRequest fun i b => b.rewrite i
  else if v.getLsbD 0 then b.injRequest fun i b => b.updDram fun d => { d with armed := some i }
  else b

/-- A write of INJ_CTRL with ARM_NEXT_WRITE set (R221). -/
def execInjArmNextWrite (v : BitVec 3) (s : State) : Host.Outcome State Fault Refusal := s.whenBase Base.mgmtFull fun b => b.injCtrl v

/-- A write of INJ_CTRL with REWRITE_NOW set (R221). -/
def execInjRewriteNow (v : BitVec 3) (s : State) : Host.Outcome State Fault Refusal := s.whenBase Base.mgmtFull fun b => b.injCtrl v

/-- A write of INJ_CTRL with CLEAR_ALL set (R223). -/
def execInjClearAll (v : BitVec 3) (s : State) : Host.Outcome State Fault Refusal := s.whenBase Base.mgmtFull fun b => b.injCtrl v

/-- ECC_COUNT_CLEAR (R225). -/
def execEccCountClear (v : Word) (s : State) : Host.Outcome State Fault Refusal :=
  s.whenBase Base.mgmtFull fun b => b.clearCounters Reg.CORRECTED_COUNT 5 v

/-- CH_ECC_CLEAR (R226). -/
def execChEccClear (ch : ChanId) (v : Word) (s : State) : Host.Outcome State Fault Refusal :=
  s.whenBase Base.mgmtFull fun b => b.clearCounters (Reg.CH_CORRECTED ch.toNat) 3 v

end Sys2Proof.Machine
end

