-- ==== Sys2Proof/Machine/Stack.lean ====
section
/-! DEFINITION. Machine/Stack.lean: the stack-integrity engine (chapter 10): cane tests and repairs (R328 to R339), full-width
tests (R335), droop (R342, R343), guard controllers (R344 to R351). -/

namespace Sys2Proof.Machine

/-! ### Canes of a channel -/

/-- SPk_USE of a channel (R353). -/
def ChanCanes.useOf (x : ChanCanes) (k : Nat) : Nat := Tab.get 0x3C x.use k

def Base.setUse (b : Base) (ch k v : Nat) : Base := b.updCanes ch fun x => { x with use := Tab.set 0x3C x.use k v }

/-- The lowest spare of the channel that carries nothing. -/
def Base.idleSpare (b : Base) (ch : Nat) : Option Nat := (List.range 4).find? fun k => (b.canes ch).useOf k == 0x3C

/-- SP3 of CH(4d) stands ready as the heartbeat backup of its die (R328, R351). -/
def Base.backupReady (b : Base) (d : Nat) : Bool := (b.canes (4 * d)).useOf 3 == 0x3D && !(b.guard d).onBackup

/-- The spare a repair takes: the lowest free one; the heartbeat backup last (R328). -/
def Base.repairSpare (b : Base) (ch : Nat) : Option Nat :=
  match b.idleSpare ch with
  | some k => some k
  | none => if ch % 4 = 0 ∧ b.backupReady (dieOf ch) = true then some 3 else none

/-- The spare that carries a position. -/
def Base.carrier (b : Base) (ch p : Nat) : Option Nat := (List.range 4).find? fun k => (b.canes ch).useOf k == p

/-- Address field of channel-cane kinds (R354). -/
def caneAddr (ch pos spare : Nat) : Nat := ch + 64 * pos + 4096 * spare

/-- A sliced retrain starts (R174). -/
def Base.startRetrain (b : Base) (ch : Nat) : Base :=
  let b := b.updDram fun d => { d with retraining := some ch, retrainWait := d.retrainWait.filter (· != ch) }
  (b.updChan ch fun c => { c with train := .sliced, slicesLeft := 2000, lastSlice := 0 }).bump Reg.SLICED_RETRAIN_COUNT

/-- A sliced retrain is requested (R173, R174): one channel at a time, the others wait. Requests wait in the order in which they are made: what
"TRAIN_STATUS order" is, no register says (DESIGN CHOICE, entry 140). -/
def Base.requestRetrain (b : Base) (ch : Nat) : Base :=
  if (b.chan ch).train ≠ .trained then b
  else match b.dram.retraining with
    | none => b.startRetrain ch
    | some _ => if b.dram.retrainWait.contains ch = true then b else b.updDram fun d => { d with retrainWait := d.retrainWait ++ [ch] }

/-- The channel in a sliced retrain leaves it; the next that waits starts. -/
def Base.nextRetrain (b : Base) (ch : Nat) : Base :=
  if b.dram.retraining ≠ some ch then b
  else
    let b := b.updDram fun d => { d with retraining := none }
    match b.dram.retrainWait with
    | n :: _ => b.startRetrain n
    | [] => b

/-- A request that the channel drops as it retires (R338): a metadata read gives its flow a line without a record (DEDUCED, entry 146); what a
completed write or a heal held is discarded. -/
def Base.dropEntry (b : Base) (e : Entry) : Base :=
  if e.wr.isSome then b.release e.req
  else match e.req.who with
    | .directory => (b.release e.req).metaRead e.req.line {}
    | _ => b.retiredReq e.req

/-- A channel is retired (R338): it issues nothing more, what waits is treated as in a retired channel, queued writes that have
completed are discarded, and its remap and history tables are freed. -/
def Base.retireQuiet (b : Base) (ch : Nat) : Base :=
  let b := (b.chan ch).rowQ.foldl (fun (b : Base) (e : RowEntry) => b.dropRow ch e.lines e) b
  let c := b.chan ch
  let b := b.setChan ch { c with
    train := .retired, readQ := [], writeQ := [], xbar := [], upstream := [], feed := [], healQ := [], healing := [], history := [], remap := [],
    scrubJob := none, moves := [], scrubOwed := 0, trfDue := [], slots := 0 }
  let b := (b.updDram fun d => { d with retrainWait := d.retrainWait.filter (· != ch) }).nextRetrain ch
  let b := b.updCanes ch fun x => { x with testOut := none, testSpare := none, erasing := false, targets := [] }
  let b := (c.writeQ ++ c.healQ.map fun h => h.entry).foldl Base.dropEntry b
  (c.readQ ++ c.xbar ++ c.upstream ++ c.feed).foldl (fun (b : Base) (e : Entry) => if e.wr.isSome then b.retiredReq e.req else b.dropEntry e) b

/-- Retirement with its message (R338). -/
def Base.retireChannel (b : Base) (ch pos : Nat) : Base :=
  if b.retired ch then b
  else ((b.retireQuiet ch).send .channelRetired (0x540 + dieOf ch) (caneAddr ch pos 0x3F)).pump

/-- A spare takes a position for good (R332, R336): the spare that carried it before is bad. -/
def Base.takeSpare (b : Base) (ch p k : Nat) : Base :=
  let b := match b.carrier ch p with | some j => b.setUse ch j 0x3E | none => b
  let b := (b.setUse ch k p).send .caneShifted (0x540 + dieOf ch) (caneAddr ch p k)
  let b := if k = 3 ∧ ch % 4 = 0 then b.send .hbBackupLost (0x550 + dieOf ch) (dieOf ch) else b
  b.requestRetrain ch

/-- A channel position that fails (R336). -/
def Base.failPosition (b : Base) (ch p : Nat) : Base :=
  let c := b.chan ch
  if b.retired ch ∨ c.erased.contains p = true then b
  else
    let b := b.bump Reg.CANE_FAIL_COUNT
    match b.repairSpare ch with
    | some k => b.takeSpare ch p k
    | none =>
      let b := match b.carrier ch p with | some j => b.setUse ch j 0x3E | none => b
      if p < 40 ∧ c.erased.length < 2 then
        ((b.updChan ch fun c => { c with erased := c.erased ++ [p] }).send .caneErased (0x540 + dieOf ch) (caneAddr ch p 0x3F)).requestRetrain ch
      else b.retireChannel ch p

/-- A spare that carries no position fails (R332). -/
def Base.failSpare (b : Base) (ch k : Nat) : Base :=
  ((b.setUse ch k 0x3E).bump Reg.CANE_FAIL_COUNT).send .spareBad (0x540 + dieOf ch) (caneAddr ch (60 + k) k)

/-! ### Canes of a row bus -/

/-- Source of sweep and repair of a bus (R354), and the address of a row-bus cane. -/
def busSrc (bus : Nat) : Nat := 0x301 + 0x10 * bus
def busAddr (bus cane : Nat) : Nat := bus + 4 * cane

/-- Spares of a bus that carry nothing and are not bad. -/
def Base.busFree (b : Base) (bus : Nat) : List Nat :=
  (List.range 320).filter fun k => !(b.si.busShifts.any fun x => x.1 == bus && x.2.2 == k) && !b.si.busBad.contains (bus, k)

/-- The fast path of a quadrant leaves or returns to service (R293). -/
def Base.fastPath (b : Base) (bus : Nat) : Base := b.send .fastPathLost 0x4D0 bus

/-- A bus retires (R337). -/
def Base.retireBus (b : Base) (bus cane : Nat) : Base :=
  if (b.bus bus).retired then b
  else (((b.clearOffers bus).updBus bus fun x => { x with retired := true }).send .rowBusRetired (busSrc bus) (busAddr bus cane)).fastPath bus

/-- The spare that carried the cane is bad. -/
def Base.dropShift (b : Base) (bus cane : Nat) : Base :=
  match b.si.busShifts.find? fun x => x.1 == bus && x.2.1 == cane with
  | some x => b.updSi fun s => { s with busShifts := s.busShifts.filter (fun y => !(y.1 == bus && y.2.1 == cane)), busBad := s.busBad ++ [(bus, x.2.2)] }
  | none => b

/-- A row-bus position takes a spare for good. -/
def Base.busShift (b : Base) (bus cane k : Nat) : Base :=
  ((b.dropShift bus cane).updSi fun s => { s with busShifts := s.busShifts ++ [(bus, cane, k)] }).send .caneShifted (busSrc bus) (busAddr bus cane)

/-- A row-bus position that fails (R337). -/
def Base.busFail (b : Base) (bus cane : Nat) : Base :=
  let x := b.bus bus
  if x.retired ∨ x.erased.contains cane = true then b
  else
    let b := b.bump Reg.CANE_FAIL_COUNT
    match b.busFree bus with
    | k :: _ => b.busShift bus cane k
    | [] =>
      let b := b.dropShift bus cane
      if cane < 10240 ∧ x.erased.length < 8 then
        (b.updBus bus fun x => { x with erased := x.erased ++ [cane] }).send .rbCaneErased (busSrc bus) (busAddr bus cane)
      else b.retireBus bus cane

/-- A physical cane of a bus fails: a position, or a spare, which counts as the position it carries (R332, R336). -/
def Base.busCaneFail (b : Base) (bus cane : Nat) : Base :=
  if cane < 10304 then b.busFail bus cane
  else
    let k := cane - 10304
    match b.si.busShifts.find? fun x => x.1 == bus && x.2.2 == k with
    | some x => b.busFail bus x.2.1
    | none =>
      if b.si.busBad.contains (bus, k) then b
      else ((b.updSi fun s => { s with busBad := s.busBad ++ [(bus, k)] }).bump Reg.CANE_FAIL_COUNT).send .spareBad (busSrc bus) (busAddr bus cane)

/-! ### The sweep -/

def Base.failSteps (b : Base) : Nat := b.rf Reg.SI_CFG 13 8
def Base.weakSteps (b : Base) : Nat := b.rf Reg.SI_CFG 21 16

/-- The verdict of R331. -/
def Base.caneFails (b : Base) (w : CaneWidth) : Bool := !w.prbsOk || decide (w.width.toNat < b.failSteps)
def Base.caneWeak (b : Base) (w : CaneWidth) : Bool := !b.caneFails w && decide (w.width.toNat < b.weakSteps)

/-- The number of a unit in the sweep. -/
def unitNo : CaneUnit → Nat
  | .pos ch p => ch.toNat * 64 + p.toNat
  | .seg q s => 4096 + q.toNat * 1328 + s.toNat % 1328
  | .heartbeat d => 9408 + d.toNat

/-- The number of a signal cane among the margin records (R340). -/
def caneNo (bus cane : Nat) : Nat := 4096 + bus * 10624 + cane

/-- The unit of a margin's monthly minimum: a channel, or 64 + bus. -/
def Base.month (b : Base) : Nat := min 255 (b.dict.life.powerNs / 2629746000000000)

/-- A measured width joins the record of its cane and the monthly minimum of its unit (R340). -/
def Base.recordWidth (b : Base) (cane unit width : Nat) : Base :=
  let m := b.month
  b.updSi fun s =>
    let r := Tab.get {} s.records cane
    let months := match r.months with
      | (k, sum, n) :: t => if k = m then (k, sum + width, n + 1) :: t else ((m, width, 1) :: r.months).take 13
      | [] => [(m, width, 1)]
    let first := r.months == []
    let r' : CaneRecord := { baseline := if first then width else r.baseline, latest := width, lowest := if first then width else min r.lowest width, months := months }
    let low := match s.monthly.find? fun e => e.1 == unit * 256 + m with | some e => min e.2 width | none => width
    { s with records := Tab.insert cane r' s.records, monthly := Tab.insert (unit * 256 + m) low s.monthly }

/-- Units the sweep cannot or need not test: of retired channels and buses, erased positions, spares that are bad or carry a
position (R329, R333, R335). -/
def Base.exempt (b : Base) : BitVec 9424 :=
  let chs := (List.range 64).flatMap fun ch =>
    if b.retired ch then (List.range 64).map (· + ch * 64)
    else (b.chan ch).erased.map (· + ch * 64) ++ ((List.range 4).filter fun k => (b.canes ch).useOf k < 0x3C || (b.canes ch).useOf k == 0x3E).map (· + (ch * 64 + 60))
  let buses := (List.range 4).flatMap fun q => if (b.bus q).retired then (List.range 1328).map (· + (4096 + q * 1328)) else []
  (chs ++ buses).foldl (fun m i => setBit m i true) 0

/-- The margins of the sweep that ends become those of the last sweep (R353). -/
def ChanCanes.endSweep (x : ChanCanes) : ChanCanes :=
  if x.curMin = 255 then x else { x with minWidth := x.curMin, weakest := x.curWeakest, curMin := 255, curWeakest := 0 }

def RowBus.endSweep (x : RowBus) : RowBus :=
  if x.curMin = 255 then x
  else { x with minWidth := x.curMin, weakest := x.curWeakest, weakCount := min 255 x.curWeak, curMin := 255, curWeakest := 0, curWeak := 0 }

/-- A unit has been tested or skipped; when it was the last, the sweep ends and the margins of the last sweep are set (R329,
R353). -/
def Base.unitDone (b : Base) (u : CaneUnit) : Base :=
  let b := b.updSi fun s => { s with tested := setBit s.tested (unitNo u) true }
  if b.si.tested ||| b.exempt = BitVec.allOnes 9424 then
    let b := forN 64 (fun ch b => b.updCanes ch ChanCanes.endSweep) b
    let b := forN 4 (fun q b => b.updBus q RowBus.endSweep) b
    b.updSi fun s => { s with tested := 0, sweepFrom := b.pl.epochs, cycles := satAdd 255 s.cycles 1, late := false }
  else b

/-- A unit that cannot be tested is skipped (R333). -/
def Base.skipUnit (b : Base) (u : CaneUnit) (addr : Nat) : Base :=
  ((b.bump Reg.SWEEP_SKIPPED_COUNT).send .sweepSkipped 0x570 addr).unitDone u

/-- A pause of the channel would overlap neither a forced refresh nor another pause on its row-bus quadrant (R37). -/
def Base.pauseFits (b : Base) (ch : Nat) : Bool :=
  (List.range 32).all (fun k => Tab.get 0 (b.chan ch).debt k != 8)
    && (List.range 16).all fun d => let o := 4 * d + quadOf ch; o == ch || decide ((b.chan o).pauseUntil ≤ b.now)

/-- This epoch gives the channel a retraining item; it is taken when its turn comes (R160), unless it is to be deferred. One deferred for 1,000
epochs is forced (R36, R37, R330). -/
def Base.takePause (b : Base) (ch : ChanId) (k : PauseItem) : Option Base :=
  let fits := b.pauseFits ch.toNat
  let go := fun d : PauseDue => let forced := decide (1000 ≤ d.deferred); (fits || forced) && b.pauseTurn ch.toNat forced
  match b.pl.due.find? fun d => d.ch == ch && d.item == k && go d with
  | some d =>
    let b := b.updPl fun p => { p with due := p.due.erase d }
    some (if fits then b else b.send .pauseForced (chSrc ch.toNat 2) (chAddr ch.toNat 0 0))
  | none => none

/-- The channel's pause (R172, R174, R330): no ACT is selected from now on; the pins are held once the column commands that are
reserved, and their data, are complete. -/
def Base.pause (b : Base) (ch cycles : Nat) : Base := b.updChan ch fun c => { c with pauseUntil := (c.cols.map ColSlot.ends).foldl max b.now + cycles }

/-- A position or spare goes out for test (R330, R333). A shift, and every targeted test, takes the channel's retraining item (R330, R334);
erasure mode and a spare without a position shift nothing. -/
def Base.shiftPos (b : Base) (ch : ChanId) (p : BitVec 6) : Base :=
  let k := ch.toNat
  let x := b.canes k
  let c := b.chan k
  let targeted := x.targets.contains p.toNat
  let u := CaneUnit.pos ch p
  let ok := b.alive && (c.train == .trained || c.train == .sliced) && (b.set_ (b.setOf k)).state == 0 && x.testOut.isNone
    && (tb (b.reg Reg.SI_CFG) 24 || targeted) && !c.erased.contains p.toNat
  let out := fun (b : Base) (spare : Option Nat) (er : Bool) => b.updCanes k fun y => { y with
    testOut := some p.toNat, testSpare := spare, testFrom := b.pl.epochs, erasing := er, targets := y.targets.filter (· != p.toNat) }
  if !ok then b
  else if 60 ≤ p.toNat then
    let use := x.useOf (p.toNat - 60)
    if use = 0x3C ∨ (use = 0x3D ∧ (b.guard (dieOf k)).onBackup = false) then out b none false else b
  else match b.idleSpare k with
    | some sp => match b.takePause ch .caneShift with
      | none => b
      | some b => (out (b.setUse k sp 0x3F) (some sp) false).pause k 20
    | none =>
      if p.toNat < 40 ∧ targeted = true then (match b.takePause ch .caneShift with | some b => out b none true | none => b)
      else if p.toNat < 40 ∧ c.erased.length ≤ 1 then out b none true
      else (b.updCanes k fun y => { y with targets := y.targets.filter (· != p.toNat) }).skipUnit u (caneAddr k p.toNat 0x3F)

/-- A segment of a row bus goes out for test at the boundary of its plan (R329, R330, R333). -/
def Base.shiftSeg (b : Base) (q : BusId) (sg : BitVec 11) : Base :=
  let n := q.toNat
  let s := sg.toNat
  let u := CaneUnit.seg q sg
  let targeted := b.si.busTargets.contains (n, s)
  if !(b.alive && b.pl.active.segment == some (q, sg) && decide (s < 1328) && b.si.segOut.isNone && b.si.heartbeatOut.isNone
      && !(b.bus n).retired && (List.range 4).all (fun i => !(b.bus i).testing) && (tb (b.reg Reg.SI_CFG) 24 || targeted)) then b
  else
    let b := b.updPl fun p => { p with active := { p.active with segment := none } }
    let b := b.updSi fun x => { x with busTargets := x.busTargets.filter (· != (n, s)) }
    let out := fun (er : Bool) => b.updSi fun x => { x with segOut := some (n, s, b.pl.epochs, er) }
    let held := ((b.bus n).erased.filter fun c => c / 640 == s / 80).length
    if 1288 ≤ s ∨ 8 ≤ (b.busFree n).length then out false
    else if s < 1280 ∧ held + 1 ≤ 8 then out true
    else b.skipUnit u (busAddr n (8 * s))

/-- The main heartbeat cane goes out, its backup driven in its place (R344); without a backup the test is skipped (R351). -/
def Base.shiftHeartbeat (b : Base) (d : DieId) : Base :=
  if !(b.alive && b.si.heartbeatOut.isNone && tb (b.reg Reg.SI_CFG) 24 && (b.guard d.toNat).state == 0) then b
  else if b.backupReady d.toNat then b.updSi fun x => { x with heartbeatOut := some d.toNat }
  else b.skipUnit (.heartbeat d) d.toNat

/-- CANE_TEST_SHIFT (R330). -/
def execCaneTestShift (u : CaneUnit) (s : State) : Host.Outcome State Fault Refusal :=
  s.then_ fun b => match u with
    | .pos ch p => b.shiftPos ch p
    | .seg q sg => b.shiftSeg q sg
    | .heartbeat d => b.shiftHeartbeat d

/-- A channel's margins of the sweep under way. -/
def Base.noteChan (b : Base) (ch p width : Nat) : Base :=
  (b.updCanes ch fun x => if width < x.curMin then { x with curMin := width, curWeakest := p } else x).recordWidth (ch * 64 + p) ch width

/-- A bus's margins of the sweep under way. -/
def Base.noteBus (b : Base) (bus cane width : Nat) : Base :=
  let weak := width < b.weakSteps
  (b.updBus bus fun x =>
    let x := if width < x.curMin then { x with curMin := width, curWeakest := cane } else x
    if weak then { x with curWeak := x.curWeak + 1 } else x).recordWidth (caneNo bus cane) (64 + bus) width

/-- The test of a channel cane ends (R331 to R333, R336). -/
def Base.resultPos (b : Base) (ch : ChanId) (p : BitVec 6) (w : CaneWidth) : Base :=
  let k := ch.toNat
  let x := b.canes k
  if x.testOut ≠ some p.toNat then b
  else
    let b := b.noteChan k p.toNat w.width.toNat
    let stop := fun (b : Base) => (b.updCanes k fun y => { y with testOut := none, testSpare := none, erasing := false }).unitDone (.pos ch p)
    if b.caneFails w then
      if 60 ≤ p.toNat then stop (b.failSpare k (p.toNat - 60))
      else match x.testSpare with
        | some sp => stop ((b.bump Reg.CANE_FAIL_COUNT).takeSpare k p.toNat sp)
        | none => stop (b.failPosition k p.toNat)
    else if b.caneWeak w then b.send .caneWeak (0x540 + dieOf k) (caneAddr k p.toNat ((x.testSpare).getD 0x3F))
    else b

/-- The test of a segment ends (R331, R332, R337): a failing cane keeps the spare that shadows it. -/
def Base.resultSeg (b : Base) (q : BusId) (sg : BitVec 11) (res : List CaneWidth) : Base :=
  let n := q.toNat
  match b.si.segOut with
  | none => b
  | some (bn, s, _, _) =>
    if bn ≠ n ∨ s ≠ sg.toNat then b
    else
      let canes := (res.take 8).zipIdx.map fun e => (8 * s + e.2, e.1)
      let b := canes.foldl (fun b e => b.noteBus n e.1 e.2.width.toNat) b
      let b := canes.foldl (fun b e =>
        if b.caneFails e.2 then b.busCaneFail n e.1
        else if b.caneWeak e.2 then b.send .caneWeak (busSrc n) (busAddr n e.1)
        else b) b
      if (b.bus n).retired then (b.updSi fun x => { x with segOut := none }).unitDone (.seg q sg) else b

/-- The test of a heartbeat cane ends (R331): a failed one loses its die's heartbeat to the backup (R350). -/
def Base.resultHeartbeat (b : Base) (d : DieId) (w : CaneWidth) : Base :=
  if b.si.heartbeatOut ≠ some d.toNat then b
  else
    let b := b.recordWidth (46592 + d.toNat) (68 + d.toNat) w.width.toNat
    if b.caneFails w then
      let b := ((b.bump Reg.CANE_FAIL_COUNT).updGuard d.toNat fun g => { g with onBackup := true }).send .heartbeatMoved (0x550 + d.toNat) d.toNat
      (b.updSi fun x => { x with heartbeatOut := none }).unitDone (.heartbeat d)
    else b

/-- CANE_TEST_RESULT (R331). -/
def execCaneTestResult (u : CaneUnit) (res : List CaneWidth) (s : State) : Host.Outcome State Fault Refusal :=
  s.whenBase Base.alive fun b => match u, res with
    | .pos ch p, w :: _ => b.resultPos ch p w
    | .seg q sg, _ => b.resultSeg q sg res
    | .heartbeat d, w :: _ => b.resultHeartbeat d w
    | _, [] => b

/-- CANE_TEST_SHIFT_BACK (R330): at the pause or boundary of epoch N + 3 the test spare returns. -/
def execCaneTestShiftBack (u : CaneUnit) (s : State) : Host.Outcome State Fault Refusal :=
  s.whenBase Base.alive fun b => match u with
    | .pos ch p =>
      let x := b.canes ch.toNat
      if x.testOut ≠ some p.toNat ∨ b.pl.epochs < x.testFrom + 3 then b
      else
        let stop := fun (b : Base) => (b.updCanes ch.toNat fun y => { y with testOut := none, testSpare := none, erasing := false }).unitDone u
        match x.testSpare with
        | none => stop b
        | some sp => match b.takePause ch .caneShift with
          | some b => stop ((b.setUse ch.toNat sp 0x3C).pause ch.toNat 20)
          | none => b
    | .seg q sg =>
      match b.si.segOut with
      | some (n, sn, f, _) => if n = q.toNat ∧ sn = sg.toNat ∧ f + 3 ≤ b.pl.epochs then (b.updSi fun y => { y with segOut := none }).unitDone u else b
      | none => b
    | .heartbeat d => if b.si.heartbeatOut = some d.toNat then (b.updSi fun y => { y with heartbeatOut := none }).unitDone u else b

/-- SWEEP_LATE (R334). -/
def execSweepLate (s : State) : Host.Outcome State Fault Refusal :=
  s.whenBase Base.alive fun b =>
    if !b.si.late ∧ 4500000000 * b.rf Reg.SI_CFG 7 0 < b.pl.epochs - b.si.sweepFrom then
      (b.updSi fun y => { y with late := true }).send .sweepLate 0x570 0
    else b

/-! ### Full-width tests (R335) -/

/-- FULLWIDTH_TEST_DONE: failing canes are repaired; the bus returns at the next boundary. -/
def execFullwidthTestDone (q : BusId) (failed : List (BitVec 14)) (min : Byte) (weakest : BitVec 14) (weak : Byte) (s : State) : Host.Outcome State Fault Refusal :=
  s.whenBase Base.alive fun b =>
    if b.si.fwActive = some q.toNat then
      let b := b.updSi fun y => { y with fwActive := none }
      let b := b.updBus q.toNat fun x => { x with
        tested := true, minWidth := min.toNat, weakest := weakest.toNat, weakCount := weak.toNat, lastTest := b.pl.epoch.setWidth 32 }
      let b := (b.recordWidth (caneNo q.toNat weakest.toNat) (64 + q.toNat) min.toNat)
      let b := failed.foldl (fun b c => b.busCaneFail q.toNat c.toNat) b
      if 8 < failed.length then b.send .fullwidthFail (0x302 + 0x10 * q.toNat) (busAddr q.toNat 0) else b
    else b

/-- SI_TEST_CHANNEL (R334, R353). -/
def execSiTestChannel (ch : ChanId) (s : State) : Host.Outcome State Fault Refusal :=
  s.whenBase Base.mgmtFull fun b =>
    if b.retired ch.toNat then b
    else b.updCanes ch.toNat fun x => { x with targets := (x.targets ++ (List.range 60).filter fun p => !(b.chan ch.toNat).erased.contains p).eraseDups }

/-- SI_FULLWIDTH_NOW (R353). -/
def execSiFullwidthNow (q : BusId) (s : State) : Host.Outcome State Fault Refusal :=
  s.whenBase Base.mgmtFull fun b => if (b.bus q.toNat).retired then b else b.updBus q.toNat fun x => { x with fwNow := true }

/-- SI_COUNT_CLEAR (R352). -/
def execSiCountClear (v : Word) (s : State) : Host.Outcome State Fault Refusal :=
  s.whenBase Base.mgmtFull fun b => b.clearCounters Reg.CANE_FAIL_COUNT 4 v

/-! ### Droop (R342, R343) -/

/-- The lowest codes measured: VDD_ARR is 0.85 V + code × 2.5 mV, VPP 1.50 V + code × 2.5 mV (R353). `warn` and `fault` are the
VDD_ARR thresholds below 1.05 V in 5 mV. -/
def crosses (arr vpp : Byte) (below vppCode : Nat) : Bool := decide (arr.toNat + 2 * below < 80) || decide (vpp.toNat < vppCode)

/-- Times within the last 1,000 epochs. -/
def recent (epochs : Nat) (l : List Nat) : List Nat := l.filter fun t => decide (epochs < t + 1000)

/-- A crossing is noted in the minima of its epoch, those of the epoch before kept (R342). -/
def DieGuard.low (g : DieGuard) (epochs : Nat) (arr vpp : Byte) : DieGuard :=
  { g with lows := (epochs, arr, vpp) :: g.lows.filter fun e => decide (epochs ≤ e.1 + 1) }

/-- DROOP_WARN. -/
def execDroopWarn (d : DieId) (arr vpp : Byte) (s : State) : Host.Outcome State Fault Refusal :=
  s.whenBase Base.alive fun b =>
    if crosses arr vpp (b.rf Reg.SI_CFG2 23 16) 84 then
      (b.updGuard d.toNat fun g => { g.low b.pl.epochs arr vpp with warns := b.pl.epochs :: recent b.pl.epochs g.warns }).send .droopWarn (0x560 + d.toNat) d.toNat
    else b

/-- DROOP_FAULT: the die's requests are held for 100 ns from the last crossing; more than 16 holds within 1,000 epochs make
the supply unstable. -/
def execDroopFault (d : DieId) (arr vpp : Byte) (s : State) : Host.Outcome State Fault Refusal :=
  s.whenBase Base.alive fun b =>
    if crosses arr vpp (b.rf Reg.SI_CFG2 31 24) 60 then
      let b := b.updGuard d.toNat fun g => { g.low b.pl.epochs arr vpp with holds := b.pl.epochs :: recent b.pl.epochs g.holds, holdUntil := b.now + 100 }
      let b := (b.bump Reg.DROOP_FAULT_COUNT).send .droopFault (0x560 + d.toNat) d.toNat
      let g := b.guard d.toNat
      if 16 < g.holds.length ∧ (match g.unstableAt with | some t => decide (t + 1000 ≤ b.pl.epochs) | none => true) = true then
        (b.setGuard d.toNat { g with unstableAt := some b.pl.epochs }).send .supplyUnstable (0x560 + d.toNat) d.toNat
      else b
    else b

/-- DROOP_HOLD_END. -/
def execDroopHoldEnd (d : DieId) (s : State) : Host.Outcome State Fault Refusal :=
  s.whenBase Base.alive fun b => b.updGuard d.toNat fun g => if g.holdUntil ≤ b.now then { g with holdUntil := 0 } else g

/-! ### Guard controllers -/

/-- A guard controller closes (R345): TEST shifts of the die revert to their latches. -/
def Base.closeGuard (b : Base) (d : Nat) : Base :=
  let b := (b.updGuard d fun g => { g with state := 2, entries := satAdd 255 g.entries 1 }).bump Reg.GUARD_ENTRY_COUNT
  forN 4 (fun q b =>
    let ch := 4 * d + q
    match (b.canes ch).testSpare with
    | some sp => (b.setUse ch sp 0x3C).updCanes ch fun x => { x with testOut := none, testSpare := none }
    | none => b) b

/-- HEARTBEAT_LOSS (R345): the heartbeat cane in use has failed for 64 ns while the base die drives it. -/
def execHeartbeatLoss (d : DieId) (s : State) : Host.Outcome State Fault Refusal :=
  s.whenBase Base.alive fun b =>
    let g := b.guard d.toNat
    if g.state = 0 ∨ g.state = 3 then (b.closeGuard d.toNat).updGuard d.toNat fun g => { g with failed := true } else b

/-- GUARD_EXIT (R346): after an entry that the base die caused, the heartbeat runs again and SRX arrives. -/
def execGuardExit (d : DieId) (s : State) : Host.Outcome State Fault Refusal :=
  s.whenBase Base.alive fun b =>
    let g := b.guard d.toNat
    if (g.state = 2 ∨ g.state = 1) ∧ g.failed = false ∧ b.flt.fatal = false then b.setGuard d.toNat { g with state := 0 } else b

/-- The channel issues its die's guard-status reads: the lowest not retired (R348). -/
def Base.statusChannel (b : Base) (ch : Nat) : Bool := ((List.range 4).map (· + 4 * dieOf ch)).find? (fun c => !b.retired c) == some ch

/-- A die found ACTIVE: write logs and accepted counts begin anew (R349). -/
def Base.newLogs (b : Base) (d : Nat) : Base :=
  let b := b.updGuard d fun g => { g with accepted := [] }
  b.updSi fun x => { x with writeLog := x.writeLog.filter fun e => dieOf e.1 != d }

/-- A line that a guarded die ignored is stamped poisoned, keeping its bytes (R350). -/
def Base.stampIgnored (b : Base) (p : Place) : Base :=
  let line := b.lineAt p
  let r := b.stampRec line
  let (q, b) := b.internal .stamp (.ptl 0 0) line b.healLabel
  let e := b.entryOf q (some { be := 0, sharers := some r.vec, st := some r.st, poison := some true, healed := some false })
  let b := (b.listPoison line).feedIn p.ch e
  match b.heldRec line with | some _ => b.putRec line r false | none => b

/-- Write-log entries beyond the accepted count (R349, R350). -/
def Base.ignoredWrites (b : Base) (ch : Nat) : List Place :=
  let log := Tab.get [] b.si.writeLog ch
  let n := log.length - Tab.get 0 (b.guard (dieOf ch)).accepted (quadOf ch)
  ((log.take n).flatMap fun e => if e.2.2 < 16 then [{ ch := ch, bank := e.1, row := e.2.1, col := e.2.2 : Place }] else rowPlaces ch e.1 e.2.1).eraseDups

/-- The reset that a TRIP bit of a guard-status read leads to (R375) is the thermal chapter's; here the die is found ACTIVE, or
its failed heartbeat is detected (R348). -/
def Base.guardStatus (b : Base) (ch : Nat) : Base :=
  let d := dieOf ch
  if (b.guard d).state = 0 then b.newLogs d else b.updGuard d fun g => { g with detected := g.failed }

/-- The channel's next epoch holds a read-eye visit (R175). -/
def Base.readEyeVisit (b : Base) (ch : Nat) : Base :=
  if b.retired ch then b
  else
    let d : PauseDue := { ch := BitVec.ofNat 6 ch, item := .drift }
    let b := b.updChan ch fun c => { c with writeEye := false }
    b.updPl fun p => { p with carried := (p.carried.filter fun x => !(x.ch == d.ch && x.item == .drift)) ++ [d] }

/-- HEARTBEAT_RECOVERY (R350, R351): with the backup the die comes back, a read-eye visit of each channel follows, and the writes it ignored are
stamped; without one its channels retire. -/
def execHeartbeatRecovery (d : DieId) (s : State) : Host.Outcome State Fault Refusal :=
  s.whenBase Base.alive fun b =>
    let n := d.toNat
    let g := b.guard n
    if !(g.detected && g.failed) then b
    else if b.backupReady n then
      let b := (b.setGuard n { g with onBackup := true, failed := false, detected := false, state := 0, reason := 2 }).send .heartbeatMoved (0x550 + n) n
      let b := forN 4 (fun q b => b.readEyeVisit (4 * n + q)) b
      let lost := (List.range 4).flatMap fun q => b.ignoredWrites (4 * n + q)
      let b := b.newLogs n
      let b := lost.foldl (fun b p => b.stampIgnored p) b
      b.send .guardEntered (0x550 + n) n
    else
      let b := b.setGuard n { g with detected := false }
      forN 4 (fun q b => b.retireChannel (4 * n + q) 0x3F) b

end Sys2Proof.Machine
end

