-- ==== Sys2Proof/Machine/Training.lean ====
section
/-! DEFINITION. Machine/Training.lean: training of the channels at boot, drift tracking and sliced retrains (R170 to R175). -/

namespace Sys2Proof.Machine

/-- A channel could not be trained (R170): it is treated as retired. -/
def Base.trainingFailed (b : Base) (ch : Nat) : Base :=
  (((b.retireQuiet ch)).send .trainingFailed (chSrc ch 2) (chAddr ch 0 0)).pump

/-- The eyes of a channel as training leaves them: each cane's centre is its trained value, its width the trained width; the next visit samples
the read eye (R172, R188). -/
def Chan.centred (c : Chan) (epochs : Nat) : Chan :=
  { c with readCentres := [], writeCentres := [], readWidths := List.replicate 40 100, writeWidths := List.replicate 40 100, visitAt := epochs, writeEye := false }

/-- A channel is trained in full (R170): its values and the temperature at capture go into the record. -/
def Base.trained (b : Base) (r : TrainResult) : Base := b.updChan r.ch.toNat fun c =>
  { c.centred b.pl.epochs with train := .trained, usedStored := false, record := some { values := r.values, temp := r.temp } }

/-- The full training of a channel (R170): data canes that do not train go to cane repair and are trained again on their spares; one that no
arrangement of its canes trains has failed. -/
def Base.trainFull (b : Base) (r : TrainResult) : Base :=
  let ch := r.ch.toNat
  let b := (r.failedCanes.filter fun p => decide (p.toNat < 40)).foldl (fun b p => b.failPosition ch p.toNat) b
  if b.retired ch then b
  else match r.failedAt with
    | some _ => b.trainingFailed ch
    | none => b.trained r

/-- CHANNEL_TRAINING (R170): the next group of sixteen channels, in which every channel that is neither trained nor retired has its result. -/
def execChannelTraining (group : Fin 4) (results : List TrainResult) (s : State) : Host.Outcome State Fault Refusal :=
  s.whenBase (fun b => b.alive && !b.boot.memActive && b.dram.trainGroup == group.val) fun b =>
    let open_ := (List.range 16).map (fun i => 16 * group.val + i) |>.filter fun c => (b.chan c).train == .untrained || (b.chan c).train == .training
    if open_.all fun c => results.any fun r => r.ch.toNat == c then
      ((results.filter fun r => open_.contains r.ch.toNat).foldl (fun b r => b.trainFull r) b).updDram fun d => { d with trainGroup := group.val + 1 }
    else b

/-- A stored record may be used (R171). -/
def TrainRecord.usable (r : TrainRecord) (c : TrainCheck) : Bool :=
  c.crcOk && c.partOk && decide (r.temp - c.full.temp ≤ 20 ∧ c.full.temp - r.temp ≤ 20) && c.patternOk

/-- One channel's stored record (R171). -/
def Base.loadRecord (b : Base) (c : TrainCheck) : Base :=
  let ch := c.ch.toNat
  let use := match (b.chan ch).record with | some r => r.usable c | none => false
  if b.retired ch then b
  else if use then b.updChan ch fun x => { x.centred b.pl.epochs with train := .trained, usedStored := true }
  else (b.send .storedTrainingRejected (chSrc ch 2) (chAddr ch 0 0)).trainFull { c.full with ch := c.ch }

/-- STORED_TRAINING_LOAD (R171): the record of every channel that waits for training. -/
def execStoredTrainingLoad (checks : List TrainCheck) (s : State) : Host.Outcome State Fault Refusal :=
  s.whenBase (fun b => b.alive && !b.boot.memActive) fun b =>
    (checks.filter fun c => (b.chan c.ch.toNat).train == .untrained || (b.chan c.ch.toNat).train == .training).foldl (fun b c => b.loadRecord c) b

/-- A step of at most one toward a measured centre (R172). -/
def stepTo (at_ goal : Int) : Int := if at_ < goal then at_ + 1 else if goal < at_ then at_ - 1 else at_

/-- Each cane's centre after a visit (R172). -/
def stepCentres (old measured : List Int) : List Int := measured.mapIdx fun i x => stepTo (old.getD i 0) x

/-- The drift limit is passed (R173): by any cane's centre or width. -/
def Base.driftPassed (b : Base) (m : DriftMeasure) : Bool :=
  (m.centres.any fun x => decide (b.rf Reg.TRAIN_CFG 3 0 < x.natAbs)) || m.widths.any fun w => decide (w < b.rf Reg.TRAIN_CFG 15 8)

/-- The channel's set is ACTIVE and its die answers (R175). -/
def Base.visitable (b : Base) (ch : Nat) : Bool :=
  let x := b.set_ (b.setOf ch)
  b.alive && b.boot.memActive && !b.flt.fatal && x.state == 0 && !x.exiting && !b.ignores ch

/-- DRIFT_VISIT (R172, R173): read and write eye by turns. -/
def execDriftVisit (ch : ChanId) (m : DriftMeasure) (s : State) : Host.Outcome State Fault Refusal :=
  s.then_ fun b =>
    let k := ch.toNat
    if !(b.visitable k && (b.chan k).train == .trained) then b
    else match b.takePause ch .drift with
      | none => b
      | some b =>
        let b := (b.pause k 20).updChan k fun c =>
          let c := if c.writeEye then { c with writeCentres := stepCentres c.writeCentres m.centres, writeWidths := m.widths }
            else { c with readCentres := stepCentres c.readCentres m.centres, readWidths := m.widths }
          { c with visitAt := b.pl.epochs, writeEye := !c.writeEye }
        if b.driftPassed m then (b.send .driftLimit (chSrc k 2) (chAddr k 0 0)).requestRetrain k else b

/-- The record that a sliced retrain leaves (R174): it repeats the steps of the two eyes. -/
def TrainRecord.retrained (r : Option TrainRecord) (v : TrainValues) (temp : Int) : TrainRecord :=
  let old := (r.map fun x => x.values).getD {}
  { values := { old with readCentres := v.readCentres, writeCentres := v.writeCentres }, temp := temp }

/-- RETRAIN_SLICE (R174): 1 µs of the channel; the last of 2,000 slices stores a new record. -/
def execRetrainSlice (ch : ChanId) (values : TrainValues) (s : State) : Host.Outcome State Fault Refusal :=
  s.then_ fun b =>
    let k := ch.toNat
    let c := b.chan k
    if !(b.visitable k && c.train == .sliced && (c.lastSlice == 0 || decide (c.lastSlice + 10 ≤ b.pl.epochs))) then b
    else match b.takePause ch .slice with
      | none => b
      | some b =>
        let b := (b.pause k 1000).updChan k fun c => { c with slicesLeft := c.slicesLeft - 1, lastSlice := b.pl.epochs }
        if (b.chan k).slicesLeft = 0 then
          let temp := (b.diode (dieOf k)).reading / 4
          let b := b.updChan k fun c => { c.centred b.pl.epochs with train := .trained, record := some (TrainRecord.retrained c.record values temp) }
          (b.send .retrainDone (chSrc k 2) (chAddr k 0 0)).nextRetrain k
        else b

/-- TRAIN_CTRL_START (R173, R188). -/
def execTrainCtrlStart (ch : ChanId) (s : State) : Host.Outcome State Fault Refusal :=
  s.whenBase Base.mgmtFull fun b => b.requestRetrain ch.toNat

end Sys2Proof.Machine
end

