-- ==== Sys2Proof/Machine/Mover.lean ====
section
/-! DEFINITION. Machine/Mover.lean: the row mover's descriptors (R265 to R278), how a range is split into units and what each unit
needs (R279 to R291), completion records, checkpoints and resets (R293 to R296). -/

namespace Sys2Proof.Machine

/-! ### Queues and rings -/

/-- Entries of a queue's rings, their bases, and the queue's label (R266, R298). -/
def Base.ringSize (b : Base) (q : Nat) : Nat := 2 ^ b.rf (Reg.MQ_CFG q) 3 0
def Base.ringBase (b : Base) (q : Nat) : Nat := 4096 * b.rf (Reg.MQ_RING q) 24 0
def Base.cplBase (b : Base) (q : Nat) : Nat := 4096 * b.rf (Reg.MQ_CPL q) 24 0
def Base.queueLabel (b : Base) (q : Nat) : Label := BitVec.ofNat 16 (b.rf (Reg.MQ_CFG q) 31 16)

/-- Event source of a queue's host and address field of its kinds (R299). -/
def mqSrc (q : Nat) : Nat := 0x4C0 + q / 4
def mqAddr (q index : Nat) : Nat := index + 4096 * (q % 4)

/-- The slots of a queue, in ring order. -/
def Base.slotsOf (b : Base) (q : Nat) : List (Nat × Slot) := b.mov.slots.filter fun e => e.2.queue == q

/-- The queue's state where nothing of it runs and no record of it is owed (R266, R270, R293, R295). -/
def Base.restQueue (b : Base) (q : Nat) : Base :=
  if (b.slotsOf q).isEmpty && !(b.mov.checkpoints.any fun x => x.queue == q) then
    b.updQueue q fun x =>
      if x.stopping then {}
      else if x.resetting then { state := 0 }
      else if x.state = 1 ∧ x.head = x.tail then { x with state := 0 }
      else x
  else b

/-- The mover works. -/
def Base.moverRuns (b : Base) : Bool :=
  b.alive && b.boot.memActive && b.mov.domain == .on && !b.flt.fatal && !b.mov.stopped

/-- MOVER_DOORBELL (R267, R270). -/
def execMoverDoorbell (h : HostId) (q : BitVec 2) (tail : BitVec 12) (s : State) : Host.Outcome State Fault Refusal :=
  s.viaPort h.toNat (fun _ => true) fun b =>
    let k := 4 * h.toNat + q.toNat
    let x := b.queue k
    if x.state = 3 ∨ b.ringSize k ≤ tail.toNat then (b.bump Reg.DOORBELL_INVALID_COUNT).send .doorbellInvalid (mqSrc k) (mqAddr k tail.toNat)
    else
      let idle := b.mov.slots.isEmpty && !(b.mov.queues.any fun e => e.2.state == 1)
      let b := (b.wakeMover).updMov fun v => { v with lastProgress := if idle then b.now else v.lastProgress }
      b.setQueue k { x with
        tail := tail.toNat
        oddPass := x.oddPass && !x.anew
        anew := false
        error := if x.state = 2 then 0 else x.error
        state := if x.head = tail.toNat ∧ (x.state ≠ 1 ∨ (b.slotsOf k).isEmpty) then 0 else 1 }

/-! ### Descriptors -/

/-- Bits [hi:lo] of a line. -/
def Data.bits (d : Data) (hi lo : Nat) : Nat := (d.toNat >>> lo) % 2 ^ (hi + 1 - lo)

/-- A descriptor as its line holds it (R273). -/
def Desc.parse (d : Data) : Desc :=
  { opcode := Data.bits d 7 0
    interrupt := d.getLsbD 8
    fence := d.getLsbD 9
    poisonStop := d.getLsbD 10
    mismatchMap := d.getLsbD 11
    label := d.extractLsb' 16 16
    seq := d.extractLsb' 32 32
    src := Data.bits d 100 64
    dst := Data.bits d 164 128
    length := Data.bits d 229 192
    pattern := d.extractLsb' 256 32
    aux := d.extractLsb' 320 64
    badFixed := Data.bits d 15 12 != 0 || Data.bits d 319 288 != 0 || Data.bits d 511 384 != 0
    badSrc := Data.bits d 127 101 != 0
    badDst := Data.bits d 191 165 != 0
    badLength := Data.bits d 255 230 != 0
    badAux := Data.bits d 383 357 != 0 }

/-- The fields an opcode uses (R274). -/
def Desc.usesSrc (d : Desc) : Bool := d.opcode == 1 || d.opcode == 2 || d.opcode == 5 || d.opcode == 6
def Desc.usesDst (d : Desc) : Bool := d.opcode == 1 || d.opcode == 2 || d.opcode == 3 || d.opcode == 4 || d.opcode == 5
def Desc.usesMap (d : Desc) : Bool := d.opcode == 5 && d.mismatchMap
/-- Map DPA and map bytes of COMPARE (R275). -/
def Desc.mapAt (d : Desc) : Nat := d.aux.toNat % 2 ^ 37
def Desc.mapLen (d : Desc) : Nat := (d.length + 32767) / 32768 * 64

/-- The used ranges, as start and length. -/
def Desc.ranges (d : Desc) : List (Nat × Nat) :=
  (if d.usesSrc then [(d.src, d.length)] else []) ++ (if d.usesDst then [(d.dst, d.length)] else [])
    ++ (if d.usesMap then [(d.mapAt, d.mapLen)] else [])

/-- Check 1 of R275. -/
def Desc.valid1 (d : Desc) : Bool :=
  decide (d.opcode ≤ 6) && !d.badFixed && !(d.usesSrc && d.badSrc) && !(d.usesDst && d.badDst)
    && !(d.opcode != 0 && d.badLength) && !(d.usesMap && d.badAux)
    && !(d.poisonStop && !(d.opcode == 1 || d.opcode == 2)) && !(d.mismatchMap && d.opcode != 5)

/-- Check 2 of R275. -/
def Desc.valid2 (d : Desc) : Bool :=
  d.length % 64 == 0 && d.ranges.all fun r => r.1 % 64 == 0 && decide (r.1 + r.2 ≤ 2 ^ 37)

/-- Two ranges share a byte. -/
def meets (x y : Nat × Nat) : Bool := decide (0 < x.2 ∧ 0 < y.2 ∧ x.1 < y.1 + y.2 ∧ y.1 < x.1 + x.2)

/-- Some two of the ranges meet. -/
def overlapping : List (Nat × Nat) → Bool
  | [] => false
  | r :: t => t.any (meets r) || overlapping t

/-- Check 3 of R275 fails: the used ranges and the queue's rings. -/
def Base.overlaps (b : Base) (q : Nat) (d : Desc) : Bool :=
  let rings := [(b.ringBase q, b.ringBytes q), (b.cplBase q, b.ringBytes q)]
  overlapping d.ranges || d.ranges.any fun r => rings.any (meets r)

/-- The first line of a range that lies outside the host's effective ranges (R98, R275). -/
def Base.firstOutside (b : Base) (h : Nat) (r : Nat × Nat) : Option Nat :=
  if r.2 = 0 then none
  else
    let lo := r.1 / 268435456
    ((List.range ((r.1 + r.2 - 1) / 268435456 - lo + 1)).find? fun i => !(decide (lo + i < 512) && b.inEff h (lo + i))).map fun i => max r.1 ((lo + i) * 268435456)

/-! ### Slots -/

def Base.slot (b : Base) (k : Nat) : Option Slot := (b.mov.slots.find? fun e => e.1 == k).map fun e => e.2
def Base.updSlot (b : Base) (k : Nat) (f : Slot → Slot) : Base := b.moverDone k f

/-- A descriptor ends (R278): its claims are given up; what they held goes on (R148). -/
def Base.dropClaims (b : Base) (k : Nat) : Base :=
  let mine := b.lay.fills.filter fun f => decide (f.claim = some k)
  let b := b.updLay fun l => { l with fills := l.fills.filter fun f => !decide (f.claim = some k) }
  mine.foldl (fun b f => f.held.foldl (fun b q => b.present q) b) b

/-- The home agent holds a row lock for a slot (R251). -/
def Base.lockRow (b : Base) (k ch bank row : Nat) : Base :=
  if b.coh.locks.any fun l => l.slot == k && l.ch == ch && l.bank == bank && l.row == row && l.till.isNone then b
  else b.updCoh fun c => { c with locks := c.locks ++ [{ ch := ch, bank := bank, row := row, slot := k }] }

/-- Locks of a slot end when the bank cycle of the row's write has closed (R251). -/
def Base.unlock (b : Base) (k till : Nat) (p : RowLock → Bool) : Base :=
  b.updCoh fun c => { c with locks := c.locks.map fun l => if l.slot = k ∧ l.till = none ∧ p l = true then { l with till := some till } else l }

/-- The row of a place. -/
def RowLock.at_ (l : RowLock) (p : Place) : Bool := l.ch == p.ch && l.bank == p.bank && l.row == p.row

/-- A slot may lock a row: no request holds a tracker on a line of it, or the lock is the slot's already (R251). -/
def Base.lockable (b : Base) (k : Nat) (p : Place) : Bool :=
  (b.coh.locks.any fun l => l.slot == k && l.at_ p && l.till.isNone)
    || !(b.coh.trackers.any fun t => (b.rowLines p.ch p.bank p.row).contains t.line)

/-- Lines of the unit whose write is on its way to its queue. -/
def Base.underWay (b : Base) (k : Nat) : List Nat :=
  let mine := fun q : Req => match q.who, q.op with | .mover s key, .wr _ _ => if s = k then some key else none | _, _ => none
  b.waitingReqs.filterMap mine ++ b.dram.chans.flatMap fun c => c.2.feed.filterMap fun e => mine e.req

/-- Bytes at the start of the unit under work of which every line has been written (R290). -/
def Base.unitPrefix (b : Base) (k : Nat) (x : Slot) (u : MUnit) : Nat :=
  if x.phase ≠ 3 ∨ u.zero = true ∧ u.size = 65536 then 0
  else
    let busy := b.underWay k
    64 * ((List.range (u.size / 64)).takeWhile fun key => x.wrote.getLsbD key && !busy.contains key).length

/-- The unit under work clears the source of MOVE (R286). -/
def Slot.clearsNow (x : Slot) : Bool := match x.cur with | some u => u.zero && x.desc.opcode == 2 | none => false

/-- BYTES_DONE (R290): the lines of a claimed stripe count once its bit is set. -/
def Base.bytesDone (b : Base) (k : Nat) (x : Slot) : Nat :=
  let part := match x.cur with | some u => if x.clearsNow then 0 else b.unitPrefix k x u | none => 0
  (b.lay.fills.filter fun f => decide (f.claim = some k)).foldl (fun m f => min m (f.stripe * 65536 - x.desc.dst)) (x.pos + part)

/-- SOURCE_CLEARED (R286). -/
def Base.sourceCleared (b : Base) (k : Nat) (x : Slot) : Nat :=
  x.clearedTo + match x.cur with | some u => if x.clearsNow && x.clearing then b.unitPrefix k x u else 0 | none => 0

/-- The next unit begins anew. -/
def Slot.fresh (x : Slot) : Slot :=
  { x with phase := 0, cur := none, got := [], got2 := [], readAt := [], wrote := 0, probed := 0, slow := [], busy := false, fillSince := none }

/-- A slot with its figures as they stand, and no unit under work. -/
def Base.settled (b : Base) (k : Nat) (x : Slot) : Slot := { x.fresh with pos := b.bytesDone k x, clearedTo := b.sourceCleared k x }

/-- A descriptor ends with a status (R278): its prefix stands, its claims and its row locks are given up. -/
def Base.endSlot (b : Base) (k status : Nat) : Base :=
  let b := b.updSlot k fun x => { b.settled k x with status := some status, endEpoch := b.pl.epoch }
  ((b.dropClaims k).unlock k b.now fun _ => true).updMov fun v => { v with lastProgress := b.now }

/-- The status of a descriptor whose whole range is done (R278). -/
def Slot.finalStatus (x : Slot) : Nat :=
  if x.desc.opcode = 5 ∧ 0 < x.mismatches then 0x03 else if 0 < x.poisoned ∨ 0 < x.lost then 0x02 else 0x01

/-- The queue the round robin serves next (R269): with an eligible descriptor and below MAX_ACTIVE. -/
def Base.eligibleQueue (b : Base) (q : Nat) : Bool :=
  let x := b.queue q
  x.state == 1 && x.head != x.tail && !x.stopping && !x.resetting && decide ((b.slotsOf q).length < b.rf Reg.MOVER_CFG 2 0)
    && !b.coh.isolated.getLsbD (q / 4)

def Base.nextQueue (b : Base) : Option Nat := ((List.range 64).map fun i => (b.mov.rr + i) % 64).find? b.eligibleQueue

/-- Nothing of a slot is on its way: no flow, read or write still to be placed (R250, R255). -/
def Base.moverQuiet (b : Base) (k : Nat) : Bool :=
  let mine := fun q : Req => match q.who with | .mover s _ => s == k | _ => false
  !(b.waitingReqs.any mine) && !(b.dram.chans.any fun c => c.2.feed.any fun e => mine e.req)

/-- Ask the holders of a line (R250): a snoop flow of the mover. -/
def Base.probe (b : Base) (k line : Nat) (write : Bool) (l : Label) : Base :=
  let (q, b) := b.pass { who := .mover k 0, op := .probe write, line := line, label := l, arrived := b.now }
  b.present q

/-- The line of a descriptor has no holder that the mover must ask (R250, R268). -/
def Base.noHolders (b : Base) (line : Nat) : Bool :=
  !b.isDb line || (match b.heldRec line with
    | some r => r.norm.st != 2
    | none => !b.isMarked line)

/-- The queue stops (R268, R298). -/
def Base.ringFault (b : Base) (q index code : Nat) : Base :=
  (b.updQueue q fun x => { x with state := 2, error := code }).send .ringFault (mqSrc q) (mqAddr q index)

/-- A read of the mover can have its ACT now, as a line read of the channel (R156, R161). -/
def Base.fetchReady (b : Base) (e : Entry) (ch : Nat) : Bool :=
  b.chanRuns ch b.now && b.eligible ch b.now e && !b.ignores ch

/-- DESC_FETCH (R268, R269): the round robin's queue gives the descriptor at HEAD to a free slot. The first command asks the line's
holders, or wakes its set; the read follows when they have answered, behind every write of the line. -/
def execDescFetch (q : BitVec 6) (noise : Noise) (s : State) : Host.Outcome State Fault Refusal :=
  let b := s.base
  let n := q.toNat
  let x := b.queue n
  let k := (List.range 16).find? fun i => (b.slot i).isNone
  match k with
  | none => .next s
  | some k =>
    if !(b.moverRuns && b.nextQueue == some n) then .next s
    else if !b.effHolds (n / 4) (b.ringBase n) (b.ringBase n + b.ringBytes n - 1) then s.then_ fun b => b.ringFault n x.head 1
    else
      let line := (b.ringBase n + 64 * x.head) / 64
      let p := b.place line
      let c := b.chan p.ch
      let take := fun (b : Base) (d : Data) (bad : Bool) =>
        let b := b.setQueue n { x with head := (x.head + 1) % b.ringSize n, asked := false }
        let sl : Slot := { queue := n, index := x.head, desc := { Desc.parse d with seq := if bad then 0 else (Desc.parse d).seq }, badLine := bad }
        b.updMov fun v => { v with slots := v.slots ++ [(k, sl)], rr := (n + 1) % 64, lastProgress := b.now }
      if !b.moverQuiet 17 then .next s
      else if !x.asked && !b.noHolders line then s.then_ fun b => ((b.updQueue n fun x => { x with asked := true }).probe 17 line false (b.queueLabel n)).pump
      else if !b.isMarked line then s.then_ fun b => take b 0 false
      else if b.noAccess line then s.then_ fun b => take b 0 true
      else
        let (r, b') := b.internal (.mover 17 0) .rdData line (b.queueLabel n)
        let e := b.entryOf r none
        let waits := (c.feed ++ c.xbar ++ c.upstream).any fun y => y.at_ p.bank p.row p.col
        match c.forward e with
        | some w => if w.full && !waits then .next { s with base := take b' w.data (w.poison == some true) } else .next s
        | none =>
          if waits then .next s
          else if b.fetchReady e p.ch then
            let i : Inflight := { entry := e, act := b.now, raw := s.lineWord p }
            let a := s.readDecode p.ch i
            let d := decodeWord a.erasures (addNoise i.raw noise)
            let b' := if (c.remapOf p.bank p.row p.col).isSome then b'
              else (b'.activate p.ch p.bank p.row b.now 45 r.by_ (slotsOf b.now p.bank true false)).countChan p.ch fun z => { z with reads := z.reads + 1 }
            .next { s with base := take (b'.onDecode a d) d.data (d.out == .uncorrectable || d.mt.poison) }
          else s.then_ fun b => b.touchSet p.ch

/-- The checks of R275 and the label check of R276, when a descriptor starts. -/
def Base.startDesc (b : Base) (k : Nat) (x : Slot) : Base :=
  let d := x.desc
  let h := x.queue / 4
  let rng := b.reg (Reg.HOST_LABEL_RANGE h)
  let ok := decide (fld rng 15 0 ≤ d.label.toNat) && decide (d.label.toNat ≤ fld rng 31 16)
  let label := if ok then d.label else b.defaultLabel h
  let res : BitVec 64 := if d.opcode = 5 then BitVec.allOnes 64 else if d.opcode = 6 then d.aux else 0
  let b := b.updSlot k fun y => { y with started := true, label := label, subst := !ok, result := res }
  let b := if ok then b else b.send .moverLabelSubst (mqSrc x.queue) (mqAddr x.queue x.index)
  let reject := fun (b : Base) (st : Nat) => (b.endSlot k st).send .descRejected (mqSrc x.queue) (mqAddr x.queue x.index)
  if x.badLine || !d.valid1 then reject b 0x10
  else if d.opcode = 0 then b.endSlot k 0x01
  else if !d.valid2 then reject b 0x10
  else if d.length = 0 then b.endSlot k 0x01
  else if b.overlaps x.queue d then reject b 0x11
  else match d.ranges.findSome? fun r => b.firstOutside h r with
    | some dpa => (b.endSlot k 0x12).send .moverFirewall (mqSrc x.queue) dpa
    | none => b

/-- DESC_START (R269, R275): in ring order, and after a FENCE only when every earlier descriptor has its record. -/
def execDescStart (slot : BitVec 4) (s : State) : Host.Outcome State Fault Refusal :=
  s.then_ fun b =>
    match b.slot slot.toNat with
    | none => b
    | some x =>
      let before := (b.slotsOf x.queue).takeWhile fun e => e.1 != slot.toNat
      if b.moverRuns && !x.started && (before.all fun e => e.2.started) && (!x.desc.fence || before.isEmpty) then b.startDesc slot.toNat x else b

/-! ### Units -/

/-- Bytes of a row group (R132). -/
def groupBytes (n : Nat) : Nat := 1024 * 2 ^ n

/-- Size of the unit at an address, and whether it is made of whole rows (R279, R285): a whole stripe that is zeroed, a row group, or what is
left of a row group, so that a poisoned line is found before any line of its row group is written (R282). -/
def unitSize (n addr left : Nat) (zero body : Bool) : Nat × Bool :=
  let g := groupBytes n
  if zero && addr % 65536 == 0 && decide (65536 ≤ left) then (65536, true)
  else if body && addr % g == 0 && decide (g ≤ left) then (g, true)
  else (min left (g - addr % g), false)

/-- The unit that a slot works on next: of MOVE, first the clearing of what the prefix has passed (R286). Where a source row group in an
unmarked stripe meets the end of a destination stripe, the unit ends there (R281). -/
def Base.nextUnit (b : Base) (k : Nat) (x : Slot) : Option MUnit :=
  let n := b.lay.n
  let d := x.desc
  let body := !(d.usesSrc && d.usesDst) || d.src % groupBytes n == d.dst % groupBytes n
  let c := unitSize n (d.src + x.cleared) (d.length - x.cleared) true true
  if d.opcode = 2 ∧ x.cleared < d.length ∧ x.cleared + c.1 ≤ b.bytesDone k x then
    some { zero := true, src := 0, dst := d.src + x.cleared, size := c.1, off := x.cleared, body := c.2 }
  else if x.pos < d.length then
    let u := unitSize n ((if d.usesSrc then d.src else d.dst) + x.pos) (d.length - x.pos) (d.opcode == 4) body
    let size := if !u.2 && d.usesSrc && d.usesDst && !b.isMarked ((d.src + x.pos) / 64) then min u.1 (65536 - (d.dst + x.pos) % 65536) else u.1
    some { zero := d.opcode == 4, src := d.src + x.pos, dst := d.dst + x.pos, size := size, off := x.pos, body := u.2 }
  else none

/-- The unit a slot works on. -/
def Base.unit (b : Base) (k : Nat) (x : Slot) : Option MUnit := if x.phase = 0 then b.nextUnit k x else x.cur

/-- Whole rows of a unit. -/
def MUnit.rows (u : MUnit) (n : Nat) : Nat := if !u.body then 0 else if u.size = 65536 then 64 else 2 ^ n

/-- Offset of row `i` of a unit, and the number in the unit of its line `j` (R130, R279). -/
def rowOff (n i : Nat) : Nat := (i % 2 ^ n) * 256 + (i / 2 ^ n) * 2 ^ (10 + n)
def lineKey (n i j : Nat) : Nat := (rowOff n i + (j % 4) * 64 + (j / 4) * 2 ^ (8 + n)) / 64

/-- The lines of a unit. -/
def MUnit.lines (u : MUnit) : List Nat := List.range (u.size / 64)

/-- The pattern line of FILL (R284). -/
def fillData (p : Word) : Data := BitVec.ofNat 512 ((List.range 16).foldl (fun acc i => acc + p.toNat * 2 ^ (32 * i)) 0)

/-- What a slot writes into a line of a unit. -/
def Slot.lineData (x : Slot) (u : MUnit) (key : Nat) : Data × Bool :=
  if u.zero then (0, false)
  else if x.desc.opcode = 3 then (fillData x.desc.pattern, false)
  else (match x.got.find? fun e => e.1 == key with | some e => (e.2.data, e.2.poison) | none => (0, false))

/-- The address of a step: what is read in steps 1 and 2, written in step 3. -/
def MUnit.addr (u : MUnit) (phase : Nat) : Nat := if phase = 1 then u.src else u.dst

/-- A line of the unit has been done in the step. -/
def Slot.has (x : Slot) (key : Nat) : Bool :=
  if x.phase = 1 then x.got.any fun e => e.1 == key
  else if x.phase = 2 then x.got2.any fun e => e.1 == key
  else x.wrote.getLsbD key

/-- Put the result of a read of a line. -/
def Slot.put (x : Slot) (key : Nat) (r : LineRes) : Slot :=
  if x.phase = 1 then { x with got := Tab.insert key r x.got } else { x with got2 := Tab.insert key r x.got2 }

/-- A fill or claim is pending on the stripe of a line and not this slot's. -/
def Base.fillPending (b : Base) (k line : Nat) : Bool :=
  b.lay.fills.any fun f => f.stripe == stripeOf line && !decide (f.claim = some k) && !f.released

/-! ### The line path (R289) -/

/-- Row `i` of the unit goes over its row bus: the bus serves, no third transfer of the row failed, and the row is in the
arrays (R281, R282, R293, R294). -/
def Base.fastRow (b : Base) (x : Slot) (u : MUnit) (i : Nat) : Bool :=
  let line := (u.addr x.phase + rowOff b.lay.n i) / 64
  u.body && !x.slow.contains i && b.busServes (quadOf (b.place line).ch) && !b.noAccess line && (x.phase == 3 || b.isMarked line)

/-- The lines of the unit that take the line path, in order. -/
def Base.pathLines (b : Base) (x : Slot) (u : MUnit) : List Nat :=
  if !u.body then u.lines
  else (List.range (u.rows b.lay.n)).flatMap fun i => if b.fastRow x u i then [] else (List.range 16).map fun j => lineKey b.lay.n i j

/-- A line of the destination that is not written: of MOVE's source, one in a retired channel counts as cleared, and one in a fenced octant
ends SOURCE_CLEARED (R282, R286, R396). -/
def Base.loseDst (b : Base) (k : Nat) (x : Slot) (u : MUnit) (key line : Nat) : Base :=
  let clears := u.zero && x.desc.opcode == 2
  let gone := b.retired (b.place line).ch
  b.updSlot k fun y => { y with
    wrote := setBit y.wrote key true
    lost := if clears then y.lost else satAdd 0xFFFFFFFF y.lost 1
    clearing := y.clearing && (!clears || gone) }

/-- A line of the unit on the line path is read or written (R250, R281, R282, R289), through the home agent where it is HDM-DB. It is checked
against the host's ranges before it is issued (R293); the first line of a row counts the row (R296). -/
def Base.lineStep (b : Base) (k : Nat) (x : Slot) (u : MUnit) (key : Nat) : Base :=
  let line := (u.addr x.phase + 64 * key) / 64
  let write := x.phase == 3
  match b.firstOutside (x.queue / 4) (64 * line, 64) with
  | some dpa => (b.endSlot k 0x12).send .moverFirewall (mqSrc x.queue) dpa
  | none =>
    if write && b.noAccess line then b.loseDst k x u key line
    else if b.fillPending k line then b
    else if b.noAccess line then
      let (f, b) := b.takeFree
      b.updSlot k fun y => y.put key { data := Config.freeData f, poison := true }
    else if !write && !b.isMarked line then b.updSlot k fun y => y.put key { data := 0 }
    else
      let (dat, p) := x.lineData u key
      let first := u.body && key % 4 == 0 && decide ((key * 64) % 2 ^ (10 + b.lay.n) < 2 ^ (8 + b.lay.n))
      let b := if first then b.bump Reg.LINE_PATH_ROW_COUNT else b
      let op : ReqOp := if write then .wr dat p else .rd .cur
      let (q, b) := b.internal (.mover k (if x.phase = 2 then 4096 + key else key)) op line x.label
      let b := b.updSlot k fun y => if write then { y with wrote := setBit y.wrote key true, busy := true } else { y with busy := true }
      b.access q

/-- The next line on the line path goes on. -/
def Base.linePath (b : Base) (k : Nat) (x : Slot) (u : MUnit) : Base :=
  match (b.pathLines x u).find? fun key => !x.has key with
  | some key => b.lineStep k x u key
  | none => b

/-! ### Steps of a unit -/

/-- CRC-64 (R288). -/
def crcByte (c : BitVec 64) (v : Nat) : BitVec 64 :=
  forN 8 (fun _ c => if c.getLsbD 63 then (c <<< 1) ^^^ 0x42F0E1EBA9EA3693 else c <<< 1) (c ^^^ BitVec.ofNat 64 (v * 2 ^ 56))

def crcLine (c : BitVec 64) (d : Data) : BitVec 64 := forN 64 (fun i c => crcByte c (Data.bits d (8 * i + 7) (8 * i))) c

/-- The unit's rows, or the first line of a part of a row group, lie in the host's effective ranges (R293): the first line that does not. -/
def Base.unitOutside (b : Base) (x : Slot) (u : MUnit) : Option Nat :=
  let h := x.queue / 4
  let size := if u.body then u.size else 64
  ((if x.desc.usesSrc && !u.zero then [(u.src, size)] else []) ++ (if x.desc.usesDst || u.zero then [(u.dst, size)] else [])).findSome? fun r => b.firstOutside h r

/-- A unit of clearing is done (R286). -/
def Slot.afterClear (x : Slot) (size : Nat) : Slot :=
  let c := x.cleared + size
  { x.fresh with cleared := c, clearedTo := if x.clearing then c else x.clearedTo }

/-- A claimed stripe whose rows are all written has its bit set, and what it held goes on (R280). -/
def Base.endClaims (b : Base) (k : Nat) (x : Slot) : Base :=
  let done := b.lay.fills.filter fun f => decide (f.claim = some k) && decide ((f.stripe + 1) * 65536 ≤ x.desc.dst + x.pos)
  let b := b.updLay fun l => { l with fills := l.fills.filter fun f => !(done.any fun d => d.stripe == f.stripe && f.claim == d.claim) }
  done.foldl (fun b f => f.held.foldl (fun b q => b.access q) (b.mark f.stripe)) b

/-- The prefix grows by a unit. -/
def Base.unitEnd (b : Base) (k : Nat) (x : Slot) (u : MUnit) : Base :=
  let x' := if u.zero && x.desc.opcode == 2 then x.afterClear u.size else { x.fresh with pos := x.pos + u.size }
  let b := b.updSlot k fun _ => x'
  (b.endClaims k x').updMov fun v => { v with lastProgress := b.now }

/-- A whole stripe is unmarked by ZERO or MOVE (R285, R286): cache entries of its lines are freed, and the slot's row locks end. -/
def Base.zeroStripe (b : Base) (k st : Nat) : Base :=
  let b := (b.unmark fun s => s == st).unlock k b.now fun _ => true
  b.updCoh fun c => { c with cache := c.cache.filter (fun e => stripeOf e.1 != st), victims := c.victims.filter fun v => stripeOf v.1 != st }

/-- The source rows of a whole, unmarked destination stripe are all in unmarked stripes (R281). -/
def Base.zeroSource (b : Base) (src : Nat) : Bool :=
  !b.isMarked (src / 64) && !b.isMarked ((src + 65535) / 64) && !(b.lay.fills.any fun f => f.stripe == src / 65536 || f.stripe == (src + 65535) / 65536)

/-- A fill entry that the mover takes, as a claim or for a zero-fill under a label (R280); the drop of its octant ends first (R362). -/
def Base.moverFill (b : Base) (k line : Nat) (l : Label) (claim : Option Nat) : Base :=
  let b := b.endDrop line
  let (q, b) := b.lookup { who := .mover k 0, op := .inv, line := line, label := l } 0
  let f : Fill := { stripe := stripeOf line, held := [], at_ := b.now, claim := claim, label := l, tenant := q.tenant, cls := q.cls, step := q.step, inBudget := q.inBudget }
  b.updLay fun y => { y with fills := y.fills ++ [f] }

/-- The stripes that the unit writes. -/
def MUnit.stripes (u : MUnit) : List Nat := (List.range ((u.dst + u.size - 1) / 65536 + 1 - u.dst / 65536)).map fun i => u.dst / 65536 + i

/-- A stripe can be written: it is marked, or claimed by the slot; in a fenced octant nothing is written (R280, R396). -/
def Base.dstOpen (b : Base) (k st : Nat) : Bool :=
  (b.lay.fills.any fun f => f.stripe == st && decide (f.claim = some k)) || b.fencedOct (b.octantOf (1024 * st))
    || (b.isMarked (1024 * st) && !b.fillPending k (1024 * st))

/-- The slot waits for a fill entry: the wait is counted once (R146, R280). -/
def Base.waitEntry (b : Base) (k st : Nat) : Base :=
  match (b.slot k).bind fun x => x.fillSince with
  | some _ => b
  | none => (b.updSlot k fun x => { x with fillSince := some (b.now, st) }).bump Reg.FILL_WAIT_COUNT

/-- The unit begins with a step. -/
def Base.setPhase (b : Base) (k phase : Nat) (u : MUnit) : Base := b.updSlot k fun y => { y with phase := phase, cur := some u, fillSince := none }

/-- Step 0 for a unit that writes: the map's state of its destination stripes (R280, R281, R285). -/
def Base.openDst (b : Base) (k : Nat) (x : Slot) (u : MUnit) (next : Nat) : Base :=
  match u.stripes.find? fun st => !b.dstOpen k st with
  | none => b.setPhase k next u
  | some st =>
    let line := 1024 * st
    let d := x.desc
    if b.fillPending k line then b
    else if u.zero then b.unitEnd k x u
    else
      let whole := decide (d.dst ≤ 65536 * st) && decide (65536 * (st + 1) ≤ d.dst + d.length)
      if whole && u.dst == 65536 * st && (d.opcode == 1 || d.opcode == 2) && b.zeroSource u.src then
        (b.updSlot k fun _ => { x.fresh with pos := x.pos + 65536 }).updMov fun v => { v with lastProgress := b.now }
      else if 64 ≤ b.lay.fills.length then b.waitEntry k st
      else if whole then b.moverFill k line (b.queueLabel x.queue) (some k)
      else (b.moverFill k line x.label none).bump Reg.FILL_COUNT

/-- Row-stage slots of each bus that a unit's rows hold at most (R262): those of a row group are spread evenly over the four buses, COMPARE
holds both its rows, and zero and pattern rows hold none. -/
def Slot.stageRows (x : Slot) (u : MUnit) (n : Nat) : Nat :=
  if u.zero || x.desc.opcode == 3 || !u.body then 0 else u.rows n / 4 * (if x.desc.opcode = 5 then 2 else 1)

/-- A unit finds room among the 56 slots of each bus that descriptors use: the model reserves the slots of a unit's rows before its first
read (R262; DESIGN CHOICE, entry 137). -/
def Base.stageRoom (b : Base) (x : Slot) (u : MUnit) : Bool :=
  let held := b.mov.slots.map fun e => match e.2.cur with | some v => e.2.stageRows v b.lay.n | none => 0
  decide (held.sum + x.stageRows u b.lay.n ≤ 56)

/-- Step 0 of a unit: the firewall, the row stage, the map (R262, R280, R293). -/
def Base.beginUnit (b : Base) (k : Nat) (x : Slot) (u : MUnit) : Base :=
  match b.unitOutside x u with
    | some dpa => (b.endSlot k 0x12).send .moverFirewall (mqSrc x.queue) dpa
    | none =>
      if !b.stageRoom x u then b
      else if u.zero && u.size == 65536 then
        if b.fencedOct (b.octantOf (u.dst / 64)) then
          let b := if x.desc.opcode = 2 then b.updSlot k fun y => { y with clearing := false } else b.updSlot k fun y => { y with lost := satAdd 0xFFFFFFFF y.lost 1024 }
          match b.slot k with | some y => b.unitEnd k y u | none => b
        else if b.fillPending k (u.dst / 64) then b
        else if !b.isMarked (u.dst / 64) then b.unitEnd k x u
        else if b.isDb (u.dst / 64) then b.setPhase k 3 u
        else (b.zeroStripe k (u.dst / 65536)).unitEnd k x u
      else if u.zero || x.desc.opcode == 3 then b.openDst k x u 3
      else if x.desc.opcode == 1 || x.desc.opcode == 2 then b.openDst k x u 1
      else b.setPhase k 1 u

/-- The offset of the first poisoned line among those read. -/
def firstPoison (t : Tab LineRes) : Option Nat := (t.find? fun e => e.2.poison).map fun e => e.1

/-- COPY and MOVE have read a unit (R282). -/
def Base.copyRead (b : Base) (k : Nat) (x : Slot) : Base :=
  let n := (x.got.filter fun e => e.2.poison).length
  let b := b.updSlot k fun y => { y with poisoned := satAdd 0xFFFFFFFF y.poisoned n }
  if x.desc.poisonStop ∧ 0 < n then b.endSlot k 0x13 else b.updSlot k fun y => { y with phase := 3, probed := 0, wrote := 0, slow := [] }

/-- CHECKSUM has read a unit (R288): up to a poisoned line. -/
def Base.sumRead (b : Base) (k : Nat) (x : Slot) (u : MUnit) : Base :=
  let upTo := ((firstPoison x.got).getD (u.size / 64))
  let r := (x.got.filter fun e => decide (e.1 < upTo)).foldl (fun c e => crcLine c e.2.data) x.result
  let b := b.updSlot k fun y => { y with result := r }
  if upTo < u.size / 64 then (b.updSlot k fun y => { y with pos := y.pos + 64 * upTo, poisoned := y.poisoned + 1 }).endSlot k 0x13
  else match b.slot k with | some y => b.unitEnd k y u | none => b

/-- A line of COMPARE: poisoned in either range, mismatching, or equal. -/
def Slot.lineOf (x : Slot) (key : Nat) : LineRes × LineRes :=
  (((x.got.find? fun e => e.1 == key).map fun e => e.2).getD { data := 0 }, ((x.got2.find? fun e => e.1 == key).map fun e => e.2).getD { data := 0 })

/-- Compare line by line until a poisoned line, or a mismatch without a map (R282, R287): the slot, and a status that ends it. -/
def Slot.compare (u : MUnit) : List Nat → Slot → Slot × Option Nat
  | [], x => (x, none)
  | key :: t, x =>
    let (a, c) := x.lineOf key
    let off := u.off + 64 * key
    if a.poison ∨ c.poison then ({ x with pos := off, poisoned := x.poisoned + (if a.poison then 1 else 0) + (if c.poison then 1 else 0) }, some 0x13)
    else if a.data = c.data then Slot.compare u t x
    else
      let y := { x with
        mismatches := satAdd 0xFFFFFFFF x.mismatches 1
        result := if x.mismatches = 0 then BitVec.ofNat 64 off else x.result
        map := x.map + 2 ^ (off / 64 - 8 * x.mapped) }
      if x.desc.mismatchMap then Slot.compare u t y else ({ y with pos := off }, some 0x03)

/-- COMPARE has read a unit of both ranges. -/
def Base.compareRead (b : Base) (k : Nat) (x : Slot) (u : MUnit) : Base :=
  match Slot.compare u u.lines x with
  | (y, some st) => (b.updSlot k fun _ => y).endSlot k st
  | (y, none) => (b.updSlot k fun _ => y).unitEnd k y u

/-- Lines of the mismatch map that are complete and still to be written: the map is written in lines of 512 bits (R287). -/
def Slot.mapDue (x : Slot) : Bool :=
  x.desc.usesMap && decide (x.mapped < x.desc.mapLen) && (decide (8 * x.mapped + 512 ≤ x.pos / 64) || decide (x.desc.length ≤ x.pos))

/-- The next line of the map is written over the line path, within the host's ranges (R250, R287, R293). -/
def Base.mapStep (b : Base) (k : Nat) (x : Slot) : Base :=
  let line := (x.desc.mapAt + x.mapped) / 64
  match b.firstOutside (x.queue / 4) (64 * line, 64) with
  | some dpa => (b.endSlot k 0x12).send .moverFirewall (mqSrc x.queue) dpa
  | none =>
  let go := fun b : Base => b.updSlot k fun y => { y with phase := 0, probed := 0, mapped := y.mapped + 64, map := y.map / 2 ^ 512 }
  if x.phase ≠ 5 then b.updSlot k fun y => { y with phase := 5 }
  else if b.noAccess line then go (b.updSlot k fun y => { y with lost := satAdd 0xFFFFFFFF y.lost 1 })
  else if b.fillPending k line then b
  else
    let (q, b) := b.internal (.mover k 0) (.wr (BitVec.ofNat 512 x.map) false) line x.label
    (go (b.updSlot k fun y => { y with busy := true })).present q

/-- What a slot does without a row bus, once a bus cycle: the next step of its unit, or the next line on the line path. The descriptor of an
isolated host ends between two rows (R253). -/
def Base.advance (b : Base) (k : Nat) : Base :=
  match b.slot k with
  | none => b
  | some x =>
    if !x.started || x.status.isSome || x.busy then b
    else if b.coh.isolated.getLsbD (x.queue / 4) then b.endSlot k 0x21
    else if x.mapDue then b.mapStep k x
    else match b.unit k x with
      | none => if b.moverQuiet k then b.endSlot k x.finalStatus else b
      | some u =>
        if x.phase = 0 then b.beginUnit k x u
        else if u.lines.all x.has then
          if x.phase = 1 then
            if x.desc.opcode = 5 then b.updSlot k fun y => { y with phase := 2, probed := 0, slow := [] }
            else if x.desc.opcode = 6 then b.sumRead k x u
            else b.copyRead k x
          else if x.phase = 2 then b.compareRead k x u
          else if !b.moverQuiet k then b
          else if u.zero && u.size == 65536 then (b.zeroStripe k (u.dst / 65536)).unitEnd k x u
          else b.unitEnd k x u
        else if u.zero && u.size == 65536 then
          (match (b.pathLines x u).find? fun key => !x.has key with
            | some key =>
              let line := (u.dst + 64 * key) / 64
              let p := b.place line
              if b.lockable k p then ((b.lockRow k p.ch p.bank p.row).probe k line true x.label).updSlot k fun y => { y with wrote := setBit y.wrote key true }
              else b
            | none => b)
        else b.linePath k x u

end Sys2Proof.Machine
end

