-- ==== Sys2Proof/Machine/RowBus.lean ====
section
/-! DEFINITION. Machine/RowBus.lean: the cycles of the row buses (R260 to R263, R294): fills, rows of descriptors, release sweeps
(R248); completion records (R277, R278); resets of the mover (R295, R401). -/

namespace Sys2Proof.Machine

/-! ### Transfers -/

/-- A transfer that fails (R294): it is repeated; the third in a row sends the row to the line path and starts a test of the bus's
control segments. -/
def Base.transferFails (b : Base) (bus ch : Nat) (e : RowEntry) (slowRow : Base → Base) : Base :=
  let n := (b.bus bus).failures + 1
  if n < 3 then
    ((b.updBus bus fun x => { x with failures := n }).bump Reg.TRANSFER_RETRY_COUNT).send .transferRetry (0x300 + 0x10 * bus) (chAddr ch e.bank e.row)
  else
    let b := (b.updBus bus fun x => { x with failures := 0 }).send .transferFailed (0x300 + 0x10 * bus) (chAddr ch e.bank e.row)
    let b := b.updSi fun s => { s with busTargets := (s.busTargets ++ (List.range 8).map fun i => (bus, 1280 + i)).eraseDups }
    slowRow b

/-- A transfer succeeds. -/
def Base.transferDone (b : Base) (bus : Nat) (desc : Bool) : Base :=
  let b := b.updBus bus fun x => { x with failures := 0, descCycles := if desc then x.descCycles + 1 else x.descCycles }
  b.updMov fun v => { v with rowTransfers := v.rowTransfers + 1 }

/-! ### Fills (R144) -/

/-- The rows of the fills that the bus has still to write, in order. -/
def Base.fillJobs (b : Base) (bus : Nat) : List (Fill × Nat × Place) :=
  b.lay.fills.flatMap fun f =>
    if f.released || f.claim.isSome then []
    else ((stripeRows b.lay.n f.stripe).zipIdx.filter fun e => quadOf e.1.ch == bus && f.rowDue b e.2 e.1).map fun e => (f, e.2, e.1)

/-- A fill's row is taken. -/
def Base.fillTaken (b : Base) (f : Fill) (i t : Nat) : Base :=
  b.updLay fun l => { l with fills := l.fills.map fun (g : Fill) =>
    if g.stripe = f.stripe then { g with dispatched := setBit g.dispatched i true, closes := max g.closes t } else g }

/-- A zero row of a fill (R141, R144). Its rows are not charged beside the starting request (R320). -/
def State.fillCycle (s : State) (bus : Nat) (ok : Bool) (f : Fill) (i : Nat) (p : Place) (e : RowEntry) : State :=
  let t := s.base.now
  if ok then
    let s := (s.onBase fun b => (b.dropRow p.ch 0 e).noteWrite (1024 * f.stripe)).writeRow p.ch t e (List.replicate 16 0)
    s.onBase fun b => (b.fillTaken f i (t + 45)).transferDone bus false
  else s.onBase fun b => (b.activateRow p.ch t e).transferFails bus p.ch e fun b =>
    (rowPlaces p.ch p.bank p.row).foldl (fun b q => b.fillLine f q) ((b.fillTaken f i (t + 45)).dropRow p.ch 0 e)

/-! ### Rows of descriptors -/

/-- A row of a slot's unit that the bus might carry. -/
structure Piece where
  k : Nat
  x : Slot
  u : MUnit
  i : Nat
  p : Place
deriving DecidableEq, Repr

/-- Numbers in the unit of the row's lines, by column. -/
def Piece.keys (c : Piece) (n : Nat) : List Nat := (List.range 16).map fun j => lineKey n c.i j

/-- The slot's rows on the bus that are still to be done in its step. -/
def Base.piecesOf (b : Base) (bus k : Nat) (x : Slot) : List Piece :=
  if !x.started || x.status.isSome || x.phase = 0 || x.phase = 5 || x.mapDue then []
  else match b.unit k x with
    | none => []
    | some u =>
      let n := b.lay.n
      ((List.range (u.rows n)).map fun i => ({ k := k, x := x, u := u, i := i, p := b.place ((u.addr x.phase + rowOff n i) / 64) } : Piece)).filter fun c =>
        quadOf c.p.ch == bus && b.fastRow x u c.i && !(x.has (lineKey n c.i 0))

/-- The records of the row must be learnt first: HDM-DB lines whose holders have not been asked (R250, R251). -/
def Base.needsLearn (b : Base) (c : Piece) : Bool :=
  b.isDb (b.lineAt c.p) && (c.keys b.lay.n).any fun key => !c.x.probed.getLsbD key

/-- The row's records are not all held, so a row read learns them. -/
def Base.needsRead (b : Base) (c : Piece) : Bool :=
  b.isMarked (b.lineAt c.p) && (b.rowLines c.p.ch c.p.bank c.p.row).any fun l => (b.heldRec l).isNone

/-- The mover offers the row (R251, R263): no fill or claim of another holds its stripe, and its holders have answered; or the row is to be
learnt, and no request has a tracker on it. -/
def Base.pieceReady (b : Base) (c : Piece) : Bool :=
  !b.fillPending c.k (b.lineAt c.p) && b.lockable c.k c.p
    && (b.needsLearn c || !(b.coh.trackers.any fun t => (b.rowLines c.p.ch c.p.bank c.p.row).contains t.line))

/-- Insertion of a piece by its key, behind equal ones. -/
def insertPiece (key : Piece → List Nat) (c : Piece) : List Piece → List Piece
  | [] => [c]
  | x :: t => if keyLt (key c) (key x) then c :: x :: t else x :: insertPiece key c t

/-- The descriptor rows of the bus, the best key of R161 first (R263). -/
def Base.pieces (b : Base) (bus : Nat) : List Piece :=
  let key := fun c : Piece => let e := b.label c.x.label.toNat; keyOf e.cls e.step none 0
  (b.mov.slots.flatMap fun e => b.piecesOf bus e.1 e.2).foldl (fun l c => insertPiece key c l) []

/-- Mark the row's lines in a mask. -/
def setKeys (m : BitVec 1024) (keys : List Nat) : BitVec 1024 := keys.foldl (fun m k => setBit m k true) m

/-- The results of a row read go to its slot (R282); the row has left the bus, and its ACT counts for the write (R262). -/
def Base.deliverRow (b : Base) (c : Piece) (ds : List Decoded) : Base :=
  let keys := c.keys b.lay.n
  let fixed := (ds.filter fun d => d.out == .corrected).length
  b.updSlot c.k fun y =>
    let y := (keys.zip ds).foldl (fun y e => y.put e.1 { data := e.2.data, poison := e.2.out == .uncorrectable || e.2.mt.poison }) y
    { y with corrected := satAdd 0xFFFFFFFF y.corrected fixed, readAt := Tab.insert c.i b.now y.readAt }

/-- The operation unmarks the row's stripe: ZERO of a whole stripe, and MOVE of a source stripe that lies wholly in its range (R285,
R286). -/
def Piece.unmarks (c : Piece) (n : Nat) : Bool :=
  if c.x.phase = 3 then c.u.zero && c.u.size == 65536 else c.x.unmarks (c.u.addr c.x.phase + rowOff n c.i)

/-- Decodes of a row the mover read (R220, R282): tracked and healed unless the operation unmarks the row, and stamped unless it clears it. -/
def Base.onRow (b : Base) (c : Piece) (ds : List Decoded) : Base :=
  let fix : Fix := if c.unmarks b.lay.n then .none else .heal
  let clears := if c.x.phase = 3 then c.u.zero else c.x.clearsSource
  ds.zipIdx.foldl (fun b e => b.onDecode (b.rowDecode c.p.ch c.p.bank c.p.row e.2 (stageSrc c.p.ch) fix !clears) e.1) b

/-- The record of a line as learnt: held, or as the row read gives it; 00 in an unmarked stripe. -/
def Base.learnt (b : Base) (line : Nat) (d : Option Decoded) : DirRec :=
  match b.heldRec line with
  | some r => r.norm
  | none => match d with
    | some d => if d.out = .uncorrectable then b.stampRec line else ({ vec := d.mt.sharers, st := d.mt.st } : DirRec).norm
    | none => {}

/-- The holders of a row's lines are asked, under the row lock when the row will be written or unmarked (R250, R251). -/
def Base.learnRow (b : Base) (c : Piece) (ds : Option (List Decoded)) : Base :=
  let write := c.x.phase == 3
  let lines := b.rowLines c.p.ch c.p.bank c.p.row
  let recs := lines.zipIdx.map fun e => (e.1, b.learnt e.1 (ds.bind fun l => l[e.2]?))
  let ask := recs.filter fun e => if write then e.2.vec != 0 else e.2.st == 2
  let b := if write then b.lockRow c.k c.p.ch c.p.bank c.p.row else b
  let b := ask.foldl (fun b e =>
    let (q, b) := b.pass { who := .mover c.k 0, op := .probe write, line := e.1, label := c.x.label, arrived := b.now }
    b.decide_ q e.2 none) b
  let keys := c.keys b.lay.n
  let b := b.updSlot c.k fun y => { y with probed := setKeys y.probed keys, wrote := if c.u.zero && c.u.size == 65536 then setKeys y.wrote keys else y.wrote }
  match ds with
  | some ds => if !write && ask.isEmpty then (b.onRow c ds).deliverRow c ds else b.onRow c ds
  | none => b

/-- A row the mover has written (R251, R283): its poison-list entries go, unless a line is poisoned, and its lock ends with the bank cycle. -/
def Base.rowWritten (b : Base) (c : Piece) (lines : List (Data × Bool)) : Base :=
  let b := ((b.rowLines c.p.ch c.p.bank c.p.row).zip lines).foldl (fun b e => if e.2.2 then b else b.unlistPoison e.1) b
  let keys := c.keys b.lay.n
  (b.unlock c.k (b.now + 45) fun l => l.at_ c.p).updSlot c.k fun y => { y with wrote := setKeys y.wrote keys }

/-- A row of a descriptor on the bus. -/
def State.pieceCycle (s : State) (bus : Nat) (ok : Bool) (noise : List Noise) (c : Piece) (e : RowEntry) : State :=
  let t := s.base.now
  let slow := fun b : Base => ((b.dropRow c.p.ch 16 e).unlock c.k b.now fun l => l.at_ c.p).updSlot c.k fun y => { y with slow := y.slow ++ [c.i] }
  if !ok then s.onBase fun b => (b.activateRow c.p.ch t e).transferFails bus c.p.ch e slow
  else if e.read then
    match s.rowWords c.p.ch c.p.bank c.p.row noise with
    | none => s.onBase fun b => (b.activateRow c.p.ch t e).rowBurst c.p.ch
    | some w =>
      let ds := s.base.decodeRow c.p.ch w
      s.onBase fun b =>
        let b := ((b.dropRow c.p.ch 16 e).activateRow c.p.ch t e).transferDone bus true
        if b.needsLearn c then (b.learnRow c (some ds)).pump else (b.onRow c ds).deliverRow c ds
  else
    let lines := (c.keys s.base.lay.n).map fun key => c.x.lineData c.u key
    let words := lines.map fun l => encodeLine l.1 { poison := l.2 }
    let s := (s.onBase fun b => (b.dropRow c.p.ch 16 e).noteWrite (b.lineAt c.p)).writeRow c.p.ch t e words
    s.onBase fun b => ((b.rowWritten c lines).transferDone bus true).pump

/-! ### Release sweeps (R248) -/

/-- The row a sweep works on next: the first at or after its pointer in a marked stripe of its blocks. -/
def Base.sweepRow (b : Base) (w : Sweep) : Option (Nat × Place) :=
  ((b.sweepStripes w).findSome? fun st => if w.at_ < 64 * st + 64 then some (st, max w.at_ (64 * st) - 64 * st) else none).bind fun e =>
    ((stripeRows b.lay.n e.1)[e.2]?).map fun p => (64 * e.1 + e.2, p)

def Base.updSweep (b : Base) (f : Sweep → Sweep) : Base := b.updCoh fun c => { c with sweeps := match c.sweeps with | w :: t => f w :: t | [] => [] }

/-- The sweep goes on to the next row. -/
def Base.sweepNext (b : Base) (at_ : Nat) (p : Place) : Base :=
  (b.updChan p.ch fun c => { c with sweptRow := none }).updSweep fun w => { w with at_ := at_ + 1, job := none, attempt := 0 }

/-- The row's lines are handled by line reads and single-line updates: its bus is out of service, its third transfer failed, or its third
rewrite was cancelled (R248, R293, R294). -/
def Base.sweepLines (b : Base) (at_ : Nat) (p : Place) : Base :=
  ((b.rowLines p.ch p.bank p.row).foldl (fun b line =>
    let (q, b) := b.internal .sweep (.rd .cur) line b.sweepLabel
    b.feedIn p.ch (b.entryOf { q with decided := true } none)) b).sweepNext at_ p

/-- A line the host held alone in state 10 (R247). -/
def soleOwner (h : Nat) (d : Decoded) : Bool := d.mt.st == 2 && d.mt.sharers == hostBit h

/-- A line of a swept row as it is rewritten (R247, R248): the record with the host's bit cleared, or its stamp; none when it stays as it
is. -/
def Base.sweptLine (b : Base) (h line : Nat) (d : Decoded) : Option (BitVec 640) :=
  if d.out = .uncorrectable ∨ (b.heldRec line).isSome ∨ d.mt.sharers.getLsbD h = false then none
  else if soleOwner h d then (let r := b.stampRec line; some (encodeLine d.data { sharers := r.vec, st := r.st, poison := true }))
  else some (encodeLine d.data { d.mt with sharers := d.mt.sharers &&& ~~~hostBit h, st := if d.mt.sharers = hostBit h then 0 else d.mt.st })

/-- The row's read: the lines that change, and those that are lost. A row without changes is done. -/
def Base.sweepRead (b : Base) (w : Sweep) (at_ : Nat) (p : Place) (raw : List (BitVec 640)) : Base :=
  let h := w.host.toNat
  let ds := b.decodeRow p.ch raw
  let b := b.updChan p.ch fun c => { c with sweptRow := some (p.bank, p.row, false) }
  let lines := ((b.rowLines p.ch p.bank p.row).zip ds).zip raw
  let news := lines.map fun e => b.sweptLine h e.1.1 e.1.2
  let lost := lines.zipIdx.filterMap fun e => if soleOwner h e.1.1.2 && (b.sweptLine h e.1.1.1 e.1.1.2).isSome then some e.2 else none
  let b := ds.zipIdx.foldl (fun b e => b.onDecode (b.rowDecode p.ch p.bank p.row e.2 (stageSrc p.ch)) e.1) b
  if news.all Option.isNone then b.sweepNext at_ p
  else b.updSweep fun w => { w with at_ := at_, job := some ((news.zip raw).map fun e => e.1.getD e.2, lost), readAt := b.now }

/-- A sweep reads a row, or rewrites the row it has changed; what it stamps is lost (R217, R247, R248). -/
def State.sweepCycle (s : State) (bus : Nat) (ok : Bool) (noise : List Noise) (w : Sweep) (at_ : Nat) (p : Place) (e : RowEntry) : State :=
  let t := s.base.now
  if !ok then s.onBase fun b => (b.activateRow p.ch t e).transferFails bus p.ch e fun b => (b.dropRow p.ch 16 e).sweepLines at_ p
  else match w.job with
    | none =>
      match s.rowWords p.ch p.bank p.row noise with
      | none => s.onBase fun b => (b.activateRow p.ch t e).rowBurst p.ch
      | some raw => s.onBase fun b => (((b.dropRow p.ch 16 e).activateRow p.ch t e).transferDone bus false).sweepRead w at_ p raw
    | some (new, lost) =>
      let s := (s.onBase fun b => b.dropRow p.ch 16 e).writeRow p.ch t e new
      s.onBase fun b =>
        let b := lost.foldl (fun b col =>
          let line := b.lineAt { p with col := col }
          ((b.listPoison line).send .ownerLost 0x400 (64 * line) (some w.host)).stampedRec line (b.stampRec line)) b
        (b.transferDone bus false).sweepNext at_ p

/-- A rewrite that a write of the row has overtaken is cancelled and the row read again; after the third its lines go one by one (R217,
R248). -/
def Base.sweepCancel (b : Base) (w : Sweep) (at_ : Nat) (p : Place) : Base :=
  let over_ := match (b.chan p.ch).sweptRow with | some x => x.2.2 | none => true
  if w.job.isNone || !over_ then b
  else if w.attempt < 2 then b.updSweep fun w => { w with job := none, attempt := w.attempt + 1 }
  else b.sweepLines at_ p

/-- The running sweep walks the cache first (R248). -/
def Base.startSweep (b : Base) : Base :=
  match b.coh.sweeps with
  | w :: _ => if w.cacheDone then b else (b.sweepCache w).updSweep fun w => { w with cacheDone := true }
  | [] => b

/-- The row of the running sweep. -/
def Base.sweeping (b : Base) : Option (Sweep × Nat × Place) := b.coh.sweeps.head?.bind fun w => (b.sweepRow w).map fun e => (w, e.1, e.2)

/-! ### The sources of a bus -/

/-- Work for a row bus: a row of a fill, of a descriptor's unit, or of the running release sweep (R263). -/
inductive RowJob where
  | fill (f : Fill) (i : Nat) (p : Place)
  | piece (c : Piece)
  | sweep (w : Sweep) (i : Nat) (p : Place)
deriving DecidableEq, Repr

def RowJob.place : RowJob → Place
  | .fill _ _ p => p
  | .piece c => c.p
  | .sweep _ _ p => p

/-- The offer of a job, but for what its label gives it. -/
def RowJob.offer (b : Base) (j : RowJob) : RowEntry :=
  let p := j.place
  match j with
  | .fill f _ _ => { src := .fill f.stripe, bank := p.bank, row := p.row, read := false, label := some f.label, tenant := f.tenant, cls := f.cls, step := f.step, inBudget := f.inBudget }
  | .piece c =>
    { src := .desc c.k, bank := p.bank, row := p.row, read := b.needsLearn c || c.x.phase != 3, label := some c.x.label
      notBefore := match c.x.readAt.find? fun e => e.1 == c.i && c.x.phase == 3 with | some e => e.2 + 32 | none => 0 }
  | .sweep w _ _ => { src := .sweep, bank := p.bank, row := p.row, read := w.job.isNone, label := some b.sweepLabel, notBefore := if w.job.isSome then w.readAt + 32 else 0 }

/-- Row-stage slots of a bus held by scrub, sweep and spare-row moves, of the eight reserved for them (R262). -/
def Base.stageHeld (b : Base) (bus : Nat) : Nat :=
  (b.dram.chans.filter fun e => quadOf e.1 == bus && ((e.2.scrubJob.bind fun j => j.lines).isSome || e.2.moves.any fun m => m.lines != [] && decide (m.written < 16))).length
    + (match b.sweeping with | some (w, _, p) => if quadOf p.ch = bus ∧ w.job.isSome = true then 1 else 0 | none => 0)

/-- The row is in the row stage and only its RBW is still to be done (R262, R335). -/
def RowJob.staged : RowJob → Bool
  | .fill _ _ _ => false
  | .piece c => c.x.phase == 3 && c.x.readAt.any fun e => e.1 == c.i
  | .sweep w _ _ => w.job.isSome

/-- The jobs of a bus in the order of R263: fills, descriptors, the sweep. Rows of which the records are held are learnt without the bus. A bus
that a full-width test is to take finishes what its stage holds (R335). -/
def Base.rowJobs (b : Base) (bus : Nat) : List RowJob :=
  let jobs := ((b.fillJobs bus).map fun x => .fill x.1 x.2.1 x.2.2) ++ ((b.pieces bus).filter fun c => !b.needsLearn c || b.needsRead c).map .piece
    ++ match b.sweeping with
      | some (w, i, p) => if quadOf p.ch = bus then [.sweep w i p] else []
      | none => []
  if b.drains bus then jobs.filter RowJob.staged else jobs

/-- No row of the bus is in its row stage (R335 step 2). -/
def Base.stageEmpty (b : Base) (bus : Nat) : Bool := b.stageHeld bus == 0 && !(b.rowJobs bus).any RowJob.staged

/-- The mover may offer the job. -/
def Base.jobReady (b : Base) : RowJob → Bool
  | .piece c => b.pieceReady c
  | _ => true

/-- A row whose records are all held is learnt without a transfer (R251). -/
def Base.learnNext (b : Base) (bus : Nat) : Base :=
  match (b.pieces bus).find? fun c => b.needsLearn c && !b.needsRead c && b.pieceReady c with
  | some c => (b.learnRow c none).pump
  | none => b

/-- Offers that stand for no job any more are withdrawn. -/
def Base.withdraw (b : Base) (bus : Nat) (jobs : List RowJob) : Base :=
  forN 16 (fun (d : Nat) (b : Base) =>
    let ch := 4 * d + bus
    let dead := (b.chan ch).rowQ.filter fun e => (match e.src with | .fill _ => true | .desc _ => true | .sweep => true | _ => false)
      && !(jobs.any fun j => j.place.ch == ch && (j.offer b).same e)
    dead.foldl (fun b e => b.dropRow ch e.lines e) b) b

/-- The mover makes its offer of the cycle (R263): the first job without one whose channel has fewer than 8 outstanding. It takes its
label's class and is charged now, once for all its repeats (R292, R311); a fill's rows are not charged (R320). -/
def Base.offerNext (b : Base) (bus : Nat) (jobs : List RowJob) : Base :=
  let free := fun j : RowJob =>
    let c := b.chan j.place.ch
    decide (c.rowQ.length < 8) && (c.offered (j.offer b)).isNone && b.jobReady j && (match j with | .sweep w _ _ => w.job.isSome || decide (b.stageHeld bus < 8) | _ => true)
  match jobs.find? free with
  | none => b
  | some j =>
    let e := j.offer b
    match j, e.label with
    | .fill _ _ _, _ => b.placeRow j.place.ch e
    | _, some l =>
      let (q, b) := b.lookup { who := .sweep, op := .inv, line := 0, label := l } 16
      b.placeRow j.place.ch { e with tenant := q.tenant, cls := q.cls, step := q.step, inBudget := q.inBudget }
    | _, none => b

/-- The transfer of the cycle (R159, R263): of the outstanding offers the first, in the order of the sources, that its channel accepts, unless
a spare-row move is to go. Descriptors keep within their share of the epoch's cycles, and the sweep to one cycle in four. -/
def Base.transferNow (b : Base) (bus : Nat) (jobs : List RowJob) : Option (RowJob × RowEntry) :=
  let share := decide ((b.bus bus).descCycles * 100 < 500 * b.rf Reg.MOVER_CFG 15 8)
  let open_ := fun j : RowJob => match j with
    | .fill _ _ _ => true
    | .piece _ => share
    | .sweep _ _ _ => b.now / 2 % 4 == 0
  let moves := (List.range 16).any fun d => (b.chan (4 * d + bus)).rowQ.any fun e => e.src == .move && b.acceptsRow (4 * d + bus) b.now e
  if moves then none
  else jobs.findSome? fun j => if open_ j then (b.rowAccepted j.place.ch (j.offer b)).map fun e => (j, e) else none

/-- The channels of a bus that has work of the mover which it could take now: the scrubber yields to it (R37, R263). -/
def Base.busWanted (b : Base) (bus : Nat) : Bool :=
  (List.range 16).any fun d => (b.chan (4 * d + bus)).rowQ.any fun e => e.src != .scrub && b.acceptsRow (4 * d + bus) b.now e

/-! ### The cycle -/

/-- ROW_BUS_CYCLE (R260, R263): one offer, and at most one transfer; the line-path work of the slots goes on with it. -/
def execRowBusCycle (bus : BusId) (ok : Bool) (noise : List Noise) (s : State) : Host.Outcome State Fault Refusal :=
  let q := bus.toNat
  if !(s.base.moverRuns && s.base.pl.phase % 2 == 0 && (s.base.bus q).offeredAt != some s.base.now) then .next s
  else
    let s := s.onBase fun b => (b.updBus q fun x => { x with offeredAt := some b.now }).startSweep
    let s := s.onBase fun b => ((forN 16 (fun k b => b.advance k) b).pump).learnNext q
    let s := s.onBase fun b => match b.sweeping with | some (w, i, p) => b.sweepCancel w i p | none => b
    let b := s.base
    if !b.busServes q then
      match b.sweeping with
      | some (_, i, p) => if quadOf p.ch = q then s.then_ fun b => b.sweepLines i p else .next s
      | none => .next s
    else
      let jobs := b.rowJobs q
      let s := s.onBase fun b => (b.withdraw q jobs).offerNext q jobs
      match s.base.transferNow q jobs with
      | none => .next s
      | some (j, e) =>
        let s := s.onBase fun b => b.useBus j.place.ch b.now e
        match j with
        | .fill f i p => .next (s.fillCycle q ok f i p e)
        | .piece c => .next (s.pieceCycle q ok noise c e)
        | .sweep w i p => .next (s.sweepCycle q ok noise w i p e)

/-! ### Completion records -/

/-- The 64 bytes of a record (R277). -/
def Slot.record (x : Slot) (bytes : Nat) (phase : Bool) : Data :=
  let res := if x.desc.opcode = 2 then x.clearedTo else if x.desc.opcode = 5 ∨ x.desc.opcode = 6 then x.result.toNat else 0
  BitVec.ofNat 512 (x.desc.seq.toNat + ((x.status).getD 0 + (if phase then 256 else 0) + (if x.subst then 512 else 0)) * 2 ^ 32
    + bytes * 2 ^ 64 + res * 2 ^ 128 + x.poisoned * 2 ^ 192 + x.lost * 2 ^ 224 + x.mismatches * 2 ^ 256 + x.corrected * 2 ^ 288
    + x.endEpoch.toNat * 2 ^ 320)

/-- The bytes of a finished descriptor go to its host's figures and to the tenant of its label (R292, R296). -/
def Base.reportBytes (b : Base) (x : Slot) (bytes : Nat) : Base :=
  let b := (b.updLd (x.queue / 4) fun d => { d with bytesMoved := d.bytesMoved + bytes }).tally (b.tenantOf x.label) fun t => { t with moved := t.moved + bytes }
  b.updMov fun v => { v with bytesDone := v.bytesDone + bytes, lastProgress := b.now }

/-- What follows a record (R253, R270, R278): counters, the queue's state, the vector. -/
def Base.afterRecord (b : Base) (x : Slot) (bytes : Nat) (recovered : Bool) : Base :=
  let st := (x.status).getD 0
  let h := x.queue / 4
  let cfg := b.reg (Reg.MQ_CFG x.queue)
  let qd := b.queue x.queue
  let b := b.setReg (Reg.MQ_DONE x.queue) (b.reg (Reg.MQ_DONE x.queue) + 1)
  let b := b.bump Reg.DESC_DONE_COUNT
  let b := if st < 0x10 then b else b.bump Reg.DESC_ERROR_COUNT
  let b := b.updQueue x.queue fun y =>
    let y := if x.index + 1 = b.ringSize x.queue then { y with oddPass := !y.oddPass } else y
    if 0x10 ≤ st ∧ y.resetting = false then { y with state := 2, error := if x.badLine then 3 else if st = 0x20 then 4 else 5 } else y
  let b := b.reportBytes x bytes
  let quiet := recovered || qd.silent || b.coh.isolated.getLsbD h
  if tb cfg 5 ∧ (x.desc.interrupt ∨ 0x10 ≤ st) ∧ quiet = false ∧ st ≠ 0x21 then b.msixHost h (1 + x.queue % 4) else b

/-- A record goes to the completion ring (R277). -/
def Base.sendRecord (b : Base) (who : Who) (x : Slot) (bytes : Nat) : Base :=
  let line := (b.cplBase x.queue + 64 * x.index) / 64
  let (r, b) := b.internal who (.wr (x.record bytes (!(b.queue x.queue).oddPass)) false) line (b.queueLabel x.queue)
  b.present r

/-- The completion ring lies in the host's effective ranges; a record whose ring does not is discarded (R298). -/
def Base.ringHeld (b : Base) (q : Nat) : Bool := b.effHolds (q / 4) (b.cplBase q) (b.cplBase q + b.ringBytes q - 1)

/-- DESC_COMPLETE (R250, R255, R269, R277): records of a queue are written in ring order, once everything the descriptor wrote is in its
queues and its invalidations have been answered. The first command sends the record through the home agent; what follows it happens once it
has entered its write queue, with this command or the next. -/
def execDescComplete (slot : BitVec 4) (s : State) : Host.Outcome State Fault Refusal :=
  s.whenBase Base.moverRuns fun b =>
    let k := slot.toNat
    match b.slot k with
    | none => b
    | some x =>
      let first := (b.slotsOf x.queue).head?.map fun e => e.1
      let ends := fun (b : Base) (f : Base → Base) => ((f (b.updMov fun v => { v with slots := v.slots.filter fun e => e.1 != k })).restQueue x.queue).pump
      if x.status.isNone || first != some k || !b.moverQuiet k then b
      else
        let bytes := b.bytesDone k x
        if !x.recSent && !b.ringHeld x.queue then ends b fun b => (b.reportBytes x bytes).ringFault x.queue x.index 2
        else
          let b := if x.recSent then b else ((b.updSlot k fun y => { y with recSent := true }).sendRecord (.mover k 0) x bytes).pump
          if b.moverQuiet k then ends b fun b => b.afterRecord x bytes false else b

/-- CLAIM_SLOW (R280): a claim of the slot has lasted longer than 10 µs. -/
def execClaimSlow (slot : BitVec 4) (s : State) : Host.Outcome State Fault Refusal :=
  s.whenBase Base.alive fun b =>
    match b.lay.fills.find? fun f => decide (f.claim = some slot.toNat) && decide (f.at_ + 10000 < b.now), b.slot slot.toNat with
    | some _, some x => b.send .claimSlow 0x4D0 (mqAddr x.queue x.index)
    | _, _ => b

/-! ### Resets of the mover -/

/-- Steps 2 and 3 of R295: slots, claims, locks and flows of the mover are lost; the checkpoint table keeps what ran. -/
def Base.resetMover (b : Base) : Base :=
  let kept := b.mov.slots.map fun e => b.settled e.1 e.2
  let held := (b.lay.fills.filter fun f => f.claim.isSome).flatMap fun f => f.held
  let mine := fun q : Req => match q.who with | .mover _ _ => true | _ => false
  let b := (b.waitingReqs.filter mine).foldl (fun b q => b.release q) b
  let b := b.updMov fun v => { v with slots := [], checkpoints := v.checkpoints ++ kept, rr := 0, queues := v.queues.map fun e => (e.1, { e.2 with asked := false }) }
  let b := b.updLay fun l => { l with
    fills := l.fills.filter fun f => f.claim.isNone
    fillWait := l.fillWait.filter fun w => !mine w.1 }
  let b := b.updCoh fun c => { c with
    locks := []
    trackers := c.trackers.filter fun t => !mine t.req
    waiting := c.waiting.filter fun w => !mine w.req }
  (held.foldl (fun b q => b.present q) b).pump

/-- A record written after a warm reset (R295, R298). -/
def Base.writeRecord (b : Base) (x : Slot) : Base :=
  if b.ringHeld x.queue then (b.sendRecord (.mover 16 0) x x.pos).afterRecord x x.pos true else (b.reportBytes x x.pos).ringFault x.queue x.index 2

/-- A checkpoint's record (R295 step 5): its final status, or INTERRUPTED with the figures kept. -/
def Base.recover (b : Base) (x : Slot) : Base :=
  match x.status with
  | some _ => b.writeRecord x
  | none => (b.writeRecord { x with status := some 0x20, endEpoch := b.pl.epoch }).sendOutside .descInterrupted 0x4D1 (mqAddr x.queue x.index)

/-- MOVER_RECOVERY (R293, R295): with memory active, firmware writes a record for each checkpoint and clears the table; queues whose link went
down meanwhile rest then. -/
def execMoverRecovery (s : State) : Host.Outcome State Fault Refusal :=
  s.whenBase (fun b => b.fwRuns && b.boot.memActive) fun b =>
    let l := b.mov.checkpoints
    let b := b.updMov fun v => { v with checkpoints := [], stopped := false }
    (forN 64 (fun (q : Nat) (b : Base) => b.restQueue q) (l.foldl (fun b x => b.recover x) b)).pump

/-- MOVER_COUNT_CLEAR (R296). -/
def execMoverCountClear (v : Word) (s : State) : Host.Outcome State Fault Refusal :=
  s.whenBase Base.mgmtFull fun b => b.clearCounters Reg.DESC_DONE_COUNT 5 v

/-- The queues of a host when its link goes down (R293): what runs completes without MSI-X, then each configured queue rests. -/
def Base.linkDownQueues (b : Base) (h : Nat) : Base :=
  forN 4 (fun q b =>
    let k := 4 * h + q
    if (b.queue k).state = 3 then b
    else (b.updQueue k fun x => { x with silent := true, resetting := true, tail := x.head }).restQueue k) b

/-- Every queue after a warm base-die reset (R295 step 4). The records still owed fall on the pass that was under way; the next doorbell finds
a zeroed ring (R271, R272; DEDUCED, entry 141). -/
def Base.interruptQueues (b : Base) : Base :=
  forN 64 (fun k b => if (b.queue k).state = 3 then b else b.setQueue k { state := 2, error := 4, oddPass := (b.queue k).oddPass, anew := true }) b

end Sys2Proof.Machine
end

