-- ==== Sys2Proof/Machine/Scrub.lean ====
section
/-! DEFINITION. Machine/Scrub.lean: spare-row moves (R212, R213) and the patrol scrub (R215 to R219): the sources of R263 whose commands bring
their own transfers. -/

namespace Sys2Proof.Machine

/-! ### Spare-row moves -/

/-- A line of the moved row as it lands in the spare (R212): corrected, or stamped with its bytes as read. -/
def Base.moveLine (b : Base) (line : Nat) (d : Decoded) : BitVec 640 × Base :=
  if d.out = .uncorrectable then
    let r := b.stampRec line
    (encodeLine d.data { sharers := r.vec, st := r.st, poison := true }, (b.listPoison line).stampedRec line r)
  else (encodeLine d.data d.mt, b)

/-- Step 3 of R212: a line of the row is decoded, counted and corrected, by the row stage or by the channel's codec. -/
def Base.decodeMove (b : Base) (ch : Nat) (m : SpareMove) (col : Nat) (word : BitVec 640) (fast : Bool) : BitVec 640 × Base :=
  let a := b.rowDecode ch m.bank m.row col (stageSrc ch) .none false
  let a := if fast then a else { a with src := chSrc ch 5, rowStage := false, erasures := erasedSymbols (b.declaredPins ch) }
  let d := decodeWord a.erasures word
  (b.onDecode a d).moveLine a.line d

/-- The move under way changes. -/
def Chan.updMove (c : Chan) (f : SpareMove → SpareMove) : Chan := { c with moves := match c.moves with | m :: t => f m :: t | [] => [] }

/-- Lines of the moved row have come to the stage. With the sixteenth the latch is programmed, once the bank cycle has closed: 65 ns after the
last ACT (R212 step 4; with the bus's 45 ns and the 20 ns of the latch, DEDUCED for the line path, entry 138). -/
def Base.moveRead (b : Base) (ch : Nat) (lines : List (BitVec 640)) : Base :=
  b.updChan ch fun c =>
    let c := c.updMove fun m => { m with lines := m.lines ++ lines }
    match c.move with
    | some m => if m.lines.length = 16 then
        { c.updMove (fun m => { m with programmedAt := some (b.now + 65) }) with spares := c.spares ++ [{ bank := m.bank, row := m.row, spare := m.spare, confirmed := false }] }
      else c
    | none => c

/-- Lines of the moved row have landed in the spare. With the sixteenth the latch is confirmed 65 ns after the last ACT (R212 step 6). -/
def Base.moveWritten (b : Base) (ch n : Nat) : Base :=
  b.updChan ch fun c => c.updMove fun m =>
    let w := m.written + n
    { m with written := w, confirmAt := if w = 16 then some (b.now + 65) else none }

/-- A line of the row goes to the stage over the channel (R212): a read of its own. A remapped line comes from its entry (R208). -/
def State.moveLineRead (s : State) (ch : Nat) (m : SpareMove) (noise : Noise) : State :=
  let t := s.base.now
  let col := m.lines.length
  let p : Place := { ch := ch, bank := m.bank, row := m.row, col := col }
  if s.base.ignores ch then s.onBase fun b => (b.activate ch m.bank m.row t 45 none (slotsOf t m.bank true false)).rowBurst ch
  else
    let word := addNoise (s.lineWord p) noise
    s.onBase fun b =>
      let b := if ((b.chan ch).remapOf m.bank m.row col).isSome then b
        else (b.activate ch m.bank m.row t 45 none (slotsOf t m.bank true false)).countChan ch fun k => { k with reads := k.reads + 1 }
      let (w, b) := b.decodeMove ch m col word false
      b.moveRead ch [w]

/-- A line of the row lands in the spare over the channel (R212), a write of its own: the latch redirects it, and its remap entry, which is
freed at the end, takes nothing. A record of an injection goes (R223). -/
def State.moveLineWrite (s : State) (ch : Nat) (m : SpareMove) : State :=
  let t := s.base.now
  let p : Place := { ch := ch, bank := m.bank, row := m.row, col := m.written }
  let ignored := s.base.ignores ch
  let s := s.onBase fun b =>
    ((b.activate ch m.bank m.row t 45 none (slotsOf t m.bank false false)).logWrite ch m.bank m.row m.written (!ignored)).countChan ch fun k => { k with writes := k.writes + 1 }
  let s := if ignored then s else s.storeLine p (maskPins (s.base.chan ch).erased (m.lines.getD m.written 0))
  s.onBase fun b => (b.injectWrite (b.lineAt p) {}).moveWritten ch 1

/-- The offer of a move's transfer: under no label (R320). -/
def SpareMove.offer (m : SpareMove) (read : Bool) : RowEntry := { src := .move, bank := m.bank, row := m.row, read := read }

/-- SPARE_MOVE_ROW_IN_STAGE (R212 steps 2 to 4): the row is read and decoded, and the latch is PROGRAMMED. Over the row bus the command makes
the offer and, once its channel accepts it, the transfer; on the line path each command reads one line. -/
def execSpareMoveRowInStage (ch : ChanId) (noise : List Noise) (s : State) : Host.Outcome State Fault Refusal :=
  let k := ch.toNat
  match (s.base.chan k).move with
  | none => .next s
  | some m =>
    if !s.base.alive || m.programmedAt.isSome then .next s
    else if s.base.moveByLine k m then
      (if s.base.moveDue k s.base.now && (s.base.tier0 k s.base.now).isNone then .next (s.moveLineRead k m (noise.getD m.lines.length [])) else .next s)
    else if s.base.drains (quadOf k) then .next s
    else
      let s := s.onBase fun b => if b.stageHeld (quadOf k) < 8 then b.offerRow k (m.offer true) else b
      match s.base.rowAccepted k (m.offer true) with
      | none => .next s
      | some e =>
        let act := fun b : Base => (b.useBus k b.now e).activateRow k b.now e
        match s.rowWords k m.bank m.row noise with
        | none => s.then_ fun b => (act b).rowBurst k
        | some words => s.then_ fun b =>
          let (lines, b) := words.zipIdx.foldl (fun (l, b) x => let (w, b) := Base.decodeMove b k m x.2 x.1 true; (l ++ [w], b)) (([] : List (BitVec 640)), (act b).dropRow k 0 e)
          b.moveRead k lines

/-- Step 7 of R212: the latch is CONFIRMED, the remap entries of the row are freed and its requests go on. -/
def Base.moveEnds (b : Base) (ch : Nat) (m : SpareMove) : Base :=
  let b := b.updChan ch fun c => { c with
    moves := c.moves.drop 1
    remap := c.remap.filter fun r => !(r.bank == m.bank && r.row == m.row)
    spares := c.spares.map fun (x : SpareRow) => if x.bank = m.bank ∧ x.row = m.row ∧ x.spare = m.spare then { x with confirmed := true } else x }
  (b.send .spareRowAssigned (chSrc ch 6) (chAddr ch m.bank m.row)).drainChan ch

/-- SPARE_ROW_ASSIGNED (R212 steps 5 to 7): the row lands in the spare, over the row bus or one line a command; once the latch is CONFIRMED the
move ends. -/
def execSpareRowAssigned (ch : ChanId) (s : State) : Host.Outcome State Fault Refusal :=
  let k := ch.toNat
  match (s.base.chan k).move with
  | none => .next s
  | some m =>
    let now := s.base.now
    let due := fun x : Option Nat => match x with | some t => decide (t ≤ now) | none => false
    if !s.base.alive || !due m.programmedAt then .next s
    else if m.written = 16 then (if due m.confirmAt then s.then_ fun b => b.moveEnds k m else .next s)
    else if s.base.moveByLine k m then
      (if s.base.moveDue k now && (s.base.tier0 k now).isNone then .next (s.moveLineWrite k m) else .next s)
    else
      let s := s.onBase fun b => b.offerRow k (m.offer false)
      match s.base.rowAccepted k (m.offer false) with
      | none => .next s
      | some e => .next (((s.onBase fun b => (b.useBus k now e).dropRow k 0 e).writeRow k now e m.lines).onBase fun b => b.moveWritten k 16)

/-! ### Patrol scrub -/

/-- Scrub position of a row (R215). -/
def scrubPosOf (bank row : Nat) : Nat := row * 32 + bank

/-- The channel's rows that need scrubbing, as positions: rows of marked stripes (R215) outside the fenced octants (R396). -/
def Base.scrubRows (b : Base) (ch : Nat) : List Nat :=
  (b.lay.marked.flatMap fun e =>
    if b.fencedOct (b.octantOf (1024 * e.1)) then []
    else if (b.setOf ch) * 2 ^ (15 + b.lay.n) ≤ e.1 ∧ e.1 < (b.setOf ch + 1) * 2 ^ (15 + b.lay.n) then (stripeRows b.lay.n e.1).filter fun p => p.ch == ch else []).map
      fun p => scrubPosOf p.bank p.row

/-- The next row at or after the pointer (R215). -/
def nextScrub (pos : Nat) (rows : List Nat) : Option Nat :=
  let dist := fun p => (p + 2097152 - pos) % 2097152
  match rows with
  | [] => none
  | r :: t => some (t.foldl (fun a x => if dist x < dist a then x else a) r)

/-- The cycle counter advances at a wrap (R215, R219). -/
def Chan.scrubWrap (c : Chan) (epochs : Nat) : Chan := { c with scrubCycles := satAdd 255 c.scrubCycles 1, scrubFrom := epochs, scrubLate := false }

/-- A quota of the channel is spent: of the running plan, else of those carried forward (R36). -/
def Base.takeQuota (b : Base) (ch : ChanId) : Option Base :=
  if b.pl.active.scrub.contains ch then some (b.updPl fun p => { p with active := { p.active with scrub := p.active.scrub.erase ch } })
  else if 0 < (b.chan ch.toNat).scrubOwed then some (b.updChan ch.toNat fun c => { c with scrubOwed := c.scrubOwed - 1 })
  else none

/-- The offer of a scrub transfer: of tier 3 under SCRUB_LABEL (R160, R216), to which it is charged 0 lines (R320). -/
def Base.scrubOffer (b : Base) (bank row : Nat) (read : Bool) (notBefore : Nat) : RowEntry :=
  let e := b.label b.scrubLabel.toNat
  { src := .scrub, bank := bank, row := row, read := read, label := some b.scrubLabel, tenant := e.tenant, cls := e.cls, step := e.step, notBefore := notBefore }

/-- A scrub transfer that its channel accepts now. It yields to the mover's transfers on its bus (R37, R263). -/
def Base.scrubTransfer (b : Base) (ch : Nat) (e : RowEntry) : Option RowEntry :=
  if b.busWanted (quadOf ch) then none else b.rowAccepted ch e

/-- The scrubber may work on the channel: scrub is enabled, the MOVER domain is on, the set is ACTIVE (R42, R215). -/
def Base.scrubOk (b : Base) (ch : Nat) : Bool :=
  b.alive && tb (b.reg Reg.ECC_CFG) 8 && b.mov.domain == .on && (b.set_ (b.setOf ch)).state == 0 && !b.retired ch

/-- The lines of a row go to the channel's queues while the row bus is out of service (R218). -/
def Base.scrubLines (b : Base) (ch bank row : Nat) : Base :=
  (rowPlaces ch bank row).foldl (fun b p =>
    let (q, b) := b.internal .scrub (.rd .cur) (b.lineAt p) b.scrubLabel 0
    b.feedIn ch (b.entryOf { q with decided := true } none)) (b.updChan ch fun c => { c with scrubJob := none })

/-- The RBR of a scrub (R216), or its line reads (R218), for a row and its attempt. -/
def State.scrubRead (s : State) (ch : Nat) (j : ScrubJob) (quota : Base → Base) : State :=
  if !s.base.busServes (quadOf ch) then s.onBase fun b => (quota b).scrubLines ch j.bank j.row
  else if s.base.drains (quadOf ch) then s
  else
    let s := s.onBase fun b => if b.stageHeld (quadOf ch) < 8 then b.offerRow ch (b.scrubOffer j.bank j.row true 0) else b
    match s.base.scrubTransfer ch (s.base.scrubOffer j.bank j.row true 0) with
    | none => s
    | some e =>
      let act := fun b : Base => (b.useBus ch b.now e).activateRow ch b.now e
      match s.rowWords ch j.bank j.row [] with
      | none => s.onBase fun b => (act b).rowBurst ch
      | some w => s.onBase fun b => ((act (quota b)).dropRow ch 0 e).updChan ch fun c => { c with scrubJob := some { j with lines := some w, overtaken := false, readAt := b.now } }

/-- SCRUB_ROW (R215, R216): a quota takes the row to be tried again, or the next that needs scrubbing; without one it lapses. The command makes
the offer, and the transfer once its channel accepts it, which takes the quota. -/
def execScrubRow (ch : ChanId) (s : State) : Host.Outcome State Fault Refusal :=
  let k := ch.toNat
  let c := s.base.chan k
  let idle := match c.scrubJob with | some j => j.lines.isNone && !j.verifying | none => true
  if !(s.base.scrubOk k && idle) then .next s
  else match s.base.takeQuota ch with
    | none => .next s
    | some _ =>
      let quota := fun b : Base => (b.takeQuota ch).getD b
      match c.scrubJob with
      | some j => .next (s.scrubRead k j quota)
      | none =>
        match nextScrub c.scrubPos (s.base.scrubRows k) with
        | none => s.then_ fun b => (quota b).updChan k fun c => c.scrubWrap b.pl.epochs
        | some p => .next (s.scrubRead k { bank := p % 32, row := p / 32 } fun b => (quota b).updChan k fun c =>
            let c := if p < c.scrubPos ∨ p = 2097151 then c.scrubWrap b.pl.epochs else c
            { c with scrubPos := (p + 1) % 2097152 })

/-- A line of a scrubbed row as it is rewritten (R216): corrected with healed 1, stamped, or unchanged. -/
def Base.scrubLine (b : Base) (line : Nat) (d : Decoded) : BitVec 640 × Base :=
  match d.out with
  | .uncorrectable =>
    let r := b.stampRec line
    (encodeLine d.data { sharers := r.vec, st := r.st, poison := true }, (b.listPoison line).stampedRec line r)
  | .corrected => (encodeLine d.data { d.mt with healed := true }, b)
  | _ => (encodeLine d.data d.mt, b)

/-- The context of a scrub decode (R196, R200, R216): tracked, and rewritten by the scrub; an earlier attempt has counted a corrected line and
reported an uncorrectable one. -/
def Base.scrubDecode (b : Base) (ch : Nat) (j : ScrubJob) (col : Nat) : DecodeAt :=
  { b.rowDecode ch j.bank j.row col 0x340 .rewrite false with demand := false, counted := j.counted.contains col, silent := j.lost.contains col }

/-- After the third cancelled rewrite the corrections go to the heal queue, where R202 governs (R217): a line that a write has changed since the
RBR's ACT, or that has a write queued, is left to it. -/
def State.scrubExhausted (s : State) (ch : Nat) (j : ScrubJob) (raw : List (BitVec 640)) (ds : List Decoded) : State :=
  let changed := ((rowPlaces ch j.bank j.row).map s.lineWord).zipWith (fun x y => x != y) raw
  s.onBase fun b =>
    let b := (ds.zip changed).zipIdx.foldl (fun b e =>
      let a := b.scrubDecode ch j e.2
      let a := { a with overtaken := a.overtaken || e.1.2 }
      match e.1.1.out with
      | .corrected => b.queueHeal a e.1.1.data e.1.1.mt
      | .uncorrectable => b.queueStamp a e.1.1.data
      | _ => b) b
    ((b.updChan ch fun c => { c with scrubJob := none }).send .scrubRetryExhausted 0x340 (chAddr ch j.bank j.row)).drainChan ch

/-- The columns of a row with an outcome. -/
def colsOf (o : Outcome4) (ds : List Decoded) : List Nat := (ds.zipIdx.filter fun e => e.1.out == o).map fun e => e.2

/-- The decodes of a scrubbed row (R204, R216). -/
def Base.scrubDecodes (b : Base) (ch : Nat) (j : ScrubJob) (ds : List Decoded) : Base :=
  ds.zipIdx.foldl (fun b e => b.onDecode (b.scrubDecode ch j e.2) e.1) b

/-- The rewrite is cancelled, and the row is tried again, up to three attempts (R217). -/
def State.scrubCancel (s : State) (ch : Nat) (j : ScrubJob) (raw : List (BitVec 640)) (ds : List Decoded) : State :=
  let s := s.onBase fun b => b.updChan ch fun c => { c with scrubRetries := satAdd 127 c.scrubRetries 1 }
  if 2 ≤ j.attempt then s.scrubExhausted ch j raw ds
  else s.onBase fun b => b.updChan ch fun c => { c with scrubJob := some {
    bank := j.bank, row := j.row, attempt := j.attempt + 1
    counted := (j.counted ++ colsOf .corrected ds).eraseDups
    lost := (j.lost ++ colsOf .uncorrectable ds).eraseDups } }

/-- The RBW of a scrub, and what the verify read compares (R216). -/
def State.scrubWrite (s : State) (ch : Nat) (j : ScrubJob) (ds : List Decoded) (e : RowEntry) : State :=
  let (words, b) := ds.zipIdx.foldl (fun (l, b) x =>
    let (w, b) := Base.scrubLine b (b.lineAt { ch := ch, bank := j.bank, row := j.row, col := x.2 }) x.1
    (l ++ [w], b)) (([] : List (BitVec 640)), (s.base.useBus ch s.base.now e).dropRow ch 0 e)
  let fixed := (ds.zipIdx.filter fun x => x.1.out == .corrected).map fun x =>
    let a := s.base.scrubDecode ch j x.2
    (x.2, errMask (unexplained (s.base.injRecord a.line) a.erasures x.1.errs))
  ({ s with base := b }.writeRow ch s.base.now e words).onBase fun b => b.updChan ch fun c => { c with
    scrubJob := some { bank := j.bank, row := j.row, corrected := fixed, verifying := true, readAt := b.now } }

/-- SCRUB_ROW_DECODED (R216, R217): the decoded row is done with when nothing is to be rewritten; its rewrite is cancelled, or is offered and
issues once its channel accepts it, 46 ns after the RBR's bus cycle at the earliest (R262). -/
def execScrubRowDecoded (ch : ChanId) (noise : List Noise) (s : State) : Host.Outcome State Fault Refusal :=
  let k := ch.toNat
  match (s.base.chan k).scrubJob with
  | none => .next s
  | some j => match j.lines with
    | none => .next s
    | some raw =>
      let ds := s.base.decodeRow k (raw.zipIdx.map fun e => addNoise e.1 (noise.getD e.2 []))
      if !s.base.alive then .next s
      else if ds.all fun d => d.out == .clean || d.out == .cleanErased then
        s.then_ fun b => (b.scrubDecodes k j ds).updChan k fun c => { c with scrubJob := none }
      else if j.overtaken then .next ((s.onBase fun b => b.scrubDecodes k j ds).scrubCancel k j raw ds)
      else
        let s := s.onBase fun b => b.offerRow k (b.scrubOffer j.bank j.row false (j.readAt + 32))
        match s.base.scrubTransfer k (s.base.scrubOffer j.bank j.row false (j.readAt + 32)) with
        | none => .next s
        | some e => .next ((s.onBase fun b => b.scrubDecodes k j ds).scrubWrite k j ds e)

/-- A line of the verify read (R216): wrong again at one of the same positions, it is hard. A line that the first read corrected is in its bank's
bucket already. -/
def Base.verifyLine (b : Base) (ch : Nat) (j : ScrubJob) (col : Nat) (d : Decoded) : Base :=
  let a : DecodeAt := { b.rowDecode ch j.bank j.row col 0x340 with demand := false, counted := j.corrected.any fun e => e.1 == col }
  match j.corrected.find? fun e => e.1 == col with
  | some (_, pos) =>
    if d.out = .corrected ∧ errMask d.errs &&& pos ≠ 0 then ((b.onDecode { a with fix := .none } d).updChan ch fun c => c.histFree a.place).hardFault a d.data d.mt
    else b.onDecode a d
  | none => b.onDecode a d

/-- SCRUB_VERIFY_DONE (R216): the verify RBR is offered, and decoded once its channel has accepted it. -/
def execScrubVerifyDone (ch : ChanId) (noise : List Noise) (s : State) : Host.Outcome State Fault Refusal :=
  let k := ch.toNat
  match (s.base.chan k).scrubJob with
  | none => .next s
  | some j =>
    if !(s.base.alive && j.verifying) then .next s
    else if !s.base.busServes (quadOf k) then s.then_ fun b => b.scrubLines k j.bank j.row
    else if s.base.drains (quadOf k) then .next s
    else
      let s := s.onBase fun b => if b.stageHeld (quadOf k) < 8 then b.offerRow k (b.scrubOffer j.bank j.row true 0) else b
      match s.base.scrubTransfer k (s.base.scrubOffer j.bank j.row true 0) with
      | none => .next s
      | some e =>
        let act := fun b : Base => (b.useBus k b.now e).activateRow k b.now e
        match s.rowWords k j.bank j.row noise with
        | none => s.then_ fun b => (act b).rowBurst k
        | some w =>
          let ds := s.base.decodeRow k w
          s.then_ fun b =>
            let b := ds.zipIdx.foldl (fun b e => b.verifyLine k j e.2 e.1) ((act b).dropRow k 0 e)
            (b.updChan k fun c => { c with scrubJob := none }).drainChan k

/-! ### Full-width tests (R335) -/

/-- FULLWIDTH_TEST_START: the plan takes the bus out, once its row stage is empty; its offers are withdrawn. -/
def execFullwidthTestStart (q : BusId) (s : State) : Host.Outcome State Fault Refusal :=
  s.whenBase Base.alive fun b =>
    if b.drains q.toNat && b.stageEmpty q.toNat then
      let b := b.updPl fun p => { p with active := { p.active with fullWidth := none } }
      let b := (b.clearOffers q.toNat).updBus q.toNat fun x => { x with testing := true, tested := false, fwNow := false }
      (b.updSi fun y => { y with fwActive := some q.toNat }).fastPath q.toNat
    else b

/-- SCRUB_CYCLE_LATE (R219): the cycle has lasted longer than 1.25 times the period. While SCRUB_ENABLE is 0, or in a retired channel, no row
is to be scrubbed and no cycle is late; the message names no place but the channel (DESIGN CHOICE, entries 132 and 139). -/
def execScrubCycleLate (ch : ChanId) (s : State) : Host.Outcome State Fault Refusal :=
  s.whenBase Base.alive fun b =>
    let c := b.chan ch.toNat
    if !c.scrubLate ∧ 4500000000 * b.rf Reg.ECC_CFG 7 0 < b.pl.epochs - c.scrubFrom ∧ tb (b.reg Reg.ECC_CFG) 8 = true ∧ b.retired ch.toNat = false then
      (b.setChan ch.toNat { c with scrubLate := true }).send .scrubCycleLate 0x340 (chAddr ch.toNat 0 0)
    else b

end Sys2Proof.Machine
end

