-- ==== Sys2Proof/Machine/Links.lean ====
section
/-! DEFINITION. Machine/Links.lean: fabric lanes and link bring-up (chapter 2): the lanes of a port block, widths and exclusions
(R51, R78, R79), training (R59 to R66), link down (R81, R110), Recovery and the eye checks (R67 to R71), power states (R72
to R75), margining (R77), reference clocks (R57) and the port and lane control registers (R88, R90). -/

namespace Sys2Proof.Machine

/-! ### Blocks and lanes -/

/-- FPp is split into halves (R48). -/
def Base.split (b : Base) (p : Nat) : Bool := b.links.straps.getLsbD p

/-- The port block exists: h = 1 only of a split port (R48, R85). -/
def Base.present_ (b : Base) (k : Nat) : Bool := k % 2 == 0 || b.split (k / 2)

/-- The blocks that share the pins of FPp (R50): the state of a pin is held for both, present or not. -/
def pinBlocks (p : Nat) : List Nat := [2 * p, 2 * p + 1]

/-- The blocks of a port FPp. -/
def Base.halves (b : Base) (p : Nat) : List Nat := if b.split p then [2 * p, 2 * p + 1] else [2 * p]

/-- How many lanes a block has (R48). -/
def Base.laneCount (b : Base) (k : Nat) : Nat := if b.split (k / 2) then 4 else 8

/-- Its first physical lane. -/
def Base.laneBase (b : Base) (k : Nat) : Nat := 8 * (k / 2) + if b.split (k / 2) then 4 * (k % 2) else 0

/-- The block of a physical lane. -/
def Base.blockOfLane (b : Base) (l : Nat) : Nat := 2 * (l / 8) + if b.split (l / 8) then (l % 8) / 4 else 0

/-- The physical lanes of a block. -/
def Base.lanesOf (b : Base) (k : Nat) : List Nat := (List.range (b.laneCount k)).map (· + b.laneBase k)

/-- The physical lanes of a width under a numbering (R51, R79). -/
def widthLanes (base n w : Nat) (rev : Bool) : List Nat :=
  (List.range w).map fun i => if rev then base + n - 1 - i else base + i

/-- A width and numbering can be used when every lane of it is usable. -/
def widthFits (ok : Nat → Bool) (base n w : Nat) (rev : Bool) : Bool := (widthLanes base n w rev).all ok

/-- The widest width of at most `cap` lanes over usable lanes, of the numbering preferred at equal width (R51, R79). -/
def bestWidth (ok : Nat → Bool) (base n cap : Nat) (prefer : Bool) : Option (Nat × Bool) :=
  [8, 4, 2, 1].findSome? fun w =>
    if w ≤ n ∧ w ≤ cap then
      if widthFits ok base n w prefer then some (w, prefer)
      else if widthFits ok base n w (!prefer) then some (w, !prefer) else none
    else none

/-- A lane that detected a receiver and is not excluded. -/
def Base.laneUsable (b : Base) (k l : Nat) : Bool := (b.port k).detected.getLsbD (l - b.laneBase k) && !(b.lane l).excluded

/-- The lanes of the width in use. -/
def Base.activeLanes (b : Base) (k : Nat) : List Nat := (b.lanesOf k).filter fun l => (b.lane l).logical < (b.port k).activeWidth

/-- The clock recovery of some lanes runs and has locked, with block lock at 8 GT/s and above (R61, R90). -/
def Base.lockLanes (b : Base) (ls : List Nat) (rate : Nat) : Base :=
  ls.foldl (fun (b : Base) (l : Nat) => b.updLane l fun x => { x with bitLock := true, blockLock := decide (2 ≤ rate) }) b

/-- The clock recovery of some lanes is off (R72). -/
def Base.unlockLanes (b : Base) (ls : List Nat) : Base :=
  ls.foldl (fun (b : Base) (l : Nat) => b.updLane l fun x => { x with bitLock := false, blockLock := false }) b

/-- Logical lanes are placed for a width and numbering; the others read 0xFF and stay idle (R78, R90). -/
def Base.numberLanes (b : Base) (k w : Nat) (rev : Bool) : Base :=
  let base := b.laneBase k
  let n := b.laneCount k
  let b := (b.lanesOf k).foldl (fun b l =>
    let i := if rev then base + n - 1 - l else l - base
    b.updLane l fun x =>
      if i < w then { x with logical := i } else { x with logical := 255, bitLock := false, symLock := false, blockLock := false }) b
  b.updPort k fun p => { p with width := w, activeWidth := w, reversed := rev }

/-- A lane is excluded (R78): LANE_ERR_COUNT counts the training, and the lane's source reports it. An excluded training counts where
the lane is newly excluded, and not at each later training that leaves it out (DESIGN CHOICE, entry 118). -/
def Base.excludeLane (b : Base) (l : Nat) : Base :=
  if (b.lane l).excluded then b
  else
    let b := b.updLane l fun x => { x with excluded := true, belowFloor := false }
    let b := b.updPort (b.blockOfLane l) fun p => { p with narrowed := true }
    (b.bump (Reg.LANE_ERR_COUNT l)).send .laneExcluded l (laneAddr l)

/-- The width that no exclusion would narrow. -/
def Base.fullWidth (b : Base) (k : Nat) : Nat :=
  let p := b.port k
  ((bestWidth (fun l => p.detected.getLsbD (l - b.laneBase k)) (b.laneBase k) (b.laneCount k) p.offered false).map (·.1)).getD 0

/-- WIDTH_REDUCED follows once the port is in L0 at a width that an exclusion narrowed (R80). -/
def Base.reportWidth (b : Base) (k : Nat) : Base :=
  let p := b.port k
  if p.narrowed then
    let b := b.setPort k { p with narrowed := false }
    if p.width < b.fullWidth k then b.send .widthReduced (0x40 + k) (portAddr k) else b
  else b

/-! ### Link down -/

/-- A request of a port whose link went down completes and answers nothing (R81). -/
def Req.leave (k : Nat) (q : Req) : Req := match q.who with
  | .host p ld _ => if p.toNat = k then { q with who := .gone ld } else q
  | _ => q

/-- The request came by the port. -/
def Req.ofPort (k : Nat) (q : Req) : Bool := match q.who with | .host p _ _ => p.toNat == k | _ => false

def Entry.leave (k : Nat) (e : Entry) : Entry := { e with req := e.req.leave k }

/-- A fill under way whose starting request came by the port (R148). -/
def Fill.startedBy (k : Nat) (f : Fill) : Bool :=
  !f.released && f.claim.isNone && (match f.held with | { who := .host p _ _, .. } :: _ => p.toNat == k | _ => false)

/-- Every request of a port that waits in the part loses its way back (R81). A fill that such a request started is interrupted: its stripe
stays unmarked, its starting request and the port's others are dropped, and what else it held is presented again (R148). -/
def Base.dropRequests (b : Base) (k : Nat) : Base :=
  let b := b.updCoh fun c => { c with
    trackers := c.trackers.map fun t => { t with req := t.req.leave k }
    waiting := c.waiting.map fun w => { w with req := w.req.leave k }
    conflicts := c.conflicts.filter fun x => x.1.toNat != k }
  let cut := b.lay.fills.filter fun f => f.startedBy k
  let b := b.updLay fun l => { l with
    fills := (l.fills.filter fun f => !f.startedBy k).map fun f => { f with held := f.held.map (Req.leave k) }
    fillWait := l.fillWait.map fun w => (w.1.leave k, w.2) }
  let b := b.updDram fun d => { d with chans := d.chans.map fun c =>
    (c.1, { c.2 with
      readQ := c.2.readQ.map (Entry.leave k)
      writeQ := c.2.writeQ.map (Entry.leave k)
      xbar := c.2.xbar.map (Entry.leave k)
      upstream := c.2.upstream.map (Entry.leave k)
      feed := c.2.feed.map (Entry.leave k)
      inflight := c.2.inflight.map fun i : Inflight => { i with entry := i.entry.leave k } }) }
  (cut.flatMap fun f => f.held).foldl (fun b q => if q.ofPort k then b.release q else b.present q) b

/-- Snoops held for the port's hosts are timed from now (R245). -/
def Base.timeSnoops (b : Base) (k : Nat) : Base :=
  let f := fun s : Snoop => if (!s.sent && s.sentAt.isNone && b.portOf s.host.toNat == k) = true then { s with sentAt := some b.now } else s
  b.updCoh fun c => { c with trackers := c.trackers.map fun t => { t with snoops := t.snoops.map f } }

/-- The conventional reset of a logical device (R110): its registers, decoders, label extension, MSI-X table and
declarations return to their reset values; binding, ranges, event logs and memory stay. -/
def Base.resetLd (b : Base) (h : Nat) : Base :=
  let d := b.ld h
  let b := b.setLd h { linesRead := d.linesRead, linesWritten := d.linesWritten, bytesMoved := d.bytesMoved }
  b.updCoh fun c => { c with ldReset := setBit c.ldReset h true }

/-- A port with nothing trained, going to a state without a link. An insecure stream stays insecure (R115). -/
def Port.fresh (p : Port) (st : LinkState) : Port :=
  { p with
    link := st, rate := 0, width := 0, activeWidth := 0, stepping := false, latOpt := false, cxl := false, detected := 0, offered := 8,
    reversed := false, frozen := false, idleRun := 0, goodRun := 0, badRun := 0, aligned := false, reeqOwed := false, phase2 := [],
    tx := none, exiting := false, wakeAt := none, wakeLate := false, ltrSent := false, txq := [], replay := [], slot := [],
    ide := if p.ide = 2 then 2 else 0, ideFlits := 0
    unverified := [] }

/-- A lane of a port that is not trained; its measured eye and its baseline stay (R91). -/
def Lane.fresh (l : Lane) : Lane :=
  { l with
    bitLock := false, symLock := false, blockLock := false, polarity := false, margining := false, logical := 255,
    adapt := 0, startFrom := none, below := 0, recheck := false, belowFloor := false, caused := [] }

/-- A port stops training or running, whatever it did (R59). -/
def Base.toState (b : Base) (k : Nat) (st : LinkState) : Base :=
  let b := (b.lanesOf k).foldl (fun b l => b.updLane l Lane.fresh) b
  b.updPort k fun p => p.fresh st

/-- A link goes down (R81): what the link carried is discarded, queued work completes, LINK_DOWN is sent, outside the shadow
when a reset of the port took it down (R401), and the logical devices bound to the port are reset (R110). -/
def Base.linkDownTo (b : Base) (k : Nat) (st : LinkState) (byReset : Bool) : Base :=
  if !(b.port k).linked then b.toState k st
  else
    let b := (((b.toState k st).dropRequests k).timeSnoops k).bump (Reg.LINK_DOWN_COUNT k)
    let b := if byReset then b.sendOutside .linkDown (0x40 + k) (portAddr k) else b.send .linkDown (0x40 + k) (portAddr k)
    let b := if b.flt.fatal then b else { b with flt := { b.flt with viral := setBit b.flt.viral k false } }
    (b.hostsOn k).foldl (fun b h => ((b.resetLd h).hostReset h).linkDownQueues h) b

/-- The link of a block goes down to Detect, or to the hold of HOLD_DETECT, by a reset of the block. -/
def Base.linkDown (b : Base) (k : Nat) : Base :=
  b.linkDownTo k (if tb (b.reg (Reg.PORT_CTRL k)) 0 then .held else .detect) true

/-- A block that was reset has entered Detect: its shadow closes one epoch later (R401, R402). DEDUCED (entry 47): Detect is
entered when the port begins receiver detection, not when its link drops. -/
def Base.blockReady (b : Base) (block : Nat) : Base :=
  { b with flt := { b.flt with shadows := b.flt.shadows.map fun s =>
      if s.block = block then { s with closeAt := min s.closeAt (b.now + 1000) } else s } }

/-! ### Reaching L0 -/

/-- Responses and snoops that waited for the link leave (R73, R245). -/
def Base.flushLink (b : Base) (k : Nat) : Base :=
  let p := b.port k
  if p.carries then
    let b := b.setPort k (p.txq.foldl Port.sent { p with txq := [] })
    (p.txq.foldl Base.emit b).releaseSnoops k
  else b

/-- The port is in L0: WAKE_N is released, and adaptation runs. The LTR message goes out when the link is first there at a rate that
carries CXL.io (R52, R69, R73, R76; DEDUCED, entry 119). -/
def Base.enterL0 (b : Base) (k : Nat) : Base :=
  let p := b.port k
  let first := decide (2 ≤ p.rate) && !p.ltrSent
  let b := b.setPort k { p with
    link := .l0, exiting := false, wakeAt := none, wakeLate := false, frozen := false, idleRun := 0, ltrSent := p.ltrSent || first }
  let b := if first then b.emit (.ltr (BitVec.ofNat 4 k) (b.reg (Reg.PORT_LTR k))) else b
  (b.reportWidth k).flushLink k

/-- A Recovery is entered from L0 or L0p, or a request joins the one under way (R71): one that asks for re-equalisation turns a Recovery
entered in the same cycle into one with it, and is owed after an earlier one. Adaptation resumes (R69). More than 8 in 1 s send
RECOVERY_STORM (R84). A request while the port trains, or is in L1 or L1.2, lapses (DESIGN CHOICE, entry 120). -/
def Base.enterRecovery (b : Base) (k : Nat) (reeq : Bool) : Base :=
  let p := b.port k
  if p.link = .recovery ∧ reeq then
    if p.recoveries.head? = some b.now ∧ p.exiting = false then
      let b := b.setPort k { p with link := .recoveryEq }
      { b with out := replaceFirst (fun e => e == .recovery (BitVec.ofNat 4 k) false) (.recovery (BitVec.ofNat 4 k) true) b.out }
    else b.setPort k { p with reeqOwed := true }
  else if p.link = .l0 ∨ p.link = .l0p then
    let recent := p.recoveries.filter (fun t => b.now < t + 1000000000)
    let b := b.lockLanes ((b.lanesOf k).filter fun l => decide (p.activeWidth ≤ (b.lane l).logical) && decide ((b.lane l).logical < p.width)) p.rate
    let b := b.setPort k { p with
      link := if reeq then .recoveryEq else .recovery, activeWidth := p.width, recoveries := (b.now :: recent).take 9, frozen := false
      idleRun := 0, phase2 := [] }
    let b := (b.bump (Reg.RECOVERY_COUNT k)).emit (.recovery (BitVec.ofNat 4 k) reeq)
    if recent.length = 8 then b.send .recoveryStorm (0x40 + k) (portAddr k) else b
  else b

/-- The port is supplied, clocked, enabled and not held, so that it can leave Detect (R55, R57, R66, R82). -/
def Base.canTrain (b : Base) (k : Nat) : Bool :=
  let p := b.port k
  b.alive && b.present_ k && p.enabled && !p.perst && p.refclk && p.pll && !b.pack.serdesOff && !tb (b.reg (Reg.PORT_CTRL k)) 0

/-- A command of a link that can train. -/
def State.training (s : State) (k : Nat) (st : LinkState → Bool) (f : Base → Base) : Host.Outcome State Fault Refusal :=
  s.whenBase (fun b => b.canTrain k && st (b.port k).link) f

/-- Exclusions and readmissions written since the last training take effect (R78, R90, R91). -/
def Base.applyLaneCtrl (b : Base) (k : Nat) : Base :=
  (b.lanesOf k).foldl (fun b l =>
    let force := tb (b.reg (Reg.LANE_CTRL l)) 1
    if force then (b.excludeLane l).updLane l fun x => { x with readmit := false }
    else if (b.lane l).readmit then b.updLane l fun x => { x with excluded := false, readmit := false }
    else b) b

/-- No width avoids the excluded lanes: the port stays in Detect and says so once (R79). -/
def Base.checkWidth (b : Base) (k : Nat) : Base :=
  let fits := (bestWidth (fun l => !(b.lane l).excluded) (b.laneBase k) (b.laneCount k) 8 false).isSome
  if fits then b.updPort k fun p => { p with noWidth := false }
  else
    let was := (b.port k).noWidth
    let b := (b.toState k .detect).updPort k fun p => { p with noWidth := true }
    if was then b else b.send .portNoWidth (0x40 + k) (portAddr k)

/-! ### Stages 1 to 4 (R59) -/

/-- DETECT_RETRY (R59, R401): receiver detection every 12 ms; a port in Hot Reset or Disabled enters Detect. -/
def execDetectRetry (k : PortBlk) (s : State) : Host.Outcome State Fault Refusal :=
  s.training k.toNat (fun st => st == .detect || st == .hotReset || st == .disabled) fun b =>
    (b.updPort k.toNat fun p => { p with link := .detect }).blockReady k.toNat

/-- RECEIVER_DETECTED (R59): a training begins with Polling, once a lane detects a receiver and some width avoids the
excluded lanes. -/
def execReceiverDetected (k : PortBlk) (lanes : BitVec 8) (s : State) : Host.Outcome State Fault Refusal :=
  s.training k.toNat (fun st => st == .detect || st == .hotReset || st == .disabled) fun b =>
    let n := k.toNat
    let b := ((b.blockReady n).applyLaneCtrl n).checkWidth n
    let seen := lanes &&& BitVec.ofNat 8 (2 ^ b.laneCount n - 1)
    if (b.port n).noWidth || seen == 0 then b
    else b.updPort n fun p => { p with link := .polling, detected := seen }

/-- POLLING_COMPLETE (R59): bit lock on every lane that is kept. -/
def execPollingComplete (k : PortBlk) (locked : BitVec 8) (s : State) : Host.Outcome State Fault Refusal :=
  s.training k.toNat (fun st => st == .polling) fun b =>
    let n := k.toNat
    let kept := (b.lanesOf n).filter (b.laneUsable n)
    if kept ≠ [] ∧ kept.all (fun l => locked.getLsbD (l - b.laneBase n)) then
      (kept.foldl (fun b l => b.updLane l fun x => { x with bitLock := true }) b).updPort n fun p => { p with link := .symbolLock }
    else b

/-- POLLING_TIMEOUT (R59, R78): after 24 ms the lanes without lock are excluded, or with none locked the port returns to
Detect. Stage 3 fails in the same way. -/
def execPollingTimeout (k : PortBlk) (locked : BitVec 8) (s : State) : Host.Outcome State Fault Refusal :=
  s.training k.toNat (fun st => st == .polling || st == .symbolLock) fun b =>
    let n := k.toNat
    let kept := (b.lanesOf n).filter (b.laneUsable n)
    let bad := kept.filter (fun l => !locked.getLsbD (l - b.laneBase n))
    if bad.length = kept.length then b.toState n .detect
    else (bad.foldl Base.excludeLane b).checkWidth n

/-- SYMBOL_LOCK_DONE (R51, R59): symbol lock and deskew; polarity inversion is detected lane by lane. -/
def execSymbolLockDone (k : PortBlk) (inverted : BitVec 8) (s : State) : Host.Outcome State Fault Refusal :=
  s.training k.toNat (fun st => st == .symbolLock) fun b =>
    let n := k.toNat
    let kept := (b.lanesOf n).filter (b.laneUsable n)
    let b := kept.foldl (fun b l => b.updLane l fun x => { x with symLock := true, polarity := inverted.getLsbD (l - b.laneBase n) }) b
    b.updPort n fun p => { p with link := .configuration }

/-- CONFIGURATION_COMPLETE (R51, R59, R60, R79): the widest width that both ends have over the usable lanes, the link partner's
lane order preferred at equal width; CXL and the 256-byte flit format as agreed; the port is in L0 at 2.5 GT/s, and stage 5 begins. -/
def execConfigurationComplete (k : PortBlk) (offer : LinkOffer) (s : State) : Host.Outcome State Fault Refusal :=
  s.training k.toNat (fun st => st == .configuration) fun b =>
    let n := k.toNat
    match bestWidth (b.laneUsable n) (b.laneBase n) (b.laneCount n) offer.width.val offer.reversed with
    | none => b
    | some (w, rev) =>
      let b := b.numberLanes n w rev
      b.updPort n fun p => { p with
        link := .l0, stepping := true, rate := 0, cxl := offer.cxl, latOpt := offer.latOpt, offered := offer.width.val }

/-- CONFIGURATION_TIMEOUT (R59): 24 ms without agreement. -/
def execConfigurationTimeout (k : PortBlk) (s : State) : Host.Outcome State Fault Refusal :=
  s.training k.toNat (fun st => st == .configuration) fun b => b.toState k.toNat .detect

/-! ### Stage 5: rate steps and equalisation -/

/-- The lanes of the width that a mask names. -/
def Base.maskLanes (b : Base) (k : Nat) (m : BitVec 8) : List Nat :=
  (b.lanesOf k).filter fun l => decide ((b.lane l).logical < (b.port k).width) && m.getLsbD (l - b.laneBase k)

/-- Lanes that failed while others did not are excluded, and the width narrows under the present numbering. When the other numbering is
the only one, or in training is wider, the port trains again from Detect, and its link is down (R78, R79, R81). -/
def Base.narrow (b : Base) (k : Nat) (bad : List Nat) (inL0 : Bool) : Base :=
  let b := bad.foldl Base.excludeLane b
  let p := b.port k
  match bestWidth (b.laneUsable k) (b.laneBase k) (b.laneCount k) p.offered p.reversed with
  | none => (b.linkDownTo k .detect false).checkWidth k
  | some (w, rev) =>
    if rev = p.reversed then b.numberLanes k w rev
    else if inL0 then
      match [8, 4, 2, 1].find? fun w => decide (w ≤ b.laneCount k) && decide (w ≤ p.offered) && widthFits (b.laneUsable k) (b.laneBase k) (b.laneCount k) w p.reversed with
      | some w => b.numberLanes k w p.reversed
      | none => b.linkDownTo k .detect false
    else b.linkDownTo k .detect false

/-- A rate below 8 GT/s carries no CXL traffic (R52). -/
def Base.checkRate (b : Base) (k : Nat) : Base :=
  if (b.port k).rate < 2 then b.send .rateBelowMinimum (0x40 + k) (portAddr k) else b

/-- The baseline floor of a port at a rate, in 0.5 mV units (R70, R89). -/
def Base.eyeFloor (b : Base) (k rate : Nat) : Nat :=
  if rate = 5 then b.rf (Reg.EYE_POLICY k) 15 8 else 2 * b.rf (Reg.EYE_POLICY k) 23 16

/-- A lane's baseline and its start values in MRAM at the end of phase 3; a re-equalisation whose new baseline is below the floor
excludes the lane, and leaves no start values (R65, R70). -/
def Base.setBaseline (b : Base) (k rate : Nat) (re : Bool) (e : LaneEye) : Base :=
  let l := b.laneBase k + e.lane.toNat
  if (b.lane l).logical < (b.port k).width then
    let low := decide (e.height.toNat < b.eyeFloor k rate)
    let b := b.updLane l fun x => { x with baseHeight := e.height, baseWidth := e.width, baseRate := rate, belowFloor := re && low }
    { b with links := { b.links with eqStart := if low then Tab.erase (8 * l + rate) b.links.eqStart else Tab.insert (8 * l + rate) e.adapt b.links.eqStart } }
  else b

/-- Phase 3 has ended at a rate: what phase 2 measured there becomes the lanes' baseline (R65). -/
def Base.endPhase3 (b : Base) (k rate : Nat) (re : Bool) : Base :=
  let p := b.port k
  let b := if p.phase2Rate = rate then p.phase2.foldl (fun (b : Base) (e : LaneEye) => b.setBaseline k rate re e) b else b
  b.updPort k fun p => { p with phase2 := [] }

/-- RATE_STEP_COMPLETE (R59, R65, R76, R78): lock on every lane of the width ends the step, in L0 at the new rate; lanes that alone
failed are excluded and the port is back at the previous rate; a step in which every lane fails is an equalisation failure.
`final` says that no higher common rate is left. -/
def execRateStepComplete (k : PortBlk) (rate : Fin 6) (failed : BitVec 8) (final : Bool) (s : State) : Host.Outcome State Fault Refusal :=
  s.training k.toNat (fun st => st == .l0 || st == .rateStep) fun b =>
    let n := k.toNat
    let p := b.port n
    let bad := b.maskLanes n failed
    if !p.stepping || decide (rate.val < p.rate) then b
    else if bad = [] then
      let b := (b.lockLanes (b.activeLanes n) rate.val).endPhase3 n rate.val false
      let b := b.updPort n fun p => { p with link := .l0, rate := rate.val, stepping := !final, goodRun := 0, badRun := 0, aligned := false }
      if final then (b.enterL0 n).checkRate n else b
    else
      let b := b.setPort n { p with link := .l0, phase2 := [] }
      if bad.length = p.width then b.send .eqFailed (0x40 + n) (portAddr n) else b.narrow n bad false

/-- EQ_FAILED (R59): the rate that failed is left for the previous one, and nothing of its equalisation is recorded (R65). -/
def execEqFailed (k : PortBlk) (rate : Fin 6) (s : State) : Host.Outcome State Fault Refusal :=
  s.training k.toNat (fun st => st == .l0 || st == .rateStep) fun b =>
    let p := b.port k.toNat
    if !p.stepping || decide (rate.val ≤ p.rate) then b
    else (b.setPort k.toNat { p with link := .l0, phase2 := [] }).send .eqFailed (0x40 + k.toNat) (portAddr k.toNat)

/-- One lane at the end of phase 2 (R65): it began from the start values of its port, lane and rate where MRAM holds some. Those that
do not reach the baseline floor are discarded, and the lane's phase 2 goes on from the receiver's defaults (DEDUCED, entry 121). -/
def Base.measureLane (b : Base) (k rate : Nat) (e : LaneEye) : Base :=
  let l := b.laneBase k + e.lane.toNat
  let start := (b.links.eqStart.find? fun x => x.1 == 8 * l + rate).map (·.2)
  if e.lane.toNat < b.laneCount k ∧ (b.lane l).logical < (b.port k).width then
    if start.isSome = true ∧ e.height.toNat < b.eyeFloor k rate then
      { b.updLane l fun x => { x with startFrom := none } with links := { (b.updLane l fun x => { x with startFrom := none }).links with eqStart := Tab.erase (8 * l + rate) b.links.eqStart } }
    else
      let b := b.updLane l fun x => { x with startFrom := start, adapt := e.adapt }
      b.updPort k fun p => { p with phase2 := p.phase2.filter (fun x => x.lane != e.lane) ++ [e] }
  else b

/-- EQ_PHASE2_END (R64, R65): the part has requested settings of the host's transmitter, which the manual does not give, and has
measured the lanes at the rate; phase 3 follows, at whose end the baselines are recorded. A re-equalisation is at the current rate. -/
def execEqPhase2End (k : PortBlk) (rate : Fin 6) (eyes : List LaneEye) (s : State) : Host.Outcome State Fault Refusal :=
  s.training k.toNat (fun st => st == .l0 || st == .rateStep || st == .recoveryEq) fun b =>
    let n := k.toNat
    let p := b.port n
    let re := p.link == .recoveryEq
    if rate.val < 2 ∨ (if re then rate.val ≠ p.rate else p.stepping = false ∨ rate.val ≤ p.rate) then b
    else
      let (f, b) := b.takeFree
      let b := b.emit (.txRequest k rate.val (Config.freeNat f))
      let b := b.setPort n { p with link := if re then .recoveryEq else .rateStep, phase2Rate := rate.val, phase2 := if p.phase2Rate = rate.val then p.phase2 else [] }
      eyes.foldl (fun (b : Base) (e : LaneEye) => b.measureLane n rate.val e) b

/-- The transmitter can take a setting: every standard preset, and the coefficients within its range (R64). -/
def txAccepted (rate : Nat) : TxSetting → Bool
  | .preset _ => true
  | .coefficients c => Config.txInRange rate c

/-- PHASE3_PRESET_REQUEST (R54, R64): in equalisation, which is at 8 GT/s and above, a setting within the transmitter's range is applied and
reported as accepted. -/
def execPhase3PresetRequest (k : PortBlk) (set : TxSetting) (s : State) : Host.Outcome State Fault Refusal :=
  s.training k.toNat (fun st => st == .rateStep || st == .recoveryEq) fun b =>
    let p := b.port k.toNat
    if p.phase2Rate < 2 then b
    else
      let ok := txAccepted p.phase2Rate set
      (if ok then b.setPort k.toNat { p with tx := some set } else b).emit (.presetAnswer k ok)

/-! ### Flits -/

/-- A MAC failure under containment (R115): the epoch is discarded, and the stream is insecure. -/
def Base.macFailed (b : Base) (k : Nat) : Base :=
  (b.updPort k fun p => { p with ide := 2, ideFlits := 0, unverified := [], slot := [] }).send .ideIntegrityFail (0xA0 + k) (portAddr k)

/-- FLIT_ALIGNMENT (R62): four consecutive good flits at 64 GT/s. -/
def execFlitAlignment (k : PortBlk) (s : State) : Host.Outcome State Fault Refusal :=
  s.training k.toNat (fun st => st == .l0 || st == .l0p) fun b =>
    let p := b.port k.toNat
    if p.rate = 5 ∧ 4 ≤ p.goodRun then b.setPort k.toNat { p with aligned := true } else b

/-- ALIGNMENT_LOST (R62): eight consecutive failed flits. -/
def execAlignmentLost (k : PortBlk) (s : State) : Host.Outcome State Fault Refusal :=
  s.training k.toNat (fun st => st == .l0 || st == .l0p) fun b =>
    let p := b.port k.toNat
    if p.rate = 5 ∧ p.aligned = true ∧ 8 ≤ p.badRun then
      ((b.setPort k.toNat { p with aligned := false, badRun := 0 }).send .alignmentLost (0x40 + k.toNat) (portAddr k.toNat)).enterRecovery k.toNat false
    else b

/-- LOCK_LOST (R61): a lane of the width at 8 to 32 GT/s loses block lock, in Recovery as well as in L0. -/
def execLockLost (l : LaneId) (s : State) : Host.Outcome State Fault Refusal :=
  s.training (s.base.blockOfLane l.toNat) (fun st => st == .l0 || st == .l0p || st == .recovery || st == .recoveryEq) fun b =>
    let n := l.toNat
    let k := b.blockOfLane n
    let p := b.port k
    if 2 ≤ p.rate ∧ p.rate ≤ 4 ∧ (b.lane n).logical < p.activeWidth ∧ (b.lane n).blockLock = true then
      let b := ((b.updLane n fun x => { x with blockLock := false }).bump (Reg.LOCK_LOSS_COUNT k)).bump (Reg.LANE_ERR_COUNT n)
      (b.send .lockLost n (laneAddr n)).enterRecovery k false
    else b

/-- ADAPT_FREEZE (R67): 1,024 consecutive IDLE or NOP flits. -/
def execAdaptFreeze (k : PortBlk) (s : State) : Host.Outcome State Fault Refusal :=
  s.training k.toNat (fun st => st == .l0 || st == .l0p) fun b =>
    if 1024 ≤ (b.port k.toNat).idleRun then b.updPort k.toNat fun p => { p with frozen := true } else b

/-! ### Eye checks -/

/-- What a lane's check asks for: nothing, a Recovery, or one with re-equalisation (R69, R70). -/
inductive EyeAsk where
  | none | recovery | reeq
deriving DecidableEq, Repr

/-- One lane's check: its state after it, and what it asks for (R68 to R70). -/
def Lane.check (x : Lane) (now pct consec : Nat) (e : LaneEye) : Lane × EyeAsk :=
  let x := { x with height := e.height, widthUI := e.width, eyeAt := some now }
  let low := decide (100 * e.height.toNat < pct * x.baseHeight.toNat) || decide (100 * e.width.toNat < pct * x.baseWidth.toNat)
  let caused := x.caused.filter (fun t => now < t + 1000000000)
  if !low then ({ x with below := 0, recheck := false, caused := caused }, .none)
  else if x.recheck && decide (2 ≤ caused.length) then ({ x with below := 0, recheck := false, caused := caused }, .reeq)
  else if consec ≤ x.below + 1 then ({ x with below := 0, recheck := true, caused := (now :: caused).take 2 }, .recovery)
  else ({ x with below := x.below + 1, recheck := false, caused := caused }, .none)

/-- EYE_CHECK (R68 to R70, R77): every lane in use is measured; a lane under margining is skipped and counted. -/
def execEyeCheck (k : PortBlk) (eyes : List LaneEye) (s : State) : Host.Outcome State Fault Refusal :=
  s.training k.toNat (fun st => st == .l0 || st == .l0p) fun b =>
    let n := k.toNat
    if tb (b.reg (Reg.PORT_CTRL n)) 3 then b
    else
      let pct := b.rf (Reg.EYE_POLICY n) 7 0
      let consec := b.rf (Reg.EYE_POLICY n) 27 24
      let (b, asks) := (b.activeLanes n).foldl (fun (b, asks) l =>
        if (b.lane l).margining then (b.bump (Reg.LANE_ERR_COUNT l), asks)
        else match eyes.find? fun e => b.laneBase n + e.lane.toNat == l with
          | none => (b, asks)
          | some e =>
            let (x, ask) := (b.lane l).check b.now pct consec e
            let b := b.setLane l x
            if ask = .none then (b, asks) else (b.send .eyeBelowThreshold l (laneAddr l), ask :: asks)) (b, ([] : List EyeAsk))
      if asks.contains .reeq then b.enterRecovery n true
      else if asks.contains .recovery then b.enterRecovery n false
      else b

/-- EYE_CHECK_DISABLE (R88). -/
def execEyeCheckDisable (k : PortBlk) (s : State) : Host.Outcome State Fault Refusal :=
  s.whenBase (fun b => b.mgmtFull && b.present_ k.toNat) fun b => b.setReg (Reg.PORT_CTRL k.toNat) (b.reg (Reg.PORT_CTRL k.toNat) ||| 8)

/-! ### Recovery -/

/-- ACTIVE of the label extension (R117): ENABLE, and the port in 256-byte flit mode with CXL_MODE 1. -/
def Base.extActive (b : Base) (h : Nat) : Bool :=
  let p := b.port (b.portOf h)
  (b.ld h).lblEnable && b.carried h && p.cxlMode && decide (2 ≤ p.flitFormat)

/-- A change of ACTIVE raises vector 5 (R117). -/
def Base.refreshActive (b : Base) (k : Nat) : Base :=
  (b.hostsOn k).foldl (fun b h =>
    if b.extActive h = (b.ld h).lblActive then b
    else (b.updLd h fun d => { d with lblActive := !d.lblActive, lblFrom := (b.port k).flitsRx }).msixHost h 5) b

/-- HOST_RECOVERY_REQUEST (R71). -/
def execHostRecoveryRequest (k : PortBlk) (reeq : Bool) (s : State) : Host.Outcome State Fault Refusal :=
  s.training k.toNat (fun _ => true) fun b => b.enterRecovery k.toNat reeq

/-- RECOVERY_COMPLETE (R65, R70, R71, R78, R79): a re-equalisation sets new baselines; lanes that regained no lock while others did, or
whose new baseline is below the floor, are excluded; the port is in L0 again, at the rate both ends settled on, or with no usable
width in Detect. A re-equalisation owed follows. -/
def execRecoveryComplete (k : PortBlk) (rate : Fin 6) (failed : BitVec 8) (s : State) : Host.Outcome State Fault Refusal :=
  s.training k.toNat (fun st => st == .recovery || st == .recoveryEq) fun b =>
    let n := k.toNat
    let p := b.port n
    let lost := b.maskLanes n failed
    if lost.length = p.width then b.linkDownTo n .detect false
    else
      let b := if p.link = .recoveryEq then b.endPhase3 n p.rate true else b
      let bad := lost ++ (b.activeLanes n).filter fun l => (b.lane l).belowFloor && !lost.contains l
      let b := if bad = [] then b else b.narrow n bad true
      if !(b.port n).linked then b
      else
        let b := b.lockLanes (b.activeLanes n) rate.val
        let owed := (b.port n).reeqOwed
        let moved := rate.val ≠ (b.port n).rate
        let b := (b.updPort n fun p => { p with rate := rate.val, reeqOwed := false, goodRun := 0, badRun := 0, aligned := false }).enterL0 n
        let b := if moved then (b.checkRate n).refreshActive n else b
        if owed then b.enterRecovery n true else b

/-! ### Link power states (R72 to R75) -/

/-- L0P_ENTRY: the host narrows the link in 256-byte flit mode; the clock recovery of the lanes left idle is off (R72). -/
def execL0pEntry (k : PortBlk) (width : Fin 9) (s : State) : Host.Outcome State Fault Refusal :=
  s.training k.toNat (fun st => st == .l0) fun b =>
    let p := b.port k.toNat
    if 2 ≤ p.flitFormat ∧ (width.val = 1 ∨ width.val = 2 ∨ width.val = 4) ∧ width.val < p.width then
      let b := b.unlockLanes ((b.activeLanes k.toNat).filter fun l => decide (width.val ≤ (b.lane l).logical))
      b.setPort k.toNat { p with link := .l0p, activeWidth := width.val }
    else b

/-- L0P_EXIT: the host restores the full width, and the lanes that were idle lock again (R72). -/
def execL0pExit (k : PortBlk) (s : State) : Host.Outcome State Fault Refusal :=
  s.training k.toNat (fun st => st == .l0p) fun b =>
    let b := b.updPort k.toNat fun p => { p with link := .l0, activeWidth := p.width }
    b.lockLanes (b.activeLanes k.toNat) (b.port k.toNat).rate

/-- A state in which no lane's clock recovery runs (R72). -/
def Base.sleepLink (b : Base) (k : Nat) (st : LinkState) : Base :=
  (b.unlockLanes (b.lanesOf k)).updPort k fun p => { p with link := st, activeWidth := p.width }

/-- L1_ENTRY. -/
def execL1Entry (k : PortBlk) (s : State) : Host.Outcome State Fault Refusal :=
  s.training k.toNat (fun st => st == .l0 || st == .l0p) fun b => b.sleepLink k.toNat .l1

/-- L1_2_ENTRY. -/
def execL12Entry (k : PortBlk) (s : State) : Host.Outcome State Fault Refusal :=
  s.training k.toNat (fun st => st == .l0 || st == .l0p || st == .l1) fun b => b.sleepLink k.toNat .l12

/-- PHY_FPp is off: every half of the port is in L1.2 (R74). -/
def Base.phyOff (b : Base) (p : Nat) : Bool := (b.halves p).all fun k => (b.port k).link == .l12

/-- ELECTRICAL_IDLE_EXIT (R72, R73): the host starts the exit; the link passes through Recovery to L0. -/
def execElectricalIdleExit (k : PortBlk) (s : State) : Host.Outcome State Fault Refusal :=
  s.training k.toNat (fun st => st == .l1 || st == .l12) fun b => b.updPort k.toNat fun p => { p with link := .recovery, exiting := true }

/-- The part has something to send on the port. -/
def Base.wantsLink (b : Base) (k : Nat) : Bool :=
  (b.port k).txq != [] || b.coh.trackers.any fun t => t.snoops.any fun s => !s.sent && b.bound s.host.toNat && b.portOf s.host.toNat == k

/-- PART_LINK_EXIT (R72, R73): the part starts the exit from L1, or asserts WAKE_N in L1.2. -/
def execPartLinkExit (k : PortBlk) (s : State) : Host.Outcome State Fault Refusal :=
  s.training k.toNat (fun st => st == .l1 || st == .l12) fun b =>
    let p := b.port k.toNat
    if !b.wantsLink k.toNat then b
    else if p.link = .l1 then (b.setPort k.toNat { p with link := .recovery, exiting := true }).emit (.linkExit k)
    else if p.wakeAt.isSome then b
    else (b.setPort k.toNat { p with wakeAt := some b.now, wakeLate := false }).emit (.linkExit k)

/-- WAKE_TIMEOUT (R84): no exit 1 ms after WAKE_N was asserted. -/
def execWakeTimeout (k : PortBlk) (s : State) : Host.Outcome State Fault Refusal :=
  s.training k.toNat (fun st => st == .l12) fun b =>
    let p := b.port k.toNat
    match p.wakeAt with
    | some t =>
      if t + 1000000 ≤ b.now ∧ p.wakeLate = false then
        (b.setPort k.toNat { p with wakeLate := true }).send .wakeTimeout (0x58 + k.toNat / 2) (portAddr k.toNat)
      else b
    | none => b

/-! ### Resets, clocks and control registers -/

/-- PERST_ASSERT (R50, R58, R78, R81, R401): both halves; exclusions end. -/
def execPerstAssert (p : BitVec 3) (s : State) : Host.Outcome State Fault Refusal :=
  s.then_ fun b => (pinBlocks p.toNat).foldl (fun (b : Base) (k : Nat) =>
    if (b.port k).perst then b
    else
      let b := if b.alive && b.present_ k then (b.openShadow k 100000).linkDown k else b
      let b := if b.present_ k then (b.lanesOf k).foldl (fun b l => b.updLane l fun x => { x with excluded := false }) b else b
      b.updPort k fun x => { x with perst := true, noWidth := false, narrowed := false }) b

/-- PERST_RELEASE (R66): the port may enter Detect, which the next receiver detection does. -/
def execPerstRelease (p : BitVec 3) (s : State) : Host.Outcome State Fault Refusal :=
  s.then_ fun b => (pinBlocks p.toNat).foldl (fun (b : Base) (k : Nat) => b.updPort k fun x => { x with perst := false }) b

/-- The state a block without a link holds: Detect, or the hold of PORT_CTRL. -/
def Base.restState (b : Base) (k : Nat) : LinkState := if tb (b.reg (Reg.PORT_CTRL k)) 0 then .held else .detect

/-- REFCLK_LOST (R57): the links of the port go down and it holds in Detect. -/
def execRefclkLost (p : BitVec 3) (s : State) : Host.Outcome State Fault Refusal :=
  s.whenBase Base.alive fun b =>
    if (b.port (2 * p.toNat)).refclk then
      let b := (b.halves p.toNat).foldl (fun b k => b.linkDownTo k (b.restState k) false) b
      let b := (pinBlocks p.toNat).foldl (fun (b : Base) (k : Nat) => b.updPort k fun x => { x with refclk := false }) b
      b.send .refclkLost (0x50 + p.toNat) (p.toNat * 16 + 15)
    else b

/-- REFCLK_RESTORED (R57): the clock is present and the PLL locked for 100 µs; the port may train again. -/
def execRefclkRestored (p : BitVec 3) (s : State) : Host.Outcome State Fault Refusal :=
  s.whenBase Base.alive fun b => (pinBlocks p.toNat).foldl (fun (b : Base) (k : Nat) => b.updPort k fun x => { x with refclk := true, pll := true }) b

/-- PLL_UNLOCK (R84). -/
def execPllUnlock (p : BitVec 3) (s : State) : Host.Outcome State Fault Refusal :=
  s.whenBase Base.alive fun b =>
    let b := (pinBlocks p.toNat).foldl (fun (b : Base) (k : Nat) => b.updPort k fun x => { x with pll := false }) b
    b.send .pllUnlock (0x50 + p.toNat) (p.toNat * 16 + 15)

/-- HOST_LINK_RESET (R81, R401): Hot Reset, which opens the block's shadow, or Disabled. -/
def execHostLinkReset (k : PortBlk) (disable : Bool) (s : State) : Host.Outcome State Fault Refusal :=
  s.whenBase (fun b => b.alive && b.present_ k.toNat && (b.port k.toNat).linked) fun b =>
    if disable then b.linkDownTo k.toNat .disabled false
    else (b.openShadow k.toNat 100000).linkDownTo k.toNat .hotReset true

/-- The margining that the part reports at a rate (R77). -/
def marginCaps (rate : Nat) : MarginCaps := { voltageSpan := if rate = 5 then 12 else 50 }

/-- MARGIN_SESSION_START (R77): at 16 GT/s and above, on a lane in use, which reports what it can margin. -/
def execMarginSessionStart (l : LaneId) (s : State) : Host.Outcome State Fault Refusal :=
  s.training (s.base.blockOfLane l.toNat) (fun st => st == .l0 || st == .l0p) fun b =>
    let p := b.port (b.blockOfLane l.toNat)
    if 3 ≤ p.rate ∧ (b.lane l.toNat).logical < p.activeWidth then
      (b.updLane l.toNat fun x => { x with margining := true }).emit (.marginCaps l (marginCaps p.rate))
    else b

/-- MARGIN_SESSION_END (R77). -/
def execMarginSessionEnd (l : LaneId) (s : State) : Host.Outcome State Fault Refusal :=
  s.whenBase Base.alive fun b => b.updLane l.toNat fun x => { x with margining := false }

/-- A write of PORT_CTRL (R71, R82, R88, R401). -/
def Base.writePortCtrl (b : Base) (k : Nat) (v : Word) : Base :=
  let held := tb (b.reg (Reg.PORT_CTRL k)) 0
  let b := b.setReg (Reg.PORT_CTRL k) (v &&& 9)
  if tb v 0 then
    if held then b else (b.openShadow k 100000).linkDownTo k .held true
  else
    let b := if (b.port k).link = .held then b.updPort k fun p => { p with link := .detect } else b
    if tb v 2 then b.enterRecovery k true else if tb v 1 then b.enterRecovery k false else b

/-- PORT_HOLD_DETECT (R82). -/
def execPortHoldDetect (k : PortBlk) (s : State) : Host.Outcome State Fault Refusal :=
  s.whenBase (fun b => b.mgmtFull && b.present_ k.toNat) fun b => b.writePortCtrl k.toNat (b.reg (Reg.PORT_CTRL k.toNat) ||| 1)

/-- PORT_RETRAIN (R71, R88). -/
def execPortRetrain (k : PortBlk) (s : State) : Host.Outcome State Fault Refusal :=
  s.whenBase (fun b => b.mgmtFull && b.present_ k.toNat) fun b => b.enterRecovery k.toNat false

/-- PORT_REEQ (R71, R88). -/
def execPortReeq (k : PortBlk) (s : State) : Host.Outcome State Fault Refusal :=
  s.whenBase (fun b => b.mgmtFull && b.present_ k.toNat) fun b => b.enterRecovery k.toNat true

/-- A write of LANE_CTRL (R78, R90, R91): a READMIT waits for the next training, whatever later writes hold; one written together with
FORCE_EXCLUDE leaves the lane excluded. -/
def Base.writeLaneCtrl (b : Base) (l : Nat) (v : Word) : Base :=
  let b := b.setReg (Reg.LANE_CTRL l) (v &&& 2)
  if tb v 0 then b.updLane l fun x => { x with readmit := !tb v 1 } else b

/-- LANE_READMIT (R78, R90, R91). -/
def execLaneReadmit (l : LaneId) (s : State) : Host.Outcome State Fault Refusal :=
  s.whenBase Base.mgmtFull fun b => b.writeLaneCtrl l.toNat (b.reg (Reg.LANE_CTRL l.toNat) ||| 1)

/-- LANE_FORCE_EXCLUDE (R78, R90). -/
def execLaneForceExclude (l : LaneId) (s : State) : Host.Outcome State Fault Refusal :=
  s.whenBase Base.mgmtFull fun b => b.writeLaneCtrl l.toNat (b.reg (Reg.LANE_CTRL l.toNat) ||| 2)

/-- COUNT_CLEAR (R86). -/
def execCountClear (k : PortBlk) (v : Word) (s : State) : Host.Outcome State Fault Refusal :=
  s.whenBase (fun b => b.mgmtFull && b.present_ k.toNat) fun b => b.clearCounters (Reg.RECOVERY_COUNT k.toNat) 5 v

/-! ### Conditions that outlast a shadow (R403) -/

/-- The condition of a shadowed message still holds at the close of the shadow. -/
def Base.conditionHolds (b : Base) (m : Msg) : Bool :=
  let k := m.source - 0x40
  match m.kind with
  | .lockLost =>
    let p := b.port (b.blockOfLane m.source)
    p.linked && decide ((b.lane m.source).logical < p.width) && !(b.lane m.source).blockLock
  | .alignmentLost => (b.port k).linked && (b.port k).rate == 5 && !(b.port k).aligned
  | .laneExcluded => (b.lane m.source).excluded
  | .portNoWidth => (b.port k).noWidth
  | .rateBelowMinimum => (b.port k).linked && !(b.port k).stepping && decide ((b.port k).rate < 2)
  | .refclkLost => !(b.port (2 * (m.source - 0x50))).refclk
  | .pllUnlock => !(b.port (2 * (m.source - 0x50))).pll
  | .ideIntegrityFail => (b.port (m.source - 0xA0)).linked && (b.port (m.source - 0xA0)).ide == 2
  | .ringFault =>
    let q := b.queue (m.addr.toNat / 4096 % 64)
    q.state == 2 && (q.error == 1 || q.error == 2)
  | .fastPathLost => let x := b.bus (m.addr.toNat % 4); x.retired || x.testing
  | .sensorFailed => (b.diode (m.source - 0x510)).failed
  | _ => false

end Sys2Proof.Machine
end

