-- ==== Sys2Proof/Machine/Mram.lean ====
section
/-! DEFINITION. Machine/Mram.lean: a record in MRAM with its two copies and two commit words (R373), and how it reads (R374). -/

namespace Sys2Proof.Machine

/-- A record as it is first written. -/
def MramRec.first {α : Type} (v : α) : MramRec α := { x := some v, y := some v, a := some (0, false, true), b := some (0, false, true) }

/-- The commit word a reader takes: A if its own CRC verifies, otherwise B (R374). -/
def MramRec.commit {α : Type} (r : MramRec α) : Option (Nat × Bool × Bool) := r.a.orElse fun _ => r.b

/-- The copy with the content, `true` for Y. -/
def MramRec.copy {α : Type} (r : MramRec α) (y : Bool) : Option α := if y then r.y else r.x

/-- A reader's content, and whether it came from the mirror; none when the record is lost (R374). -/
def MramRec.read {α : Type} (r : MramRec α) : Option (α × Bool) :=
  match r.commit with
  | none => none
  | some (_, primary, mirror) =>
    match r.copy primary with
    | some v => some (v, false)
    | none => if mirror then (r.copy (!primary)).map fun v => (v, true) else none

/-- The content, or another when the record is lost. -/
def MramRec.content {α : Type} (r : MramRec α) (d : α) : α := match r.read with | some (v, _) => v | none => d

/-- Step 1 of an update: the copy that PRIMARY does not name is written; `none` is a copy cut short (R373, R376). -/
def MramRec.step1 {α : Type} (r : MramRec α) (v : Option α) : MramRec α :=
  match r.commit with
  | some (_, true, _) => { r with x := v }
  | _ => { r with y := v }

/-- Step 2: commit A then B name the new copy, without a mirror. -/
def MramRec.step2 {α : Type} (r : MramRec α) : MramRec α :=
  let c := match r.commit with | some (n, primary, _) => (n + 1, !primary, false) | none => (1, true, false)
  { r with a := some c, b := some c }

/-- Step 3: the same content goes into the other copy. -/
def MramRec.step3 {α : Type} (r : MramRec α) (v : α) : MramRec α :=
  match r.commit with
  | some (_, true, _) => { r with x := some v }
  | _ => { r with y := some v }

/-- Step 4: commit A then B with the mirror valid. -/
def MramRec.step4 {α : Type} (r : MramRec α) : MramRec α :=
  { r with a := r.commit.map (fun c => (c.1, c.2.1, true)), b := r.commit.map (fun c => (c.1, c.2.1, true)) }

/-- A whole update (R373). -/
def MramRec.update {α : Type} (r : MramRec α) (v : α) : MramRec α := (((r.step1 (some v)).step2).step3 v).step4

/-! ### The cane maps (R339) -/

def Integrity.caneRec (x : Integrity) (ch : Nat) : MramRec CaneMap := Tab.get (MramRec.first {}) x.caneMaps ch
def Integrity.busRec (x : Integrity) (bus : Nat) : MramRec BusMap := Tab.get (MramRec.first {}) x.busMaps bus

/-- The cane map of a channel, and of a bus, as boot code reads them. -/
def Integrity.caneMap (x : Integrity) (ch : Nat) : CaneMap := (x.caneRec ch).content {}
def Integrity.busMap (x : Integrity) (bus : Nat) : BusMap := (x.busRec bus).content {}

end Sys2Proof.Machine
end

