-- ==== Sys2Proof/Machine/Collector.lean ====
section
/-! DEFINITION. Machine/Collector.lean: the fault collector and the reset manager's shadows (chapter 12): which message is
accepted next, what its class does, who hears of it, the scope timers, the FATAL state, the logs. -/

namespace Sys2Proof.Machine

/-! ### Choosing and logging a message -/

/-- The 128 bits of a message (R382). -/
def Msg.bits (m : Msg) : BitVec 128 :=
  let cls := match m.kind.cls with | .corrected => 0 | .contained => 1 | .fatal => 2
  BitVec.ofNat 128 (m.source % 2048 + m.kind.code * 2 ^ 11 + cls * 2 ^ 19
    + ((m.host.map BitVec.toNat).getD 0) * 2 ^ 21 + (if m.host.isSome then 2 ^ 25 else 0)
    + (if m.injected then 2 ^ 26 else 0) + m.kind.addrType * 2 ^ 27 + m.addr.toNat * 2 ^ 32 + m.epoch.toNat * 2 ^ 80)

/-- The message the collector takes next (R384): a FATAL one before all others, else the oldest message of the first
source at or after the round robin's place that has one. -/
def nextMsg (rr : Nat) (outbox : List Msg) : Option Msg :=
  match outbox.find? fun m => decide (m.kind.cls = .fatal) with
  | some m => some m
  | none =>
    match outbox with
    | [] => none
    | a :: t =>
      let key := fun m : Msg => (m.source + 1536 - rr % 1536) % 1536
      some (t.foldl (fun best m => if key m < key best then m else best) a)

/-- A message leaves its outbox, and a message waiting in its block takes the place (R384). -/
def Base.takeMsg (b : Base) (m : Msg) : Base :=
  let outbox := dropFirst (fun x => decide (x = m)) b.flt.outbox
  match b.flt.waiting.find? fun x => x.source == m.source with
  | some w => { b with flt := { b.flt with outbox := outbox ++ [w], waiting := dropFirst (fun x => decide (x = w)) b.flt.waiting, rr := (m.source + 1) % 1536 } }
  | none => { b with flt := { b.flt with outbox := outbox, rr := (m.source + 1) % 1536 } }

/-- The scope of a message (R392, R404): its host, the octant of its DPA, or the part. -/
def Base.scopeOf (b : Base) (m : Msg) : Nat :=
  match m.host with
  | some h => h.toNat
  | none => if m.kind.isDpa then 16 + b.octantOf (m.addr.toNat / 64) else 48

/-- Whether FLOG_HEAD − FLOG_RD has reached WATERMARK; vector 2 is then raised once (R408). -/
def Base.checkWatermark (b : Base) : Base :=
  let unread := (b.flt.nextSeq - 1) - (b.reg Reg.FLOG_RD).toNat
  if b.flt.watermarkArmed ∧ unread ≥ b.rf Reg.FLOG_CFG 9 0 then
    (({ b with flt := { b.flt with watermarkArmed := false } }).msixMgmt 2).send .logWatermark 0x5B8 0
  else b

/-- A message enters the SRAM log (R408). -/
def Base.logMsg (b : Base) (m : Msg) : Base :=
  let e : LogEntry := { seq := b.flt.nextSeq, msg := m, atEp := b.pl.epochs }
  let lost := match b.flt.log with
    | o :: _ => if 1024 ≤ b.flt.log.length ∧ (b.reg Reg.FLOG_RD).toNat < o.seq then 1 else 0
    | [] => 0
  let log := if 1024 ≤ b.flt.log.length then b.flt.log.drop 1 else b.flt.log
  let b := { b with flt := { b.flt with log := log ++ [e], nextSeq := b.flt.nextSeq + 1 } }
  let b := b.updDict fun d => { d with logOverwritten := d.logOverwritten + lost }
  (b.bump Reg.LOGGED_COUNT).checkWatermark

/-! ### Delivery -/

/-- The port blocks a source of the port, IDE or reference-clock ranges stands for. -/
def portsOfSource (src : Nat) : List Nat :=
  if 0x40 ≤ src ∧ src < 0x50 then [src - 0x40]
  else if 0x50 ≤ src ∧ src < 0x60 then [2 * (src % 8), 2 * (src % 8) + 1]
  else if 0x80 ≤ src ∧ src < 0x90 then [src - 0x80]
  else if 0xA0 ≤ src ∧ src < 0xB0 then [src - 0xA0]
  else []

/-- Kinds whose address names a channel for R389 and R390. -/
def Kind.isChannelKind : Kind → Bool
  | .channelRetired | .trainingFailed => true
  | _ => false

/-- Kinds of a die or a core-die diode for R389 and R390. -/
def Kind.isDieKind : Kind → Bool
  | .guardEntered | .supplyUnstable | .sensorFailed => true
  | _ => false

/-- The host's effective ranges intersect the set (R389). -/
def Base.effMeetsSet (b : Base) (h s : Nat) : Bool :=
  (List.range 8).any fun j => b.effMeets h (b.blocksOfOctant (8 * s + j))

/-- The recipients of a CONTAINED or FATAL message (R389). -/
def Base.recipients (b : Base) (m : Msg) : List Nat :=
  match m.host with
  | some h => [h.toNat]
  | none =>
    if m.kind.isDpa then (List.range 16).filter fun h => b.inEff h (blockOf (m.addr.toNat / 64))
    else if m.kind.isChannelKind then (List.range 16).filter fun h => b.effMeetsSet h (b.setOf (m.addr.toNat % 64))
    else if m.kind.isDieKind ∧ m.addr.toNat % 32 < 16 then
      (List.range 16).filter fun h => b.effMeetsSet h (b.setOfDie (m.addr.toNat % 16))
    else (List.range 16).filter fun h => (portsOfSource m.source).any fun p => b.boundTo h p

/-- The kinds whose line returns poison afterwards: the poison flag of the media record (R390). -/
def Kind.poisons : Kind → Bool
  | .lineUncorrectable | .sparesExhausted | .ownerLost | .injectedUncorrectable => true
  | _ => false

/-- The form of a host's event record (R390). -/
def Kind.form (k : Kind) : EvForm :=
  if k.isDpa then .generalMedia k.poisons
  else if k.isChannelKind then .dram
  else if k.isDieKind then .memoryModule
  else .vendor

/-- Records in the Failure or Fatal logs of the recipients. -/
def Base.deliver (b : Base) (m : Msg) : Base :=
  let (log, no) := if m.kind.cls = .fatal then (EvLog.fatal, 3) else (EvLog.failure, 2)
  (b.recipients m).foldl (fun b h => b.addRecord h log m.kind.form (some m) no) b

/-! ### Scope timers -/

def Base.reactEpochs (b : Base) : Nat := 1000 * b.rf Reg.FAULT_CFG 9 0
def Base.escalateEpochs (b : Base) : Nat := 1000 * b.rf Reg.FAULT_CFG 25 12

/-- A CONTAINED message starts its scope's timer, or joins it (R392, R394, R397, R398). -/
def Base.startTimer (b : Base) (scope : Nat) : Base :=
  if b.flt.fatal ∨ !b.boot.run ∨ b.flt.timersHeld ∨ scope ∈ b.flt.escalated ∨ (b.flt.timers.any fun t => t.scope == scope) then b
  else { b with flt := { b.flt with timers := b.flt.timers ++ [{ scope := scope, second := false, due := b.pl.epochs + 1 + b.reactEpochs }] } }

/-- A timer's boundary has passed. In the boundary's own cycle an acknowledgement still comes before the expiry (R393; DEDUCED, entry 148). -/
def Base.expired (b : Base) (t : ScopeTimer) : Bool := decide (1000 * t.due < b.now)

/-- Every timer starts anew at the boundary after BOOT_PHASE is left (R397); none runs in the FATAL state (R398). -/
def Base.restartTimers (b : Base) : Base :=
  let open_ := b.flt.log.filter fun e => decide (e.msg.kind.cls = .contained) && !e.acked
  let scopes := (open_.map fun e => b.scopeOf e.msg).eraseDups
  let timers := scopes.map fun s =>
    if s ∈ b.flt.escalated then { scope := s, second := true, due := b.pl.epochs + b.escalateEpochs }
    else { scope := s, second := false, due := b.pl.epochs + b.reactEpochs : ScopeTimer }
  { b with flt := { b.flt with timers := if b.flt.fatal then [] else timers, timersHeld := false } }

/-! ### FATAL -/

/-- The guard controllers of every die close because the base die stopped the heartbeat (R344, R345, R347): a die already
closing is not changed. -/
def Base.guardAll (b : Base) : Base :=
  forN 16 (fun d b =>
    let g := b.guard d
    if g.state = 0 ∨ g.state = 3 then (b.closeGuard d).updGuard d fun g => { g with reason := 1 } else b) b

/-- FAULT_N is driven low for at least 2 µs (R399). -/
def Base.driveFaultN (b : Base) : Base :=
  { b with flt := { b.flt with faultNLow := true, pulseEnd := b.now + 2000, releasePending := false } }

/-- Viral on every port with CXL_MODE = 1 (R398). -/
def Base.signalViral (b : Base) : Base :=
  forN 16 (fun p b => if (b.port p).cxlMode && (b.port p).linked then
    ({ b with flt := { b.flt with viral := setBit b.flt.viral p true } }).emit (.viral (BitVec.ofNat 4 p)) else b) b

/-- Every CXL.mem request that has not been answered is answered with poisoned data or Cmp, without effect (R398), and BIConflicts that waited for
one are acknowledged (R244). Reads of the diagnostic window end with the EP bit, as in the FATAL state (DEDUCED, entry 149). -/
def Base.answerPending (b : Base) : Base :=
  let waiting := (b.waitingReqs.filter fun q => match q.who with | .host _ _ _ => true | .diag _ => q.op.isRead | _ => false).foldl
    (fun (l : List Req) q => if l.any fun x => x.who == q.who then l else l ++ [q]) []
  let acks := b.coh.conflicts
  let b := forN 16 (fun (k : Nat) (b : Base) => b.dropRequests k) b
  let b := waiting.foldl (fun (b : Base) (q : Req) => match q.who with
    | .diag _ => b.answerPoison q
    | _ => b.refusePoison q) b
  acks.foldl (fun (b : Base) c => b.transmit c.1.toNat (.biConflictAck c.1 c.2.1 c.2.2.1)) b

/-- The FATAL state is entered (R398): every request is answered, timers stop, FAULT_N falls, heartbeat and commands stop, the mover stops without
records and keeps its checkpoints (R293), viral is signalled, records and vector 1 follow. -/
def Base.enterFatal (b : Base) (m : Msg) : Base :=
  let b := { b with flt := { b.flt with fatal := true, timers := [], lastFatal := some (m.kind, m.source) } }
  let b := b.driveFaultN.guardAll.answerPending
  let b := b.resetMover.updMov fun v => { v with stopped := true }
  (b.signalViral.deliver m).msixMgmt 1

/-! ### Firmware and the field repair map -/

/-- MRAM takes a record: how many words the manual does not say, a free value (R490). -/
def Base.countMram (b : Base) : Base :=
  let (n, b) := b.takeFree
  b.updDict fun d => { d with life := { d.life with mramWrites := satAdd (2 ^ 64 - 1) d.life.mramWrites (Config.freeNat n), mramMaxWord := max d.life.mramMaxWord (Config.freeNat n % 2 ^ 32) } }

/-- Firmware brings the field repair map of a channel to a content; a record that holds it already takes no write (R210, R213, R373). -/
def Base.recordRepairs (b : Base) (ch : Nat) (m : RepairMap) : Base :=
  if (b.chan ch).repairMap.read.map (fun x => x.1) = some m then b
  else (b.countMram).updChan ch fun c => { c with repairMap := c.repairMap.update m }

/-- The channel's part of the field repair map, as firmware reads it; a lost record is empty. -/
def Chan.recorded (c : Chan) : RepairMap := c.repairMap.content {}

/-- The addresses of the remap table and the confirmed field assignments that the channel retains (R210, R213). -/
def Chan.retained (c : Chan) : RepairMap :=
  { lines := c.remap.map fun x => (x.bank, x.row, x.col), spares := c.spares.filter fun x => x.confirmed && !x.factory }

/-- Firmware records a repair from its message: the address of a remapped line (R210), or a field assignment, whose row has no remap
entries any more (R212, R213). -/
def Base.recordRepair (b : Base) (m : Msg) : Base :=
  if !b.fwRuns then b
  else match m.kind with
    | .hardFaultRemapped =>
      let p := b.place (m.addr.toNat / 64)
      let r := (b.chan p.ch).recorded
      let x := (p.bank, p.row, p.col)
      b.recordRepairs p.ch { r with lines := if r.lines.contains x then r.lines else r.lines ++ [x] }
    | .spareRowAssigned =>
      let ch := m.addr.toNat % 64
      let bank := m.addr.toNat / 64 % 32
      let row := m.addr.toNat / 2048 % 65536
      let r := (b.chan ch).recorded
      let x := (b.chan ch).retained.spares.filter fun y => y.bank == bank && y.row == row
      b.recordRepairs ch {
        lines := r.lines.filter fun l => !(l.1 == bank && l.2.1 == row)
        spares := r.spares ++ x.filter fun y => !r.spares.contains y }
    | _ => b

/-- The permanent shifts, erasures and retirement of a channel: test shifts and the heartbeat's backup are none (R339). -/
def Base.canesNow (b : Base) (ch : Nat) : CaneMap :=
  { use := (b.canes ch).use.filter fun e => decide (e.2 < 0x3C) || e.2 == 0x3E, erased := (b.chan ch).erased, retired := b.retired ch }

/-- The same of a bus. -/
def Base.busNow (b : Base) (bus : Nat) : BusMap :=
  { shifts := (b.si.busShifts.filter fun e => e.1 == bus).map fun e => e.2
    bad := (b.si.busBad.filter fun e => e.1 == bus).map fun e => e.2
    erased := (b.bus bus).erased
    retired := (b.bus bus).retired }

/-- Firmware brings the cane maps up to date (R339): it records at the boundary after a shift, an erasure or a retirement (DESIGN CHOICE,
entry 151: the rule gives no moment), and after a warm boot what the latches hold. -/
def Base.recordCanes (b : Base) : Base :=
  let b := forN 64 (fun (ch : Nat) (b : Base) =>
    let m := b.canesNow ch
    if b.si.caneMap ch = m then b else b.countMram.updSi fun x => { x with caneMaps := Tab.insert ch ((x.caneRec ch).update m) x.caneMaps }) b
  forN 4 (fun (q : Nat) (b : Base) =>
    let m := b.busNow q
    if b.si.busMap q = m then b else b.countMram.updSi fun x => { x with busMaps := Tab.insert q ((x.busRec q).update m) x.busMaps }) b

/-- Firmware after a warm boot: the field repair map is made to match what the channels have retained, the cane maps what the latches hold, and
INITMAP_MARKED is counted anew (R150, R210, R213, R339). -/
def Base.firmwareRecords (b : Base) : Base :=
  if b.boot.resetKind < 2 then b
  else
    let b := forN 64 (fun (c : Nat) (b : Base) => b.recordRepairs c (b.chan c).retained) b.recordCanes
    b.setReg Reg.INITMAP_MARKED (BitVec.ofNat 32 (b.lay.marked.filter fun e => e.2).length)

/-- What acceptance of a message does by its class (R387). -/
def Base.react (b : Base) (m : Msg) : Base :=
  let seq := b.flt.nextSeq - 1
  match m.kind.cls with
  | .corrected => if m.kind = .bucketOverflow then b.msixMgmt 4 else b
  | .contained =>
    let b := { b with flt := { b.flt with unpersisted := b.flt.unpersisted ++ [seq] } }
    ((b.msixMgmt 0).deliver m).startTimer (b.scopeOf m)
  | .fatal =>
    let b := { b with flt := { b.flt with unpersisted := b.flt.unpersisted ++ [seq] } }
    if b.flt.fatal then b else b.enterFatal m

/-- The running window of a limited kind suppresses the message (R388). -/
def Base.suppressed (b : Base) (m : Msg) : Bool :=
  m.kind.limited && b.flt.windows.any fun w => w.1 == m.source && w.2.1 == m.kind && decide (b.pl.epochs < w.2.2 + 1000)

/-- The notices of Rind as the dictionary counts them (R527), and FUSE_MARGINAL over life (R489). -/
def Base.countNotice (b : Base) (m : Msg) : Base :=
  match m.kind with
  | .rindRecord => b.updPack fun p => { p with recordNotices := satAdd 0xFFFFFFFF p.recordNotices 1 }
  | .rindTamper => b.updPack fun p => { p with tamperNotices := satAdd 0xFFFFFFFF p.tamperNotices 1 }
  | _ => b

/-- The collector accepts one message (R384, R387, R388). -/
def Base.accept (b : Base) (m : Msg) : Base :=
  let b := ((b.takeMsg m).countNotice m).recordRepair m
  if b.suppressed m then b.bump Reg.SUPPRESSED_COUNT
  else
    let others := b.flt.windows.filter (fun w => !(w.1 == m.source && w.2.1 == m.kind))
    let b := if m.kind.limited then { b with flt := { b.flt with windows := (m.source, m.kind, b.pl.epochs) :: others } } else b
    (b.logMsg m).react m

/-- FAULT_MESSAGE_ACCEPT (R384, R387): one message in a controller cycle. -/
def execFaultMessageAccept (s : State) : Host.Outcome State Fault Refusal :=
  s.whenBase Base.alive fun b => match nextMsg b.flt.rr b.flt.outbox with
    | some m => if b.flt.acceptedAt = some b.now then b else (b.updFlt fun f => { f with acceptedAt := some b.now }).accept m
    | none => b

/-! ### Escalation and acknowledgement -/

/-- The escalation of a scope (R394): isolation of a host, the fence of an octant, nothing yet for the part. -/
def Base.escalate (b : Base) (scope : Nat) : Base :=
  let second : ScopeTimer := { scope := scope, second := true, due := b.pl.epochs + b.escalateEpochs }
  let timers := b.flt.timers.filter (fun t => t.scope != scope) ++ [second]
  let escalated := if scope ∈ b.flt.escalated then b.flt.escalated else b.flt.escalated ++ [scope]
  let log := b.flt.log.map fun e =>
    if decide (e.msg.kind.cls = .contained) && !e.acked && b.scopeOf e.msg == scope then { e with escalated := true } else e
  let b := { b with flt := { b.flt with timers := timers, escalated := escalated, log := log } }
  let b := if scope < 16 then b.isolate scope false
    else if scope < 48 then { b with flt := { b.flt with fenced := setBit b.flt.fenced (scope - 16) true, unfence := setBit b.flt.unfence (scope - 16) false } }
    else b
  ((b.bump Reg.ESCALATION_COUNT).send .faultEscalated 0x5B8 scope).msixMgmt 3

/-- REACTION_TIMER_EXPIRE (R394): the scope's reaction timer has reached its boundary. -/
def execReactionTimerExpire (scope : BitVec 6) (s : State) : Host.Outcome State Fault Refusal :=
  s.whenBase Base.alive fun b =>
    if b.flt.timers.any fun t => t.scope == scope.toNat && !t.second && b.expired t then b.escalate scope.toNat else b

/-- ESCALATE_TIMER_EXPIRE (R395): the part declares FATAL. -/
def execEscalateTimerExpire (scope : BitVec 6) (s : State) : Host.Outcome State Fault Refusal :=
  s.whenBase Base.alive fun b =>
    if b.flt.timers.any fun t => t.scope == scope.toNat && t.second && b.expired t then
      ({ b with flt := { b.flt with timers := b.flt.timers.filter fun t => t.scope != scope.toNat } }).send .escalatedFatal 0x5B8 scope.toNat
    else b

/-- An acknowledgement of a scope up to a sequence number (R393). -/
def Base.acknowledge (b : Base) (scope seq : Nat) : Base :=
  let mine := fun e : LogEntry => decide (e.msg.kind.cls = .contained) && b.scopeOf e.msg == scope
  let log := b.flt.log.map fun e => if mine e && decide (e.seq ≤ seq) then { e with acked := true } else e
  match log.filter fun e => mine e && !e.acked with
  | [] => { b with flt := { b.flt with log := log, timers := b.flt.timers.filter fun t => t.scope != scope, escalated := b.flt.escalated.filter (· != scope) } }
  | o :: _ => { b with flt := { b.flt with log := log, timers := b.flt.timers.map fun t =>
      if t.scope == scope && !t.second then { t with due := o.atEp + 1 + b.reactEpochs } else t } }

/-- FAULT_ACK (R393): GO is bit 31; scope codes 49 to 63 are discarded. -/
def execFaultAck (v : Word) (s : State) : Host.Outcome State Fault Refusal :=
  s.whenBase Base.mgmtFull fun b =>
    if tb v 31 ∧ fld v 5 0 ≤ 48 then b.acknowledge (fld v 5 0) (b.reg Reg.FAULT_ACK_SEQ).toNat else b

/-- FAULT_CTRL.RELEASE_FAULT_N (R399): a release before the 2 µs have passed waits for their end. -/
def execReleaseFaultN (s : State) : Host.Outcome State Fault Refusal :=
  s.whenBase Base.mgmtFull fun b =>
    if !b.flt.faultNLow then b
    else if b.now < b.flt.pulseEnd then { b with flt := { b.flt with releasePending := true } }
    else { b with flt := { b.flt with faultNLow := false } }

/-- FAULT_N_PULSE_END (R399): the 2 µs have passed and a release is waiting. -/
def execFaultNPulseEnd (s : State) : Host.Outcome State Fault Refusal :=
  s.whenBase Base.alive fun b =>
    if b.flt.releasePending ∧ b.flt.pulseEnd ≤ b.now then { b with flt := { b.flt with faultNLow := false, releasePending := false } } else b

/-- FENCE_CLEAR (R396): the fence ends at the next boundary. -/
def execFenceClear (v : Word) (s : State) : Host.Outcome State Fault Refusal :=
  s.whenBase Base.mgmtFull fun b =>
    if tb v 31 ∧ b.flt.fenced.getLsbD (fld v 4 0) then { b with flt := { b.flt with unfence := setBit b.flt.unfence (fld v 4 0) true } } else b

/-! ### Counted resets and shadows -/

/-- The counted resets of a block within the last 60 s of the always-on clock (R406). -/
def Base.recentResets (b : Base) (block : Nat) : List Nat :=
  (Tab.get [] b.flt.history block).filter fun t => decide (b.pl.epochs < t + Config.aonMinute)

/-- A fourth counted reset within 60 s is refused and FATAL declared (R406). -/
def Base.resetRefused (b : Base) (block : Nat) : Base :=
  ({ b with flt := { b.flt with refused := true, lastRefused := block } }).send .resetRateExceeded 0x5B9 block

/-- The time of a counted reset joins the last 3 of its block (R406). -/
def Base.countReset (b : Base) (block : Nat) : Base :=
  { b with flt := { b.flt with history := Tab.set [] b.flt.history block ((b.pl.epochs :: Tab.get [] b.flt.history block).take 3) } }

/-- The Pith complex is reset (R24, R401): the data plane runs fallback plans until firmware writes a plan again. -/
def Base.resetPith (b : Base) : Base :=
  ({ b with pl := { b.pl with inactive := {}, inactiveDone := false, missed := 0 } }).openShadow 17 100000

/-- A row-mover reset stops the queues whose running descriptors will have an INTERRUPTED record (R401). -/
def Base.stopQueues (b : Base) : Base :=
  (b.mov.slots.filter fun e => e.2.status.isNone).foldl (fun (b : Base) (e : Nat × Slot) =>
    if (b.queue e.2.queue).state = 3 then b else b.updQueue e.2.queue fun x => { x with state := 2, error := 4 }) b

/-- The reset of a block (R401): a shadow opens and the block's own effects follow; the message that reports the reset
goes outside the shadow. -/
def Base.blockReset (b : Base) (block : Nat) : Base :=
  if block < 16 then (b.openShadow block 100000).linkDown block
  else if block = 16 then b.stopQueues.resetMover.openShadow 16 1000
  else b.resetPith

/-- A counted reset, or its refusal (R405, R406). -/
def Base.countedReset (b : Base) (block : Nat) : Base :=
  if 3 ≤ (b.recentResets block).length then b.resetRefused block else (b.countReset block).blockReset block

/-- RESET_CTRL (R401, R406): GO requests a counted reset of block 0 to 17. -/
def execResetCtrl (v : Word) (s : State) : Host.Outcome State Fault Refusal :=
  s.whenBase Base.mgmtFull fun b => if tb v 31 ∧ fld v 4 0 ≤ 17 then b.countedReset (fld v 4 0) else b

/-- A shadow closes (R403): each dependent source sends again the kinds whose condition still holds, then
SHADOW_CLOSED reports the block and the count. -/
def Base.closeShadow (b : Base) (sh : Shadow) : Base :=
  let b := { b with flt := { b.flt with shadows := b.flt.shadows.filter fun s => s.block != sh.block } }
  let latest := sh.sent.foldr (fun m l => if l.any fun x => x.source == m.source && x.kind == m.kind then l else m :: l) []
  let b := latest.foldl (fun b m => if b.conditionHolds m then b.send m.kind m.source m.addr.toNat m.host else b) b
  b.sendOutside .shadowClosed 0x5B9 (sh.block + min 0xFFFF sh.count * 2 ^ 16)

/-- SHADOW_CLOSE (R403): the block's shadow has reached its close. -/
def execShadowClose (block : BitVec 5) (s : State) : Host.Outcome State Fault Refusal :=
  s.whenBase Base.alive fun b =>
    match b.flt.shadows.find? fun x => x.block == block.toNat && decide (x.closeAt ≤ b.now) with
    | some sh => b.closeShadow sh
    | none => b

/-! ### Log registers -/

/-- FLOG_SEL (R409): the entry with that sequence number is copied into FLOG_DATA0 to FLOG_DATA4. -/
def Base.flogCopy (b : Base) (v : Word) : Base :=
  let b := b.setReg Reg.FLOG_SEL v
  match b.flt.log.find? fun e => e.seq == v.toNat with
  | some e =>
    let b := forN 4 (fun w b => b.setReg (Reg.FLOG_DATA 0 + 4 * w) ((e.msg.bits.extractLsb' (32 * w) 32))) b
    b.setReg (Reg.FLOG_DATA 4) (BitVec.ofNat 32 (1 + (if e.acked then 2 else 0) + (if e.escalated then 4 else 0)))
  | none => (forN 4 (fun w b => b.setReg (Reg.FLOG_DATA 0 + 4 * w) 0) b).setReg (Reg.FLOG_DATA 4) 9

/-- FLOG_SEL. -/
def execFlogSel (v : Word) (s : State) : Host.Outcome State Fault Refusal := s.whenBase Base.mgmtFull fun b => b.flogCopy v

/-- FLOG_RD (R408): progress is recorded, and the watermark may raise vector 2 again. -/
def execFlogRd (v : Word) (s : State) : Host.Outcome State Fault Refusal :=
  s.whenBase Base.mgmtFull fun b =>
    let b := b.setReg Reg.FLOG_RD v
    ({ b with flt := { b.flt with watermarkArmed := true } }).checkWatermark

/-- MRAM_LOG_PERSIST (R410): the entries logged since the last update join the ring of 256; when more than 256 wait, the
oldest are not persisted and are counted. -/
def execMramLogPersist (s : State) : Host.Outcome State Fault Refusal :=
  s.whenBase Base.fwRuns fun b =>
    let waiting := b.flt.log.filter fun e => b.flt.unpersisted.contains e.seq
    let excess := b.flt.unpersisted.length - 256
    let take := waiting.drop (waiting.length - 256)
    let new := take.map fun e => { seq := e.seq, msg := e.msg, powerOn := b.boot.powerOns, acked := e.acked, escalated := e.escalated : MramEntry }
    let ring := b.flt.mramLog ++ new
    let b := { b with flt := { b.flt with mramLog := ring.drop (ring.length - 256), unpersisted := [] } }
    let b := b.updDict fun d => { d with logSkipped := d.logSkipped + excess, life := { d.life with mramWrites := d.life.mramWrites + new.length } }
    if excess = 0 then b else b.send .mramLogSkipped 0x5B8 excess

end Sys2Proof.Machine
end

