-- ==== Sys2Proof/Machine/Management.lean ====
section
/-! DEFINITION. Machine/Management.lean: register writes by access code (R9 to R13), commits (R455 to R459), the snapshot
window (R460, R461), MCTP and I3C (R462 to R464), mailboxes (R465 to R476) and recovery (R477). -/

namespace Sys2Proof.Machine

/-- The identity number of a writer (R465). -/
def srcId : Src → Nat
  | .mgmt => 16
  | .core c => 17 + c.toNat
  | .host h => h.toNat
  | .mover => 21

/-- The registers whose writes are steps of their own (spec/opcode_table.json). -/
def ownRow (off : Nat) : Bool :=
  (off ∈ [Reg.COMMIT, Reg.APPLIED_ADDR, Reg.LOCKS, Reg.SNAP_SEL, Reg.MGMT_COUNT_CLEAR, Reg.DEFER_CLEAR,
    Reg.XLATE_DPA_HI, Reg.INITMAP_QUERY, Reg.LAYOUT_COUNT_CLEAR, Reg.TRAIN_CTRL, Reg.DRAM_COUNT_CLEAR,
    Reg.ECC_COUNT_CLEAR, Reg.INJ_CTRL, Reg.HOST_ISOLATE_CLEAR, Reg.COH_COUNT_CLEAR, Reg.MOVER_COUNT_CLEAR,
    Reg.QOS_COUNT_CLEAR, Reg.LBL_STAGE_CTRL, Reg.LBL_VIEW_SEL, Reg.SI_CTRL, Reg.SI_COUNT_CLEAR, Reg.PT_COUNT_CLEAR,
    Reg.FAULT_CTRL, Reg.FAULT_ACK, Reg.FENCE_CLEAR, Reg.RESET_CTRL, Reg.FLOG_RD, Reg.FLOG_SEL, Reg.FAULT_COUNT_CLEAR,
    Reg.BOOT_CTRL, Reg.RESET_CMD, Reg.WDOG_KICK, Reg.FUSE_RD_ADDR, Reg.RCV_CTRL]) ||
  (List.range 16).any (fun i => off == Reg.COUNT_CLEAR i || off == Reg.HOST_COUNT_CLEAR i) ||
  (List.range 64).any (fun i => off == Reg.CH_ECC_CLEAR i) ||
  (decide (0xF0000 ≤ off) && decide (off < 0xF0800) && (off % 0x20 == 8 || off % 0x20 == 12 || off % 0x20 == 28)) ||
  (decide (0xF0800 ≤ off) && decide (off < 0xF0858))

/-- The endpoint offers the register: every one in normal operation, those of chapter 13 and the recovery area in
recovery, those of chapter 13 in VOID (R427, R429, R444, R477). -/
def Base.offers (b : Base) (off : Nat) : Bool :=
  b.mgmtFull || (decide (0xE0000 ≤ off) && decide (off < 0xE1000)) ||
    (b.boot.recovery && ((decide (0xF2000 ≤ off) && decide (off < 0xF2008)) || (decide (0x100000 ≤ off) && decide (off < 0x110000))))

/-- An access to an unmapped offset (R449). -/
def Base.unmapped (b : Base) (off : Nat) : Base := (b.bump Reg.UNMAPPED_COUNT).send .barUnmapped 0x580 off

/-- A write discarded under a lock (R9, R459). -/
def Base.lockedWrite (b : Base) (off : Nat) : Base := (b.bump Reg.LOCKED_WRITE_COUNT).send .lockedWrite 0x580 off

/-- Registers of an absent instance read as zero and discard writes: the h = 1 block of an unsplit port (R85) and the
octants beyond the width in force (R379). -/
def Base.absent (b : Base) (off : Nat) : Bool :=
  (decide (0x30000 ≤ off) && decide (off < 0x31000) && (off / 0x100) % 2 == 1 && !b.links.straps.getLsbD ((off - 0x30000) / 0x200)) ||
  (decide (0xC2000 ≤ off) && decide (off < 0xC2100) && decide (b.octants ≤ (off - 0xC2000) / 8))

/-- Firmware applies a version: COMMIT_STATUS.VERSION_BUSY (R457). -/
def Base.versionBusy (b : Base) : Bool := decide (5 ≤ b.dict.commitStep)

/-- What the shadows written in the present cycle held before it (R455). -/
def Base.undoNow (b : Base) : Tab Word := if b.mg.undoAt = b.now then b.mg.undo else []

/-- A shadow is written; what it held before the cycle of the write is kept for a strobe of that cycle (R455). -/
def Base.shadowNow (b : Base) (off : Nat) (v : Word) : Base :=
  let old := if b.undoNow.any (fun e => e.1 == off) then b.undoNow else (off, Tab.get 0 b.shadow off) :: b.undoNow
  (b.updMg fun m => { m with undo := old, undoAt := b.now }).setShadow off v

/-- The shadows as they stood before the writes of the present cycle: what a strobe captures (R455). -/
def Base.shadowBefore (b : Base) : Tab Word := b.undoNow.foldl (fun (t : Tab Word) (e : Nat × Word) => Tab.set 0 t e.1 e.2) b.shadow

/-- A write to an RWS register (R9, R457, R459). -/
def Base.writeShadow (b : Base) (src : Src) (off g : Nat) (v : Word) : Base :=
  if src = .mgmt ∧ tb b.mg.locks (16 + g) = true then b.lockedWrite off
  else if src = .mgmt ∧ b.versionBusy = true then b.send .versionBusy 0x580 off
  else b.shadowNow off v

/-- The bank of a channel: its receiver's (R466). An entry whose receiver field names no bank belongs to none, and its denials are
reported from MGMT's bank (DESIGN CHOICE, entry 152). -/
def Base.mbxBank (b : Base) (c : Nat) : Nat :=
  let k := b.rf (Reg.MBX_TABLE c) 12 8
  if k < 22 then k else 16

/-- The domain is powered: on, or on until it has been taken down (R42, R472). -/
def DomState.powered (d : DomState) : Bool := d == .on || d == .goingOff

/-- The domain of a bank is on (R43, R465). -/
def Base.bankOn (b : Base) (bank : Nat) : Bool :=
  if bank = 16 then !b.mg.perstAsserted
  else if 18 ≤ bank ∧ bank ≤ 20 then (Tab.get DomState.on b.mg.pith (bank - 17)).powered
  else if bank = 21 then b.mov.domain.powered
  else true

/-- A mailbox access that is denied (R467). -/
def Base.mbxDeny (b : Base) (bank c who : Nat) : Base := b.send .mbxDenied (0x588 + bank) (c + 256 * who)

/-- A mailbox access to a bank whose domain is off (R471). -/
def Base.mbxOff (b : Base) (bank c who : Nat) : Base :=
  let b := b.send .mbxPoweredOff (0x588 + bank) (c + 256 * who)
  if who = 16 then b.updMg fun m => { m with aerAbort := true }
  else if who < 16 then b.updMg fun m => { m with aerHost := setBit m.aerHost who true }
  else b

/-- Half of a pointer is written (R469). -/
def Base.writePtr (b : Base) (who c : Nat) (hi : Bool) (v : Word) : Base :=
  if b.mbxSender c ≠ some who then b.mbxDeny (b.mbxBank c) c who
  else if !b.bankOn (b.mbxBank c) then b.mbxOff (b.mbxBank c) c who
  else b.updMbx c fun m => { m with ptr := if hi then v ++ m.ptr.extractLsb' 0 32 else m.ptr.extractLsb' 32 32 ++ v }

/-- The dictionary window takes a request (R486). -/
def Base.odGo (b : Base) (v : Word) : Base :=
  if tb v 0 && !b.dict.odBusy then b.updDict fun d => { d with odBusy := true, odDone := false } else b

/-- A dword of the MSI-X table (R448); unmasking a vector whose pending bit is set sends its message. -/
def Base.writeMsix (b : Base) (i : Nat) (v : Word) : Base :=
  let v := if i % 4 = 3 then v ^^^ 1 else v
  let b := b.updMg fun m => { m with msixTable := Tab.set 0 m.msixTable i v }
  if i % 4 = 3 ∧ v.getLsbD 0 ∧ b.mg.msixPending.getLsbD (i / 4) then
    (b.updMg fun m => { m with msixPending := setBit m.msixPending (i / 4) false }).emit (.msixMgmt (i / 4))
  else b

/-- A write of a whole DWORD to a listed register by its access code (R9). -/
def Base.writeListed (b : Base) (src : Src) (r : RegRow) (off : Nat) (val : Word) : Base :=
  let v := val &&& r.mask
  match r.access, r.group with
  | .rws, some g => b.writeShadow src off g v
  | .lock, _ =>
    if off = Reg.DIAG_FW_BASE ∨ off = Reg.DIAG_FW_LIMIT then
      (if tb b.mg.locks 0 then b.lockedWrite off else b.setReg off v)
    else if b.boot.run then b.lockedWrite off else b.setReg off v
  | .rw, _ =>
    if 0xF00000 ≤ off then b.writeMsix ((off - 0xF00000) / 4) val
    else if 0x110000 ≤ off then (if b.dict.odBusy then b else b.setReg off v)
    else if 0x100000 ≤ off then (if b.boot.recovery && !b.mg.rcvBusy then b.setReg off val else b)
    else if 0xF0000 ≤ off ∧ off < 0xF0800 then b.writePtr (srcId src) ((off - 0xF0000) / 0x20) (off % 0x20 == 4) val
    else if 0x30000 ≤ off ∧ off < 0x31000 then b.writePortCtrl ((off - 0x30000) / 0x100) v
    else if 0x32000 ≤ off ∧ off < 0x32800 then b.writeLaneCtrl ((off - 0x32000) / 0x20) v
    else if off = Reg.XLATE_DPA_LO then (b.setReg off v).updLay fun l => { l with xlateValid := false }
    else b.setReg off v
  | .wo, _ => if off = Reg.OD_GO then b.odGo val else b
  | _, _ => b

/-- REGISTER_WRITE (R9, R12, R13): a write with partial byte enables is discarded; a register with a step of its own is
not written here; the endpoint's writes to unmapped offsets are counted and reported. A host reaches only MBX_PTR_LO
and MBX_PTR_HI this way (R467). -/
def Base.registerWrite (b : Base) (src : Src) (off : Nat) (val : Word) (be : BitVec 4) : Base :=
  if be ≠ 15 then b
  else match src with
    | .host _ => if 0xF0000 ≤ off ∧ off < 0xF0800 ∧ off % 0x20 < 8 ∧ off % 4 = 0 then b.writePtr (srcId src) ((off - 0xF0000) / 0x20) (off % 0x20 == 4) val else b
    | .mover => if 0xF0000 ≤ off ∧ off < 0xF0800 ∧ off % 0x20 < 8 ∧ off % 4 = 0 then b.writePtr (srcId src) ((off - 0xF0000) / 0x20) (off % 0x20 == 4) val else b
    | _ =>
      match (if b.offers off then regRow? off else none) with
      | none => if src = .mgmt then b.unmapped off else b
      | some r => if ownRow off ∨ b.absent off then b else b.writeListed src r off val

/-- The writer reaches the part: the endpoint is up, firmware runs, or the host's link carries its accesses. -/
def Base.reaches (b : Base) (who : Nat) : Bool :=
  if who = 16 then b.mgmtUp
  else if who < 16 then b.hostUp who
  else b.fwRuns

/-- REGISTER_WRITE. -/
def execRegisterWrite (src : Src) (off : BitVec 24) (val : Word) (be : BitVec 4) (s : State) : Host.Outcome State Fault Refusal :=
  s.whenBase (fun b => b.reaches (srcId src)) fun b => b.registerWrite src off.toNat val be

/-- BAR_UNMAPPED (R449): an access to an unmapped offset. A read returns zero to its requester. -/
def execBarUnmapped (off : BitVec 24) (write : Bool) (s : State) : Host.Outcome State Fault Refusal :=
  s.whenBase Base.mgmtUp fun b =>
    let b := if write then b else b.emit (.command (.word 0))
    if b.offers off.toNat && (regRow? off.toNat).isSome then b else b.unmapped off.toNat

/-! ### Commits -/

/-- The capture of a group at a strobe (R11, R455): the shadows as they stood before a write of the same cycle. -/
def Base.capture (b : Base) (g strobe : Nat) (mask : BitVec 16) (mgmt : Bool) : Capture :=
  { group := g, regs := b.shadowBefore.filter fun e => groupOf e.1 == some g, strobe := strobe, mask := mask, mgmt := mgmt }

/-- Uncaptured staged entries are captured by the strobe (R304). -/
def Base.captureStaged (b : Base) (strobe : Nat) : Base :=
  b.updQos fun q => { q with staging := q.staging.map fun e => if e.strobe.isNone then { e with strobe := some strobe } else e }

/-- A COMMIT strobe (R11, R455): groups 13 to 15 apply nothing; a later capture of a group replaces the earlier, whose
staged label entries the new capture takes over with its own. -/
def Base.strobe (b : Base) (mask : BitVec 16) (mgmt : Bool) : Base :=
  let id := b.mg.strobes + 1
  let named := (List.range 13).filter fun g => mask.getLsbD g
  let caps := named.map fun g => b.capture g id mask mgmt
  let kept := b.mg.captures.filter fun c => !(named.contains c.group)
  let b := b.updMg fun m => { m with captures := kept ++ caps, strobes := id }
  if mask.getLsbD 8 then
    (b.updQos fun q => { q with staging := q.staging.map fun e => { e with strobe := e.strobe.map fun _ => id } }).captureStaged id
  else b

/-- COMMIT (R455, R457): a mask of zero does nothing; while firmware activates a version a strobe of the endpoint is
discarded. -/
def execCommit (src : Src) (mask : BitVec 16) (s : State) : Host.Outcome State Fault Refusal :=
  s.whenBase (fun b => if src = .mgmt then b.mgmtFull else b.fwRuns) fun b =>
    match src with
    | .host _ | .mover => b
    | _ =>
      if mask = 0 then b
      else if src = .mgmt ∧ b.versionBusy = true then b.send .versionBusy 0x580 Reg.COMMIT
      else b.strobe mask (src == .mgmt)

/-- APPLIED_ADDR (R458): the offset of an RWS register; the read-back follows it. -/
def execAppliedAddr (v : Word) (s : State) : Host.Outcome State Fault Refusal :=
  s.whenBase Base.mgmtFull fun b => b.updMg fun m => { m with applyOffset := 4 * fld v 23 2, applyValid := true }

/-- LOCKS (R459): bits are set and never cleared by a write. -/
def execLocksWrite (v : Word) (s : State) : Host.Outcome State Fault Refusal :=
  s.whenBase Base.mgmtFull fun b => b.updMg fun m => { m with locks := m.locks ||| (v &&& 0xFFFF0001) }

/-- MGMT_COUNT_CLEAR (R478). -/
def execMgmtCountClear (v : Word) (s : State) : Host.Outcome State Fault Refusal :=
  s.whenBase Base.mgmtFull fun b => b.clearCounters Reg.UNMAPPED_COUNT 4 v

/-! ### The snapshot window -/

/-- Low and high word of a wide value (R461). -/
def lohi (n : Nat) : List Word := [BitVec.ofNat 32 n, BitVec.ofNat 32 (n >>> 32)]

/-- The calendar now: seconds and nanoseconds (R491). -/
def Base.calendar (b : Base) : Nat × Nat :=
  if b.dict.calValid then
    let ns := b.dict.calNs + (b.pl.epochs - b.dict.calAt) * 1000
    (b.dict.calSec + ns / 1000000000, ns % 1000000000)
  else (0, 0)

/-- The newest telemetry snapshot is opened (R47). -/
def Base.openSnapshot (b : Base) : Base := b.updPl fun p =>
  { p with opened := if p.newest.isSome then p.newest else p.opened, newestOpened := true, openedNew := p.newest.isSome && !p.newestOpened }

/-- Words of a channel's open snapshot. -/
def Base.snapWords (b : Base) (ch : Nat) : List Word :=
  match b.pl.opened with
  | none => []
  | some sn =>
    let c := Tab.get {} sn.counts ch
    [c.activations, c.reads, c.writes, c.rows, c.refreshes, c.deferred, c.maxDepth, c.notActive].map (BitVec.ofNat 32 ·)

/-- Words of the snapshot header (selector 0x0003): bit 0 of the last word says the snapshot opened was new. -/
def Base.snapHeader (b : Base) : List Word :=
  match b.pl.opened with
  | none => []
  | some sn => lohi sn.epoch.toNat ++ [BitVec.ofNat 32 sn.seq, BitVec.ofNat 32 sn.interval, b.reg Reg.SNAPSHOT_OVERRUN, bit b.pl.openedNew]

/-- The words a selector captures (R461), or none for an unknown selector. -/
def Base.selWords (b : Base) (sel : Nat) : Option (List Word) :=
  if sel = 1 then some (lohi b.pl.epoch.toNat)
  else if sel = 2 then some (lohi b.pl.epoch.toNat ++ lohi b.calendar.1 ++ [BitVec.ofNat 32 b.calendar.2])
  else if sel = 0x10 then some (lohi b.mov.rowTransfers)
  else if sel = 0x11 then some (lohi b.mov.bytesDone)
  else if 0x20 ≤ sel ∧ sel < 0x30 then
    let p := b.port (sel - 0x20)
    some (lohi p.flitsRx ++ lohi p.flitsTx ++ lohi p.flitsReplayed)
  else if 0x40 ≤ sel ∧ sel < 0x50 then
    let d := b.ld (sel - 0x40)
    some (lohi d.linesRead ++ lohi d.linesWritten ++ lohi d.bytesMoved)
  else if 0x100 ≤ sel ∧ sel < 0x140 then some (b.snapWords (sel - 0x100))
  else none

/-- SNAP_SEL (R460): every word of the selector is copied at one moment. -/
def execSnapSel (v : Word) (s : State) : Host.Outcome State Fault Refusal :=
  s.whenBase Base.mgmtFull fun b =>
    let sel := fld v 15 0
    let b := b.setReg Reg.SNAP_SEL (v &&& 0xFFFF)
    if sel = 3 then
      let b := b.openSnapshot
      b.updMg fun m => { m with snapWords := b.snapHeader, snapValid := true, snapBad := false }
    else match b.selWords sel with
      | some l => b.updMg fun m => { m with snapWords := l, snapValid := true, snapBad := false }
      | none => b.updMg fun m => { m with snapWords := [], snapValid := true, snapBad := true }

/-! ### MCTP and I3C -/

/-- The endpoint ID of a transport. -/
def Base.eid (b : Base) : Transport → Byte
  | .pcie => b.mg.eidPcie
  | .i3c => b.mg.eidI3c

/-- The transport carries requests: firmware runs, and for PCIe the endpoint is up (R416, R462). -/
def Base.transportUp (b : Base) : Transport → Bool
  | .pcie => b.fwRuns && b.mgmtUp
  | .i3c => b.fwRuns

/-- An MCTP message is dropped (R462). -/
def Base.mctpDrop (b : Base) : Base := (b.bump Reg.MCTP_DROP_COUNT).send .mctpDropped 0x581 0

/-- An MCTP control request (R462): a message that cannot be reassembled is dropped; without an endpoint ID the part
answers only those addressed to the null endpoint ID. -/
def Base.mctpControl (b : Base) (r : MctpReq) (f : Base → Base) : Base :=
  if !b.transportUp r.transport then b
  else if !r.good then b.mctpDrop
  else if b.eid r.transport = 0 ∧ r.toNull = false then b
  else f b

/-- MCTP_SET_ENDPOINT_ID (R462): identifiers 0 and 0xFF name no endpoint (PRESUMED, MCTP). -/
def execMctpSetEndpointId (r : MctpReq) (eid : Byte) (s : State) : Host.Outcome State Fault Refusal :=
  s.then_ fun b => b.mctpControl r fun b =>
    if eid = 0 ∨ eid = 0xFF then b.emit (.mctp r.transport (.errorCode 2))
    else
      let b := b.updMg fun m => match r.transport with
        | .pcie => { m with eidPcie := eid }
        | .i3c => { m with eidI3c := eid }
      b.emit (.mctp r.transport .success)

/-- MCTP_GET_ENDPOINT_ID (R462). -/
def execMctpGetEndpointId (r : MctpReq) (s : State) : Host.Outcome State Fault Refusal :=
  s.then_ fun b => b.mctpControl r fun b => b.emit (.mctp r.transport (.number (b.eid r.transport).toNat))

/-- MCTP_GET_ENDPOINT_UUID (R462); the manual states no UUID. -/
def execMctpGetEndpointUuid (r : MctpReq) (s : State) : Host.Outcome State Fault Refusal :=
  s.then_ fun b => b.mctpControl r fun b => b.emit (.mctp r.transport (.number Config.uuid.toNat))

/-- MCTP_GET_VERSION_SUPPORT (R462): MCTP 1.3. -/
def execMctpGetVersionSupport (r : MctpReq) (s : State) : Host.Outcome State Fault Refusal :=
  s.then_ fun b => b.mctpControl r fun b => b.emit (.mctp r.transport (.numbers [1, 3]))

/-- MCTP_GET_MESSAGE_TYPE_SUPPORT (R462): the fabric-manager API only on the management port. -/
def execMctpGetMessageTypeSupport (r : MctpReq) (s : State) : Host.Outcome State Fault Refusal :=
  s.then_ fun b => b.mctpControl r fun b =>
    b.emit (.mctp r.transport (.numbers (if r.transport = .pcie then [0x00, 0x05, 0x07, 0x7E] else [0x00, 0x05, 0x7E])))

/-- MCTP_GET_VENDOR_MSG_SUPPORT (R462, R6): the Gletex PCI vendor ID. -/
def execMctpGetVendorMsgSupport (r : MctpReq) (s : State) : Host.Outcome State Fault Refusal :=
  s.then_ fun b => b.mctpControl r fun b => b.emit (.mctp r.transport (.number 0x1F3A))

/-- FM_API_COMMAND (R92, R462): the fabric-manager API is served on the management port, and in the FM-owned logical device of an MLD port,
which a port in SLD mode does not carry; on I3C its messages are of an unsupported type and are dropped. -/
def execFmApiCommand (p : FmPath) (s : State) : Host.Outcome State Fault Refusal :=
  s.then_ fun b => match p with
    | .tunnel k =>
      if !(b.fwRuns && (b.port k.toNat).carries) then b
      else if tb (b.reg (Reg.PORT_LD_MODE k.toNat)) 0 then b.emit (.fmReply .success)
      else b.ldNotBound k.toNat
    | .mctp r =>
      if !b.transportUp r.transport then b
      else if !r.good || r.transport == .i3c then b.mctpDrop
      else if b.eid r.transport = 0 then b
      else b.emit (.fmReply .success)

/-- The provisional ID of the I3C target (R464). -/
def i3cPid : Nat := 0x06C2 * 2 ^ 33 + 0x0128 * 2 ^ 16 + Config.serialLow.toNat

/-- I3C_ENTDAA (R464): a target without a dynamic address gives its provisional ID and takes the address. -/
def execI3cEntdaa (addr : BitVec 7) (s : State) : Host.Outcome State Fault Refusal :=
  s.whenBase Base.alive fun b =>
    if b.mg.i3cAddr = 0 then (b.updMg fun m => { m with i3cAddr := addr }).emit (.command (.number i3cPid)) else b

/-- I3C_SETDASA (R464): the static address is 0x3C. -/
def execI3cSetdasa (staticAddr addr : BitVec 7) (s : State) : Host.Outcome State Fault Refusal :=
  s.whenBase Base.alive fun b =>
    if b.mg.i3cAddr = 0 ∧ staticAddr = 0x3C then b.updMg fun m => { m with i3cAddr := addr } else b

/-! ### Mailboxes -/

/-- The pointer check of R469: bits [63:37] zero; a host's or MGMT's notice of some length wholly inside its ranges. -/
def Base.ptrOk (b : Base) (who : Nat) (ptr : BitVec 64) (len : Nat) : Bool :=
  decide (ptr.toNat < 2 ^ 37) &&
    (len == 0 ||
      (if who < 16 then b.effHolds who ptr.toNat (ptr.toNat + len - 1)
       else if who = 16 then decide (b.rf Reg.DIAG_FW_BASE 8 0 ≤ ptr.toNat / 2 ^ 28) && decide ((ptr.toNat + len - 1) / 2 ^ 28 ≤ b.rf Reg.DIAG_FW_LIMIT 8 0)
       else true))

/-- A receiver is told that its FIFO is no longer empty (R470). -/
def Base.mbxNotify (b : Base) (receiver c sender : Nat) (seq : BitVec 16) : Base :=
  if receiver = 16 then b.msixMgmt 6
  else if receiver < 16 then b.addRecord receiver .informational (.mailbox c sender seq) none 0
  else b.emit (.internalIrq receiver)

/-- The channels from `receiver` back to `sender` that hold a notice (R474). -/
def Base.reverseFull (b : Base) (sender receiver : Nat) : List Nat :=
  (List.range 64).filter fun k => b.mbxSender k == some receiver && b.mbxReceiver k == some sender && !(b.mbx k).fifo.isEmpty

/-- A notice joins a channel (R469, R470, R474). -/
def Base.mbxAccept (b : Base) (c sender receiver : Nat) (n : Notice) : Base :=
  let was := (b.mbx c).fifo
  let b := b.updMbx c fun m => { m with fifo := m.fifo ++ [n], lastPost := 0 }
  let b := if 18 ≤ receiver ∧ receiver ≤ 20 ∧ Tab.get DomState.on b.mg.pith (receiver - 17) = .goingOff
    then b.updMg fun m => { m with pith := Tab.set DomState.on m.pith (receiver - 17) .on } else b
  let b := if receiver = 21 ∧ b.mov.domain = .goingOff then b.updMov fun v => { v with domain := .on } else b
  let b := if was.isEmpty then b.mbxNotify receiver c sender n.seq else b
  match b.reverseFull sender receiver with
  | [] => b
  | l =>
    let b := (c :: l).foldl (fun b k => b.updMbx k fun m => { m with crossed := true, crossedAt := some b.now }) b
    b.send .mbxCrossed (0x588 + receiver) (c + 256 * sender)

/-- A refused post (R469). -/
def Base.mbxRefuse (b : Base) (c sender receiver code : Nat) : Base :=
  (b.updMbx c fun m => { m with lastPost := code }).send .mbxPostRefused (0x588 + receiver) (c + 256 * sender + code * 2 ^ 16)

/-- A write to MBX_POST (R467, R469, R471, R476). RIND posts pointer 0 and length 0. -/
def Base.mbxPost (b : Base) (who c : Nat) (v : Word) : Base :=
  let bank := b.mbxBank c
  if b.mbxSender c ≠ some who ∨ (who < 16 ∧ b.coh.isolated.getLsbD who) then b.mbxDeny bank c who
  else if !b.bankOn bank then b.mbxOff bank c who
  else
    let n : Notice := if who = 22 then { ptr := 0, len := 0, seq := v.extractLsb' 16 16 }
      else { ptr := (b.mbx c).ptr, len := v.extractLsb' 0 16, seq := v.extractLsb' 16 16 }
    if 4 ≤ (b.mbx c).fifo.length then b.mbxRefuse c who bank 1
    else if !b.ptrOk who n.ptr n.len.toNat then b.mbxRefuse c who bank 2
    else b.mbxAccept c who bank n

/-- MBX_POST. -/
def execMbxPost (who : BitVec 5) (c : BitVec 6) (v : Word) (s : State) : Host.Outcome State Fault Refusal :=
  s.whenBase (fun b => b.reaches who.toNat) fun b => b.mbxPost who.toNat c.toNat v

/-- MBX_POP (R470): the receiver removes the head notice; an empty FIFO ignores it. -/
def execMbxPop (who : BitVec 5) (c : BitVec 6) (s : State) : Host.Outcome State Fault Refusal :=
  s.whenBase (fun b => b.reaches who.toNat) fun b =>
    if b.mbxReceiver c.toNat ≠ some who.toNat then b.mbxDeny (b.mbxBank c.toNat) c.toNat who.toNat
    else if !b.bankOn (b.mbxBank c.toNat) then b.mbxOff (b.mbxBank c.toNat) c.toNat who.toNat
    else b.updMbx c.toNat fun m => { m with fifo := m.fifo.drop 1 }

/-- The identity is the channel's sender or receiver. -/
def Base.mbxParty (b : Base) (c who : Nat) : Bool := b.mbxSender c == some who || b.mbxReceiver c == some who

/-- CROSSED is cleared, unless it is set in the same cycle (R10). -/
def MbxChan.clearCrossed (m : MbxChan) (now : Nat) : MbxChan := { m with crossed := m.crossed && m.crossedAt == some now }

/-- MBX_CROSSED_CLEAR (R467, R474): a party clears CROSSED. -/
def execMbxCrossedClear (who : BitVec 5) (c : BitVec 6) (s : State) : Host.Outcome State Fault Refusal :=
  s.whenBase (fun b => b.reaches who.toNat) fun b =>
    if !b.mbxParty c.toNat who.toNat then b.mbxDeny (b.mbxBank c.toNat) c.toNat who.toNat
    else if !b.bankOn (b.mbxBank c.toNat) then b.mbxOff (b.mbxBank c.toNat) c.toNat who.toNat
    else b.updMbx c.toNat fun m => m.clearCrossed b.now

/-- MBX_LOCK_READ (R473): a free lock is taken and the read returns 0; an owned one returns its owner's number plus 1.
A denied read returns zero (R467, R476). -/
def execMbxLockRead (who : BitVec 5) (c : BitVec 6) (s : State) : Host.Outcome State Fault Refusal :=
  s.whenBase (fun b => b.reaches who.toNat) fun b =>
    let w := who.toNat
    if !b.mbxParty c.toNat w || (decide (w < 16) && b.coh.isolated.getLsbD w) then b.emit (.mbxRead w 0)
    else if !b.bankOn (b.mbxBank c.toNat) then b.mbxOff (b.mbxBank c.toNat) c.toNat w
    else
      let l := (b.mbx c.toNat).lock
      if l = 0 then (b.updMbx c.toNat fun m => { m with lock := w + 1 }).emit (.mbxRead w 0)
      else b.emit (.mbxRead w (BitVec.ofNat 32 l))

/-- MBX_LOCK_RELEASE (R473): the owner writes 0 to OWNER, bits [4:0] of MBX_LOCK (R479); any other write is discarded. -/
def execMbxLockRelease (who : BitVec 5) (c : BitVec 6) (v : Word) (s : State) : Host.Outcome State Fault Refusal :=
  s.whenBase (fun b => b.reaches who.toNat) fun b =>
    if !b.mbxParty c.toNat who.toNat then b.mbxDeny (b.mbxBank c.toNat) c.toNat who.toNat
    else if !b.bankOn (b.mbxBank c.toNat) then b.mbxOff (b.mbxBank c.toNat) c.toNat who.toNat
    else if fld v 4 0 = 0 ∧ (b.mbx c.toNat).lock = who.toNat + 1 then b.updMbx c.toNat fun m => { m with lock := 0 }
    else b

/-- How long a bank's domain takes to come back (R42, R472). -/
def wakeTime (bank : Nat) : Nat := if bank = 21 then 2000 else 10000

/-- A bank's domain state set. -/
def Base.setDomain (b : Base) (bank : Nat) (d : DomState) : Base :=
  if bank = 21 then b.updMov fun v => { v with domain := d }
  else b.updMg fun m => { m with pith := Tab.set DomState.on m.pith (bank - 17) d }

/-- The state of a bank's domain (R43, R465): banks outside PITH1 to PITH3 and MOVER are never taken down. -/
def Base.domainOf (b : Base) (bank : Nat) : DomState :=
  if bank = 21 then b.mov.domain else if 18 ≤ bank ∧ bank ≤ 20 then Tab.get DomState.on b.mg.pith (bank - 17) else .on

/-- MBX_WAKE (R467, R472): a sender of a channel of the bank, or MGMT. A domain already on its way keeps the moment it is restored. -/
def execMbxWake (who bank : BitVec 5) (s : State) : Host.Outcome State Fault Refusal :=
  s.whenBase (fun b => b.reaches who.toNat && decide (bank.toNat < 22)) fun b =>
    let k := bank.toNat
    if who.toNat ≠ 16 ∧ !((List.range 64).any fun c => b.mbxSender c == some who.toNat && b.mbxReceiver c == some k) then b.mbxDeny k 0 who.toNat
    else if k = 16 ∧ b.mg.perstAsserted then b
    else
      match b.domainOf k with
      | .on => b.updMg fun m => { m with wakeDone := setBit m.wakeDone k true, stayOn := Tab.set 0 m.stayOn k (b.now + 1000000) }
      | .waking => b.updMg fun m => { m with wakeDone := setBit m.wakeDone k false }
      | _ => (b.setDomain k .waking).updMg fun m => { m with wakeDone := setBit m.wakeDone k false, wakeDue := Tab.set 0 m.wakeDue k (b.now + wakeTime k) }

/-- MBX_WAKE_DONE (R472): the domain is restored and stays on for at least 1 ms. -/
def execMbxWakeDone (bank : BitVec 5) (s : State) : Host.Outcome State Fault Refusal :=
  s.whenBase Base.alive fun b =>
    let k := bank.toNat
    if b.domainOf k == .waking && decide (Tab.get 0 b.mg.wakeDue k ≤ b.now) then
      (b.setDomain k .on).updMg fun m => { m with wakeDone := setBit m.wakeDone k true, stayOn := Tab.set 0 m.stayOn k (b.now + 1000000) }
    else b

/-- No scrub or sweep work is planned or under way on the row buses, and no row of a running channel is owed (R42). -/
def Base.noRowWork (b : Base) : Bool :=
  let p := b.pl.active
  p.scrub.isEmpty && p.segment.isNone && p.fullWidth.isNone && b.si.segOut.isNone && b.si.fwActive.isNone && b.coh.sweeps.isEmpty
    && b.lay.fills.isEmpty && b.dram.chans.all fun e => e.2.scrubJob.isNone && e.2.moves.isEmpty && (e.2.scrubOwed == 0 || !b.setOpen e.1)

/-- The row mover without power loses its logic state: the round robin and the failure counts of the buses (R42). What MRAM, the cane
latches and the registers hold is not its logic (entry 115). -/
def Mover.poweredOff (v : Mover) : Mover :=
  { v with rr := 0, domain := .off, buses := v.buses.map fun e => (e.1, { e.2 with failures := 0 }) }

/-- DOMAIN_POWER_OFF (R42, R471, R472): firmware or the MOVER domain powers a bank's domain off, only while its FIFOs are
empty, not within the 1 ms a WAKE gives, and for MOVER with every queue empty and no scrub or sweep work planned. The bank's locks are
freed. -/
def execDomainPowerOff (bank : BitVec 5) (s : State) : Host.Outcome State Fault Refusal :=
  s.whenBase Base.fwRuns fun b =>
    let k := bank.toNat
    let on := if k = 21 then b.mov.domain == .on && b.mov.slots.isEmpty && b.noRowWork
        && (List.range 64).all (fun q => (b.queue q).head == (b.queue q).tail)
      else decide (18 ≤ k ∧ k ≤ 20) && Tab.get DomState.on b.mg.pith (k - 17) == .on
    if on && (b.bankChans k).all (fun c => (b.mbx c).fifo.isEmpty) && decide (Tab.get 0 b.mg.stayOn k ≤ b.now) then
      let b := (b.bankChans k).foldl (fun b c => b.updMbx c fun m => { m with lock := 0 }) b
      let b := if k = 21 then b.updMov Mover.poweredOff else b.setDomain k .off
      b.updMg fun m => { m with wakeDone := setBit m.wakeDone k false }
    else b

/-! ### Management reset and recovery -/

/-- A management reset (R416, R476, R486): the endpoint's MSI-X table, its mailbox bank and the dictionary window return to
their reset values. -/
def Base.mgmtReset (b : Base) : Base :=
  let b := (b.emptyBank 16).freeLocksOf 16
  let b := { b with regs := b.regs.filter fun e => !(decide (0x100000 ≤ e.1) && decide (e.1 < 0x120000)) }
  let b := b.updMg fun m => { m with msixTable := [], msixPending := 0, aerAbort := false, diagReads := [], rcvBusy := false, rcvDone := false, rcvError := 0, rcvResult := 0 }
  b.updDict fun d => { d with odBusy := false, odDone := false, odStatus := 0, odType := 0, odLen := 0 }

/-- MGMT_PERST (R416). -/
def execMgmtPerst (s : State) : Host.Outcome State Fault Refusal :=
  s.then_ fun b =>
    let b := b.updMg fun m => { m with perstAsserted := true }
    if b.alive then b.mgmtReset else b

/-- MGMT_PERST_RELEASE (R416). -/
def execMgmtPerstRelease (s : State) : Host.Outcome State Fault Refusal :=
  s.then_ fun b => b.updMg fun m => { m with perstAsserted := false }

/-- RCV_GO (R477): the boot ROM erases and programs a chunk; outside recovery ERROR reads 3. -/
def execRcvGo (slotB : Bool) (chunk : BitVec 7) (s : State) : Host.Outcome State Fault Refusal :=
  s.whenBase Base.mgmtUp fun b =>
    if !b.boot.recovery then b.updMg fun m => { m with rcvError := 3 }
    else if b.mg.rcvBusy then b
    else b.updMg fun m => { m with rcvBusy := true, rcvDone := false, rcvError := 0, rcvSlot := slotB, rcvChunk := chunk.toNat }

/-- RCV_CHUNK_DONE (R477): the chunk is read back; codes 1 and 2 are failures. Vector 7 follows BUSY. -/
def execRcvChunkDone (error : BitVec 2) (s : State) : Host.Outcome State Fault Refusal :=
  s.whenBase (fun b => b.alive && b.boot.recovery && b.mg.rcvBusy) fun b =>
    let e := if error.toNat ≤ 2 then error.toNat else 1
    let b := (b.updMg fun m => { m with rcvBusy := false, rcvDone := true, rcvError := e }).msixMgmt 7
    if e = 0 then b else b.send .recoveryChunkFailed 0x583 b.mg.rcvChunk

end Sys2Proof.Machine
end

