-- ==== Sys2Proof/Machine/Fuses.lean ====
section
/-! DEFINITION. Machine/Fuses.lean: the OTP map, seals, reading and programming, the journal, the margin scan, grafts,
authenticated commands and the lifecycle (R428 to R441), and firmware images (R424 to R428). -/

namespace Sys2Proof.Machine

/-! ### CRC-32 and OTP words -/

/-- One bit of the reflected CRC-32 of R432, polynomial 0x04C1_1DB7. -/
def crcBit (c : Word) : Word := if c.getLsbD 0 then (c >>> 1) ^^^ 0xEDB88320 else c >>> 1

/-- One byte into the CRC. -/
def crc32Byte (c : Word) (x : Byte) : Word := forN 8 (fun _ c => crcBit c) (c ^^^ (BitVec.setWidth 32 x))

/-- CRC-32 of words taken as 4 little-endian bytes each (R432). -/
def crc32 (ws : List Word) : Word :=
  ~~~((ws.flatMap fun w => (List.range 4).map fun i => w.extractLsb' (8 * i) 8).foldl crc32Byte (BitVec.allOnes 32))

/-- Bitwise majority of the three copies of a word (R434). -/
def majority (x : BitVec 96) : Word :=
  let a := x.extractLsb' 0 32; let b := x.extractLsb' 32 32; let c := x.extractLsb' 64 32
  (a &&& b) ||| (a &&& c) ||| (b &&& c)

/-- The three copies of a word agree. -/
def copiesAgree (x : BitVec 96) : Bool := x.extractLsb' 0 32 == x.extractLsb' 32 32 && x.extractLsb' 0 32 == x.extractLsb' 64 32

/-- A value in all three copies. -/
def threeCopies (v : Word) : BitVec 96 := v ++ v ++ v

/-- A word as programmed, without replacement. -/
def otpRaw (otp : Tab (BitVec 96)) (w : Nat) : Word := majority (Tab.get 0 otp w)

/-- A word as the fuse controller reads it: a replacement value of the table loaded at boot takes its place, the
highest-numbered entry winning (R434, R441). -/
def otpRead (otp : Tab (BitVec 96)) (repl : List (Nat × Word)) (w : Nat) : Word :=
  match repl.reverse.find? fun e => e.1 == w with
  | some e => e.2
  | none => otpRaw otp w

/-- Words that read as zero but to the boot ROM (R434, R526). -/
def hiddenWord (w : Nat) : Bool := (decide (0x30 ≤ w) && decide (w ≤ 0x37)) || (decide (0x510 ≤ w) && decide (w ≤ 0x51B))

/-- The regions of R431: 0 IDENTITY, 1 LIFECYCLE, 2 REPAIR, 3 GRAFT, 4 KEYHASH, 5 RIND_SEAL, 6 MARGIN_SPARE. -/
def regionOf (w : Nat) : Nat :=
  if w < 0x40 then 0 else if w < 0x50 then 1 else if w < 0x240 then 2 else if w < 0x4D0 then 3
  else if w < 0x510 then 4 else if w < 0x550 then 5 else 6

/-- First word of a region. -/
def regionBase (r : Nat) : Nat := match r with | 0 => 0 | 1 => 0x40 | 2 => 0x50 | 3 => 0x240 | 4 => 0x4D0 | 5 => 0x510 | _ => 0x550

/-- Seal words of a region with one seal, and its lock word (R431). -/
def sealWord (r : Nat) : Option Nat := match r with | 0 => some 0x3C | 2 => some 0x23C | 4 => some 0x500 | 5 => some 0x54C | _ => none
def lockWord (r : Nat) : Option Nat := match r with | 0 => some 0x3E | 2 => some 0x23E | 4 => some 0x502 | 5 => some 0x54E | _ => none

/-- Words an entry of the region takes (R432). -/
def entryWords (r : Nat) : Nat := if r = 3 then 5 else 1

/-- The seal at words `sw` and `sw + 1` verifies for the region (R432). -/
def sealVerifies (rd : Nat → Word) (r sw : Nat) : Bool :=
  let s0 := rd sw
  let n := fld s0 15 0 * entryWords r
  fld s0 26 16 == regionBase r && decide (n ≤ 0x290) && s0 != 0
    && rd (sw + 1) == crc32 ((List.range n).map fun i => rd (regionBase r + i))

/-- The region's lock fuse is set (R432). -/
def regionLocked (otp : Tab (BitVec 96)) (r : Nat) : Bool := match lockWord r with | some w => (otpRaw otp w).getLsbD 0 | none => false

/-- The governing GRAFT seal slot: the highest-numbered that verifies (R438). -/
def graftSlot (rd : Nat → Word) : Option Nat := (List.range 8).reverse.find? fun k => sealVerifies rd 3 (0x4C0 + 2 * k)

/-- Words below the ENTRIES of a verifying seal, and used seal slots (R436). -/
def sealedWord (rd : Nat → Word) (w : Nat) : Bool :=
  let r := regionOf w
  let under := fun sw => sealVerifies rd r sw && decide (regionBase r ≤ w) && decide (w < regionBase r + fld (rd sw) 15 0 * entryWords r)
  if r = 3 then
    ((List.range 8).any fun k => under (0x4C0 + 2 * k))
      || (decide (0x4C0 ≤ w) && sealVerifies rd 3 (0x4C0 + 2 * ((w - 0x4C0) / 2)))
  else match sealWord r with
    | some sw => under sw || (sealVerifies rd r sw && (w == sw || w == sw + 1))
    | none => false

/-- The lifecycle state LIFECYCLE names: the highest set bit, BLANK when none (R430). -/
def lifecycleOf (w : Word) : Nat :=
  if w.getLsbD 4 then 5 else if w.getLsbD 3 then 4 else if w.getLsbD 2 then 3 else if w.getLsbD 1 then 2
  else if w.getLsbD 0 then 1 else 0

/-- Key hash k of KEYHASH (R431). -/
def keyHash (rd : Nat → Word) (k : Nat) : BitVec 384 :=
  BitVec.ofNat 384 ((List.range 12).map fun i => (rd (0x4D0 + 12 * k + i)).toNat * 2 ^ (32 * i)).sum

/-- The hash lies in KEYHASH. -/
def inKeyHash (rd : Nat → Word) (h : BitVec 384) : Bool := h != 0 && (List.range 4).any fun k => keyHash rd k == h

/-- The words as firmware and the boot ROM read them. -/
def State.rd (s : State) (w : Nat) : Word := otpRead s.otp s.base.boot.replaceTable w

/-! ### Reading -/

/-- FUSE_RD_ADDR (R434, R445): VALID reads 1 with the value, and the flags DISAGREE, MARGINAL, REPLACED and HIDDEN. A word
whose copies disagree, or that is marginal, is reported (R378, R441). -/
def execFuseRead (v : Word) (low high : BitVec 96) (s : State) : Host.Outcome State Fault Refusal :=
  s.whenBase Base.mgmtUp fun b =>
    let w := fld v 10 0
    let c := Tab.get 0 s.otp w
    let hidden := hiddenWord w
    let replaced := b.boot.replaceTable.any fun e => e.1 == w
    let disagree := !copiesAgree c
    let marginal := tb v 16 && (disagree || !copiesAgree (c ^^^ low) || !copiesAgree (c ^^^ high)
      || majority (c ^^^ low) != majority c || majority (c ^^^ high) != majority c)
    let data : Word := if hidden || decide (0x600 ≤ w) then 0 else otpRead s.otp b.boot.replaceTable w
    let flags : BitVec 4 := BitVec.ofBool hidden ++ BitVec.ofBool replaced ++ BitVec.ofBool marginal ++ BitVec.ofBool disagree
    let b := (b.setReg Reg.FUSE_RD_ADDR (v &&& 0x107FF)).updBoot fun x => { x with readValid := true, readData := data, readFlags := flags }
    if disagree || marginal then
      (b.updDict fun d => { d with life := { d.life with fuseMargin := d.life.fuseMargin + 1 } }).send .fuseMarginal 0x5C3 w
    else b

/-! ### Programming -/

/-- The fuse controller refuses a program (R436), with the reason code in bits [19:16]. -/
def Base.fuseRefused (b : Base) (w reason : Nat) : Base := b.send .fuseProgramRefused 0x5C2 (w + reason * 2 ^ 16)

/-- The region is programmable in the state in force (R429): GRAFT in FIELD only under an authenticated command,
MARGIN_SPARE in FIELD only by firmware. -/
def regionOpen (state r : Nat) (by_ : FuseBy) : Bool :=
  match state, r with
  | 1, 0 | 1, 2 | 1, 3 => true
  | 2, 3 | 2, 4 | 2, 5 => true
  | 3, 3 => match by_ with | .command _ => true | _ => false
  | 3, 6 => by_ == .firmware
  | _, _ => false

/-- Why a program of a word to a value is refused (R436), in the order of the reason codes. -/
def State.programReason (s : State) (by_ : FuseBy) (w : Nat) (v : Word) : Option Nat :=
  let b := s.base
  if b.boot.fuseOp.isSome then some 5
  else if !regionOpen b.boot.lifecycle (regionOf w) by_ || decide (0x600 ≤ w) then some 1
  else if regionLocked s.otp (regionOf w) then some 2
  else if sealedWord (otpRaw s.otp) w then some 3
  else if otpRaw s.otp w &&& ~~~v ≠ 0 then some 4
  else none

/-- A journal entry is written before each word (R435): the oldest COMPLETE entry makes room when 32 are held, and with
none COMPLETE the oldest (DESIGN CHOICE). -/
def journalAdd (j : List JournalEntry) (e : JournalEntry) : List JournalEntry :=
  if j.length < 32 then j ++ [e]
  else if j.any fun x => x.state == .complete then dropFirst (fun x => x.state == .complete) j ++ [e]
  else j.drop 1 ++ [e]

/-- The controller starts on words in order: the first is journalled (R435). -/
def Base.fuseStart (b : Base) (op : FuseOp) (ws : List (Nat × Word)) : Base :=
  match ws with
  | [] => b
  | (w, v) :: _ => b.updBoot fun x =>
      { x with fuseOp := some op, fuseQueue := ws, journal := journalAdd x.journal { word := w, value := v, state := .incomplete } }

/-- Which bits a word's pulses leave programmed when they did not all take: a free value within the intended bits. -/
def partialBits (n : Nat) (v : Word) : BitVec 96 := threeCopies v &&& BitVec.ofNat 96 (Config.freeNat n)

/-- The newest journal entry of a word takes a state. -/
def journalSet (j : List JournalEntry) (w : Nat) (st : JournalState) : List JournalEntry :=
  (updFirst (fun e : JournalEntry => e.word == w && e.state == .incomplete) (fun e => { e with state := st }) j.reverse).reverse

/-- FUSE_PROGRAM_DONE (R435): the word under way verifies, or its verify fails and the operation ends. -/
def execFuseProgramDone (ok : Bool) (s : State) : Host.Outcome State Fault Refusal :=
  let b := s.base
  match b.boot.fuseOp, b.boot.fuseQueue with
  | some op, (w, v) :: rest =>
    if !b.alive then .next s
    else if ok then
      let otp := Tab.set 0 s.otp w (Tab.get 0 s.otp w ||| threeCopies v)
      let b := b.updBoot fun x => { x with journal := journalSet x.journal w .complete, fuseOp := none, fuseQueue := [] }
      let b := if op = .advance then b.send .lifecycleAdvanced 0x5C4 (lifecycleOf (otpRaw otp 0x40)) else b
      .next { s with otp := otp, base := b.fuseStart op rest }
    else
      let otp := Tab.set 0 s.otp w (Tab.get 0 s.otp w ||| partialBits b.free v)
      let b := b.takeFree.2.updBoot fun x => { x with journal := journalSet x.journal w .failed, fuseOp := none, fuseQueue := [] }
      .next { s with otp := otp, base := b }
  | _, _ => .next s

/-- A pulse in progress is aborted (R435, R376, R378): the word keeps its INCOMPLETE entry, and which of its bits took is a
free value. -/
def State.abortFuse (s : State) : State :=
  match s.base.boot.fuseQueue with
  | (w, v) :: _ =>
    { s with
      otp := Tab.set 0 s.otp w (Tab.get 0 s.otp w ||| partialBits s.base.free v)
      base := s.base.takeFree.2.updBoot fun x => { x with fuseOp := none, fuseQueue := [] } }
  | [] => s

/-! ### Lifecycle -/

/-- Whether an advance of LIFECYCLE to bit k is allowed (R430): every lower bit set or the bit VOID, and the condition and
requester of the table. An authenticated command is checked by its own step. -/
def State.advanceOk (s : State) (k : Nat) (by_ : FuseBy) : Bool :=
  let w := otpRaw s.otp 0x40
  let lower := (List.range k).all fun i => w.getLsbD i
  !w.getLsbD k && (k == 4 || lower) && (k == 4 || lifecycleOf w == k) &&
    match k, by_ with
    | 0, .jtag => true
    | 1, .jtag | 1, .firmware => regionLocked s.otp 0 && regionLocked s.otp 2
    | 2, .firmware => regionLocked s.otp 4 && regionLocked s.otp 5
    | 3, .command _ => true
    | 4, .jtag => decide (s.base.boot.lifecycle ≤ 1)
    | 4, .command _ => decide (2 ≤ s.base.boot.lifecycle)
    | _, _ => false

/-- An advance is programmed, or refused with reason BUSY or wrong state (R430, R436). -/
def State.advance (s : State) (k : Nat) (by_ : FuseBy) : State :=
  let b := s.base
  let w := otpRaw s.otp 0x40
  { s with base :=
      if b.boot.fuseOp.isSome then b.fuseRefused 0x40 5
      else if s.advanceOk k by_ then b.fuseStart .advance [(0x40, w ||| BitVec.ofNat 32 (2 ^ k))]
      else b.fuseRefused 0x40 1 }

/-- FUSE_PROGRAM (R435, R436): a program of LIFECYCLE follows R430 and one of a lock word R437. -/
def execFuseProgram (by_ : FuseBy) (word : BitVec 11) (value : Word) (s : State) : Host.Outcome State Fault Refusal :=
  let w := word.toNat
  if !s.base.alive then .next s
  else if w = 0x40 then
    match (List.range 5).filter fun k => value.getLsbD k && !(otpRaw s.otp 0x40).getLsbD k with
    | [k] => .next (s.advance k by_)
    | _ => .next { s with base := s.base.fuseRefused w 4 }
  else if (List.range 7).any fun r => lockWord r == some w then .next { s with base := s.base.send .fuseLockRefused 0x5C2 w }
  else match s.programReason by_ w value with
    | some r => .next { s with base := s.base.fuseRefused w r }
    | none => .next { s with base := s.base.fuseStart .program [(w, value)] }

/-- FUSE_LOCK (R437): only while the region's seal verifies, in a state in which the region is programmable. -/
def execFuseLock (region : Fin 7) (s : State) : Host.Outcome State Fault Refusal :=
  s.whenBase Base.alive fun b =>
    let r := region.val
    match sealWord r, lockWord r with
    | some sw, some lw =>
      if b.boot.fuseOp.isSome then b.send .fuseLockRefused 0x5C2 (lw + 5 * 2 ^ 16)
      else if sealVerifies (otpRaw s.otp) r sw && regionOpen b.boot.lifecycle r .firmware && !regionLocked s.otp r then
        b.fuseStart .lock [(lw, otpRaw s.otp lw ||| 1)]
      else b.send .fuseLockRefused 0x5C2 lw
    | _, _ => b.send .fuseLockRefused 0x5C2 (regionBase r)

/-- LIFECYCLE_ADVANCE (R430). -/
def execLifecycleAdvance (by_ : FuseBy) (bit : Fin 3) (s : State) : Host.Outcome State Fault Refusal :=
  if s.base.alive then .next (s.advance bit.val by_) else .next s

/-! ### Authenticated commands -/

/-- The checks of R440. -/
def State.authOk (s : State) (a : AuthCmd) : Bool :=
  a.serialOk && a.nonce.toNat == s.base.boot.cmdCounter + 1 && inKeyHash s.rd a.keyHash && a.sigOk

/-- An authenticated command (R440, R462): rejected it changes nothing; accepted, the counter advances before it acts. The
response is 0 accepted, 1 rejected, 2 busy. -/
def State.authCommand (s : State) (a : AuthCmd) (allowed : Bool) (f : State → State) : State :=
  if !s.base.fwRuns then s
  else if s.base.boot.fuseOp.isSome then { s with base := s.base.emit (.command (.errorCode 2)) }
  else if !(s.authOk a && allowed) then
    { s with base := (s.base.send .fuseCommandRejected 0x5C6 0).emit (.command (.errorCode 1)) }
  else
    f { s with base := (s.base.updBoot fun x => { x with cmdCounter := x.cmdCounter + 1 }).emit (.command (.errorCode 0)) }

/-- The words of a graft batch: its entries, then the seal slot (R433, R438). -/
def graftBatch (rd : Nat → Word) (entry : Nat) (lines : List GraftLine) (slot : Nat) : List (Nat × Word) :=
  let ws := lines.zipIdx.flatMap fun (g, i) =>
    let base := 0x240 + 5 * (entry + i)
    [(base, BitVec.setWidth 32 g.line), (base + 1, g.w1), (base + 2, g.w2), (base + 3, g.w3), (base + 4, g.w4)]
  let n := entry + lines.length
  let after := fun w => match ws.find? fun e => e.1 == w with | some e => rd w ||| e.2 | none => rd w
  let s0 : Word := BitVec.ofNat 32 (n + 0x240 * 2 ^ 16)
  let s1 := crc32 ((List.range (5 * n)).map fun i => after (0x240 + i))
  ws ++ [(0x4C0 + 2 * slot, s0), (0x4C1 + 2 * slot, s1)]

/-- GRAFT_APPEND (R438, R440): the entries are programmed and then the next unused seal slot. -/
def execGraftAppend (a : AuthCmd) (entry : BitVec 7) (lines : List GraftLine) (s : State) : Host.Outcome State Fault Refusal :=
  .next (s.authCommand a (decide (entry.toNat + lines.length ≤ 128)) fun s =>
    match (List.range 8).find? fun k => otpRaw s.otp (0x4C0 + 2 * k) == 0 && otpRaw s.otp (0x4C1 + 2 * k) == 0 with
    | none => { s with base := s.base.fuseRefused 0x4CE 3 }
    | some slot =>
      let ws := graftBatch (otpRaw s.otp) entry.toNat lines slot
      match ws.findSome? fun e => (s.programReason (.command a) e.1 e.2).map fun r => (e.1, r) with
      | some (w, r) => { s with base := s.base.fuseRefused w r }
      | none => { s with base := s.base.fuseStart .program ws })

/-- The newest journal entry of the word is INCOMPLETE or FAILED (R439). -/
def voidable (j : List JournalEntry) (w : Nat) : Bool :=
  match j.reverse.find? fun e => e.word == w with
  | some e => e.state == .incomplete || e.state == .failed
  | none => false

/-- The program of void words, or its refusal (R439). -/
def State.voidThem (s : State) (by_ : FuseBy) (ws : List Nat) : State :=
  match ws.find? fun w => !regionOpen s.base.boot.lifecycle (regionOf w) by_ || !voidable s.base.boot.journal w with
  | some w => { s with base := s.base.fuseRefused w 1 }
  | none => { s with base := s.base.fuseStart .program (ws.map fun w => (w, BitVec.allOnes 32)) }

/-- VOID_WORDS (R439): every bit of the named words is set. -/
def execVoidWords (by_ : FuseBy) (words : List (BitVec 11)) (s : State) : Host.Outcome State Fault Refusal :=
  let ws := words.map BitVec.toNat
  match by_ with
  | .command a => .next (s.authCommand a true fun s => s.voidThem by_ ws)
  | _ =>
    if !s.base.alive then .next s
    else if s.base.boot.fuseOp.isSome then .next { s with base := s.base.fuseRefused ((ws.head?).getD 0) 5 }
    else .next (s.voidThem by_ ws)

/-- LIFECYCLE_RETURN (R430, R440). -/
def execLifecycleReturn (a : AuthCmd) (s : State) : Host.Outcome State Fault Refusal :=
  .next (s.authCommand a true fun s => s.advance 3 (.command a))

/-- LIFECYCLE_VOID (R430, R440): by JTAG in BLANK and TEST, by authenticated command otherwise. -/
def execLifecycleVoid (by_ : FuseBy) (s : State) : Host.Outcome State Fault Refusal :=
  match by_ with
  | .command a => .next (s.authCommand a true fun s => s.advance 4 by_)
  | _ => if s.base.alive then .next (s.advance 4 by_) else .next s

/-- JTAG_UNLOCK (R429, R440): in RETURN, IEEE 1838 and 1687 access opens until cold reset. -/
def execJtagUnlock (a : AuthCmd) (s : State) : Host.Outcome State Fault Refusal :=
  .next (s.authCommand a (s.base.boot.lifecycle == 4) fun s => s.onBase fun b => b.updBoot fun x => { x with jtagOpen := true })

/-! ### Margin -/

/-- The word is marginal (R441): its copies disagree at some reference, or its majority differs between references. -/
def marginalWord (c low high : BitVec 96) : Bool :=
  !copiesAgree c || !copiesAgree (c ^^^ low) || !copiesAgree (c ^^^ high)
    || majority (c ^^^ low) != majority c || majority (c ^^^ high) != majority c

/-- The marginal words of a scan with the flips of each reference. -/
def marginalWords (otp : Tab (BitVec 96)) (noise : List MarginNoise) : List (Nat × BitVec 96 × BitVec 96) :=
  let keys := (noise.map (fun n => n.word.toNat) ++ otp.map (fun e => e.1)).eraseDups
  (keys.filterMap fun w =>
    let n := (noise.find? fun n => n.word.toNat == w).getD { word := 0, low := 0, high := 0 }
    if decide (w < 0x600) && marginalWord (Tab.get 0 otp w) n.low n.high then some (w, n.low, n.high) else none)

/-- The governing seal of a REPAIR or GRAFT word verifies (R441). -/
def governed (rd : Nat → Word) (w : Nat) : Bool :=
  match regionOf w with
  | 2 => sealVerifies rd 2 0x23C
  | 3 => (graftSlot rd).isSome
  | _ => false

/-- Unprogrammed MARGIN_SPARE entries, lowest first. -/
def freeSpares (otp : Tab (BitVec 96)) : List Nat :=
  (List.range 88).filter fun k => otpRaw otp (0x550 + 2 * k) == 0 && otpRaw otp (0x551 + 2 * k) == 0

/-- The programs that replace marginal words: word 1 before word 0 (R433, R441). -/
def replacements (otp : Tab (BitVec 96)) (ws : List Nat) : List (Nat × Word) :=
  (ws.zip (freeSpares otp)).flatMap fun (w, k) =>
    [(0x551 + 2 * k, otpRaw otp w), (0x550 + 2 * k, BitVec.ofNat 32 (w + (2047 - w) * 2 ^ 16 + 2 ^ 31))]

/-- MARGIN_SCAN (R441). -/
def execMarginScan (noise : List MarginNoise) (s : State) : Host.Outcome State Fault Refusal :=
  s.whenBase Base.fwRuns fun b =>
    let ms := marginalWords s.otp noise
    let b := ms.foldl (fun b m =>
      let c := Tab.get 0 s.otp m.1
      let b := b.updBoot fun x =>
        let l := x.marginLog ++ [(m.1, c, c ^^^ m.2.1, c ^^^ m.2.2, b.pl.epoch)]
        { x with marginLog := l.drop (l.length - 64) }
      b.send .fuseMarginal 0x5C3 m.1) b
    let b := b.updBoot fun x => { x with marginal := ms.length }
    let b := b.updDict fun d => { d with life := { d.life with fuseMargin := d.life.fuseMargin + ms.length } }
    let rd := otpRaw s.otp
    let want := (ms.map fun m => m.1).filter fun w => governed rd w && !(b.boot.replaceTable.any fun e => e.1 == w)
    if b.boot.lifecycle = 3 ∧ tb (b.reg Reg.MARGIN_CFG) 8 ∧ b.boot.fuseOp = none then b.fuseStart .program (replacements s.otp want) else b

/-! ### Images -/

/-- The key hashes accepted in the state in force (R429). -/
def State.keyAccepted (s : State) (h : BitVec 384) : Bool :=
  match s.base.boot.lifecycle with
  | 0 | 1 => h == Config.manufacturingKey
  | 2 => if regionLocked s.otp 4 then inKeyHash s.rd h else h == Config.manufacturingKey
  | 3 | 4 => inKeyHash s.rd h
  | _ => false

/-- The code of the first failing check of R425, 0 when the image is accepted. -/
def State.imageCode (s : State) (img : Image) : Nat :=
  if img.magic ≠ 0x5746524F ∨ img.headerVersion ≠ 1 ∨ img.length.toNat % 4096 ≠ 0 ∨ img.length.toNat > 2 ^ 20 ∨ img.length = 0
      ∨ !img.reservedZero ∨ img.flags &&& ~~~1 ≠ 0 ∨ img.svn.toNat > 65535 then 1
  else if !s.keyAccepted img.keyHash then 2
  else if !img.sigOk then 3
  else if !img.payloadOk then 4
  else if img.svn.toNat < s.base.boot.svnFloor then 5
  else if tb img.flags 0 && s.base.boot.lifecycle != 1 then 6
  else 0

/-- FIRMWARE_SLOT_WRITE (R428): only the slot firmware did not boot from; a slot that verifies becomes preferred and new. -/
def execFirmwareSlotWrite (slotB : Bool) (img : Image) (s : State) : Host.Outcome State Fault Refusal :=
  s.whenBase Base.fwRuns fun b =>
    if slotB ≠ b.boot.slotB ∧ s.imageCode img = 0 then b.updBoot fun x => { x with preferredB := slotB, new := true } else b

/-- RCV_FINISH (R477): the slot is verified under R425; a result of 0 makes it preferred. -/
def execRcvFinish (slotB : Bool) (img : Image) (s : State) : Host.Outcome State Fault Refusal :=
  s.whenBase Base.mgmtUp fun b =>
    if !b.boot.recovery then b.updMg fun m => { m with rcvError := 3 }
    else if b.mg.rcvBusy then b
    else
      let code := s.imageCode img
      let b := (b.updMg fun m => { m with rcvDone := true, rcvError := 0, rcvResult := code, rcvSlot := slotB }).msixMgmt 7
      if code = 0 then b.updBoot fun x => { x with preferredB := slotB, new := true, attempts := 0 } else b

end Sys2Proof.Machine
end

