-- ==== Sys2Proof/Machine/Transactions.lean ====
section
/-! DEFINITION. Machine/Transactions.lean: CXL.mem requests at the host-binding stage (R93 to R99, R104 to R109, R396, R398), the
label extension (R116 to R124), logical-device registers and mailbox commands (R96, R97, R110, R197, R391), dynamic
capacity (R101 to R103) and IDE keys (R114). -/

namespace Sys2Proof.Machine

/-! ### Admission -/

/-- A request of the RwD channel; the others are of the Req channel (R104). -/
def ReqOp.rwd : ReqOp → Bool
  | .wr _ _ | .ptl _ _ => true
  | _ => false

/-- A message that needs a credit of the RwD channel, or of the Req channel; none for the rest. -/
def msgRwd : Instr → Option Bool
  | .memRd _ | .memRdData _ | .memInv _ _ | .memSpecRd _ | .memRdFwd _ _ => some false
  | .memWr _ _ _ | .memWrPtl _ _ _ => some true
  | _ => none

/-- The credits of a channel that a port's requests in flight take (R109): a request has one until it is answered. -/
def Base.inUse (b : Base) (k : Nat) (rwd : Bool) : Nat :=
  let mine := b.waitingReqs.filter fun q => (match q.who with | .host p _ _ => p.toNat == k | _ => false) && q.op.rwd == rwd
  (mine.map fun q => q.passed).eraseDups.length + ((b.port k).unverified.filter fun m => msgRwd m.msg == some rwd).length

/-- The credits that a port holds for a channel: 256 of an x8 port, 128 of an x4 port (R109). -/
def Base.creditLimit (b : Base) (k : Nat) : Nat := 32 * b.laneCount k

/-- The port returns CXL.mem credits: memory is active, CXL runs and its stream is not insecure (R109, R115). -/
def Base.returnsCredits (b : Base) (k : Nat) : Bool := b.boot.memActive && (b.port k).carries && (b.port k).ide != 2

/-- The host has a credit for a request of a channel (R109). Without one it can send none. -/
def Base.credits (b : Base) (k : Nat) (rwd : Bool) : Bool := b.returnsCredits k && decide (b.inUse k rwd < b.creditLimit k)

/-- A request refused as a firewall violation or from an isolated host counts for Rind under the host's default label
(R99, R124, R508). -/
def Base.tallyRefused (b : Base) (h : Nat) : Base :=
  b.tally (b.tenantOf (b.defaultLabel h)) fun t => { t with refused := satAdd 0xFFFFFFFF t.refused 1 }

/-- A firewall violation (R99): 64 zero bytes with poison, or Cmp; no access. -/
def Base.violation (b : Base) (q : Req) (h addr : Nat) : Base :=
  let b := ((b.refuse q 0).tallyRefused h).bump (Reg.FIREWALL_COUNT h)
  b.send .firewallViolation (0x90 + h) addr

/-- A slot label lies in the host's range (R121). -/
def Base.labelAllowed (b : Base) (h : Nat) (l : Label) : Bool :=
  decide (b.rf (Reg.HOST_LABEL_RANGE h) 15 0 ≤ l.toNat) && decide (l.toNat ≤ b.rf (Reg.HOST_LABEL_RANGE h) 31 16)

/-- The replacement of an out-of-range context is counted and reported once, at the first request that takes it, with that
request's DPA (R121, R127; DEDUCED, entry 44: the host-binding stage sees requests, and the kind's address is a DPA). -/
def Base.countSubst (b : Base) (q : Req) (h : Nat) : Base :=
  let k := b.portOf h
  match (b.port k).slot.find? fun c => c.ld.toNat == h with
  | some c =>
    if b.labelAllowed h c.label || c.substituted then b
    else
      let b := b.updPort k fun p => { p with slot := p.slot.map fun y => if y.ld.toNat = h then { y with substituted := true } else y }
      let b := (b.updLd h fun d => { d with substCount := satAdd 0xFFFF d.substCount 1 }).bump (Reg.LABEL_SUBST_COUNT h)
      b.send .labelSubstituted (0x90 + h) (64 * q.line)
  | none => b

/-- The label and deadline of a request (R124): the context of a slot, else the windows. -/
def Base.labelled (b : Base) (q : Req) (h : Nat) : Req :=
  let p := b.port (b.portOf h)
  match p.slot.find? fun c => c.ld.toNat == h with
  | some c =>
    if b.labelAllowed h c.label then { q with label := c.label, deadline := if c.deadline = 0 then none else some (p.flitAt + 16 * c.deadline) }
    else { q with label := b.defaultLabel h, deadline := none }
  | none =>
    let w := b.windowLabel h (64 * q.line)
    { q with label := w.1, deadline := if w.2 = 0 then none else some (p.flitAt + 16 * w.2) }

/-- What the SEC-DED check of the map's word finds (R142). -/
def Base.mapUpset (b : Base) (line : Nat) (double : Bool) : Base :=
  let first := stripeOf line / 64 * 64
  let b := b.bump Reg.INITMAP_ECC_COUNT
  if double then
    (forN 64 (fun i b => b.mark (first + i)) b).send .initmapEccUncorrected 0x3F0 (65536 * first)
  else b.send .initmapEccCorrected 0x3F0 (65536 * stripeOf line)

/-- A pattern of three bits or more that the map's code takes for none or for one (R142): stripes of the word are marked or unmarked wrongly,
and a miscorrection is reported as a correction. -/
def Base.mapPattern (b : Base) (line : Nat) (flips : BitVec 64) (corrected : Bool) : Base :=
  let first := stripeOf line / 64 * 64
  let b := b.updLay fun l => { l with
    marked := forN 64 (fun i t => if flips.getLsbD i then Tab.set false t (first + i) (!Tab.get false t (first + i)) else t) l.marked }
  if corrected then (b.bump Reg.INITMAP_ECC_COUNT).send .initmapEccCorrected 0x3F0 (65536 * stripeOf line) else b

/-- What the SEC-DED check of a directory-cache entry finds (R237). An entry that is not there has no error. -/
def Base.dirUpset (b : Base) (line : Nat) (double : Bool) : Base :=
  if !(b.coh.cache.any fun e => e.1 == line) then b
  else if double then
    let r : DirRec := { vec := (((b.windowOf (blockOf line)).map b.membersOf).getD 0), st := 2 }
    let b := b.updCoh fun c => { c with dirRecovered := true, cache := c.cache.map fun e => if e.1 = line then (e.1, { e.2 with dir := r, dirty := true }) else e }
    b.send .dirEccRecovered 0x401 (64 * line)
  else b.send .dirEccCorrected 0x401 (64 * line)

def Base.upset (b : Base) (line : Nat) : Upset → Base
  | .none => b
  | .mapSingle => b.mapUpset line false
  | .mapDouble => b.mapUpset line true
  | .mapPattern flips corrected => b.mapPattern line flips corrected
  | .dirSingle => b.dirUpset line false
  | .dirDouble => b.dirUpset line true

/-- A request that needs no access and no flow: MemInv with No-Op in HDM-H and MemWrPtl without a byte (R104, R105). -/
def Base.idleReq (b : Base) (q : Req) : Bool :=
  match q.op with
  | .inv => !b.isDb q.line && q.metaField == .noOp
  | .ptl _ be => be == 0
  | _ => false

/-- A request inside its host's ranges: fenced octants and retired channels answer at once, else it takes its label, is
charged and goes on to the map stage (R29, R107, R338, R396). -/
def Base.admitted (b : Base) (q : Req) (h : Nat) (u : Upset) : Base :=
  let b := b.countSubst q h
  let q := b.labelled q h
  if b.fencedOct (b.octantOf q.line) then b.refusePoison q
  else if b.retired (b.place q.line).ch then
    let (q, b) := b.pass q
    b.retiredReq q
  else if b.idleReq q then b.answerCmp q .cmp
  else
    let (q, b) := b.lookup q 1
    let (q, b) := b.pass q
    ((b.upset q.line u).present q).pump

/-- A CXL.mem request of the M2S Req and RwD channels at the host-binding stage, in the order of its checks. -/
def Base.request (b : Base) (r : MemReq) (op : ReqOp) : Base :=
  let k := r.port.toNat
  let h := b.ldOf k r.ld.toNat
  let q : Req := { who := .host r.port (BitVec.ofNat 4 h) r.tag, op := op, line := 0, metaField := r.metaField, arrived := b.now }
  if !b.carriesLd h k then b.ldNotBound k
  else if b.flt.fatal then b.refusePoison q
  else if b.coh.isolated.getLsbD h then (b.refuse q 0).tallyRefused h
  else match b.hdm h r.hpa.toNat with
    | none => b.violation q h (2 ^ 40 - 1)
    | some dpa =>
      if 2 ^ 37 ≤ dpa ∨ !b.inEff h (dpa / 268435456) ∨ b.heldForOther h (dpa / 268435456) then b.violation q h dpa
      else b.admitted { q with line := dpa / 64 } h r.upset

/-- A CXL.mem request of a host that holds a credit (R109). -/
def Base.m2s (b : Base) (r : MemReq) (op : ReqOp) : Base := if b.credits r.port.toNat op.rwd then b.request r op else b

/-- A message of a logical device that the port does not carry is dropped (R94). -/
def Base.unboundMsg (b : Base) (r : MemReq) : Bool := !b.carriesLd (b.ldOf r.port.toNat r.ld.toNat) r.port.toNat

/-- MemSpecRd (R104): accepted and discarded. -/
def Base.specRd (b : Base) (r : MemReq) : Base :=
  if b.credits r.port.toNat false && b.unboundMsg r then b.ldNotBound r.port.toNat else b

/-- MemRdFwd, MemWrFwd and every other opcode are dropped (R104). -/
def Base.unsupported (b : Base) (r : MemReq) : Base :=
  if !b.credits r.port.toNat false then b
  else if b.unboundMsg r then b.ldNotBound r.port.toNat
  else b.send .unsupportedOpcode (0x80 + r.port.toNat) (portAddr r.port.toNat)

/-! ### The label extension -/

/-- The slot code in force on a port (R117). -/
def Base.slotCode (b : Base) (k : Nat) : BitVec 4 :=
  let hs := b.ldsOn k
  match hs.find? fun h => (b.ld h).lblEnable with
  | some h => (b.ld h).slotCode
  | none => ((hs.head?).map fun h => (b.ld h).slotCode).getD 15

/-- A malformed slot (R117, R119, R126): counted for a host the port carries, when the slot names it or the port is in SLD mode. -/
def Base.malformed (b : Base) (k : Nat) (h : Option Nat) : Base :=
  let b := match h with | some h => if b.carriesLd h k then b.bump (Reg.SLOT_MALFORMED_COUNT h) else b | none => b
  b.send .slotMalformed (0x80 + k) (portAddr k)

/-- One valid context (R119 to R122): slots are honoured from the first flit after the one in which ACTIVE became 1 (R117). -/
def Base.context (b : Base) (k h : Nat) (c : SlotContext) : Base :=
  if !b.carriesLd h k || !b.extActive h || decide ((b.port k).flitsRx ≤ (b.ld h).lblFrom) then b.send .slotUnexpected (0x80 + k) (portAddr k)
  else
    let x : SlotCtx := { ld := BitVec.ofNat 4 h, label := c.label, deadline := c.deadline.toNat }
    b.updPort k fun p => { p with slot := x :: p.slot.filter (fun y => y.ld.toNat != h) }

/-- A label slot (R117 to R122): one whose code is not the one in force is malformed. -/
def Base.labelSlot (b : Base) (p : PortBlk) (code : BitVec 4) (a c : SlotContext) : Base :=
  let k := p.toNat
  let sld := !tb (b.reg (Reg.PORT_LD_MODE k)) 0
  let ha := b.ldOf k a.ld.toNat
  let hc := b.ldOf k c.ld.toNat
  if code ≠ b.slotCode k then b.malformed k (if sld then some ha else none)
  else if a.valid && c.valid && ha == hc then b.malformed k (some ha)
  else
    let b := if a.valid then b.context k ha a else b
    if c.valid then b.context k hc c else b

/-! ### Messages and flits -/

/-- A message of the M2S channels, of BIRsp or of a label slot, as the transaction layer takes it. -/
def Base.message (b : Base) : Instr → Base
  | .memRd r => b.m2s r (.rd r.snp)
  | .memRdData r => b.m2s r .rdData
  | .memInv r _ => b.m2s r .inv
  | .memSpecRd r => b.specRd r
  | .memRdFwd r _ => b.unsupported r
  | .memWr r d p => b.m2s r (.wr d p)
  | .memWrPtl r d be => b.m2s r (if be = BitVec.allOnes 64 then .wr d false else .ptl d be)
  | .biConflict p ld tag dpa => b.biConflict p ld tag dpa
  | .biRsp p ld dpa kind => b.biRsp p ld dpa kind
  | .labelSlot p code a c => b.labelSlot p code a c
  | _ => b

/-- A message reaches the transaction layer of a port (R115): in an insecure stream it is discarded, and while the MAC epoch of its flit
is not verified it waits. Without a credit a request cannot be sent. -/
def Base.fromFlit (b : Base) (k : Nat) (i : Instr) : Base :=
  let p := b.port k
  if !p.carries || p.ide == 2 then b
  else if p.ide == 1 && p.ideFlits != 0 then
    if (match msgRwd i with | some rwd => b.credits k rwd | none => true) then
      b.setPort k { p with unverified := p.unverified ++ [{ at_ := p.flitAt, flit := p.flitsRx, msg := i }] }
    else b
  else b.message i

/-- A message arrives in a flit. -/
def State.fromFlit (s : State) (k : PortBlk) (i : Instr) : Host.Outcome State Fault Refusal := s.whenBase Base.alive fun b => b.fromFlit k.toNat i

/-- MEM_RD (R104). -/
def execMemRd (r : MemReq) (s : State) : Host.Outcome State Fault Refusal := s.fromFlit r.port (.memRd r)

/-- MEM_RD_DATA (R240). -/
def execMemRdData (r : MemReq) (s : State) : Host.Outcome State Fault Refusal := s.fromFlit r.port (.memRdData r)

/-- MEM_INV (R104, R106): MemInv and MemInvNT alike. -/
def execMemInv (r : MemReq) (nt : Bool) (s : State) : Host.Outcome State Fault Refusal := s.fromFlit r.port (.memInv r nt)

/-- MEM_SPEC_RD (R104). -/
def execMemSpecRd (r : MemReq) (s : State) : Host.Outcome State Fault Refusal := s.fromFlit r.port (.memSpecRd r)

/-- MEM_RD_FWD (R104). -/
def execMemRdFwd (r : MemReq) (opcode : BitVec 4) (s : State) : Host.Outcome State Fault Refusal := s.fromFlit r.port (.memRdFwd r opcode)

/-- MEM_WR (R104, R108). -/
def execMemWr (r : MemReq) (data : Data) (poison : Bool) (s : State) : Host.Outcome State Fault Refusal := s.fromFlit r.port (.memWr r data poison)

/-- MEM_WR_PTL (R105): with every byte enabled it is a MemWr. -/
def execMemWrPtl (r : MemReq) (data : Data) (be : BitVec 64) (s : State) : Host.Outcome State Fault Refusal :=
  s.fromFlit r.port (.memWrPtl r data be)

/-- BI_CONFLICT (R244). -/
def execBiConflict (p : PortBlk) (ld : HostId) (tag : BitVec 16) (dpa : Dpa) (s : State) : Host.Outcome State Fault Refusal :=
  s.fromFlit p (.biConflict p ld tag dpa)

/-- BI_RSP (R241, R242). -/
def execBiRsp (p : PortBlk) (ld : HostId) (dpa : Dpa) (kind : BiRspKind) (s : State) : Host.Outcome State Fault Refusal :=
  s.fromFlit p (.biRsp p ld dpa kind)

/-- LABEL_SLOT (R117 to R122). -/
def execLabelSlot (p : PortBlk) (code : BitVec 4) (a c : SlotContext) (s : State) : Host.Outcome State Fault Refusal :=
  s.fromFlit p (.labelSlot p code a c)

/-- The messages of a verified MAC epoch are released, each as of the flit it came in (R115, R119, R120). -/
def Base.releaseEpoch (b : Base) (k : Nat) : Base :=
  let p := b.port k
  let b := b.setPort k { p with unverified := [] }
  let b := p.unverified.foldl (fun (b : Base) (m : HeldMsg) =>
    (b.updPort k fun x => { x with flitAt := m.at_, flitsRx := m.flit, slot := if x.flitsRx = m.flit then x.slot else [] }).message m.msg) b
  b.updPort k fun x => { x with flitAt := p.flitAt, flitsRx := p.flitsRx, slot := [] }

/-- A good flit of a secure stream (R114, R115): the last of a MAC epoch releases the epoch's messages when its MAC verifies, and makes
the stream insecure when it does not. -/
def Base.macFlit (b : Base) (k : Nat) (ok : Bool) : Base :=
  let p := b.port k
  if p.ide != 1 then b
  else
    let agg := if p.flitFormat = 1 then 5 else p.ideAgg
    if p.ideFlits + 1 < agg then b.setPort k { p with ideFlits := p.ideFlits + 1 }
    else
      let b := b.setPort k { p with ideFlits := 0 }
      if ok then b.releaseEpoch k else b.macFailed k

/-- FLIT_RECEIVED (R53, R61, R62, R67, R114, R115, R120): the runs of idle, good and failed flits, the MAC epoch, and a new flit's time for
the messages that follow; a context of an earlier flit does not reach them (R119). FEC, CRC and replay are those of 64 GT/s: there
a failed flit is asked for again, and the flits that the link partner asks for again leave the replay buffer once more. -/
def execFlitReceived (k : PortBlk) (f : Flit) (s : State) : Host.Outcome State Fault Refusal :=
  s.training k.toNat (fun st => st == .l0 || st == .l0p) fun b =>
    let n := k.toNat
    let p := b.port n
    let fec := p.rate == 5
    if p.flitFormat = 0 then b
    else
      let b := if fec && f.corrected then b.bump (Reg.FEC_CORRECTED_COUNT n) else b
      if fec && !f.crcOk then
        let b := b.setPort n { p with flitsRx := p.flitsRx + 1, badRun := p.badRun + 1, goodRun := 0, flitsReplayed := p.flitsReplayed + 1 }
        (b.bump (Reg.REPLAY_COUNT n)).emit (.replay k)
      else
        let b := b.setPort n { p with
          flitsRx := p.flitsRx + 1, badRun := 0, goodRun := p.goodRun + 1, slot := [], flitAt := b.now,
          idleRun := if f.idle then p.idleRun + 1 else 0, frozen := f.idle && p.frozen }
        let again := (p.replay.take f.resend).reverse
        let b := if again = [] then b else
          (again.foldl Base.emit (b.bump (Reg.REPLAY_COUNT n))).updPort n fun p => { p with flitsReplayed := p.flitsReplayed + again.length }
        b.macFlit n f.macOk

/-! ### Logical devices -/

/-- LABEL_EXTENSION_ENABLE (R117): SLOT_CODE does not change while ENABLE is 1. -/
def execLabelExtensionEnable (ld : HostId) (enable : Bool) (code : BitVec 4) (s : State) : Host.Outcome State Fault Refusal :=
  s.viaPort ld.toNat (fun _ => true) fun b =>
    (b.updLd ld.toNat fun d => { d with lblEnable := enable, slotCode := if d.lblEnable then d.slotCode else code }).refreshActive (b.portOf ld.toNat)

/-! ### Logical-device registers -/

/-- The supported interleave (R92, R96). -/
def cfgSupported (d : DecoderCfg) : Bool :=
  [1, 2, 4, 8, 16].contains d.ways.toNat && decide (d.pos.toNat < d.ways.toNat) && decide (8 ≤ d.granLog2.toNat) && decide (d.granLog2.toNat ≤ 14)

/-- The 256 MiB blocks of the DPA span of a decoder. -/
def cfgBlocks (d : DecoderCfg) : Nat := (d.size.toNat + d.ways.toNat - 1) / d.ways.toNat

/-- The whole span lies in the host's effective ranges (R97). -/
def Base.spanOk (b : Base) (h : Nat) (d : DecoderCfg) : Bool :=
  decide (d.dpaBase.toNat + cfgBlocks d ≤ 512) && (List.range (min 512 (cfgBlocks d))).all fun i => b.inEff h (d.dpaBase.toNat + i)

/-- DECODER_COMMIT (R96, R97). -/
def execDecoderCommit (ld : HostId) (k : Fin 4) (d : DecoderCfg) (s : State) : Host.Outcome State Fault Refusal :=
  s.viaPort ld.toNat (fun _ => true) fun b =>
    let h := ld.toNat
    let unit := 268435456
    let x : Decoder := {
      base := d.base.toNat * unit, size := d.size.toNat * unit, ways := d.ways.toNat, pos := d.pos.toNat,
      gran := 2 ^ d.granLog2.toNat, dpaBase := d.dpaBase.toNat * unit }
    if cfgSupported d && b.spanOk h d then b.updLd h fun l => { l with decoders := l.decoders.set k.val { x with committed := true } }
    else
      (b.updLd h fun l => { l with decoders := l.decoders.set k.val { x with error := true } }).send .decoderCommitRefused (0x90 + h) (d.dpaBase.toNat * unit)

/-- MSIX_ENABLE (R111, R113, R391): the table is written, vectors no longer masked send what was pending; uncleared event records raise vector 0 once. -/
def execMsixEnable (ld : HostId) (enable : Bool) (mask : BitVec 8) (entries : List (Fin 24 × Word)) (s : State) : Host.Outcome State Fault Refusal :=
  s.viaPort ld.toNat (fun _ => true) fun b =>
    let h := ld.toNat
    let d := b.ld h
    let was := d.msixEnable && !d.msixMask.getLsbD 0
    let now := enable && !mask.getLsbD 0
    let go := if enable then d.msixPending &&& ~~~mask else 0
    let owed := now && !was && b.flt.records.any fun r => r.ld == ld
    let go := if owed then go ||| 1 else go
    let table := entries.foldl (fun t e => Tab.set 0 t e.1.val e.2) d.msixTable
    let b := b.setLd h { d with
      msixEnable := enable, msixMask := mask, msixPending := if enable then d.msixPending &&& mask else d.msixPending, msixTable := table }
    forN 8 (fun v b => if go.getLsbD v then b.emit (.msixHost ld v) else b) b

/-- LD_CONVENTIONAL_RESET (R110). -/
def execLdConventionalReset (ld : HostId) (s : State) : Host.Outcome State Fault Refusal :=
  s.whenBase Base.alive fun b => b.resetLd ld.toNat

/-- CLEAR_EVENT_RECORDS (R391). -/
def execClearEventRecords (ld : HostId) (handles : List Nat) (s : State) : Host.Outcome State Fault Refusal :=
  s.viaPort ld.toNat (fun _ => true) fun b =>
    let mine := fun n : Nat => b.flt.records.any fun r => r.ld == ld && r.handle == n
    if handles.all mine then
      let kept := b.flt.records.filter (fun r => !(r.ld == ld && handles.contains r.handle))
      ({ b with flt := { b.flt with records := kept } }).reply ld .success
    else b.reply ld .invalidInput

/-- GET_POISON_LIST (R197): whether more records exist than the list holds, then the DPAs inside the host's effective ranges
and the range asked for. -/
def execGetPoisonList (ld : HostId) (base limit : Dpa) (s : State) : Host.Outcome State Fault Refusal :=
  s.viaPort ld.toNat (fun _ => true) fun b =>
    let seen := b.dram.poison.filter fun l => b.inEff ld.toNat (blockOf l) && decide (base.toNat ≤ 64 * l) && decide (64 * l ≤ limit.toNat)
    b.reply ld (.numbers ((if b.dram.poisonLost then 1 else 0) :: seen.map (64 * ·)))

/-- A stored line reads as poisoned: its metadata says so, or it decodes UNCORRECTABLE. -/
def State.readsPoison (s : State) (line : Nat) : Bool :=
  let p := s.base.place line
  let d := decodeWord (erasedSymbols (s.base.declaredPins p.ch)) (s.lineWord p)
  d.mt.poison || d.out == .uncorrectable

/-- The lines of marked stripes inside a host's effective ranges and a DPA range that read as poisoned. -/
def State.scanHits (s : State) (h lo hi : Nat) : List Nat :=
  let b := s.base
  (b.lay.marked.flatMap fun e => (List.range 1024).map fun i => 1024 * e.1 + i).filter fun l =>
    b.inEff h (blockOf l) && decide (lo ≤ 64 * l) && decide (64 * l ≤ hi) && !b.noAccess l && s.readsPoison l

/-- SCAN_MEDIA (R92, R113): the media of the range are read, and the lines found poisoned enter the poison list that Get Poison List
returns (PRESUMED CXL 3.1, entry 123: the manual names the command and no more). -/
def execScanMedia (ld : HostId) (base limit : Dpa) (s : State) : Host.Outcome State Fault Refusal :=
  let hits := s.scanHits ld.toNat base.toNat limit.toNat
  s.viaPort ld.toNat (fun _ => true) fun b => (hits.foldl Base.listPoison b).reply ld .success

/-- SANITIZE (R92, R113): the data of the blocks that the host alone reaches, outside the sharing windows, are no longer readable: the
stripes' map bits are cleared (PRESUMED CXL 3.1, entry 123). -/
def execSanitize (ld : HostId) (s : State) : Host.Outcome State Fault Refusal :=
  s.viaPort ld.toNat (fun _ => true) fun b =>
    let h := ld.toNat
    let own := (b.effBlocks h).filter fun x => (b.windowOf x).isNone && !((List.range 16).any fun o => o != h && b.inEff o x)
    (b.unmarkBlocks own).reply ld .success

/-- HOST_COUNT_CLEAR (R126). -/
def execHostCountClear (h : HostId) (v : Word) (s : State) : Host.Outcome State Fault Refusal :=
  s.whenBase Base.mgmtFull fun b => b.clearCounters (Reg.FIREWALL_COUNT h.toNat) 3 v

/-- IDE_KEY_SET (R114, R115): keys are set or refreshed in a secure session over DOE, and traffic goes on; enabling the stream ends its
insecure state. With 256-byte flits the host names an aggregation of 1 to 4 flits. -/
def execIdeKeySet (p : PortBlk) (enable : Bool) (aggregation : Fin 4) (s : State) : Host.Outcome State Fault Refusal :=
  s.whenBase (fun b => b.alive && (b.port p.toNat).linked) fun b =>
    let m := b.reg (Reg.PORT_LD_MODE p.toNat)
    let path : SpdmPath := if tb m 0 then .doeFm else .doe (BitVec.ofNat 4 (fld m 4 1))
    if enable && b.boot.sessions.any (fun x => decide (x.path = path) && x.finished) then
      b.updPort p.toNat fun x => if x.ide = 1 then x else { x with ide := 1, ideAgg := aggregation.val + 1, ideFlits := 0, unverified := [] }
    else b

/-! ### Dynamic capacity -/

/-- The blocks of a run. -/
def blocksOf (base limit : Nat) : List Nat := (List.range (limit + 1 - base)).map (· + base)

/-- How many extents a host holds (R101). -/
def Base.extentsOf (b : Base) (h : Nat) : Nat := (b.hosts.extents.filter fun e => e.host.toNat == h && e.stage != .offered).length

/-- A block of a released extent that is held: it returns to its region's free pool only after its map bits are clear (R103). -/
def Base.clearOwed (b : Base) (blk : Nat) : Bool := b.hosts.held.any fun r => r.clears && decide (r.base ≤ blk) && decide (blk ≤ r.limit)

/-- The reason an extent is refused, in the order of R102; 0 when every check passes. A block that is not in its region's free pool yet
is refused for reason 4, to its former owner as well (DEDUCED, entry 125). -/
def Base.extentReason (b : Base) (h base limit : Nat) (held : Nat) : Nat :=
  let blocks := blocksOf base limit
  let inRegion := (List.range 8).any fun k => b.rangeHolds (Reg.DC_REGION_BASE k) base && b.rangeHolds (Reg.DC_REGION_BASE k) limit
  if limit < base ∨ !inRegion then 1
  else if blocks.any fun x => !b.inBounds h x then 2
  else if 256 ≤ held then 3
  else if blocks.any fun x => (b.windowOf x).isNone && ((List.range 16).any fun o => o != h && b.inEff o x) || b.heldForOther h x || b.clearOwed x then 4
  else if blocks.any fun x => match b.windowOf x with | some w => !(b.membersOf w).getLsbD h | none => false then 5
  else 0

/-- DC_ADD_REFUSED (R102, R127). -/
def Base.dcRefused (b : Base) (h base reason : Nat) : Base := b.send .dcAddRefused 0xB0 (base + reason * 2 ^ 16 + h * 2 ^ 24)

/-- A dynamic-capacity event record (R102, R103); `what` is 0 for an add, 1 a release, 2 a forced release (PRESUMED CXL 3.1, entry
50). -/
def Base.dcRecord (b : Base) (h what tag base limit : Nat) : Base := b.addRecord h .dynamicCapacity (.capacity what tag base limit) none 4

/-- DC_ADD_REQUEST (R102). -/
def execDcAddRequest (h : HostId) (base limit : BitVec 9) (s : State) : Host.Outcome State Fault Refusal :=
  s.whenBase Base.fwRuns fun b =>
    let n := h.toNat
    let reason := b.extentReason n base.toNat limit.toNat (b.extentsOf n)
    if reason ≠ 0 then (b.emit (.fmReply .invalidInput)).dcRefused n base.toNat reason
    else
      let tag := b.hosts.nextTag
      let e : Extent := { host := h, base := base.toNat, limit := limit.toNat, tag := tag, stage := .offered }
      let b := { b with hosts := { b.hosts with extents := b.hosts.extents ++ [e], nextTag := tag + 1 } }
      (b.dcRecord n 0 tag base.toNat limit.toNat).emit (.fmReply .success)

/-- The extent of a host with this run, in one of some stages. -/
def Extent.is (e : Extent) (h : HostId) (base limit : BitVec 9) : Bool :=
  e.host == h && e.base == base.toNat && e.limit == limit.toNat

/-- DC_EXTENT_ACCEPT (R102): firmware captures the extent in group 2 at the boundaries that follow. -/
def execDcExtentAccept (h : HostId) (base limit : BitVec 9) (s : State) : Host.Outcome State Fault Refusal :=
  s.viaPort h.toNat Base.fwRuns fun b =>
    let hit := fun e : Extent => e.is h base limit && e.stage == .offered
    if b.hosts.extents.any hit then
      ({ b with hosts := { b.hosts with extents := updFirst hit (fun e => { e with stage := .accepted }) b.hosts.extents } }).reply h .success
    else b.reply h .invalidInput

/-- An extent begins to leave: one in force at the next boundary, one not yet in force at once (R103). -/
def Base.leaveExtent (b : Base) (hit : Extent → Bool) : Base :=
  match b.hosts.extents.find? hit with
  | some e =>
    let l := if e.stage = .inForce then updFirst hit (fun e => { e with stage := .releasing }) b.hosts.extents else dropFirst hit b.hosts.extents
    { b with hosts := { b.hosts with extents := l } }
  | none => b

/-- DC_EXTENT_RELEASE (R103): host software releases an extent, or declines an offer. -/
def execDcExtentRelease (h : HostId) (base limit : BitVec 9) (s : State) : Host.Outcome State Fault Refusal :=
  s.viaPort h.toNat Base.fwRuns fun b =>
    let hit := fun e : Extent => e.is h base limit && e.stage != .releasing
    if b.hosts.extents.any hit then (b.leaveExtent hit).reply h .success else b.reply h .invalidInput

/-- DC_FORCED_RELEASE (R103): the event, and a record that tells the host. -/
def execDcForcedRelease (h : HostId) (base limit : BitVec 9) (s : State) : Host.Outcome State Fault Refusal :=
  s.whenBase Base.fwRuns fun b =>
    let hit := fun e : Extent => e.is h base limit && e.stage != .releasing
    match b.hosts.extents.find? hit with
    | some e => (((b.leaveExtent hit).send .dcForcedRelease 0xB0 (268435456 * base.toNat)).dcRecord h.toNat 2 e.tag e.base e.limit).emit (.fmReply .success)
    | none => b.emit (.fmReply .invalidInput)

/-- A request that passed before the hold began has not answered (R100). -/
def Base.holdRuns (b : Base) (r : HeldRange) : Bool :=
  b.waitingReqs.any fun q => q.host?.isSome && decide (q.passed < r.since) && decide (r.base ≤ blockOf q.line) && decide (blockOf q.line ≤ r.limit)

/-- RANGE_HOLD_END (R100, R103, R233): the map bits of an extent's blocks that no host holds any longer are cleared. -/
def execRangeHoldEnd (h : HostId) (base limit : BitVec 9) (s : State) : Host.Outcome State Fault Refusal :=
  s.whenBase Base.alive fun b =>
    let hit := fun r : HeldRange => r.host == h && r.base == base.toNat && r.limit == limit.toNat && !b.holdRuns r
    match b.hosts.held.find? hit with
    | none => b
    | some r =>
      let b := { b with hosts := { b.hosts with held := dropFirst hit b.hosts.held } }
      if r.clears then
        b.unmarkBlocks ((blocksOf r.base r.limit).filter fun x => !((List.range 16).any fun o => b.inEff o x)) else b

end Sys2Proof.Machine
end

