-- ==== Sys2Proof/Machine/Power.lean ====
section
/-! DEFINITION. Machine/Power.lean: declared tolerance (R355 to R357, R361), set states (R176 to R181, R358 to R360), dropped octants
(R362), temperature diodes and the throttle (R367 to R372), the thermal trip (R375, R376), and what a boundary does to them. -/

namespace Sys2Proof.Machine

/-! ### Declarations -/

/-- Unlimited tolerance. -/
def unlimited : Nat := 0xFFFFFFFF

/-- DECL_DEFAULT as a declaration (R356, R380). -/
def Base.declDefault (b : Base) : Decl :=
  let t := b.rf Reg.DECL_DEFAULT 15 0
  { tol := if t = 0xFFFF then unlimited else 100 * t, needed := tb (b.reg Reg.DECL_DEFAULT) 16 }

/-- What a host declares for an octant (R356). -/
def Base.declOf (b : Base) (h k : Nat) : Decl := (Tab.get none b.pw.decls (64 * h + k)).getD b.declDefault

/-- The hosts whose effective ranges meet an octant (R356). -/
def Base.owners (b : Base) (k : Nat) : List Nat := (List.range 16).filter fun h => b.effMeets h (b.blocksOfOctant k)

/-- Part of an enabled mover ring lies in the octant (R266, R356). -/
def Base.ringIn (b : Base) (k : Nat) : Bool :=
  (List.range 64).any fun q =>
    let n := b.ringBytes q
    let hit := fun lo : Nat => decide (b.octantOf (lo / 64) ≤ k) && decide (k ≤ b.octantOf ((lo + n - 1) / 64))
    (b.queue q).state != 3 && (hit (b.ringBase q) || hit (b.cplBase q))

/-- T(k) (R356). -/
def Base.tolOf (b : Base) (k : Nat) : Nat :=
  if tb (b.reg (Reg.OCTANT_MGMT k)) 0 then 0 else ((b.owners k).map fun h => (b.declOf h k).tol).foldl min unlimited

/-- NEEDED(k) (R356). -/
def Base.neededOf (b : Base) (k : Nat) : Bool :=
  let o := b.owners k
  tb (b.reg (Reg.OCTANT_MGMT k)) 1 || b.ringIn k ||
    (if o.isEmpty then !tb (b.reg Reg.POWER_CFG) 24 else o.any fun h => (b.declOf h k).needed)

/-- T(set) (R359). -/
def Base.setTol (b : Base) (s : Nat) : Nat := ((List.range 8).map fun j => b.tolOf (8 * s + j)).foldl min unlimited

/-- The address of a declaration message (R381). -/
def declAddr (k h : Nat) : Nat := k + 256 * h

/-- The octant exists and meets the host's effective ranges (R355). -/
def Base.declOk (b : Base) (h k : Nat) : Bool := decide (k < b.octants) && b.effMeets h (b.blocksOfOctant k)

/-- SET_OCTANT_TOLERANCE (R355, R361): refused, or in force, and its command complete, at a boundary. -/
def execSetOctantTolerance (h : HostId) (octant : BitVec 6) (tol : Word) (needed : Bool) (s : State) : Host.Outcome State Fault Refusal :=
  s.viaPort h.toNat Base.fwRuns fun b =>
    if b.declOk h.toNat octant.toNat then
      let w : DeclWait := { host := h, octant := octant.toNat, decl := { tol := tol.toNat, needed := needed } }
      b.updPw fun p => { p with waits := p.waits ++ [w] }
    else (b.send .declarationRefused 0x501 (declAddr (octant.toNat % 32) h.toNat)).reply h .invalidInput

/-- GET_OCTANT_TOLERANCE (R355): the host's declaration, then T(k) and NEEDED(k). Of an octant that does not exist there is nothing to return:
the answer is Invalid Input (DESIGN CHOICE, entry 147). -/
def execGetOctantTolerance (h : HostId) (octant : BitVec 6) (s : State) : Host.Outcome State Fault Refusal :=
  s.viaPort h.toNat Base.fwRuns fun b =>
    let k := octant.toNat
    if k < b.octants then
      let d := b.declOf h.toNat k
      b.reply h (.numbers [d.tol, if d.needed then 1 else 0, b.tolOf k, if b.neededOf k then 1 else 0])
    else b.reply h .invalidInput

/-! ### Sampling intervals (readings in quarters of a degree) -/

/-- Thresholds of R368. -/
def thresholds (d : Nat) : List Int := if d < 16 then [340, 360, 368, 376, 380, 400, 420] else [420, 440, 460]

/-- Some set is in SELF_REFRESH or DROPPED. -/
def Base.anyAsleep (b : Base) : Bool := (List.range b.sets).any fun s => decide (2 ≤ (b.set_ s).state)

/-- The diode is sampled every 20 epochs (R368, R369). -/
def Base.nearLimit (b : Base) (d : Nat) : Bool :=
  let x := b.diode d
  (x.valid && (thresholds d).any fun t => decide (t - 20 ≤ x.reading) && decide (x.reading ≤ t + 20)) || (decide (16 ≤ d) && b.anyAsleep)

/-- Epochs from one sample of a diode to the next (R368, R369); under the fallback plan diodes are sampled at the 1 ms rate (R24). -/
def Base.sampleInterval (b : Base) (d : Nat) : Nat := if b.nearLimit d && !b.pl.fallback then 20 else 1000

/-- With a set asleep the base-die diodes are sampled every 20 epochs from now on (R369). -/
def Base.sleepSampling (b : Base) : Base :=
  [16, 17, 18, 19].foldl (fun (b : Base) d => b.setDiode d { b.diode d with due := min (b.diode d).due (b.pl.epochs + 20) }) b

/-- The dies of a set that wakes are sampled again (R369). -/
def Base.wakeSampling (b : Base) (dies : List Nat) : Base :=
  dies.foldl (fun (b : Base) d => b.setDiode d { b.diode d with due := max (b.diode d).due (b.pl.epochs + b.sampleInterval d) }) b

/-! ### Set states -/

/-- Worst exit latency of a state (R358). -/
def exitLatency (st : Nat) : Nat := [0, 20, 1500, 2000].getD st 0

/-- The dies of a set. -/
def Base.diesOfSet (b : Base) (s : Nat) : List Nat := (List.range 16).filter fun d => b.setOfDie d == s

/-- A row transfer, fill or claim is pending in the set (R359). -/
def Base.rowWork (b : Base) (s : Nat) : Bool :=
  let meets := fun lo n : Nat => decide (b.octantOf (lo / 64) / 8 ≤ s) && decide (s ≤ b.octantOf ((lo + n - 1) / 64) / 8)
  (b.lay.fills.any fun f => b.octantOf (1024 * f.stripe) / 8 == s) ||
    b.mov.slots.any fun e => e.2.status.isNone && (meets e.2.desc.src e.2.desc.length || meets e.2.desc.dst e.2.desc.length)

/-- The idle condition of a state (R359). -/
def Base.idleFor (b : Base) (s st : Nat) : Bool :=
  let x := b.set_ s
  if st = 1 then decide (b.rf Reg.POWER_CFG 7 0 ≤ x.idle)
  else decide (10 * b.rf Reg.POWER_CFG 15 8 ≤ x.idle) && !b.rowWork s &&
    (b.diesOfSet s).all fun d => (b.diode d).valid && decide ((b.diode d).reading < 360)

/-- A set may be put into a state: power management is on, it is not held for a full-width test (R360), the state is deeper than the present one, its exit latency is
within T(set), its idle condition holds, and for DROPPED every octant of the set is dropped (R359). -/
def Base.mayEnter (b : Base) (s st : Nat) : Bool :=
  let x := b.set_ s
  tb (b.reg Reg.POWER_CFG) 25 && !x.exiting && !x.testHold && decide (x.state < st) && decide (x.state < 2) && b.idleFor s st
    && decide (exitLatency st ≤ b.setTol s) && (st != 3 || (b.droppedIn s).length == 8)

/-- POWER_STATE_ENTRY (R359, R360): an item of the plan in force; 0, or 1 from a deeper state, is an exit. -/
def execPowerStateEntry (set : BitVec 2) (state : BitVec 2) (s : State) : Host.Outcome State Fault Refusal :=
  s.whenBase (fun b => b.alive && decide (set.toNat < b.sets) && b.pl.active.power.contains (set, state)) fun b =>
    let n := set.toNat
    let st := state.toNat
    let x := b.set_ n
    let b := b.updPl fun p => { p with active := { p.active with power := p.active.power.filter (fun i => i != (set, state)) } }
    if st < x.state ∧ !x.exiting ∧ st < 2 then
      if 2 ≤ x.state ∧ x.sre = false then b.abandonEntry n
      else b.setSet n { x.leave b.now st with testHold := st == 1 }
    else if b.mayEnter n st then
      let b := (b.setSet n { x with state := st, sre := false, off := false, testHold := false }).reportSet n st
      if 2 ≤ st then b.sleepSampling else b
    else b

/-- Every bank cycle and burst of a channel has closed (R178). -/
def Base.chanQuiet (b : Base) (ch : Nat) : Bool :=
  let c := b.chan ch
  c.bankFree.all (fun e => decide (e.2 ≤ b.now)) && c.cols.all (fun x => decide (x.ends ≤ b.now)) && c.trfRunning.all (fun x => decide (x.2.2 ≤ b.now))

/-- SRE_ISSUE (R178). -/
def execSreIssue (set : BitVec 2) (s : State) : Host.Outcome State Fault Refusal :=
  s.whenBase Base.alive fun b =>
    let x := b.set_ set.toNat
    if 2 ≤ x.state ∧ x.sre = false ∧ (b.chansOfSet set.toNat).all b.chanQuiet then b.setSet set.toNat { x with sre := true, sreAt := b.now } else b

/-- A channel controller without power loses its logic state (R42). The repair tables, the training values and the registers have rules of
their own that say what clears them (entry 115). -/
def Chan.poweredOff (c : Chan) : Chan :=
  { c with drain := false, lastAct := none, acts := [], bankFree := [], cols := [], rh := [], rhTrackers := [], throttles := [], trfDue := [],
           history := [], slots := 0 }

/-- The CH_SET domain of a channel goes off: its throttles leave the label table with it (R185). -/
def Base.chanOff (b : Base) (ch : Nat) : Base :=
  let b := (b.chan ch).throttles.foldl (fun (b : Base) (t : Throttle) => b.updLabel t.label.toNat fun e => { e with throttles := e.throttles - 1 }) b
  b.updChan ch Chan.poweredOff

/-- CH_SET_POWER_OFF (R42, R178): 30 ns after SRE. -/
def execChSetPowerOff (set : BitVec 2) (s : State) : Host.Outcome State Fault Refusal :=
  s.whenBase Base.alive fun b =>
    let x := b.set_ set.toNat
    if 2 ≤ x.state ∧ x.sre = true ∧ x.exiting = false ∧ x.off = false ∧ x.sreAt + 30 ≤ b.now then
      (b.chansOfSet set.toNat).foldl Base.chanOff (b.setSet set.toNat { x with off := true })
    else b

/-- What an exit from SELF_REFRESH restarts in a channel (R180). -/
def Base.freshRefresh (b : Base) (ch : Nat) : Base :=
  let b := b.updChan ch fun c => { c with debt := [], heldTick := [], counted := [], rh := [], rhTrackers := [], trfDue := [], slots := 0 }
  b.updPl fun p => { p with credit := Tab.set 0 p.credit ch 0, charged := Tab.set 0 p.charged ch 0 }

/-- When an exit can end at the earliest (R177, R179): SRX waits for tCKESR after SRE. -/
def SetPower.exitEnds (x : SetPower) : Nat :=
  if x.state = 1 ∨ x.off then x.exitFrom + x.exitBound
  else max x.exitFrom (x.sreAt + 15) + 500 + if x.state = 3 then 500 else 0

/-- SET_EXIT_COMPLETE (R176, R179, R180, R360, R381): waiting requests go on. -/
def execSetExitComplete (set : BitVec 2) (s : State) : Host.Outcome State Fault Refusal :=
  s.whenBase Base.alive fun b =>
    let n := set.toNat
    let x := b.set_ n
    if x.exiting = true ∧ x.exitEnds ≤ b.now then
      let b := if x.exitFrom + x.exitBound < b.now then b.send .exitLate 0x500 (n + 16 * x.exitTo) else b
      let b := b.setSet n { x with state := x.exitTo, exiting := false, sre := false, off := false, idle := 0, testHold := x.testHold && x.exitTo == 1 }
      let b := (b.bump Reg.WAKE_COUNT).reportSet n x.exitTo
      let b := if 2 ≤ x.state then (b.chansOfSet n).foldl (fun (b : Base) (c : Nat) => (b.freshRefresh c).readEyeVisit c) b else b
      let b := b.wakeSampling (b.diesOfSet n)
      ((b.chansOfSet n).foldl Base.drainChan b).pump
    else b

/-! ### Dropped octants -/

/-- OCTANT_DROP (R181, R362): an item of the plan in force, while the set is ACTIVE or POWERDOWN, or before its SRE. The map bits
are cleared first: the mask takes effect, with the message, when the last of them is. -/
def execOctantDrop (k : BitVec 5) (s : State) : Host.Outcome State Fault Refusal :=
  s.whenBase (fun b => b.alive && b.pl.active.drops.contains k) fun b =>
    let n := k.toNat
    let b := b.updPl fun p => { p with active := { p.active with drops := p.active.drops.filter (fun i => i != k) } }
    if n < b.octants ∧ tb (b.reg Reg.POWER_CFG) 25 = true ∧ b.neededOf n = false ∧ b.pw.dropped.getLsbD n = false
        ∧ ((b.set_ (setOfOctant n)).state < 2 ∨ (b.set_ (setOfOctant n)).sre = false) ∧ Tab.get 0 b.pw.lastWrite n + 1000 * b.rf Reg.POWER_CFG 23 16 ≤ b.pl.epochs then
      ((b.updPw fun p => { p with dropping := setBit p.dropping n true }).unmark fun st => b.octantOf (1024 * st) == n).dropMasks
    else b

/-- A drop ends (R362). -/
def Base.restoreOctant (b : Base) (k : Nat) : Base :=
  (b.updPw fun p => { p with dropped := setBit p.dropped k false }).send .octantRestored 0x500 k

/-! ### Temperatures (in quarters of a degree) -/

/-- The code of a reading: °C plus 64 (R380). -/
def tempCode (r : Int) : Nat := min 255 (r / 4 + 64).toNat

/-- Source and address of a diode's messages (R381). -/
def diodeSrc (d : Nat) : Nat := 0x510 + d
def Base.diodeAddr (b : Base) (d : Nat) : Nat := d + 256 * tempCode (b.diode d).reading + 65536 * (b.diode d).step

/-- The highest base-die reading among some diodes (R369, R370). -/
def Base.hottestBase (b : Base) (but : Nat) : Int :=
  ([16, 17, 18, 19].filter fun i => i != but && (b.diode i).valid).foldl (fun m i => max m (b.diode i).reading) (-256)

/-- Entry temperature of a throttle step (R371). -/
def stepEntry (s : Nat) : Int := ([(-1000), 360, 368, 376, 380, 400] : List Int).getD s 400

/-- The step that readings lead to (R371): up to the highest step reached, down one at a time below its entry less 2 °C. -/
def stepAfter (cur : Nat) (r : Int) : Nat :=
  let up := ((List.range 6).filter fun s => decide (stepEntry s ≤ r)).foldl max 0
  if cur < up then up else if 0 < cur ∧ r < stepEntry cur - 8 then cur - 1 else cur

/-- The floor after a base-die sample (R372). -/
def floorAfter (cur : Nat) (hot : Int) : Nat :=
  if 440 ≤ hot ∨ (cur = 3 ∧ 432 < hot) then 3 else if 420 ≤ hot ∨ (2 ≤ cur ∧ 412 < hot) then 2 else 0

/-- The four channels of a die are retired (R369). -/
def Base.dieRetired (b : Base) (d : Nat) : Bool := (List.range 4).all fun q => b.retired (4 * d + q)

/-- The reading a sample gives: a substitute for a failed diode, or for a die without channels (R369, R370). -/
def Base.effReading (b : Base) (d : Nat) (failed : Bool) (r : Int) : Int :=
  if d < 16 then (if failed then 376 else if b.dieRetired d then b.hottestBase 20 else r)
  else if failed then b.hottestBase d else r

/-- A sample taken of a diode (R368 to R372). -/
def Base.sample (b : Base) (d : Nat) (r : Int) (loadChanged : Bool) : Base :=
  let x := b.diode d
  let late := x.valid && decide (x.due + 2 < b.pl.epochs)
  let b := if late then (b.bump Reg.SAMPLE_LATE_COUNT).send .sampleLate (diodeSrc d) (b.diodeAddr d) else b
  let same := if x.valid && x.reading == r then (if loadChanged then x.same + 1 else x.same) else 0
  let fails := !x.failed && (decide (r < -160) || decide (600 < r) || decide (1000 ≤ same))
  let r := b.effReading d (x.failed || fails) r
  let b := b.setDiode d { x with
    reading := r, valid := true, failed := x.failed || fails, sampledAt := b.pl.epochs, same := same,
    highest := max x.highest r, stepNext := if d < 16 then stepAfter x.stepNext r else 0 }
  let b := b.setDiode d { b.diode d with due := b.pl.epochs + b.sampleInterval d }
  let b := b.updPl fun p => { p with active := { p.active with sensors := p.active.sensors.filter (fun i => i.val != d) } }
  let b := if fails then b.send .sensorFailed (diodeSrc d) (b.diodeAddr d) else b
  if d < 16 then
    b.updDram fun m => { m with hotNext := if 340 < r then setBit m.hotNext d true else if r < 332 then setBit m.hotNext d false else m.hotNext }
  else
    let b := b.updPw fun p => { p with floor := floorAfter p.floor (b.hottestBase 20) }
    if 360 ≤ r ∧ b.anyAsleep then b.updPw fun p => { p with wakeHot := true } else b

/-! ### Thermal trip -/

/-- A trip (R376): the latch, FAULT_N, the heartbeat and all commands, an OTP pulse and an MRAM update cut short, the record
while VDD_CORE holds. From here on the part accepts nothing. -/
def State.trip (s : State) (d : Nat) (r : Int) (mramCut coreFails : Bool) : State :=
  let otp := s.base.boot.fuseOp.isSome
  s.abortFuse.onBase fun b =>
    let b := b.driveFaultN.guardAll
    let b := b.updMov fun v => { v with stopped := true, slots := [] }
    let t : TripRec := { sensor := d, reading := r, epoch := b.pl.epoch, mramCut := mramCut, otpAborted := otp }
    b.updPw fun p => { p with tripped := true, tripRec := if coreFails then p.tripRec.step1 none else p.tripRec.update (some t) }

/-- The trip temperature of a diode in quarters of a degree (R7, R375): 105 °C for a core die, 115 °C for the base die. -/
def tripAt (d : Nat) : Int := if d < 16 then 420 else 460

/-- SENSOR_SAMPLE (R368): a core die whose set is off is not sampled; a sample that returns TRIP trips the part (R375), which a core die
returns at its trip temperature or above. -/
def execSensorSample (d : Fin 20) (reading : Int) (trip loadChanged : Bool) (s : State) : Host.Outcome State Fault Refusal :=
  if s.base.alive && (decide (16 ≤ d.val) || decide ((s.base.set_ (s.base.setOfDie d.val)).state < 2)) then
    let s := s.onBase fun b => b.sample d.val reading loadChanged
    .next (if trip && decide (d.val < 16) && decide (tripAt d.val ≤ reading) then s.trip d.val reading false false else s)
  else .next s

/-- THERMAL_TRIP (R375, R376): the comparator filter of a base-die diode ends, or a core die's TRIP is read, at the trip temperature or
above. -/
def execThermalTrip (d : Fin 20) (reading : Int) (mramCut coreFails : Bool) (s : State) : Host.Outcome State Fault Refusal :=
  if s.base.alive && decide (tripAt d.val ≤ reading) then .next (s.trip d.val reading mramCut coreFails) else .next s

/-- GUARD_STATUS_READ (R348, R375): each epoch, on one channel of each die of an ACTIVE set. -/
def execGuardStatusRead (ch : ChanId) (trip : Bool) (s : State) : Host.Outcome State Fault Refusal :=
  let b := s.base
  if b.alive && b.boot.memActive && b.statusChannel ch.toNat && (b.set_ (b.setOf ch.toNat)).state == 0 then
    let s := s.onBase fun b => b.guardStatus ch.toNat
    .next (if trip then s.trip (dieOf ch.toNat) (s.base.diode (dieOf ch.toNat)).reading false false else s)
  else .next s

/-- PT_COUNT_CLEAR (R379). -/
def execPtCountClear (v : Word) (s : State) : Host.Outcome State Fault Refusal :=
  s.whenBase Base.mgmtFull fun b => b.clearCounters Reg.STATE_CHANGE_COUNT 4 v

/-! ### At a boundary -/

/-- A declaration that waits comes into force if it does not lower T(set), or once the set's state allows it, and its command completes; else an
exit begins (R361). -/
def Base.settleDecl (b : Base) (w : DeclWait) : Base :=
  let s := setOfOctant w.octant
  let x := b.set_ s
  let key := 64 * w.host.toNat + w.octant
  let b' := b.updPw fun p => { p with decls := Tab.set none p.decls key (some w.decl) }
  if b.setTol s ≤ b'.setTol s ∨ ((x.state = 0 ∨ exitLatency x.state ≤ b'.setTol s) ∧ !x.exiting) then
    (b'.updPw fun p => { p with waits := p.waits.filter fun y => decide (y ≠ w) }).reply w.host .success
  else if x.exiting then b
  else if 2 ≤ x.state ∧ x.sre = false then b.abandonEntry s
  else b.setSet s (x.leave b.now 0)

/-- Declarations of octants that have left their host's ranges return to the default (R357). -/
def Base.pruneDecls (b : Base) : Base :=
  b.updPw fun p => { p with decls := p.decls.filter (fun e => b.effMeets (e.1 / 64) (b.blocksOfOctant (e.1 % 64))) }

/-- A whole epoch without a request (R359), counted from the first boundary after an exit (R360). -/
def Base.countIdle (b : Base) (s : Nat) : Base :=
  let busy := (b.chansOfSet s).any fun c => (b.chan c).readQ != [] || (b.chan c).writeQ != [] || (b.chan c).rowQ != [] || (b.chan c).xbar != []
  b.updSet s fun x => { x with seen := false, idle := if x.seen || busy || x.exiting then 0 else x.idle + 1 }

/-- A set that must not stay as it is begins its exit: power management is off (R359), or a base die reading wakes it (R369). -/
def Base.forceExit (b : Base) (s goal : Nat) : Base :=
  let x := b.set_ s
  if x.state ≤ goal ∨ x.exiting then b
  else if 2 ≤ x.state ∧ x.sre = false then b.abandonEntry s
  else b.setSet s (x.leave b.now goal)

/-- Octants that must not stay dropped: their drop ends at the boundary, once the set can write the mask (R359, R362). -/
def Base.undropNeeded (b : Base) : Base :=
  forN b.octants (fun k b =>
    let end_ := b.neededOf k || !tb (b.reg Reg.POWER_CFG) 25
    let b := if end_ && b.pw.dropping.getLsbD k then b.updPw fun p => { p with dropping := setBit p.dropping k false } else b
    if b.pw.dropped.getLsbD k && end_ then
      if (b.set_ (setOfOctant k)).state < 2 then b.restoreOctant k else b.forceExit (setOfOctant k) 1
    else b) b

/-- Power states at a boundary. -/
def Base.powerBoundary (b : Base) : Base :=
  let b := forN b.sets (fun s b => b.countIdle s) b
  let b := b.pruneDecls
  let b := b.pw.waits.foldl (fun b w => b.settleDecl w) b
  let b := if tb (b.reg Reg.POWER_CFG) 25 then b else forN b.sets (fun s b => b.forceExit s 0) b
  let b := if b.pw.wakeHot then (forN b.sets (fun s b => if 2 ≤ (b.set_ s).state then b.forceExit s 1 else b) b).updPw fun p => { p with wakeHot := false } else b
  b.undropNeeded

/-- The four channels of a die report the change of their refresh rate, each from its own source (R168, R188; DEDUCED,
entry 46). -/
def Base.sendHot (b : Base) (d : Nat) : Base :=
  forN 4 (fun (j : Nat) (b : Base) => b.send .hotRefreshChange (chSrc (4 * d + j) 1) (chAddr (4 * d + j) 0 0)) b

/-- Throttle steps and doubled refresh change at the first boundary after the sample (R168, R371, R372). -/
def Base.thermalBoundary (b : Base) : Base :=
  let b := forN 16 (fun (d : Nat) (b : Base) =>
    let x := b.diode d
    let st := max x.stepNext b.pw.floor
    let b := if st = x.step then b else
      let b := b.setDiode d { x with step := st }
      b.send .throttleStep 0x528 (b.diodeAddr d)
    let hot : Bool := b.dram.hotNext.getLsbD d
    if hot = b.dram.hot.getLsbD d then b
    else (b.updDram fun m => { m with hot := setBit m.hot d hot }).sendHot d) b
  if (List.range 16).any fun d => decide (0 < (b.diode d).step) then b.bump Reg.THROTTLE_EPOCH_COUNT else b

end Sys2Proof.Machine
end

