-- ==== Sys2Proof/Machine/Qos.lean ====
section
/-! DEFINITION. Machine/Qos.lean: label staging (R303, R304), the fold of measured latency (R307, R308), deliverable bandwidth (R314),
admission (R316), cuts (R317 to R319), promotion (R313), and the views and clears of the QoS registers (R322 to R325). -/

namespace Sys2Proof.Machine

/-! ### Staging -/

/-- LBL_STAGE_CTRL reaches the staging list: firmware is not activating a version (R457). -/
def Base.stageOpen (b : Base) (f : Base → Base) : Base := if b.versionBusy then b.send .versionBusy 0x580 Reg.LBL_STAGE_CTRL else f b

/-- A label entry joins the staging list (R303): an uncaptured entry of the label is replaced, a captured one stays. -/
def Base.stage (b : Base) (l : Label) (w0 w1 : Word) : Base :=
  let mine := fun e : Staged => e.label == l && e.strobe.isNone
  let new : Staged := { label := l, w0 := w0, w1 := w1 }
  if b.qos.staging.any mine then b.updQos fun q => { q with staging := replaceFirst mine new q.staging, pushRefused := false }
  else if 256 ≤ b.qos.staging.length then (b.updQos fun q => { q with pushRefused := true }).send .stageFull 0x481 l.toNat
  else b.updQos fun q => { q with staging := q.staging ++ [new], pushRefused := false }

/-- A write of LBL_STAGE_CTRL (R303, R324): DISCARD, by which the entries no strobe has captured leave, takes precedence over PUSH. -/
def Base.stageCtrl (b : Base) (v : BitVec 2) : Base :=
  b.stageOpen fun b =>
    if v.getLsbD 1 then b.updQos fun q => { q with staging := q.staging.filter fun e => e.strobe.isSome }
    else if v.getLsbD 0 then b.stage ((b.reg Reg.LBL_STAGE_INDEX).extractLsb' 0 16) (b.reg Reg.LBL_STAGE_W0) (b.reg Reg.LBL_STAGE_W1)
    else b

/-- LBL_STAGE_PUSH (R303): a write of LBL_STAGE_CTRL with PUSH set. -/
def execLblStagePush (v : BitVec 2) (s : State) : Host.Outcome State Fault Refusal := s.whenBase Base.mgmtFull fun b => b.stageCtrl v

/-- LBL_STAGE_DISCARD (R303): a write of LBL_STAGE_CTRL with DISCARD set. -/
def execLblStageDiscard (v : BitVec 2) (s : State) : Host.Outcome State Fault Refusal := s.whenBase Base.mgmtFull fun b => b.stageCtrl v

/-! ### Views and clears -/

/-- The eight words of a label's entry (R300). -/
def Base.labelWords (b : Base) (l : Nat) : List Word :=
  let e := b.label l
  let w := BitVec.ofNat 32
  [w (e.cls + 256 * e.tenant + 65536 * e.target), w e.reserve,
    w (min 0xFFFF (b.effReserve e) + 65536 * min 0xFFFF (b.budgetLeft e)),
    w (min 0xFFFF (e.m256 / 256) + 65536 * e.step + 2 ^ 20 * min 15 e.throttles + 2 ^ 24 * e.throttleCh),
    w (min 0xFFFF e.pendingOver), w e.reads, w e.misses, w e.overBudget]

/-- LBL_VIEW_SEL (R325). -/
def execLblViewSel (v : Word) (s : State) : Host.Outcome State Fault Refusal :=
  s.whenBase Base.mgmtFull fun b =>
    let words := b.labelWords (fld v 15 0)
    (b.setReg Reg.LBL_VIEW_SEL (v &&& 0xFFFF)).updQos fun q => { q with view := words, viewValid := true }

/-- QOS_HIST_CLEAR (R322). -/
def execQosHistClear (s : State) : Host.Outcome State Fault Refusal := s.whenBase Base.mgmtFull fun b => b.updQos fun q => { q with hist := [] }

/-- QOS_COUNT_CLEAR (R323, R324). -/
def execQosCountClear (v : Word) (s : State) : Host.Outcome State Fault Refusal :=
  s.whenBase Base.mgmtFull fun b =>
    let b := b.clearCounters Reg.COMMIT_REFUSED_COUNT 3 v
    if tb v 3 then b.updQos fun q => { q with hist := [] } else b

/-! ### The fold (R307, R308) -/

/-- The step of a measured latency, in 1/256 ns, against a target in ns. -/
def stepOf (m256 target : Nat) : Nat :=
  if target = 0 then 0
  else
    let p := fun k : Nat => decide (k * 256 * target ≤ 100 * m256)
    if p 100 then 4 else if p 90 then 3 else if p 75 then 2 else if p 50 then 1 else 0

/-- The moving average after an epoch whose samples add up to `sum` over `count` reads. -/
def foldM (m256 sum count : Nat) : Nat :=
  let x := 256 * sum / count
  if m256 = 0 then x else ((m256 : Int) + ((x : Int) - m256) / 16).toNat

/-- One label is folded; entering step 4 is reported. -/
def Base.foldLabel (b : Base) (l : Nat) : Base :=
  let e := b.label l
  let m := foldM e.m256 e.sum e.count
  let st := stepOf m e.target
  let b := b.setLabel l { e with m256 := m, step := st, sum := 0, count := 0 }
  if st = 4 ∧ e.step ≠ 4 then b.send .targetReached 0x482 l else b

/-- The fold of an epoch's samples: at most 4,096 labels, in ascending order after the last folded. -/
def Base.foldLabels (b : Base) : Base :=
  let ready := (b.qos.table.filter fun e => decide (0 < e.2.count)).map fun e => e.1
  let order := ready.filter (fun l => decide (b.qos.lastFolded < l)) ++ ready.filter (fun l => decide (l ≤ b.qos.lastFolded))
  let take := order.take 4096
  let late := decide (4096 < order.length)
  let b := take.foldl Base.foldLabel b
  let b := b.updQos fun q => { q with foldOverflow := late, lastFolded := take.getLast?.getD q.lastFolded }
  if late then b.send .foldOverflow 0x482 0 else b

/-! ### Deliverable bandwidth (R314) -/

/-- SCRUB_PERIOD_H. -/
def Base.scrubHours (b : Base) : Nat := b.rf Reg.ECC_CFG 7 0

/-- Lines per epoch of a channel before scrub, in parts of 1/546,000: window `w`, refresh doubled, dropped octants of its set. -/
def lineParts (w : Nat) (hot : Bool) (dropped : Nat) : Nat := 4000 * 546000 / w - 560000 * (8 - dropped) * (if hot then 2 else 1) - 364

/-- D from the parts of n channels and the scrub period in hours. -/
def deliverable (parts n hours : Nat) : Nat :=
  let unit := hours * 3600000000
  (parts * unit - n * 2097152 * 546000) / (546000 * unit)

/-- D now: every channel that is not retired counts. -/
def Base.currentD (b : Base) : Nat :=
  let chs := (List.range 64).filter fun c => !b.retired c
  deliverable ((chs.map fun c => lineParts (b.faw c) (b.dram.hot.getLsbD (dieOf c)) (b.droppedIn (b.setOf c)).length).sum) chs.length b.scrubHours

/-- D_NOMINAL. -/
def Base.nominalD (b : Base) : Nat := deliverable (64 * lineParts 12 false 0) 64 b.scrubHours

/-- D, D_HOLD and D_NOMINAL are recomputed; of past values only those that can still be a minimum are kept. -/
def Base.recomputeD (b : Base) : Base :=
  let d := b.currentD
  let now := b.pl.epochs
  let hist := (b.qos.dHist.filter fun e => decide (e.2 < d) && decide (now < e.1 + 65535)) ++ [(now, d)]
  let hold := b.rf Reg.QOS_CFG 15 0
  let m := ((hist.filter fun e => decide (now < e.1 + hold)).map fun e => e.2).foldl min d
  b.updQos fun q => { q with d := d, dHold := m, dNominal := b.nominalD, dHist := hist }

/-! ### Admission (R316) -/

/-- 85 % of a bandwidth, rounded down. -/
def limit03 (d : Nat) : Nat := 85 * d / 100

/-- Reserved lines of classes 0 to 3, and of all classes. -/
def reserved (t : Tab LabelEntry) : Nat × Nat :=
  ((t.map fun e => if e.2.cls < 4 then e.2.reserve else 0).sum, (t.map fun e => e.2.reserve).sum)

/-- The configuration words of an entry are out of range (R316 code 1). -/
def badWords (w0 w1 : Word) : Bool :=
  (decide (0 < fld w0 31 16) && decide (fld w0 31 16 < 100)) || fld w0 7 3 != 0 || fld w0 15 14 != 0 || fld w1 31 16 != 0

/-- A label entry takes configuration words; without a target its step is 0 (R308). -/
def LabelEntry.configure (e : LabelEntry) (w0 w1 : Word) : LabelEntry :=
  { e with cls := fld w0 2 0, tenant := fld w0 13 8, target := fld w0 31 16, reserve := fld w1 15 0
           step := if fld w0 31 16 = 0 then 0 else e.step }

/-- A table with staged entries written into it. -/
def stagedTable (t : Tab LabelEntry) (l : List (Label × Word × Word)) : Tab LabelEntry :=
  l.foldl (fun t e => Tab.upd {} t e.1.toNat fun x => x.configure e.2.1 e.2.2) t

/-- The reason a change is refused and the label it names, or none. -/
def Base.admissionReason (b : Base) (l : List (Label × Word × Word)) : Option (Nat × Nat) :=
  match l.find? fun e => badWords e.2.1 e.2.2 with
  | some e => some (1, e.1.toNat)
  | none =>
    let (o3, oa) := reserved b.qos.table
    let (n3, na) := reserved (stagedTable b.qos.table l)
    if n3 ≤ o3 ∧ na ≤ oa then none
    else if limit03 b.qos.dNominal < n3 then some (2, 0)
    else if b.qos.dNominal < na then some (3, 0)
    else if limit03 b.qos.dHold < n3 ∨ b.qos.dHold < na then some (4, 0)
    else none

/-- The captured entries are accepted or refused (R304, R316); they leave the list either way. -/
def Base.admission (b : Base) : Bool × Base :=
  let cap := (b.qos.staging.filter fun e => e.strobe.isSome).map fun e => (e.label, e.w0, e.w1)
  let b' := b.updQos fun q => { q with staging := q.staging.filter fun e => e.strobe.isNone }
  match b.admissionReason cap with
  | none => (true, b'.updQos fun q => { q with table := stagedTable q.table cap, lastRefused := false })
  | some (code, l) =>
    (false, ((b'.updQos fun q => { q with lastRefused := true, lastReason := code }).bump Reg.COMMIT_REFUSED_COUNT).send .admissionRefused 0x480 (code + 65536 * l))

/-! ### Cuts (R317 to R319) -/

/-- Sum of the first n class totals. -/
def sumTo (l : List Nat) (n : Nat) : Nat := (l.take n).sum

/-- One class is cut by what the totals exceed. -/
def cutClass (hold : Nat) (eff : List Nat) (c : Nat) : List Nat :=
  let excess := max (sumTo eff 8 - hold) (sumTo eff 4 - limit03 hold)
  eff.set c (eff.getD c 0 - excess)

/-- The class totals in force: classes are cut in order from 7 to 0. -/
def cutTotals (hold : Nat) (thermal : Bool) (totals : List Nat) : List Nat :=
  let eff := if thermal then totals.zipIdx.map (fun e => if 2 ≤ e.2 then 0 else e.1) else totals
  [7, 6, 5, 4, 3, 2, 1, 0].foldl (cutClass hold) eff

/-- Some core die's own step has reached 95 °C (R318, R371). -/
def Base.dieAt95 (b : Base) : Bool := (List.range 16).any fun d => decide (4 ≤ (b.diode d).step)

/-- Reservations in force are set at a boundary, and changed cuts are reported. -/
def Base.applyCuts (b : Base) : Base :=
  let totals := (List.range 8).map b.classTotal
  let hot := b.dieAt95
  let b := if hot && !b.qos.thermalCut then b.send .thermalCut 0x480 0 else b
  let eff := cutTotals b.qos.dHold hot totals
  let old := b.qos.cut
  let cut := (List.range 8).map fun c => totals.getD c 0 - eff.getD c 0
  let b := b.updQos fun q => { q with thermalCut := hot, eff := eff, cut := cut }
  [7, 6, 5, 4, 3, 2, 1, 0].foldl (fun (b : Base) (c : Nat) =>
    let n := cut.getD c 0
    let o := old.getD c 0
    let addr := c + 65536 * min 0xFFFF (eff.getD c 0)
    if totals.getD c 0 = 0 ∨ n = o then b
    else if o < n then (b.bump Reg.CUT_COUNT).send .reservationCut 0x480 addr
    else b.send .reservationRestored 0x480 addr) b

/-! ### Refill and reload (R154, R311, R313) -/

/-- A request takes its label's step, and IN_BUDGET when the label was promoted. -/
def Base.reloadReq (b : Base) (promoted : List Nat) (q : Req) : Req :=
  let up := promoted.contains q.label.toNat
  { q with step := (b.label q.label.toNat).step, inBudget := q.inBudget || up, owes := q.owes && !up }

/-- The same for a queued entry. -/
def Base.reloadEntry (b : Base) (promoted : List Nat) (e : Entry) : Entry := { e with req := b.reloadReq promoted e.req }

/-- The same for an offered row transfer; a spare-row move has no label (R320). -/
def Base.reloadRow (b : Base) (promoted : List Nat) (e : RowEntry) : RowEntry :=
  match e.label with
  | some l => { e with step := (b.label l.toNat).step, inBudget := e.inBudget || promoted.contains l.toNat }
  | none => e

/-- Every queued entry of a channel is reloaded. -/
def Base.reloadChan (b : Base) (promoted : List Nat) (c : Chan) : Chan :=
  let f := b.reloadEntry promoted
  { c with readQ := c.readQ.map f, writeQ := c.writeQ.map f, rowQ := c.rowQ.map (b.reloadRow promoted), xbar := c.xbar.map f
           upstream := c.upstream.map f, feed := c.feed.map f, healQ := c.healQ.map fun h => { h with entry := f h.entry } }

/-- The same for a fill. -/
def Base.reloadFill (b : Base) (promoted : List Nat) (f : Fill) : Fill :=
  { f with held := f.held.map (b.reloadReq promoted), step := (b.label f.label.toNat).step, inBudget := f.inBudget || promoted.contains f.label.toNat }

/-- Requests that wait outside the channels: at the home agent, for a fill or behind one. -/
def Base.reloadWaiting (b : Base) (promoted : List Nat) : Base :=
  let f := b.reloadReq promoted
  let b := b.updCoh fun c => { c with
    trackers := c.trackers.map fun t => { t with req := f t.req }
    waiting := c.waiting.map fun w => { w with req := f w.req } }
  b.updLay fun l => { l with fills := l.fills.map (b.reloadFill promoted), fillWait := l.fillWait.map fun w => (f w.1, w.2) }

/-- Labels whose lines over budget all fit the new budget are promoted, and queued and waiting requests take the steps in force. -/
def Base.replenish (b : Base) : Base :=
  let fit := b.qos.table.filter fun e => decide (0 < e.2.pendingOver) && decide (e.2.pendingOver ≤ b.budgetLeft e.2)
  let labels := fit.map fun e => e.1
  let b := fit.foldl (fun b e => b.setLabel e.1 { e.2 with budget := b.budgetLeft e.2 - e.2.pendingOver, refilledAt := b.pl.epochs + 1, pendingOver := 0 }) b
  (b.dram.chans.foldl (fun b e => b.updChan e.1 fun c => b.reloadChan labels c) b).reloadWaiting labels

end Sys2Proof.Machine
end

