-- ==== Sys2Proof/Machine/Checks.lean ====
section
/-! DEFINITION. Machine/Checks.lean: what a boundary checks before it applies a capture: the ranges of fields and their clamps (R47,
R89, R187, R225, R258, R298, R323, R353, R380, R412, R445), group 2 (R94, R98, R101, R231), group 6 (R230) and group 7 (R266). -/

namespace Sys2Proof.Machine

/-! ### Ranges of fields -/

/-- A field with its range: high bit, low bit, least and greatest value. A range may depend on a field to the right of it. -/
abbrev FieldRange : Type := Word → Nat × Nat × Nat × Nat

/-- A range that depends on no other field. -/
def fixedRange (hi lo least most : Nat) : FieldRange := fun _ => (hi, lo, least, most)

/-- The fields of a register that have a range, in order of bits. -/
def rangesOf (off : Nat) : List FieldRange :=
  if off = Reg.SNAPSHOT_CFG then [fixedRange 15 0 100 65535]
  else if 0x30000 ≤ off ∧ off < 0x31000 ∧ off % 0x100 = 0xC then
    [fixedRange 7 0 10 90, fixedRange 15 8 4 40, fixedRange 23 16 5 60, fixedRange 27 24 1 8]
  else if off = Reg.SCHED_CFG then [fixedRange 6 0 16 64, fun w => (14, 8, 0, fld w 6 0 - 8), fixedRange 23 16 2 100]
  else if off = Reg.TRAIN_CFG then [fixedRange 3 0 2 12, fixedRange 15 8 20 90]
  else if off = Reg.ECC_CFG then [fixedRange 7 0 1 168]
  else if off = Reg.COH_CFG then [fixedRange 13 0 10 10000]
  else if off = Reg.MOVER_CFG then [fixedRange 2 0 1 4, fixedRange 15 8 25 100]
  else if 0x91000 ≤ off ∧ off < 0x91800 ∧ off % 0x20 = 8 then [fun w => if tb w 4 then (3, 0, 4, 12) else (3, 0, 0, 15)]
  else if off = Reg.QOS_CFG then [fixedRange 15 0 100 65535]
  else if off = Reg.SI_CFG then [fixedRange 7 0 1 168, fixedRange 13 8 4 32, fun w => (21, 16, fld w 13 8 + 1, 48)]
  else if off = Reg.SI_CFG2 then [fixedRange 5 0 7 60, fixedRange 15 8 4 255, fixedRange 23 16 4 30, fun w => (31, 24, fld w 23 16 + 2, 40)]
  else if off = Reg.POWER_CFG then [fixedRange 7 0 1 255, fixedRange 15 8 1 255, fixedRange 23 16 1 255]
  else if off = Reg.FAULT_CFG then [fixedRange 9 0 1 1000, fixedRange 25 12 10 10000]
  else if off = Reg.FLOG_CFG then [fixedRange 9 0 64 1023]
  else if off = Reg.WDOG_CFG then [fixedRange 15 0 100 10000]
  else if off = Reg.MARGIN_CFG then [fixedRange 7 0 7 90]
  else []

/-- One field takes the nearest limit of its range; the low bits of the fields changed are kept. -/
def clampField (s : Word × List Nat) (r : FieldRange) : Word × List Nat :=
  let (hi, lo, least, most) := r s.1
  let v := fld s.1 hi lo
  let c := max least (min most v)
  if c = v then s else (setFld s.1 hi lo c, s.2 ++ [lo])

/-- A register's value with every field in its range, and the low bits of the fields that changed. -/
def clampReg (off : Nat) (w : Word) : Word × List Nat := (rangesOf off).foldl clampField (w, [])

/-- The source that reports a clamp of the register. -/
def clampSrc (off : Nat) : Nat :=
  if off < 0x30000 then 0x5BA
  else if off < 0x40000 then 0x40 + (off - 0x30000) / 0x100
  else if off < 0x70000 then 0x100
  else if off < 0x80000 then 0x340
  else if off < 0x90000 then 0x400
  else if off < 0xA0000 then 0x4D0
  else if off < 0xB0000 then 0x480
  else if off < 0xC0000 then 0x570
  else if off < 0xD0000 then 0x500
  else if off < 0xE0000 then 0x5B8
  else 0x5C5

/-! ### The base as a capture would leave it -/

/-- The base with some registers replaced: those at offsets that meet `p` take the values of `new`, zero where it lists none. -/
def Base.withRegs (b : Base) (p : Nat → Bool) (new : Tab Word) : Base := { b with regs := Tab.overlay 0 p b.regs new }

/-- The registers that differ between two bases among those at offsets that meet `p`. -/
def changedRegs (p : Nat → Bool) (old new : Tab Word) : List Nat :=
  (((old ++ new).map fun e => e.1).eraseDups).filter fun o => p o && Tab.get 0 old o != Tab.get 0 new o

/-! ### Group 2 (R94, R98, R101, R231) -/

/-- The blocks of a valid range whose base is at `o`; none when it is invalid (R126). -/
def Base.rangeBlocks (b : Base) (o : Nat) : List Nat :=
  if tb (b.reg o) 31 then blocksOf (b.rf o 8 0) (b.rf (o + 4) 8 0) else []

/-- Two block ranges meet. -/
def Base.rangesMeet (b : Base) (x y : Nat) : Bool := (b.rangeBlocks x).any fun k => b.rangeHolds y k

/-- The host is bound to a port outside its mask (R94). -/
def Base.badBind (b : Base) (h : Nat) : Bool := b.bound h && !tb (b.reg (Reg.HOST_PORT_MASK h)) (b.portOf h)

/-- Why an allocation is refused, 0 when it is not (R98, R101, R231): the first of the reasons in the order of R127, and one for a base and
limit pair (DESIGN CHOICE, entry 126). -/
def Base.allocReason (b : Base) (h k : Nat) : Nat :=
  let blocks := b.rangeBlocks (Reg.ALLOC_BASE h k)
  if blocks.any fun x => !b.inBounds h x then 2
  else if (List.range 8).any fun j => b.rangesMeet (Reg.ALLOC_BASE h k) (Reg.DC_REGION_BASE j) then 3
  else if blocks.any fun x => match b.windowOf x with | some w => !(b.membersOf w).getLsbD h | none => false then 4
  else 0

/-- What a region overlaps: another region, or 15 for a static allocation (R101). -/
def Base.regionClash (b : Base) (k : Nat) : Option Nat :=
  match (List.range 8).find? fun j => j != k && b.rangesMeet (Reg.DC_REGION_BASE k) (Reg.DC_REGION_BASE j) with
  | some j => some j
  | none => if (List.range 16).any fun h => (List.range 8).any fun a => b.rangesMeet (Reg.DC_REGION_BASE k) (Reg.ALLOC_BASE h a) then some 15 else none

/-- The messages of a group 2 capture that would leave the base like this, for the registers it changes (R127). A refused binding has no
range, and its message block 0 (DESIGN CHOICE, entry 126). -/
def Base.bindFaults (b : Base) (changed : List Nat) : List (Kind × Nat × Nat) :=
  let hit := fun o : Nat => changed.contains o
  let binds := ((List.range 16).filter fun h => hit (Reg.HOST_BIND h) && b.badBind h).map fun h => (Kind.bindRefused, 0x90 + h, 1)
  let allocs := (List.range 16).flatMap fun h => (List.range 8).filterMap fun k =>
    let r := if hit (Reg.ALLOC_BASE h k) || hit (Reg.ALLOC_LIMIT h k) then b.allocReason h k else 0
    if r = 0 then none else some (Kind.bindRefused, 0x90 + h, r + 256 * b.rf (Reg.ALLOC_BASE h k) 8 0)
  let regions := (List.range 8).filterMap fun k =>
    if hit (Reg.DC_REGION_BASE k) || hit (Reg.DC_REGION_LIMIT k) then (b.regionClash k).map fun j => (Kind.dcRegionRefused, 0xB0, k + 256 * j) else none
  binds ++ allocs ++ regions

/-! ### Group 6 (R230) -/

/-- A valid window whose limit is below its base, whose member mask is empty, or that overlaps another valid window. -/
def Base.badWindow (b : Base) (k : Nat) : Bool :=
  tb (b.reg (Reg.SW_BASE k)) 31 &&
    (decide (b.rf (Reg.SW_LIMIT k) 8 0 < b.rf (Reg.SW_BASE k) 8 0) || b.membersOf k == 0
      || (List.range 32).any fun j => j != k && b.rangesMeet (Reg.SW_BASE k) (Reg.SW_BASE j))

/-- The blocks whose window changes between two bases. -/
def movedBlocks (b new : Base) : List Nat := (List.range 512).filter fun x => b.windowOf x != new.windowOf x

/-- A member leaves the window although no release sweep over it has completed since it last had one of its blocks. -/
def memberLeaves (b new : Base) (k : Nat) : Bool :=
  tb (new.reg (Reg.SW_BASE k)) 31 && (List.range 16).any fun h =>
    (b.membersOf k).getLsbD h && !(new.membersOf k).getLsbD h
      && (b.rangeBlocks (Reg.SW_BASE k)).any fun x => (Tab.get 0 b.coh.touched h).getLsbD x

/-- The running release sweep covers a block of the window, as it is or as it would be. -/
def sweepOver (b new : Base) (k : Nat) : Bool :=
  match b.coh.sweeps with
  | w :: _ => (b.rangeBlocks (Reg.SW_BASE k) ++ new.rangeBlocks (Reg.SW_BASE k)).any fun x => w.has (x * 4194304)
  | [] => false

/-- A changed window is refused. -/
def windowRefused (b new : Base) (moved : List Nat) (k : Nat) : Bool :=
  let mine := (b.rangeBlocks (Reg.SW_BASE k) ++ new.rangeBlocks (Reg.SW_BASE k)).filter fun x => moved.contains x
  new.badWindow k || (mine.any fun x => (List.range 16).any fun h => b.inEff h x) || memberLeaves b new k || sweepOver b new k

/-- The first window whose change is refused. -/
def firstBadWindow (b new : Base) (changed : List Nat) : Option Nat :=
  let moved := movedBlocks b new
  (List.range 32).find? fun k =>
    (changed.contains (Reg.SW_BASE k) || changed.contains (Reg.SW_LIMIT k) || changed.contains (Reg.SW_MEMBERS k)) && windowRefused b new moved k

/-! ### Group 7 (R266) -/

/-- The queue is enabled. -/
def Base.queueOn (b : Base) (q : Nat) : Bool := tb (b.reg (Reg.MQ_CFG q)) 4

/-- A ring lies wholly inside one sharing window of which the host is a member. -/
def Base.ringInWindow (b : Base) (h lo bytes : Nat) : Bool :=
  let first := lo / 268435456
  let last := (lo + bytes - 1) / 268435456
  (List.range 32).any fun k => (b.membersOf k).getLsbD h && b.rangeHolds (Reg.SW_BASE k) first && b.rangeHolds (Reg.SW_BASE k) last

/-- What R266 asks of an enabled queue: the reason it fails, 0 when it does not. Ring bases are 4 KiB aligned by their fields. -/
def Base.ringReason (b : Base) (q : Nat) : Nat :=
  let n := b.ringBytes q
  let r := b.ringBase q
  let c := b.cplBase q
  let h := q / 4
  if r < c + n ∧ c < r + n then 2
  else if !b.effHolds h r (r + n - 1) || !b.effHolds h c (c + n - 1) then 3
  else if !b.ringInWindow h r n || !b.ringInWindow h c n then 4
  else 0

/-- Why the change of a queue is refused, 0 when it is not. -/
def queueReason (b new : Base) (q : Nat) : Nat :=
  let fixed := fun x : Base => (x.reg (Reg.MQ_RING q), x.reg (Reg.MQ_CPL q), x.reg (Reg.MQ_CFG q) &&& 0xFFFF000F)
  if b.queueOn q then (if fixed b = fixed new then 0 else 5)
  else if new.queueOn q then new.ringReason q
  else 0

end Sys2Proof.Machine
end

