-- ==== Sys2Proof/Machine/Versions.lean ====
section
/-! DEFINITION. Machine/Versions.lean: configuration versions (R483, R495 to R503): the registers and labels a version holds, its
validation, how firmware applies one through the shadows, and rollback. -/

namespace Sys2Proof.Machine

/-! ### What a version holds -/

/-- The shadowed registers that the dictionary mirrors (R489, R496): every RWS register but those of the diagnostic window, the
logical-device modes of the ports and the dynamic-capacity regions. -/
def mirrored (off : Nat) : Bool :=
  (groupOf off).isSome && decide (0x50 ≤ off) && !(decide (0x48000 ≤ off) && decide (off < 0x4A000))

/-- The registers that boot code writes from the version: PORT_LTR is left to firmware (R89, R364). -/
def bootMirrored (off : Nat) : Bool := mirrored off && !(decide (0x30000 ≤ off) && decide (off < 0x31000) && off % 0x100 == 8)

/-- The protection registers a version holds (R423): port masks, firewall bounds, the channel table and the diagnostic firewall. -/
def protectedReg (off : Nat) : Bool :=
  off == Reg.DIAG_FW_BASE || off == Reg.DIAG_FW_LIMIT || (decide (0xF1000 ≤ off) && decide (off < 0xF1100)) ||
    (decide (0x40000 ≤ off) && decide (off < 0x44000) && (off % 0x400 == 4 || (decide (0x10 ≤ off % 0x400) && decide (off % 0x400 < 0x30))))

/-- The default of a version's register: its reset value, and 39,936 ns for the LTR value, kept at port 0's PORT_LTR (R483, R489). -/
def versionDefault (off : Nat) : Word := if off = Reg.PORT_LTR 0 then 39936 else ((regRow? off).map RegRow.reset).getD 0

/-- A register of a version. -/
def Version.get (v : Version) (off : Nat) : Word := match v.regs.find? fun e => e.1 == off with | some e => e.2 | none => versionDefault off

/-- A register of a version set; one at its default is not listed. -/
def Version.put (v : Version) (off : Nat) (w : Word) : Version :=
  { v with regs := if w = versionDefault off then Tab.erase off v.regs else Tab.insert off w v.regs }

/-- The LTR scale of a value in ns: the lowest at which it fits ten bits (R89). -/
def ltrScale (ns : Nat) : Nat := ((List.range 8).find? fun s => decide (ns / 32 ^ s ≤ 1023)).getD 7

/-- PORT_LTR of a value in ns, with the requirement flag (R89). -/
def ltrWord (ns : Nat) : Word := BitVec.ofNat 32 (min 1023 (ns / 32 ^ ltrScale ns) + 1024 * ltrScale ns + 32768)

/-- The greatest LTR value in ns that a version allows: half of its SNOOP_TIMEOUT (R364). -/
def Version.ltrLimit (v : Version) : Nat := 500 * fld (v.get Reg.COH_CFG) 13 0

/-- PORT_LTR as the version gives it (R364). -/
def Version.ltr (v : Version) : Word := ltrWord (min (v.get (Reg.PORT_LTR 0)).toNat v.ltrLimit)

/-- The shadowed registers of a version other than zero. One LTR value and one eye policy serve every port (R489). -/
def Version.table (v : Version) : Tab Word :=
  let own := fun o : Nat => mirrored o && !(decide (0x30000 ≤ o) && decide (o < 0x31000))
  let t := resetRegs.filter fun e => own e.1
  let t := (v.regs.filter fun e => own e.1).foldl (fun t e => Tab.set 0 t e.1 e.2) t
  (List.range 16).foldl (fun t i => Tab.set 0 (Tab.set 0 t (Reg.PORT_LTR i) v.ltr) (Reg.EYE_POLICY i) (v.get (Reg.EYE_POLICY 0))) t

/-- The protection registers of a version other than zero. -/
def Version.protection (v : Version) : Tab Word := (v.regs.filter fun e => protectedReg e.1).foldl (fun t e => Tab.set 0 t e.1 e.2) []

/-- Configuration words 0 and 1 of a label in a version. -/
def Version.label (v : Version) (l : Label) : Word × Word := match v.labels.find? fun e => e.1 == l with | some e => e.2 | none => (7, 0)

/-- A label of a version set; one at its reset values is not listed. -/
def Version.putLabel (v : Version) (l : Label) (w : Word × Word) : Version :=
  let rest := v.labels.filter fun e => e.1 != l
  { v with labels := if w = (7, 0) then rest else rest ++ [(l, w)] }

/-- READ_MASK and WRITE_MASK of the built-in access table (R488): MGMT and P0 to P3. -/
def builtinMask : Word := 0x1F0000

/-- A row of an access table. -/
def accessRow (t : List (Nat × Word × Word)) (i : Nat) : Word × Word :=
  match t.find? fun e => e.1 == i with | some e => e.2 | none => (builtinMask, builtinMask)

/-- A row of an access table set; one at its built-in value is not listed. -/
def putAccess (t : List (Nat × Word × Word)) (i : Nat) (r : Word × Word) : List (Nat × Word × Word) :=
  if r = (builtinMask, builtinMask) then Tab.erase i t else Tab.insert i r t

/-- The built-in version 0 (R496). -/
def builtinVersion : Version := { number := 0, role := 1 }

/-- A version by number; 0, and a version no slot holds, is the built-in one. -/
def Base.version (b : Base) (n : Nat) : Version := (b.dict.versions.find? fun v => v.number == n && n != 0).getD builtinVersion

/-- The ACTIVE version. -/
def Base.activeVersion (b : Base) : Version := b.version b.dict.active

/-- log2 of the set width that a version holds: boot code takes 3 as 0 (R150). -/
def Version.logWidth (v : Version) : Nat := 4 + (if 2 < v.setWidth then 0 else v.setWidth)

/-! ### Drift and pending protection -/

/-- Configuration words of a label in force. -/
def LabelEntry.words (e : LabelEntry) : Word × Word :=
  (BitVec.ofNat 32 (e.cls + 256 * e.tenant + 65536 * e.target), BitVec.ofNat 32 e.reserve)

/-- The registers whose value in force differs from the version's (R499). -/
def Base.differing (b : Base) (v : Version) : List (Nat × Word) :=
  let t := v.table
  (changedRegs mirrored b.regs t).map fun o => (o, Tab.get 0 t o)

/-- The labels whose configuration in force differs from the version's, with the version's words. -/
def Base.differingLabels (b : Base) (v : Version) : List (Label × Word × Word) :=
  let ls := (((b.qos.table.map fun e => BitVec.ofNat 16 e.1) ++ v.labels.map fun e => e.1).eraseDups).filter fun l => (b.label l.toNat).words != v.label l
  ls.map fun l => (l, v.label l)

/-- Drift (R495, R500): a value in force differs from ACTIVE, and firmware is not applying a version. -/
def Base.drift (b : Base) : Bool :=
  !b.versionBusy && (!(b.differing b.activeVersion).isEmpty || !(b.differingLabels b.activeVersion).isEmpty)

/-- ProtectionPending (R483, R495, R499): ACTIVE holds protection items or a set width not in force. -/
def Base.protectionPending (b : Base) : Bool :=
  let v := b.activeVersion
  !(changedRegs protectedReg b.regs v.protection).isEmpty || v.setWidth + 4 != b.lay.n || v.access != b.dict.access
    || (v.injEnable && b.boot.lifecycle != 2) != tb (b.reg Reg.INJ_ENABLE) 0

/-! ### Validation (R498, step 2) -/

/-- The base as the version would set it up, protection included. -/
def Base.underVersion (b : Base) (v : Version) : Base :=
  b.withRegs (fun o => mirrored o || protectedReg o) (v.protection.foldl (fun t e => Tab.set 0 t e.1 e.2) v.table)

/-- An entry of the channel table is invalid (R466). -/
def badChannel (w : Word) : Bool := decide (22 < fld w 4 0) || decide (21 < fld w 12 8) || fld w 4 0 == fld w 12 8

/-- The reason validation refuses a version, 0 when it passes. -/
def Base.validate (b : Base) (v : Version) : Nat :=
  let n := b.underVersion v
  let labels := b.differingLabels v
  if v.table.any (fun e => (clampReg e.1 e.2).1 != e.2) || v.labels.any (fun e => badWords e.2.1 e.2.2) || decide (2 < v.setWidth)
      || decide (v.windowS < 5) || decide (3600 < v.windowS) then 1
  else if (List.range 16).any (fun h => n.badBind h || (List.range 8).any fun k => n.allocReason h k != 0) then 2
  else if (List.range 32).any (fun k => n.badWindow k) then 3
  else if (List.range 64).any (fun q => n.queueOn q && n.ringReason q != 0) then 4
  else if (b.admissionReason labels).isSome then 5
  else if 8192 < v.labels.length then 6
  else if v.regs.any (fun e => decide (0xF1000 ≤ e.1) && decide (e.1 < 0xF1100) && tb e.2 31 && badChannel e.2) then 7
  else if !tb (accessRow v.access 15).1 16 || !tb (accessRow v.access 15).2 16 then 8
  else 0

/-! ### Applying a version (R499) -/

/-- Lists of at most n elements. -/
def chunks {α : Type} (n : Nat) (l : List α) : List (List α) := (List.range ((l.length + n - 1) / n)).map fun i => (l.drop (n * i)).take n

/-- The batches of a set of changed labels: those that lower a reservation come first. -/
def Base.labelBatches (b : Base) (l : List (Label × Word × Word)) : List (List (Label × Word × Word)) :=
  let lowers := fun e : Label × Word × Word => decide (fld e.2.2 15 0 < (b.label e.1.toNat).reserve)
  chunks 256 (l.filter lowers ++ l.filter fun e => !lowers e)

/-- Firmware stages a batch and strobes group 8 with the other groups of a mask; the last batch takes the groups changed. -/
def Base.nextBatch (b : Base) : Base :=
  let (batch, rest) := match b.dict.batches with | x :: t => (x, t) | [] => ([], [])
  let mine := fun l : Label => batch.any fun e => e.1 == l
  let new := batch.map fun e => ({ label := e.1, w0 := e.2.1, w1 := e.2.2 } : Staged)
  let b := b.updQos fun q => { q with staging := (q.staging.filter fun e => !(mine e.label && e.strobe.isNone)) ++ new }
  let own : BitVec 16 := if batch.isEmpty then 0 else 256
  let mask : BitVec 16 := if rest.isEmpty then own ||| b.dict.actMask else own
  let b := b.updDict fun d => { d with batches := rest, actMask := if rest.isEmpty then 0 else d.actMask }
  if mask = 0 then b.updDict fun d => { d with actStrobe := none }
  else
    let b := b.strobe mask false
    b.updDict fun d => { d with actStrobe := some b.mg.strobes }

/-- Firmware begins to apply a version: `step` as in Dict.commitStep. An LTR value above its limit is reported (R364). -/
def Base.applyVersion (b : Base) (v : Version) (step : Nat) : Base :=
  let regs := b.differing v
  let b := regs.foldl (fun b e => b.setShadow e.1 e.2) b
  let mask := regs.foldl (fun m e => match groupOf e.1 with | some g => setBit m g true | none => m) (0 : BitVec 16)
  let b := if v.ltrLimit < (v.get (Reg.PORT_LTR 0)).toNat then b.send .ltrClamped 0x500 0 else b
  let batches := b.labelBatches (b.differingLabels v)
  (b.updDict fun d => { d with commitStep := step, batches := batches, actMask := mask }).nextBatch

/-! ### The directory -/

/-- Source of the dictionary's messages (R504). -/
def dictSrc : Nat := 0x5BB

/-- A version takes a role. -/
def setRole (n role : Nat) (l : List Version) : List Version := l.map fun v => if v.number = n then { v with role := role } else v

/-- LastResult (R495). -/
def Base.lastResult (b : Base) (n step reason : Nat) : Base := b.updDict fun d => { d with lastVersion := n, lastStep := step, lastReason := reason }

/-- A commit ends (R498). -/
def Base.refuseVersion (b : Base) (n step reason : Nat) : Base :=
  ((b.lastResult n step reason).updDict fun d => { d with commitStep := 0 }).send .versionRefused dictSrc n

/-- The slots with room for one more: the oldest history slot goes when all 8 are taken (R498). -/
def makeRoom (l : List Version) : List Version :=
  if l.length < 8 then l
  else
    let old := (l.filter fun v => v.role == 4 || v.role == 5).foldl (fun m v => match m with | some n => some (min n v.number) | none => some v.number) (none : Option Nat)
    match old with | some n => l.filter fun v => v.number != n | none => l

/-- The directory names PENDING as ACTIVE, on trial (R498, step 4). -/
def Base.promote (b : Base) (p : Version) : Base :=
  let b := b.countMram
  b.updDict fun d =>
    let l := setRole d.active 3 (setRole d.previous 4 d.versions)
    { d with
      versions := makeRoom l ++ [{ p with role := 1, confirmed := false }]
      previous := d.active
      active := p.number
      pending := none
      onTrial := true
      trialBoots := 0
      windowEnd := none }

/-- The directory names PREVIOUS as ACTIVE, confirmed; the version left is marked rolled back, and PREVIOUS becomes the newest
confirmed history version older than the new ACTIVE (R501). -/
def Base.fallBack (b : Base) (step reason : Nat) : Base :=
  let b := (b.lastResult b.dict.active step reason).countMram
  b.updDict fun d =>
    let target := d.previous
    let l := setRole target 1 (setRole d.active 5 d.versions)
    let l := l.map fun v => if v.number = target then { v with confirmed := true } else v
    let prev := ((l.filter fun v => v.role == 4 && v.confirmed && decide (v.number < target)).map fun v => v.number).foldl max 0
    { d with versions := setRole prev 3 l, active := target, previous := prev, onTrial := false, trialBoots := 0, windowEnd := none }

/-- Rollback (R501): the directory first, then the target's values. -/
def Base.rollBack (b : Base) (reason : Nat) : Base :=
  let b := b.fallBack 6 reason
  b.applyVersion b.activeVersion 7

/-- The application of a version goes on at a boundary, after the groups have been applied (R499): `refused` says that the boundary
refused the capture of its strobe. -/
def Base.applyBoundary (b : Base) (refused : Bool) : Base :=
  let step := b.dict.commitStep
  if step < 5 then b
  else if refused then
    let b := b.updDict fun d => { d with batches := [], actStrobe := none }
    if step = 5 then
      let n := b.dict.active
      let b := (b.fallBack 5 10).refuseVersion n 5 10
      b.applyVersion b.activeVersion 6
    else
      let b := b.updDict fun d => { d with commitStep := 0 }
      if step = 7 then b.send .versionRolledBack dictSrc b.dict.lastVersion else b
  else if !b.dict.batches.isEmpty then b.nextBatch
  else
    let b := b.updDict fun d => { d with commitStep := 0, actStrobe := none }
    if step = 5 then
      let n := b.dict.active
      let b := b.updDict fun d => { d with
        versions := d.versions.map fun (v : Version) => if v.number = n then { v with activatedAt := b.pl.epoch.toNat } else v
        windowEnd := some (b.pl.epochs + 1000000 * b.activeVersion.windowS) }
      b.send .versionActivated dictSrc n
    else if step = 7 then b.send .versionRolledBack dictSrc b.dict.lastVersion
    else b

/-! ### The commands (R497) -/

/-- A version command: whether it is permitted in the present state, and what it does. Codes 1 OPEN, 2 DISCARD, 3 COMMIT, 4 CONFIRM,
5 ROLLBACK. A confirm window that has ended at a boundary takes no CONFIRM (R501). -/
def Base.versionCommand (b : Base) (c : Nat) : Option Base :=
  let d := b.dict
  match c, d.pending with
  | 1, none =>
    if d.onTrial then none
    else
      let v := b.activeVersion
      let p : Version := { v with number := d.highest + 1, role := 2, confirmed := true, activatedAt := 0 }
      some (b.updDict fun d => { d with pending := some p, highest := d.highest + 1 })
  | 2, some _ => some (b.updDict fun d => { d with pending := none })
  | 3, some p =>
    let r := b.validate p
    if r = 0 then some (b.updDict fun d => { d with commitStep := 3 }) else some (b.refuseVersion p.number 2 r)
  | 4, _ =>
    match d.windowEnd with
    | some t => if d.onTrial ∧ b.pl.epochs < t then some (((b.updDict fun d => { d with
        onTrial := false, windowEnd := none, trialBoots := 0,
        versions := d.versions.map fun (v : Version) => if v.number = d.active then { v with confirmed := true } else v }).countMram).send .versionConfirmed dictSrc d.active) else none
    | none => none
  | 5, _ => if d.previous ≠ 0 ∧ d.commitStep = 0 then some (b.rollBack 12) else none
  | _, _ => none

/-- VERSION_STORED (R498): both copies are written and verified, or the MRAM write fails; the directory names the version ACTIVE and
firmware begins to activate it. -/
def execVersionStored (mramOk : Bool) (s : State) : Host.Outcome State Fault Refusal :=
  s.whenBase (fun b => b.fwRuns && b.dict.commitStep == 3) fun b =>
    match b.dict.pending with
    | none => b
    | some p =>
      if mramOk then ((b.countMram).promote p).applyVersion p 5
      else b.refuseVersion p.number 3 9

/-- CONFIRM_WINDOW_EXPIRE (R501): the boundary at which the window ends finds ACTIVE on trial. -/
def execConfirmWindowExpire (s : State) : Host.Outcome State Fault Refusal :=
  s.whenBase Base.fwRuns fun b =>
    match b.dict.windowEnd with
    | some t => if b.dict.onTrial ∧ t ≤ b.pl.epochs ∧ b.dict.commitStep = 0 then b.rollBack 11 else b
    | none => b

end Sys2Proof.Machine
end

