-- ==== Sys2Proof/Machine/Commit.lean ====
section
/-! DEFINITION. Machine/Commit.lean: action 3 of a boundary (R11, R28, R454 to R458): captured groups are applied together or refused,
extents enter and leave (R100 to R103), windows change (R230), queues are configured (R266). -/

namespace Sys2Proof.Machine

/-- What a boundary has done so far: the base, the groups applied, the groups any part of which was refused, and the strobes a capture
of which was refused. -/
structure CommitRun where
  base : Base
  applied : BitVec 16 := 0
  refused : BitVec 16 := 0
  strobes : List Nat := []
deriving DecidableEq, Repr

/-- The register at an offset belongs to a group. -/
def inGroup (g o : Nat) : Bool := groupOf o == some g

/-- The captured values of a group, every field in its range. -/
def Capture.values (c : Capture) : Tab Word := (clampTargets c.group).foldl (fun t o => Tab.set 0 t o (clampReg o (Tab.get 0 t o)).1) c.regs
where
  /-- The registers of a group that have ranges. -/
  clampTargets (g : Nat) : List Nat :=
    match g with
    | 0 => [Reg.SNAPSHOT_CFG]
    | 1 => (List.range 16).map Reg.EYE_POLICY
    | 4 => [Reg.SCHED_CFG, Reg.TRAIN_CFG]
    | 5 => [Reg.ECC_CFG]
    | 6 => [Reg.COH_CFG]
    | 7 => Reg.MOVER_CFG :: (List.range 64).map Reg.MQ_CFG
    | 8 => [Reg.QOS_CFG]
    | 9 => [Reg.SI_CFG, Reg.SI_CFG2]
    | 10 => [Reg.POWER_CFG]
    | 11 => [Reg.FAULT_CFG, Reg.FLOG_CFG]
    | 12 => [Reg.WDOG_CFG, Reg.MARGIN_CFG]
    | _ => []

/-- CONFIG_CLAMPED for each of these registers that a capture would take outside its range (R550): the register's offset and the low bit of
the first such field. -/
def Base.reportClampsOf (b : Base) (c : Capture) (offs : List Nat) : Base :=
  offs.foldl (fun (b : Base) (o : Nat) =>
    match (clampReg o (Tab.get 0 c.regs o)).2 with
    | lo :: _ => b.send .configClamped (clampSrc o) (o + lo * 2 ^ 24)
    | [] => b) b

/-- CONFIG_CLAMPED for the registers of a capture that is applied whole (R550). -/
def Base.reportClamps (b : Base) (c : Capture) : Base := b.reportClampsOf c (Capture.values.clampTargets c.group)

/-- The base with a group's captured values in force. -/
def Base.inForce (b : Base) (c : Capture) : Base := b.withRegs (inGroup c.group) c.values

/-! ### Group 2: bindings, allocations and extents -/

/-- Runs of consecutive numbers of a rising list. -/
def runsOf : List Nat → List (Nat × Nat)
  | [] => []
  | x :: t => match runsOf t with
    | (lo, hi) :: rest => if x + 1 = lo then (x, hi) :: rest else (x, x) :: (lo, hi) :: rest
    | [] => [(x, x)]

/-- The other hosts that had a block of a run. -/
def Base.othersOf (b : Base) (h lo hi : Nat) : BitVec 16 :=
  ((List.range 16).filter fun o => o != h && (blocksOf lo hi).any fun x => b.inEff o x).foldl (fun m o => setBit m o true) 0

/-- A removed run is held (R100). -/
def Base.hold (b old : Base) (h lo hi : Nat) (clears : Bool) : Base :=
  let r : HeldRange := { host := BitVec.ofNat 4 h, base := lo, limit := hi, clears := clears, since := b.dram.passes, others := old.othersOf h lo hi }
  { b with hosts := { b.hosts with held := b.hosts.held ++ [r] } }

/-- Blocks that a host's allocations gave it and no longer give it. -/
def removedBlocks (old new : Base) (h : Nat) : List Nat :=
  (List.range 512).filter fun x => old.inAlloc h x && old.inEff h x && !((new.inAlloc h x || new.inExtent h x) && new.inBounds h x)

/-- Allocations removed by a capture are held. -/
def Base.holdRemoved (b old : Base) : Base :=
  forN 16 (fun (h : Nat) (b : Base) => (runsOf (removedBlocks old b h)).foldl (fun (b : Base) (r : Nat × Nat) => b.hold old h r.1 r.2 false) b) b

/-- A release sweep over the window blocks of an extent that a member host releases (R233). -/
def Base.sweepExtent (b : Base) (e : Extent) : Base :=
  let inWin := (blocksOf e.base e.limit).filter fun x => match b.windowOf x with | some w => (b.membersOf w).getLsbD e.host.toNat | none => false
  if inWin.isEmpty then b
  else (b.updCoh fun c => { c with sweeps := c.sweeps ++ [{ host := e.host, blocks := runsOf inWin, release := true }] }).wakeMover

/-- An extent that is being released leaves at the boundary (R103). -/
def Base.extentLeaves (b : Base) (e : Extent) : Base :=
  let old := b
  let b := { b with hosts := { b.hosts with extents := dropFirst (fun x => decide (x = e)) b.hosts.extents } }
  (b.hold old e.host.toNat e.base e.limit true).sweepExtent e

/-- An accepted extent enters, or is dropped when it no longer passes the checks of R102. -/
def Base.extentEnters (b : Base) (e : Extent) : Base :=
  let h := e.host.toNat
  let r := b.extentReason h e.base e.limit (b.extentsOf h - 1)
  let hit := fun x : Extent => decide (x = e)
  if r = 0 then { b with hosts := { b.hosts with extents := updFirst hit (fun x => { x with stage := .inForce }) b.hosts.extents } }
  else
    let b := { b with hosts := { b.hosts with extents := dropFirst hit b.hosts.extents } }
    (b.dcRefused h e.base r).dcRecord h 1 e.tag e.base e.limit

/-- Group 2 at a boundary: the capture of a strobe, the extents that leave, and firmware's own capture of the accepted extents,
which waits while the group is refused (R102). -/
def CommitRun.group2 (r : CommitRun) (c : Option Capture) : CommitRun :=
  let old := r.base
  let leaving := old.hosts.extents.filter fun e => e.stage == .releasing
  let entering := old.hosts.extents.filter fun e => e.stage == .accepted
  let new := match c with | some c => old.inForce c | none => old
  let faults := match c with | some _ => new.bindFaults (changedRegs (inGroup 2) old.regs new.regs) | none => []
  if faults.isEmpty then
    let b := match c with | some _ => new.holdRemoved old | none => old
    let b := leaving.foldl Base.extentLeaves b
    let b := entering.foldl Base.extentEnters b
    let b := if c.isSome then forN 16 (fun k b => b.refreshActive k) b else b
    { r with base := b, applied := if c.isSome || !entering.isEmpty || !leaving.isEmpty then setBit r.applied 2 true else r.applied }
  else
    let b := leaving.foldl Base.extentLeaves old
    let b := faults.foldl (fun (b : Base) (f : Kind × Nat × Nat) => b.send f.1 f.2.1 f.2.2) b
    { base := b, applied := r.applied, refused := setBit r.refused 2 true, strobes := match c with | some c => c.strobe :: r.strobes | none => r.strobes }

/-! ### Group 6: windows -/

/-- The directory forgets the lines of blocks that enter or leave a window, and their map bits are cleared (R230). -/
def Base.moveBlocks (b : Base) (moved : List Nat) : Base :=
  if moved.isEmpty then b
  else
    let b := b.updCoh fun c => { c with
      cache := c.cache.filter (fun e => !moved.contains (blockOf e.1))
      victims := c.victims.filter (fun e => !moved.contains (blockOf e.1)) }
    b.unmarkBlocks moved

/-- Group 6 at a boundary. -/
def CommitRun.group6 (r : CommitRun) (c : Capture) : CommitRun :=
  let old := r.base
  let new := old.inForce c
  match firstBadWindow old new (changedRegs (inGroup 6) old.regs new.regs) with
  | some k =>
    { base := old.send .windowCommitRefused 0x400 (268435456 * new.rf (Reg.SW_BASE k) 8 0), applied := r.applied
      refused := setBit r.refused 6 true, strobes := c.strobe :: r.strobes }
  | none => { r with base := (new.reportClamps c).moveBlocks (movedBlocks old new), applied := setBit r.applied 6 true }

/-! ### Group 7: mover queues -/

/-- The registers of a queue. -/
def queueRegs (q : Nat) : List Nat := [Reg.MQ_RING q, Reg.MQ_CPL q, Reg.MQ_CFG q]

/-- A queue whose ENABLE has changed (R266): one that is enabled starts empty, once nothing of its past still runs; one that is
disabled stops. -/
def Base.switchQueue (b old : Base) (q : Nat) : Base :=
  if b.queueOn q = old.queueOn q then b
  else if b.queueOn q then
    (b.updQueue q fun x => if (old.slotsOf q).isEmpty then { state := 0 } else { x with stopping := false, resetting := true }).restQueue q
  else (b.updQueue q fun x => { x with stopping := true, resetting := false }).restQueue q

/-- Group 7 at a boundary: only the registers of an offending queue are refused. -/
def CommitRun.group7 (r : CommitRun) (c : Capture) : CommitRun :=
  let old := r.base
  let new := old.inForce c
  let bad := (List.range 64).filterMap fun q => let n := queueReason old new q; if n = 0 then none else some (q, n)
  let keep := bad.flatMap fun e => queueRegs e.1
  let b := keep.foldl (fun (b : Base) (o : Nat) => b.setReg o (old.reg o))
    (new.reportClampsOf c ((Capture.values.clampTargets 7).filter fun o => !keep.contains o))
  let b := bad.foldl (fun (b : Base) (e : Nat × Nat) => b.send .queueCommitRefused (mqSrc e.1) (4096 * (e.1 % 4) + e.2)) b
  let b := forN 64 (fun q b => b.switchQueue old q) b
  { base := b, applied := setBit r.applied 7 true, refused := if bad.isEmpty then r.refused else setBit r.refused 7 true
    strobes := if bad.isEmpty then r.strobes else c.strobe :: r.strobes }

/-- The blocks of windows that hosts have in their effective ranges join those to be swept before a member may leave (R230). -/
def Base.touchWindows (b : Base) : Base :=
  forN 16 (fun (h : Nat) (b : Base) =>
    let owns := (List.range 8).any (fun k => tb (b.reg (Reg.ALLOC_BASE h k)) 31) || b.hosts.extents.any fun e => e.host.toNat == h
    let new := if owns then (List.range 512).filter fun x => b.inEff h x && (b.windowOf x).isSome else []
    if new.isEmpty then b else b.updCoh fun c => { c with touched := Tab.upd 0 c.touched h fun m => new.foldl (fun m x => setBit m x true) m }) b

/-! ### The other groups -/

/-- The LTR messages of the ports whose PORT_LTR has changed and whose link has sent one (R76). -/
def Base.newLtrs (b old : Base) : Base :=
  forN 16 (fun (k : Nat) (b : Base) =>
    if (b.port k).ltrSent && b.reg (Reg.PORT_LTR k) != old.reg (Reg.PORT_LTR k) then b.emit (.ltr (BitVec.ofNat 4 k) (b.reg (Reg.PORT_LTR k))) else b) b

/-- What follows the application of a group that never refuses. -/
def Base.afterGroup (b old : Base) (g : Nat) : Base :=
  match g with
  | 0 => b.updPl fun p => { p with intervalFrom := p.epochs, acc := b.freshCounts }
  | 1 => b.newLtrs old
  | _ => b

/-- A captured group at a boundary. -/
def CommitRun.group (r : CommitRun) (c : Capture) : CommitRun :=
  match c.group with
  | 2 => r.group2 (some c)
  | 6 => { r with base := r.base.touchWindows }.group6 c
  | 7 => r.group7 c
  | g => { r with base := ((r.base.inForce c).reportClamps c).afterGroup r.base g, applied := setBit r.applied g true }

/-- Group 8 first (R304): a refusal takes with it the other groups of the strobes that captured it. -/
def CommitRun.group8 (r : CommitRun) (c : Capture) : CommitRun × Bool :=
  let (ok, b) := r.base.admission
  if ok then ({ r with base := (b.inForce c).reportClamps c, applied := setBit r.applied 8 true }, true)
  else ({ base := b, applied := r.applied, refused := setBit r.refused 8 true, strobes := c.strobe :: r.strobes }, false)

/-- The outcome of a boundary's captures in COMMIT_LAST, LAST_COMMIT_EPOCH and EPOCH_STATUS, and vector 5 (R44, R45, R450, R456). -/
def Base.commitOutcome (b : Base) (caps : List Capture) (applied refused : BitVec 16) : Base :=
  let named := caps.foldl (fun m c => setBit m c.group true) (0 : BitVec 16)
  let whole := named &&& applied &&& ~~~refused
  let b := b.updMg fun m => { m with
    captures := [], groupRefused := (m.groupRefused &&& ~~~whole) ||| refused
    lastApplied := if applied = 0 then m.lastApplied else applied }
  let b := b.updPl fun p => { p with boundaryCommit := applied != 0 }
  let b := if applied = 0 then b else b.setReg Reg.LAST_COMMIT_EPOCH (b.pl.epoch.setWidth 32)
  if caps.any fun c => c.mgmt && (applied ||| refused).getLsbD c.group then b.msixMgmt 5 else b

/-- Action 3 of R28. -/
def Base.commitBoundary (b : Base) : Base :=
  let caps := b.mg.captures
  let r : CommitRun := { base := b }
  let (r, ok) := match caps.find? fun c => c.group == 8 with | some c => r.group8 c | none => (r, true)
  let barred := fun c : Capture => !ok && c.mask.getLsbD 8
  let rest := caps.filter fun c => c.group != 8
  let r := (rest.filter barred).foldl (fun (r : CommitRun) (c : Capture) => { r with refused := setBit r.refused c.group true, strobes := c.strobe :: r.strobes }) r
  let go := rest.filter fun c => !barred c
  let r := if go.any fun c => c.group == 2 then r else if rest.any fun c => c.group == 2 then r else r.group2 none
  let r := ((List.range 13).flatMap fun g => go.filter fun c => c.group == g).foldl CommitRun.group r
  let b := (r.base.touchWindows).commitOutcome caps r.applied r.refused
  b.applyBoundary (match b.dict.actStrobe with | some n => r.strobes.contains n | none => false)

end Sys2Proof.Machine
end

