-- ==== Sys2Proof/Machine/Resets.lean ====
section
/-! DEFINITION. Machine/Resets.lean: what a cold reset and a warm base-die reset leave of the state (R31, R347, R407, R411, R415, R417,
R503, R537, R551). -/

namespace Sys2Proof.Machine

/-! ### What MRAM and the core-die latches keep -/

/-- Where boot code puts the entries of the field repair map (R210, R213): the assignments of spare rows that firmware has recorded, and
the recorded lines with zero codewords. A record that cannot be read gives none (R374). -/
def Chan.loadRepairs (c : Chan) : Chan :=
  match c.repairMap.read with
  | some (m, _) => { c with spares := m.spares, remap := m.lines.map fun x => { bank := x.1, row := x.2.1, col := x.2.2, word := 0 } }
  | none => { c with spares := [], remap := [] }

/-- A channel after a cold reset: its training record, the field repair map, and the erasures and retirement of its cane map are in MRAM (R171,
R210, R211, R213, R339). -/
def Chan.afterCold (c : Chan) (m : CaneMap) : Chan :=
  Chan.loadRepairs {
    record := c.record
    train := if m.retired then .retired else .untrained
    repairMap := c.repairMap
    erased := m.erased }

/-- A channel after a warm base-die reset: the remap table, the confirmed latches, TRF_COUNT and the counts since cold reset are kept; its
queues, the heal queue, the history table and what was under way are lost (R188, R207, R210, R213, R227). Erasures and retirement come from its cane map (R339). Its scrub cycle begins anew. -/
def Chan.afterWarm (c : Chan) (m : CaneMap) (epochs : Nat) : Chan :=
  { record := c.record
    train := if m.retired then .retired else .untrained
    spares := c.spares.filter fun x => x.confirmed
    remap := c.remap
    remapFullSent := c.remapFullSent
    repairMap := c.repairMap
    erased := m.erased
    trfCount := c.trfCount
    scrubRetries := c.scrubRetries
    scrubFrom := epochs }

/-- The canes of a channel as the latches hold them: a test shift reverts (R339, R345). -/
def ChanCanes.kept (x : ChanCanes) : ChanCanes :=
  { use := x.use.filter fun e => e.2 != 0x3F, minWidth := x.minWidth, weakest := x.weakest }

/-- A row bus as its cane map holds it, and the margins of its last test. -/
def RowBus.kept (x : RowBus) (m : BusMap) : RowBus :=
  { retired := m.retired, erased := m.erased, minWidth := x.minWidth, weakest := x.weakest, weakCount := x.weakCount, lastTest := x.lastTest }

/-- What every reset of the base die keeps of the stack-integrity engine: latches, cane maps and margin records (R339, R340). -/
def Integrity.kept (x : Integrity) (now : Nat) : Integrity :=
  { canes := x.canes.map fun e => (e.1, e.2.kept)
    busShifts := x.busShifts
    busBad := x.busBad
    records := x.records
    caneMaps := x.caneMaps
    busMaps := x.busMaps
    monthly := x.monthly
    busErrFrom := now
    sweepFrom := now }

/-- The latches after a cold boot has cleared them and applied the MRAM cane maps (R339). -/
def Integrity.fromMaps (x : Integrity) : Integrity :=
  { x with
    canes := x.canes.map fun e => (e.1, { e.2 with use := (x.caneMap e.1).use })
    busShifts := (List.range 4).flatMap fun q => (x.busMap q).shifts.map fun e => (q, e)
    busBad := (List.range 4).flatMap fun q => (x.busMap q).bad.map fun k => (q, k) }

/-- A commit that a reset interrupts (R503): before step 4 PENDING is lost; after it the application is abandoned. -/
def Dict.interrupted (d : Dict) : Dict :=
  let d := match d.pending with
    | some p => { d with pending := none, lastVersion := p.number, lastStep := if d.commitStep = 3 then 3 else 1, lastReason := 14 }
    | none => d
  { d with commitStep := 0, batches := [], actMask := 0, actStrobe := none, windowEnd := none, odBusy := false, odDone := false, odStatus := 0
           odType := 0, odLen := 0, readView := [], cursors := [] }

/-! ### Cold reset -/

/-- The boot block after a cold reset: the MRAM boot record, journal, margin log and command counter are kept (R426, R435, R440, R441). -/
def Boot.afterCold (x : Boot) (kind : Nat) (held : Bool) : Boot :=
  { coldHeld := held
    resetKind := kind
    preferredB := x.preferredB
    new := x.new
    attempts := x.attempts
    svnFloor := x.svnFloor
    journal := x.journal
    marginLog := x.marginLog
    cmdCounter := x.cmdCounter
    returnErased := x.returnErased
    tripOwed := x.tripOwed
    powerOns := x.powerOns }

/-- The base after a cold reset (R415): everything but the MRAM, the pins and what has left the part returns to its reset value. A trip
latch stays (R375, R417), and so does FAULT_N (R399). -/
def Base.afterCold (b : Base) (kind : Nat) (held : Bool) : Base :=
  let pins := b.links.ports.map fun e => (e.1, ({ perst := e.2.perst, refclk := e.2.refclk, pll := e.2.pll } : Port))
  let chans := b.dram.chans.map fun e => (e.1, e.2.afterCold (b.si.caneMap e.1))
  let backups := b.si.guards.map fun e => (e.1, ({ onBackup := e.2.onBackup } : DieGuard))
  let d := b.dict.interrupted
  { regs := resetRegs
    shadow := resetRegs
    flt := { mramLog := b.flt.mramLog, faultNLow := b.flt.faultNLow, pulseEnd := b.flt.pulseEnd - b.now }
    mg := { perstAsserted := b.mg.perstAsserted }
    links := { ports := pins, eqStart := b.links.eqStart }
    dram := { chans := chans }
    mov := { buses := b.mov.buses.map fun e => (e.1, e.2.kept (b.si.busMap e.1)) }
    si := { (b.si.kept 0).fromMaps with guards := backups }
    pw := { tripped := b.pw.tripped, tripRec := b.pw.tripRec }
    boot := b.boot.afterCold kind held
    dict := { d with
      calSec := 0, calNs := 0, calAt := 0, calValid := false, life := d.lifeSaved, lifeFrom := 0, access := []
      retiredAccess := [], logOverwritten := 0, logSkipped := 0, noticesLost := [] }
    pack := { serdesOff := b.pack.serdesOff, rindPresent := b.pack.rindPresent, tap := b.pack.tap }
    out := b.out
    free := b.free }

/-- A cold reset: memory contents are lost, an OTP pulse is aborted (R415, R435). -/
def State.coldReset (s : State) (kind : Nat) (held : Bool) : State :=
  let s := s.abortFuse
  { s with mem := [], base := s.base.afterCold kind held }

/-! ### Warm base-die reset -/

/-- The registers that a warm base-die reset keeps (R47, R91, R150, R257, R296, R323, R352, R379, R412, R444, R478); the modes of the
ports and the dynamic-capacity regions are in no version and are kept (DEDUCED). -/
def keptOverWarm (o : Nat) : Bool :=
  o ∈ [Reg.DIAG_CFG, Reg.DIAG_LABEL, Reg.SNAPSHOT_CFG, Reg.COH_CFG, Reg.MOVER_CFG, Reg.QOS_CFG, Reg.SI_CFG, Reg.SI_CFG2, Reg.POWER_CFG,
    Reg.DECL_DEFAULT, Reg.WDOG_CFG, Reg.MARGIN_CFG, Reg.TRIP_RECORD] ||
  (decide (0x30000 ≤ o) && decide (o < 0x33000)) || (decide (0x48000 ≤ o) && decide (o < 0x4A000)) ||
  (decide (0x50000 ≤ o) && decide (o < 0x51000) && o != Reg.INITMAP_MARKED) || (decide (0x81000 ≤ o) && decide (o < 0x82000)) ||
  (decide (0x91000 ≤ o) && decide (o < 0x92000) && decide (o % 0x20 < 12)) || (decide (0xC2000 ≤ o) && decide (o < 0xC3000)) ||
  (decide (0xD0000 ≤ o) && decide (o < 0xD0050))

/-- Registers and shadows across a warm base-die reset. -/
def Base.warmRegs (b : Base) : Base :=
  { b with regs := Tab.overlay 0 (fun o => !keptOverWarm o) b.regs resetRegs
           shadow := Tab.overlay 0 (fun o => !keptOverWarm o) b.shadow resetRegs }

/-- A staging list without captures: where a label has two entries the newer stands (R304). -/
def uncapture (l : List Staged) : List Staged :=
  (l.foldr (fun e t => if t.any fun x => x.label == e.label then t else e :: t) []).map fun (e : Staged) => { e with strobe := none }

/-- A label across a warm base-die reset: its configuration stays, its status fields return to their reset values (R301). -/
def LabelEntry.afterWarm (e : LabelEntry) : LabelEntry := { cls := e.cls, tenant := e.tenant, target := e.target, reserve := e.reserve }

/-- The label table and the staging list across a warm base-die reset (R301, R304, R323). -/
def Qos.afterWarm (q : Qos) : Qos :=
  let t : Tab LabelEntry := q.table.map fun e => (e.1, e.2.afterWarm)
  { table := t.filter fun e => e.2 != {}, staging := uncapture q.staging }

/-- The calendar across a warm base-die reset: one set in the epoch of the reset is lost (R491). -/
def Dict.calendarWarm (d : Dict) (epochs : Nat) : Dict :=
  if d.calValid ∧ d.calAt = epochs then { d with calSec := 0, calNs := 0, calAt := 0, calValid := false } else d

/-- The data plane across a warm base-die reset: channels, fills, home agent, mover (R148, R207, R223, R238, R248, R295, R551). The write-backs
of the victim buffer are queued anew, and no flow starts before they have drained (R238). The reset counts as the logical-device reset that
the end of an isolation asks for (R551). What was queued in the data path is lost (DEDUCED: R347 gives the array only the write bursts issued before the reset). -/
def Base.warmData (b : Base) : Base :=
  let b := b.resetMover.interruptQueues
  let chans := b.dram.chans.map fun e => (e.1, e.2.afterWarm (b.si.caneMap e.1) b.pl.epochs)
  let b := b.updDram fun d => { d with
    chans := chans, retraining := none, retrainWait := [], trainGroup := 0, buckets := [], overflowed := [], corrections := []
    injRefused := false, injReason := 0, bucketAt := b.pl.epochs }
  let b := b.updLay fun l => { l with fills := [], fillWait := [] }
  let b := b.updCoh fun c => { c with
    trackers := [], waiting := [], locks := [], conflicts := [], draining := !c.victims.isEmpty
    ldReset := c.ldReset ||| c.isolated
    sweeps := c.sweeps.map fun (w : Sweep) => { w with cacheDone := false, at_ := 0, job := none, attempt := 0 } }
  let b := b.coh.victims.foldl (fun (b : Base) (v : Nat × DirRec) => b.updateLine v.1 v.2 b.dirLabel) b
  let b := b.updMov fun v => { v with
    rr := 0, buses := v.buses.map (fun e => (e.1, e.2.kept (b.si.busMap e.1))), domain := .on, stopped := false, rowTransfers := 0, bytesDone := 0
    lastProgress := b.now }
  let guards := b.si.guards.map fun e => (e.1, ({ e.2 with
    detected := false, accepted := [], lows := [], warns := [], holds := [], holdUntil := 0, unstableAt := none } : DieGuard))
  let b := b.updSi fun x => { x.kept b.pl.epochs with guards := guards, supplyFrom := b.pl.epochs }
  let b := b.updPw fun p => { p with sets := [], decls := [], waits := [], wakeHot := false, dropping := 0 }
  b.updQos Qos.afterWarm

/-- Ports and logical devices across a warm base-die reset (R81, R91, R461). -/
def Base.warmLinks (b : Base) : Base :=
  let b := forN 16 (fun (k : Nat) (b : Base) => (b.linkDownTo k (b.restState k) true).updPort k fun p =>
    { p with flitsRx := 0, flitsTx := 0, flitsReplayed := 0, recoveries := [] }) b
  { b with
    hosts := { b.hosts with lds := b.hosts.lds.map fun e => (e.1, ({ e.2 with linesRead := 0, linesWritten := 0, bytesMoved := 0 } : LogicalDev)) }
    flt := { b.flt with viral := 0 } }

/-- Latches of a spare-row move that are PROGRAMMED and not CONFIRMED are cleared (R213); a move whose latch is not PROGRAMMED yet leaves
nothing, and one whose latch is CONFIRMED keeps it. -/
def Base.abortMoves (b : Base) : Base :=
  b.dram.chans.foldl (fun (b : Base) (e : Nat × Chan) =>
    let due := fun x : Option Nat => match x with | some t => decide (t ≤ b.now) | none => false
    let done := fun x : SpareRow => e.2.moves.any fun m => m.bank == x.bank && m.row == x.row && m.spare == x.spare && due m.confirmAt
    let b := b.updChan e.1 fun c => { c with spares := c.spares.map fun (x : SpareRow) => if done x then { x with confirmed := true } else x }
    (e.2.moves.filter fun m => due m.programmedAt && !due m.confirmAt).foldl (fun (b : Base) (m : SpareMove) =>
      b.send .spareAssignAborted (chSrc e.1 6) (chAddr e.1 m.bank m.row)) b) b

/-- The management services across a warm base-die reset (R476, R478). -/
def Base.warmMgmt (b : Base) : Base :=
  let b := forN 22 (fun k b => b.emptyBank k) b
  { b with mg := { perstAsserted := b.mg.perstAsserted, diagTag := b.mg.diagTag } }

/-- The planner across a warm base-die reset: the epoch counter clears, both snapshot buffers are emptied (R31, R47). The model's own
count of boundaries goes on. -/
def Planner.afterWarm (p : Planner) : Planner :=
  { epochs := p.epochs, phase := p.phase, intervalFrom := p.epochs, snapSeq := p.snapSeq, deferrals := p.deferrals }

/-- The boot block across a warm base-die reset: the lifecycle state in force stays latched, the image stays in retention SRAM (R420,
R429). -/
def Boot.afterWarm (x : Boot) (kind now : Nat) : Boot :=
  { x with
    run := false, resetKind := kind, slotFallback := false, retained := false, recovery := false, rejectedA := false, rejectedB := false
    loaded := false, memActive := false, kickedAt := now, bootAt := now, watchdogOwed := x.watchdogOwed || kind == 3, fuseOp := none
    fuseQueue := [], readValid := false, readData := 0, readFlags := 0, algsAgreed := [], sessions := [], marginal := 0 }

/-- The fault collector across a warm base-die reset: FATAL is left, timers are discarded until BOOT is left, the SRAM log begins anew
with the marker, which holds the old epoch count (R31, R397, R400, R411). -/
def Base.warmFaults (b : Base) (hold : Bool) (old : BitVec 48) : Base :=
  let b := { b with flt := { b.flt with
    fatal := false, lastFatal := none, timers := [], timersHeld := true, windows := [], rr := 0, hold := hold, bootHeld := [] } }
  b.logMsg { source := 0x5BA, kind := .resetMarker, addr := old.setWidth 40, epoch := old }

/-- What a warm base-die reset does to the base before the boot ROM starts (R347, R407, R415, R551): a reset that would be the fourth
within 60 s holds the part in FATAL. -/
def Base.afterWarm (b : Base) (kind : Nat) : Base :=
  let hold := decide (3 ≤ (b.recentResets 18).length)
  let old := b.pl.epoch
  let b := (b.countReset 18).guardAll
  let b := b.updDict fun d => { d.interrupted.calendarWarm b.pl.epochs with life := { d.life with warmResets := satAdd 0xFFFFFFFF d.life.warmResets 1 } }
  let b := b.updDict fun d => if kind = 2 then { d with lifeSaved := d.life, lifeFrom := b.pl.epochs } else d
  let b := (b.warmLinks.warmRegs.warmFaults hold old).openShadow 18 100000
  let b := { b with pl := b.pl.afterWarm }
  let b := b.abortMoves.warmData.warmMgmt
  let b := { b with boot := b.boot.afterWarm kind b.now, pack := { b.pack with tallies := [], capSent := [] } }
  if hold then b.sendOutside .resetRateExceeded 0x5B9 18 else b

/-- A warm base-die reset: memory contents stay, an OTP pulse is aborted (R415, R435). -/
def State.warmReset (s : State) (kind : Nat) : State := s.abortFuse.onBase fun b => b.afterWarm kind

end Sys2Proof.Machine
end

