-- ==== Sys2Proof/Machine/Boot.lean ====
section
/-! DEFINITION. Machine/Boot.lean: the boot ROM (R419 to R427), version selection (R502), the boot phase (R422), memory active, reset
commands and the watchdog (R417, R418), rails and JTAG (R535 to R544). -/

namespace Sys2Proof.Machine

/-! ### Steps 2 to 4: OTP -/

/-- The valid replacement entries of MARGIN_SPARE, in order (R433, R441). -/
def replacementTable (otp : Tab (BitVec 96)) : List (Nat × Word) :=
  (List.range 88).filterMap fun k =>
    let w := otpRaw otp (0x550 + 2 * k)
    let t := fld w 10 0
    if tb w 31 && fld w 26 16 == 2047 - t && (regionOf t == 2 || regionOf t == 3) then some (t, otpRaw otp (0x551 + 2 * k)) else none

/-- The words of GRAFT entry k. -/
def graftEntry (rd : Nat → Word) (k : Nat) : List Word := (List.range 5).map fun i => rd (0x240 + 5 * k + i)

/-- An entry that is not void names a line that cannot be grafted (R421, R439). -/
def graftBad (e : List Word) : Bool := !e.contains 0xFFFFFFFF && decide (fld ((e.head?).getD 0) 13 0 < 64)

/-- The entries that are applied under the governing seal, in entry order (R421, R438, R439). -/
def appliedGrafts (rd : Nat → Word) : List (List Word) :=
  match graftSlot rd with
  | none => []
  | some k => ((List.range (min 128 (fld (rd (0x4C0 + 2 * k)) 15 0))).map (graftEntry rd)).filter fun e => !e.contains 0xFFFFFFFF && !graftBad e

/-- A used seal slot that does not verify: its batch is not applied (R419). -/
def brokenSeal (rd : Nat → Word) : Bool :=
  (List.range 8).any fun k => (rd (0x4C0 + 2 * k) != 0 || rd (0x4C1 + 2 * k) != 0) && !sealVerifies rd 3 (0x4C0 + 2 * k)

/-- Step 3: the graft table (R421). -/
def Base.loadGrafts (b : Base) (rd : Nat → Word) : Base :=
  let slot := graftSlot rd
  let covered := match slot with | some k => (List.range (min 128 (fld (rd (0x4C0 + 2 * k)) 15 0))).map (graftEntry rd) | none => []
  let good := appliedGrafts rd
  let table := good.foldl (fun (t : Tab (List Word)) e => Tab.insert (fld ((e.head?).getD 0) 13 0) (e.drop 1) t) []
  let b := b.updBoot fun x => { x with graftTable := table, grafts := good.length, graftSeal := slot.getD 0, graftList := good }
  let b := if brokenSeal rd then b.send .graftInvalid 0x5C0 0 else b
  (covered.filter graftBad).foldl (fun (b : Base) _ => b.send .graftInvalid 0x5C0 0) b

/-- The REPAIR entries, in index order, up to the first empty one; void entries are skipped (R433, R439). -/
def repairEntries (rd : Nat → Word) : List Word :=
  (((List.range 492).map fun i => rd (0x50 + i)).takeWhile fun w => fld w 31 30 != 0).filter fun w => w != 0xFFFFFFFF

/-- One factory repair (R211, R339, R433). The latches of factory assignments come first, and field assignments are programmed over them
(R211); a shift or a bad line that the MRAM maps hold of the same place stands. -/
def Base.applyRepair (b : Base) (w : Word) : Base :=
  match fld w 31 30 with
  | 1 =>
    let x : SpareRow := { bank := fld w 10 6, row := fld w 28 13, spare := fld w 12 11, factory := true }
    b.updChan (fld w 5 0) fun c => { c with spares := c.spares.filter (fun y => y.factory) ++ x :: c.spares.filter fun y => !y.factory }
  | 2 =>
    let ch := fld w 5 0
    let k := fld w 7 6
    if (b.canes ch).useOf k = 0x3C ∧ fld w 13 8 < 60 then b.setUse ch k (fld w 13 8) else b
  | _ =>
    let bus := fld w 1 0
    let k := fld w 10 2
    if b.si.busShifts.any (fun y => y.1 == bus && y.2.2 == k) || b.si.busBad.contains (bus, k) then b
    else b.updSi fun x => { x with busShifts := x.busShifts ++ [(bus, fld w 24 11, k)] }

/-- Step 4 of a cold boot: the latches are programmed, and SP3 of CH(4d) stands ready for the heartbeat of its die (R328, R339). -/
def Base.applyMaps (b : Base) (rd : Nat → Word) : Base :=
  let b := (repairEntries rd).foldl Base.applyRepair b
  forN 16 (fun (d : Nat) (b : Base) => if (b.canes (4 * d)).useOf 3 = 0x3C then b.setUse (4 * d) 3 0x3D else b) b

/-! ### Step 5: the configuration version -/

/-- A record that boot code reads (R374): one good only in its mirror is repaired, and a lost one is reported. -/
def Base.readRecord (b : Base) (k : Nat) : RecordRead → Base
  | .sound => b
  | .mirrored => b.countMram.send .mramMirrorRepaired 0x531 (Config.recordId k)
  | .lost => b.send .mramRecordLost 0x531 (Config.recordId k)

/-- The boot record and the version directory. A lost boot record reads as slot A, nothing new, no attempts and no floor (R426); without a
directory version 0 is in use, and the versions held are history (R502; entry 95). -/
def Base.readRecords (b : Base) (m : BootRecords) : Base :=
  let b := b.readRecord 1 m.bootRecord
  let b := if m.bootRecord = .lost then b.updBoot fun x => { x with preferredB := false, new := false, attempts := 0, svnFloor := 0 } else b
  let b := b.readRecord 2 m.directory
  if m.directory = .lost then b.updDict fun d => { d with
    versions := setRole d.active 4 (setRole d.previous 4 d.versions), active := 0, previous := 0, onTrial := false, trialBoots := 0 }
  else b

/-- The record of ACTIVE, once boot code has selected it: when it is lost, PREVIOUS is used, or version 0 (R502). -/
def Base.readActive (b : Base) (r : RecordRead) : Base :=
  if b.dict.active = 0 then b
  else
    let b := b.readRecord 3 r
    if r = .lost then b.updDict fun d => { d with
      versions := setRole d.previous 1 (d.versions.filter fun v => v.number != d.active)
      active := d.previous, previous := 0, onTrial := false, trialBoots := 0 }
    else b

/-- The version that boot code uses (R502): one on trial that has failed three boots is left before any value is applied. -/
def Base.selectVersion (b : Base) : Base :=
  let d := b.dict
  if d.onTrial then
    if b.boot.attempts = 3 ∨ d.trialBoots = 3 then (b.fallBack 6 13).send .versionRolledBack dictSrc d.active
    else b.updDict fun d => { d with trialBoots := d.trialBoots + 1 }
  else if b.boot.attempts = 3 ∧ b.boot.new = false then b.updBoot fun x => { x with attempts := 0 }
  else b

/-- The channel table: an invalid entry is written as invalid (R466). -/
def Base.checkTable (b : Base) : Base :=
  forN 64 (fun (c : Nat) (b : Base) =>
    let w := b.reg (Reg.MBX_TABLE c)
    if tb w 31 && badChannel w then (b.setReg (Reg.MBX_TABLE c) (setFld w 31 31 0)).send .channelTableInvalid 0x580 c else b) b

/-- The set width (R128, R150): on a cold reset the version's, else the one in force before the reset. -/
def Base.loadWidth (b : Base) (v : Version) (cold : Bool) : Base :=
  let b := if 2 < v.setWidth && cold then b.send .layoutWidthInvalid mapSrc 0 else b
  let b := b.updLay fun l => { l with n := if cold then v.logWidth else l.n }
  b.setReg Reg.LAYOUT_CFG (BitVec.ofNat 32 (b.lay.n - 4))

/-- The queues of the mover as their registers configure them (R266): a queue that a reset has interrupted keeps its state. -/
def Base.loadQueues (b : Base) : Base :=
  forN 64 (fun (q : Nat) (b : Base) =>
    if b.queueOn q then (if (b.queue q).state = 3 then b.setQueue q { state := 0 } else b) else b.setQueue q {}) b

/-- Extents that no longer lie in a region or in their host's bounds are released as by force (R551). -/
def Base.checkExtents (b : Base) : Base :=
  let bad := fun (b : Base) (e : Extent) =>
    !((List.range 8).any fun k => b.rangeHolds (Reg.DC_REGION_BASE k) e.base && b.rangeHolds (Reg.DC_REGION_BASE k) e.limit)
      || (blocksOf e.base e.limit).any fun x => !b.inBounds e.host.toNat x
  (b.hosts.extents.filter fun e => e.stage != .releasing && bad b e).foldl (fun (b : Base) (e : Extent) =>
    (b.leaveExtent fun x => decide (x = e)).send .dcForcedRelease 0xB0 (268435456 * e.base)) b

/-- Boot code's PORT_LTR: 39 at scale 2 with the requirement flag, 39,936 ns (R89). -/
def bootLtr : Word := 0x8827

/-- Every port's PORT_LTR takes a value. -/
def Base.loadLtr (b : Base) (w : Word) : Base := forN 16 (fun (k : Nat) (b : Base) => b.load (Reg.PORT_LTR k) w) b

/-- Firmware writes the LTR value of the ACTIVE version to every port, clamped as R364 says; ports whose link has sent an LTR message send
one again where the value changes (R76, R89). The model gives this to the moment that firmware starts (DEDUCED, entry 122). -/
def Base.firmwareLtr (b : Base) : Base :=
  let v := b.activeVersion
  let n := (b.loadLtr v.ltr).newLtrs b
  if v.ltrLimit < (v.get (Reg.PORT_LTR 0)).toNat then n.send .ltrClamped 0x500 0 else n

/-- Firmware applies the label configuration of the ACTIVE version, whatever admission would say (R301, R500). The model gives this to the
moment that firmware starts (DEDUCED, entry 122). -/
def Base.firmwareLabels (b : Base) : Base := b.updQos fun q => { q with table := stagedTable [] b.activeVersion.labels }

/-- Step 5: the values of the version and the protection set-up of R423 (R499, R500). -/
def Base.loadVersion (b : Base) (v : Version) (cold : Bool) : Base :=
  let t := v.table
  let b := (changedRegs bootMirrored b.regs t).foldl (fun (b : Base) (o : Nat) => b.load o (Tab.get 0 t o)) b
  let p := v.protection
  let b := (changedRegs protectedReg b.regs p).foldl (fun (b : Base) (o : Nat) => b.setReg o (Tab.get 0 p o)) b
  let inj := v.injEnable && b.boot.lifecycle != 2
  let b := b.setReg Reg.INJ_ENABLE (if inj then 1 else 0)
  let b := if inj then b else b.updDram fun d => { d with armed := none }
  let b := (b.checkTable.loadWidth v cold).loadQueues
  let b := b.updDict fun d => { d with access := v.access }
  let b := b.updMg fun m => { m with locks := if v.diagLock then m.locks ||| 1 else m.locks }
  b.checkExtents.touchWindows

/-! ### The trip record -/

/-- TRIP_RECORD (R379, R380): loaded at the boot that follows a trip (R378). A lost record, or one read from its mirror, is reported
(R374). -/
def Base.loadTrip (b : Base) : Base :=
  if !b.boot.tripOwed then b
  else
    let word := fun t : TripRec => BitVec.ofNat 32 (1 + 2 * t.sensor + 256 * tempCode t.reading + (if t.mramCut then 2 ^ 16 else 0) + (if t.otpAborted then 2 ^ 17 else 0))
    match b.pw.tripRec.read with
    | some (some t, mirror) =>
      let b := b.setReg Reg.TRIP_RECORD (word t)
      if mirror then (b.updPw fun p => { p with tripRec := p.tripRec.update (some t) }).send .mramMirrorRepaired 0x531 (Config.recordId 0) else b
    | some (none, _) => b.setReg Reg.TRIP_RECORD 1
    | none =>
      let b := b.updPw fun p => { p with tripRec := p.tripRec.update none }
      (b.setReg Reg.TRIP_RECORD 1).send .mramRecordLost 0x531 (Config.recordId 0)

/-! ### The sequence -/

/-- A new image that has failed three times gives way to the other slot (R426). -/
def Base.slotOrder (b : Base) : Base :=
  if b.boot.attempts = 3 ∧ b.boot.new then
    (b.updBoot fun x => { x with slotFallback := true, new := false, attempts := 0 }).send .slotFallback 0x5C1 (if b.boot.preferredB then 0 else 16)
  else b

/-- Step 7 where nothing is read from SPI NOR: VOID loads no firmware and leaves BOOT (R429, DEDUCED), and a warm boot whose retained image
matches the recorded digest runs it (R420). -/
def Base.startImage (b : Base) (cold : Bool) : Base :=
  if b.boot.lifecycle = 5 then b.updBoot fun x => { x with run := true, kickedAt := b.now }
  else
    let b := b.slotOrder
    if !cold && b.boot.haveImage && b.boot.sramDigest == b.boot.aonDigest && !b.boot.slotFallback then
      b.updBoot fun x => { x with loaded := true, retained := true }
    else b

/-- Versions and training records are erased at the first cold boot in RETURN (R430). -/
def Base.eraseReturn (b : Base) (cold : Bool) : Base :=
  if cold && b.boot.lifecycle == 4 && !b.boot.returnErased then
    let b := b.updBoot fun x => { x with returnErased := true }
    let b := b.updDram fun d => { d with chans := d.chans.map fun e => (e.1, { e.2 with record := none }) }
    b.updDict fun d => { d with versions := [], active := 0, previous := 0, onTrial := false, trialBoots := 0 }
  else b

/-- Steps 2 to 7 of R419, up to the image. -/
def State.bootStart (s : State) (cold : Bool) (m : BootRecords) : State :=
  let s := s.onBase fun b =>
    let r := replacementTable s.otp
    b.updBoot fun x => { x with replaceTable := r, replacements := r.length }
  let rd := s.rd
  s.onBase fun b =>
    let b := b.loadGrafts rd
    let b := if cold then b.applyMaps rd else b
    let b := (((b.readRecords m).eraseReturn cold).selectVersion).readActive m.active
    let b := (if cold then b.loadLtr bootLtr else b).loadVersion b.activeVersion cold
    let b := forN 16 (fun k b => b.updPort k fun p => { p with enabled := true }) b
    b.loadTrip.startImage cold

/-- INTERNAL_COLD_RESET_RELEASE (R48, R429, R535, R537): every rail is good and MREFCLK has run, or a cold reset by command is due. A SerDes rail in brown-out holds the release. FAULT_N
is released with a reset that AON held. -/
def execInternalColdResetRelease (straps : Byte) (strapError gradeE : Bool) (mram : BootRecords) (s : State) : Host.Outcome State Fault Refusal :=
  let b := s.base
  let due := match b.boot.coldDue with | some t => decide (t ≤ b.now) | none => false
  if b.pw.tripped || b.pack.serdesOff || !(b.boot.coldHeld || (due && b.alive)) then .next s
  else
    let held := b.boot.coldHeld
    let s := if held then s else s.coldReset 1 false
    let s := s.onBase fun b =>
      let b := { b with links := { b.links with straps := straps } }
      let boots := satAdd 0xFFFFFFFF b.dict.life.coldBoots 1
      let b := b.updDict fun d => { d with life := { d.life with coldBoots := boots } }
      let b := b.updBoot fun x => { x with coldHeld := false, gradeE := gradeE, powerOns := boots, lifecycle := lifecycleOf (otpRaw s.otp 0x40) }
      let b := if held then { b with flt := { b.flt with faultNLow := false } } else b
      if strapError then b.send .strapReadError 0x60 0 else b
    .next (s.bootStart true mram)

/-! ### Step 7 and 8 -/

/-- The slot that the boot ROM reads next: the preferred one first, after a fallback the other (R426). -/
def Boot.nextSlot (x : Boot) : Option Bool :=
  let first := if x.slotFallback then !x.preferredB else x.preferredB
  let gone := fun slot : Bool => if slot then x.rejectedB else x.rejectedA
  if !gone first then some first else if !gone (!first) then some (!first) else none

/-- Recovery (R427): no host port, BOOT left, FATAL. -/
def Base.enterRecoveryMode (b : Base) (addr : Nat) : Base :=
  let b := forN 16 (fun h b => b.setReg (Reg.HOST_PORT_MASK h) 0) b
  let b := b.updBoot fun x => { x with run := true, recovery := true, kickedAt := b.now }
  b.send .bootRecovery 0x5C1 addr

/-- IMAGE_LOADED (R420, R424 to R427): the image of the slot whose turn it is. -/
def execImageLoaded (slotB : Bool) (img : Image) (s : State) : Host.Outcome State Fault Refusal :=
  s.whenBase (fun b => b.alive && !b.boot.run && !b.boot.loaded && b.boot.nextSlot == some slotB) fun b =>
    let code := s.imageCode img
    if code = 0 then
      b.updBoot fun x => { x with
        loaded := true, slotB := slotB, fwVersion := img.version, fwSvn := img.svn.toNat, haveImage := true, sramDigest := img.digest
        aonDigest := img.digest }
    else
      let addr := code + (if slotB then 16 else 0)
      let b := b.updBoot fun x => if slotB then { x with rejectedB := true } else { x with rejectedA := true }
      let b := b.send .bootImageRejected 0x5C1 addr
      if b.boot.nextSlot.isNone then b.enterRecoveryMode addr else b

/-- Messages held since the boot phase are sent (R446). -/
def Base.sendHeld (b : Base) : Base :=
  let l := b.flt.bootHeld
  l.foldl (fun (b : Base) (m : Msg) => b.enqueue m) { b with flt := { b.flt with bootHeld := [] } }

/-- BOOT_EXIT (R89, R301, R419, R422): only P0, and only in BOOT; ATTEMPTS has been incremented, the watchdog starts (R418). -/
def execBootExit (who : BitVec 5) (s : State) : Host.Outcome State Fault Refusal :=
  s.whenBase (fun b => b.alive && !b.boot.run && b.boot.loaded && who.toNat == 17) fun b =>
    let n := min 3 (b.boot.attempts + 1)
    (b.updBoot fun x => { x with run := true, attempts := n, kickedAt := b.now }).sendHeld.firmwareLtr.firmwareLabels.firmwareRecords

/-- Every channel is trained or retired, and every die that serves one runs (R170, R347). -/
def Base.memoryReady (b : Base) : Bool :=
  (List.range 64).all fun c =>
    let t := (b.chan c).train
    t == .retired || ((t == .trained || t == .sliced) && (b.guard (dieOf c)).state == 0)

/-- The messages that the boot ROM deferred (R378, R419, R435). -/
def Base.sendDeferred (b : Base) : Base :=
  let b := if b.boot.tripOwed then
      let w := b.reg Reg.TRIP_RECORD
      b.send .thermalTrip 0x530 (fld w 5 1 + 256 * fld w 15 8) else b
  let b := b.boot.journal.foldl (fun (b : Base) (j : JournalEntry) => match j.state with
    | .incomplete => b.send .fuseJournalIncomplete 0x5C2 j.word
    | .failed => b.send .fuseProgramFailed 0x5C2 j.word
    | .complete => b) b
  let b := if b.boot.watchdogOwed then b.send .watchdogReset 0x5C5 0 else b
  b.updBoot fun x => { x with tripOwed := false, watchdogOwed := false }

/-- MEMORY_ACTIVE (R401, R407, R419, R426, R501): a held boot stops before it. -/
def execMemoryActive (s : State) : Host.Outcome State Fault Refusal :=
  s.whenBase (fun b => b.fwRuns && !b.boot.memActive && !b.flt.hold && !b.flt.fatal && b.memoryReady) fun b =>
    let b := b.updBoot fun x => { x with memActive := true, attempts := 0, new := false }
    let b := if b.dict.onTrial then b.updDict fun d => { d with windowEnd := some (b.pl.epochs + 1000000 * b.activeVersion.windowS) } else b
    let shadows := b.flt.shadows.map fun (x : Shadow) => if x.block = 18 then { x with closeAt := min x.closeAt (b.now + 3000) } else x
    ({ b with flt := { b.flt with shadows := shadows } }).sendDeferred

/-! ### Reset commands and the watchdog -/

/-- A warm base-die reset and the boot that follows it. -/
def State.warmBoot (s : State) (kind : Nat) : State := (s.warmReset kind).bootStart false {}

/-- A write of RESET_CMD (R417): without the key it is refused; KIND 0 and 3 are discarded; a cold reset takes effect 10 µs later. -/
def State.resetCmd (s : State) (v : Word) : State :=
  if fld v 31 16 ≠ 0x7A5E then s.onBase fun b => b.send .resetCmdRefused 0x5C5 0
  else match fld v 1 0 with
    | 1 => s.warmBoot 2
    | 2 => s.onBase fun b => if b.boot.coldDue.isSome then b else b.updBoot fun x => { x with coldDue := some (b.now + 10000) }
    | _ => s

/-- RESET_CMD_WARM. -/
def execResetCmdWarm (v : Word) (s : State) : Host.Outcome State Fault Refusal :=
  if s.base.mgmtUp then .next (s.resetCmd v) else .next s

/-- RESET_CMD_COLD. -/
def execResetCmdCold (v : Word) (s : State) : Host.Outcome State Fault Refusal :=
  if s.base.mgmtUp then .next (s.resetCmd v) else .next s

/-- FM_RESET_COMMAND (R415). -/
def execFmResetCommand (s : State) : Host.Outcome State Fault Refusal :=
  if s.base.fwRuns then .next (s.warmBoot 2) else .next s

/-- WATCHDOG_EXPIRE (R418): PERIOD_MS have passed without a kick since BOOT was left. -/
def execWatchdogExpire (s : State) : Host.Outcome State Fault Refusal :=
  let b := s.base
  if b.alive && b.boot.run && decide (b.boot.kickedAt + 1000000 * b.rf Reg.WDOG_CFG 15 0 ≤ b.now) then .next (s.warmBoot 3) else .next s

/-- BOOT_TIMER_EXPIRE (R418): 500 ms of BOOT have passed. -/
def execBootTimerExpire (s : State) : Host.Outcome State Fault Refusal :=
  let b := s.base
  if b.alive && !b.boot.run && decide (b.boot.bootAt + 500000000 ≤ b.now) then .next (s.warmBoot 3) else .next s

/-- WDOG_KICK (R418): a write of P0 to P3; others are discarded. -/
def execWdogKick (who : BitVec 5) (v : Word) (s : State) : Host.Outcome State Fault Refusal :=
  s.whenBase (fun b => b.alive && b.boot.run && decide (17 ≤ who.toNat) && decide (who.toNat ≤ 20) && tb v 0) fun b =>
    b.updBoot fun x => { x with kickedAt := b.now }

/-! ### Rails -/

/-- A cold reset that AON holds until the rails return: FAULT_N is low meanwhile (R537, R540). -/
def State.holdCold (s : State) : State :=
  (s.coldReset 0 true).onBase fun b => { b with flt := { b.flt with faultNLow := true } }

/-- VDD_AUX_BROWNOUT (R375, R537): as its removal: the trip latch goes too, and the next boot finds the trip (R378). -/
def execVddAuxBrownout (s : State) : Host.Outcome State Fault Refusal :=
  let owed := s.base.pw.tripped || s.base.boot.tripOwed
  .next (s.holdCold.onBase fun b => (b.updPw fun p => { p with tripped := false }).updBoot fun x => { x with tripOwed := owed })

/-- CORE_RAIL_BROWNOUT (R537). -/
def execCoreRailBrownout (_rail : CoreRail) (s : State) : Host.Outcome State Fault Refusal := .next s.holdCold

/-- SERDES_RAIL_BROWNOUT (R537): every link goes down, each port sends PLL_UNLOCK, the management endpoint is reset. -/
def execSerdesRailBrownout (s : State) : Host.Outcome State Fault Refusal :=
  s.then_ fun b =>
    if b.pack.serdesOff then b
    else
      let b := b.updPack fun p => { p with serdesOff := true }
      if !b.alive then b
      else
        let b := forN 16 (fun (k : Nat) (b : Base) => (b.linkDownTo k (b.restState k) false).updPort k fun p => { p with pll := false }) b
        let b := forN 8 (fun (p : Nat) (b : Base) => b.send .pllUnlock (0x50 + p) (p * 16 + 15)) b
        b.mgmtReset

/-- SERDES_RAIL_RESTORED (R537): the rail has been within its range for 1 ms; ports train from Detect. -/
def execSerdesRailRestored (s : State) : Host.Outcome State Fault Refusal :=
  s.then_ fun b =>
    if !b.pack.serdesOff then b
    else
    let b := b.updPack fun p => { p with serdesOff := false }
    forN 16 (fun k b => b.updPort k fun p => { p with pll := p.refclk }) b

/-! ### JTAG -/

/-- IEEE 1838 and 1687 access is open (R429, R445). -/
def Base.instrOpen (b : Base) : Bool := !b.boot.coldHeld && (decide (b.boot.lifecycle ≤ 1) || (b.boot.lifecycle == 4 && b.boot.jtagOpen))

/-- JTAG_INSTRUCTION (R429, R544). The order of the boundary register's cells and the levels at the pins are not stated, so what SAMPLE
and EXTEST shift out is a free value, and so is what an open stack or instrument instruction shifts out. A closed one selects BYPASS, as
IEEE 1149.1 asks of one that is not offered (PRESUMED, entry 43). -/
def execJtagInstruction (op : JtagInstr) (s : State) : Host.Outcome State Fault Refusal :=
  s.then_ fun b =>
    let load := fun (t : JtagInstr) (b : Base) => b.updPack fun p => { p with tap := t }
    let scan := fun (t : JtagInstr) => let (n, b) := b.takeFree; (load t b).emit (.jtag (.number (Config.freeNat n)))
    match op with
    | .idcode => (load .idcode b).emit (.jtag (.word 0x10128C9D))
    | .bypass => (load .bypass b).emit (.jtag .success)
    | .preload => (load .preload b).emit (.jtag .success)
    | .sample => scan .sample
    | .extest => scan .extest
    | .ieee1838 => if b.instrOpen then scan .ieee1838 else (load .bypass b).emit (.jtag .success)
    | .ieee1687 => if b.instrOpen then scan .ieee1687 else (load .bypass b).emit (.jtag .success)

/-- TAP_RESET (R540, R544): the TAP's reset state selects IDCODE. -/
def execTapReset (s : State) : Host.Outcome State Fault Refusal := s.then_ fun b => b.updPack fun p => { p with tap := .idcode }

end Sys2Proof.Machine
end

