-- ==== Sys2Proof/Machine/Diag.lean ====
section
/-! DEFINITION. Machine/Diag.lean: the diagnostic window of BAR2 (R451 to R453). -/

namespace Sys2Proof.Machine

/-- The window is enabled and its block inside the diagnostic firewall (R452). -/
def Base.windowOpen (b : Base) : Bool :=
  let k := b.rf Reg.DIAG_CFG 8 0
  tb (b.reg Reg.DIAG_CFG) 31 && decide (b.rf Reg.DIAG_FW_BASE 8 0 ≤ k) && decide (k ≤ b.rf Reg.DIAG_FW_LIMIT 8 0)

/-- The DPA of a window offset (R451). -/
def Base.windowDpa (b : Base) (off : Nat) : Nat := b.rf Reg.DIAG_CFG 8 0 * 2 ^ 28 + off

/-- An access that the window refuses (R452). -/
def Base.windowRefuse (b : Base) (off : Nat) : Base := (b.bump Reg.DIAG_FW_COUNT).send .diagFirewall 0x582 (b.windowDpa off)

/-- One line request of identity MGMT (R451): under DIAG_LABEL, charged one line, in the order of the host-binding stage. A line that
no access reaches answers a read with the EP bit, and a write is discarded (R452). -/
def Base.diagLine (b : Base) (line tag : Nat) (op : ReqOp) : Base :=
  if b.flt.fatal || b.fencedOct (b.octantOf line) then
    if op.isRead then
      let (n, b) := b.takeFree
      b.diagResult tag { data := Config.freeData n, poison := true }
    else b
  else
    let (q, b) := b.internal (.diag tag) op line (BitVec.ofNat 16 (b.rf Reg.DIAG_LABEL 15 0))
    if b.retired (b.place line).ch then b.retiredReq q else (b.present q).pump

/-- Fresh tags for n lines. -/
def Base.diagTags (b : Base) (n : Nat) : List Nat × Base :=
  ((List.range n).map (· + b.mg.diagTag), b.updMg fun m => { m with diagTag := m.diagTag + n })

/-- The lines that a read of `n` bytes at a DPA touches, with their tags, first bytes and counts. -/
def diagParts (dpa n : Nat) (tags : List Nat) : List DiagPart :=
  tags.mapIdx fun i t =>
    let lo := max dpa (64 * (dpa / 64 + i))
    { tag := t, first := lo % 64, count := min (dpa + n) (64 * (dpa / 64 + i + 1)) - lo }

/-- DIAG_WINDOW_READ (R451, R452). -/
def execDiagWindowRead (off : BitVec 28) (bytes : BitVec 10) (s : State) : Host.Outcome State Fault Refusal :=
  s.whenBase Base.mgmtFull fun b =>
    if !b.windowOpen then (b.windowRefuse off.toNat).emit .diagAbort
    else
      let dpa := b.windowDpa off.toNat
      let n := min (max 1 bytes.toNat) (2 ^ 28 - off.toNat)
      let (tags, b) := b.diagTags ((dpa + n - 1) / 64 - dpa / 64 + 1)
      let parts := diagParts dpa n tags
      let b := b.updMg fun m => { m with diagReads := m.diagReads ++ [parts] }
      (parts.mapIdx fun i p => (dpa / 64 + i, p.tag)).foldl (fun (b : Base) (e : Nat × Nat) => b.diagLine e.1 e.2 (.rd .cur)) b

/-- DIAG_WINDOW_WRITE (R451, R452): each line with its byte enables; a refused write is discarded and recorded as Completer Abort. -/
def execDiagWindowWrite (off : BitVec 28) (lines : List (BitVec 64 × Data)) (s : State) : Host.Outcome State Fault Refusal :=
  s.whenBase Base.mgmtFull fun b =>
    if !b.windowOpen then (b.windowRefuse off.toNat).updMg fun m => { m with aerAbort := true }
    else
      let first := b.windowDpa off.toNat / 64
      let (tags, b) := b.diagTags lines.length
      (((lines.take (2 ^ 22 - off.toNat / 64)).zip tags).mapIdx fun i e => (first + i, e)).foldl (fun (b : Base) (x : Nat × (BitVec 64 × Data) × Nat) =>
        let be := x.2.1.1
        if be = 0 then b
        else b.diagLine x.1 x.2.2 (if be = BitVec.allOnes 64 then .wr x.2.1.2 false else .ptl x.2.1.2 be)) b

end Sys2Proof.Machine
end

