-- ==== Sys2Proof/Machine/Spdm.lean ====
section
/-! DEFINITION. Machine/Spdm.lean: the SPDM responder (R442) and the measurements (R443). -/

namespace Sys2Proof.Machine

/-- The path carries SPDM (R442): firmware runs outside recovery and VOID, and the host's link or the management port is up. -/
def Base.spdmUp (b : Base) : SpdmPath → Bool
  | .doe h => b.fwRuns && b.hostUp h.toNat
  | .doeFm => b.fwRuns
  | .pcie => b.transportUp .pcie
  | .i3c => b.transportUp .i3c

/-- A request on a path that carries SPDM is answered; on any other it is lost. -/
def State.spdm (s : State) (p : SpdmPath) (f : State → Base → Base) : Host.Outcome State Fault Refusal :=
  s.then_ fun b => if b.spdmUp p then f s b else b

/-- An answer on a path. -/
def Base.spdmSay (b : Base) (p : SpdmPath) (r : Reply) : Base := b.emit (.spdm p r)

/-- A request that SPDM takes only after algorithms are agreed on the path (PRESUMED, SPDM 1.2; entry 41). -/
def State.spdmAgreed (s : State) (p : SpdmPath) (f : State → Base → Base) : Host.Outcome State Fault Refusal :=
  s.spdm p fun s b => if b.boot.algsAgreed.contains p then f s b else b.spdmSay p .rejected

/-- A request about a certificate slot: the part has slot 0 alone (R442). -/
def State.spdmSlot (s : State) (p : SpdmPath) (slot : Nat) (f : State → Base → Base) : Host.Outcome State Fault Refusal :=
  s.spdmAgreed p fun s b => if slot = 0 then f s b else b.spdmSay p .invalidInput

/-- The eight words of the device secret. -/
def State.secret (s : State) : List Nat := (List.range 8).map fun i => (s.rd (0x30 + i)).toNat

/-- What the device identity key pair is derived from: the device secret, and no firmware (R443). -/
def State.identityKey (s : State) : BitVec 384 := Config.sha384 s.secret

/-- What the alias key is derived from: the device secret over the payload digest and the state in force (R443). -/
def State.aliasKey (s : State) : BitVec 384 := Config.sha384 (s.secret ++ [s.base.boot.aonDigest.toNat, s.base.boot.lifecycle])

/-- The certificate chain of slot 0. -/
def State.chain (s : State) : List Byte := Config.certChain s.identityKey s.aliasKey

/-- The content of measurement 5: the ACTIVE version (R443, R496). -/
def Version.content (v : Version) : List Nat :=
  v.number :: v.setWidth :: (bit v.injEnable).toNat :: (bit v.diagLock).toNat :: v.windowS ::
    ((v.regs.flatMap fun e => [e.1, e.2.toNat]) ++ (v.labels.flatMap fun e => [e.1.toNat, e.2.1.toNat, e.2.2.toNat]) ++
      v.access.flatMap fun e => [e.1, e.2.1.toNat, e.2.2.toNat])

/-- The content of measurement 6: the protection set-up as boot code wrote it (R423, R443). -/
def Base.protectionContent (b : Base) : List Nat :=
  ((b.regs.filter fun e => protectedReg e.1).flatMap fun e => [e.1, e.2.toNat]) ++
    (b.dict.access.flatMap fun e => [e.1, e.2.1.toNat, e.2.2.toNat]) ++ [b.lay.n, (b.reg Reg.INJ_ENABLE).toNat]

/-- What measurement `i` digests (R443). -/
def State.measured (s : State) (i : Nat) : List Nat :=
  match i with
  | 1 => Config.romContent
  | 2 => s.base.boot.graftList.flatMap fun e => e.map fun w => w.toNat
  | 3 => [s.base.boot.aonDigest.toNat]
  | 4 => s.base.boot.lifecycle :: ((List.range 0x40).filter fun w => decide (w < 0x30) || decide (0x37 < w)).map fun w => (s.rd w).toNat
  | 5 => s.base.activeVersion.content
  | _ => s.base.protectionContent

/-- Measurement `i`: a SHA-384 digest; of the firmware payload the header's own digest is one (R425, R443). -/
def State.measurement (s : State) (i : Nat) : Nat := if i = 3 then s.base.boot.aonDigest.toNat else (Config.sha384 (s.measured i)).toNat

/-- An answer signed with the alias key. What is signed takes in nonces and the messages so far, a free value. -/
def State.signed (s : State) (p : SpdmPath) (l : List Nat) (b : Base) : Base :=
  let (n, b) := b.takeFree
  b.spdmSay p (.numbers (l ++ [(Config.sign s.aliasKey.toNat (BitVec.ofNat 384 (Config.freeNat n))).toNat]))

/-- SPDM_GET_VERSION (R442): version 1.2. -/
def execSpdmGetVersion (p : SpdmPath) (s : State) : Host.Outcome State Fault Refusal := s.spdm p fun _ b => b.spdmSay p (.number 0x12)

/-- SPDM_GET_CAPABILITIES (R442). -/
def execSpdmGetCapabilities (p : SpdmPath) (s : State) : Host.Outcome State Fault Refusal := s.spdm p fun _ b => b.spdmSay p .success

/-- SPDM_NEGOTIATE_ALGORITHMS (R442): only the part's own algorithms are selected; `offered` says the requester offers them. -/
def execSpdmNegotiateAlgorithms (p : SpdmPath) (offered : Bool) (s : State) : Host.Outcome State Fault Refusal :=
  s.spdm p fun _ b =>
    if offered then (b.updBoot fun x => { x with algsAgreed := if x.algsAgreed.contains p then x.algsAgreed else p :: x.algsAgreed }).spdmSay p .success
    else b.spdmSay p .rejected

/-- SPDM_GET_DIGESTS (R442): the digest of the chain in slot 0. -/
def execSpdmGetDigests (p : SpdmPath) (s : State) : Host.Outcome State Fault Refusal :=
  s.spdmAgreed p fun s b => b.spdmSay p (.number (Config.sha384 (s.chain.map fun x => x.toNat)).toNat)

/-- SPDM_GET_CERTIFICATE (R442). -/
def execSpdmGetCertificate (p : SpdmPath) (slot : BitVec 4) (s : State) : Host.Outcome State Fault Refusal :=
  s.spdmSlot p slot.toNat fun s b => b.spdmSay p (.bytes s.chain)

/-- SPDM_CHALLENGE (R442): an answer signed with the alias key. -/
def execSpdmChallenge (p : SpdmPath) (slot : BitVec 4) (s : State) : Host.Outcome State Fault Refusal :=
  s.spdmSlot p slot.toNat fun s b => s.signed p [] b

/-- SPDM_GET_MEASUREMENTS (R443): one of the six, their count for index 0, all of them for 0xFF (PRESUMED, SPDM 1.2). -/
def execSpdmGetMeasurements (p : SpdmPath) (index : Byte) (signed : Bool) (s : State) : Host.Outcome State Fault Refusal :=
  s.spdmAgreed p fun s b =>
    let i := index.toNat
    let say := fun l : List Nat => if signed then s.signed p l b else b.spdmSay p (.numbers l)
    if i = 0 then say [6]
    else if i ≤ 6 then say [s.measurement i]
    else if i = 255 then say ([1, 2, 3, 4, 5, 6].map s.measurement)
    else b.spdmSay p .invalidInput

/-- The session is on this path. -/
def Session.is (x : Session) (p : SpdmPath) (n : BitVec 16) : Bool := decide (x.path = p) && x.id == n

/-- SPDM_KEY_EXCHANGE (R442): a session begins; the answer is signed with the alias key. -/
def execSpdmKeyExchange (p : SpdmPath) (slot : BitVec 4) (session : BitVec 16) (s : State) : Host.Outcome State Fault Refusal :=
  s.spdmSlot p slot.toNat fun s b =>
    if b.boot.sessions.any (fun x => x.is p session) then b.spdmSay p .invalidInput
    else s.signed p [session.toNat] (b.updBoot fun x => { x with sessions := x.sessions ++ [{ path := p, id := session, finished := false }] })

/-- SPDM_FINISH (R442): the requester's MAC over the exchange verifies, and the session is established. -/
def execSpdmFinish (p : SpdmPath) (session : BitVec 16) (macOk : Bool) (s : State) : Host.Outcome State Fault Refusal :=
  s.spdm p fun _ b =>
    if macOk && b.boot.sessions.any (fun x => x.is p session && !x.finished) then
      (b.updBoot fun x => { x with sessions := x.sessions.map fun y => if y.is p session then { y with finished := true } else y }).spdmSay p .success
    else (b.updBoot fun x => { x with sessions := x.sessions.filter fun y => !(y.is p session && !y.finished) }).spdmSay p .rejected

/-- The established session, on a request that is made inside one. -/
def Base.inSession (b : Base) (p : SpdmPath) (n : BitVec 16) : Bool := b.boot.sessions.any fun x => x.is p n && x.finished

/-- SPDM_END_SESSION (R442). -/
def execSpdmEndSession (p : SpdmPath) (session : BitVec 16) (s : State) : Host.Outcome State Fault Refusal :=
  s.spdm p fun _ b =>
    if b.inSession p session then
      (b.updBoot fun x => { x with sessions := x.sessions.filter fun y => !y.is p session }).spdmSay p .success
    else b.spdmSay p .rejected

/-- SPDM_HEARTBEAT (R442). -/
def execSpdmHeartbeat (p : SpdmPath) (session : BitVec 16) (s : State) : Host.Outcome State Fault Refusal :=
  s.spdm p fun _ b => b.spdmSay p (if b.inSession p session then .success else .rejected)

end Sys2Proof.Machine
end

