-- ==== Sys2Proof/Machine/Dictionary.lean ====
section
/-! DEFINITION. Machine/Dictionary.lean: the object dictionary (R481 to R495, R504, R527): its index map, what each entry reads and
takes, the checks of R487 in their order, and the commands that are dictionary writes (R428, R491, R497). -/

namespace Sys2Proof.Machine

/-! ### Values -/

/-- A number as `n` little-endian bytes (R16, R481). -/
def le (n v : Nat) : List Byte := (List.range n).map fun i => BitVec.ofNat 8 (v >>> (8 * i))

/-- The number that little-endian bytes make. -/
def ofLe (l : List Byte) : Nat := l.foldr (fun x a => x.toNat + 256 * a) 0

/-- The bytes of a plain text. -/
def textBytes (t : String) : List Byte := t.toList.map fun c => BitVec.ofNat 8 c.toNat

/-- The types of R481, in the order of their codes. -/
inductive OdType where
  | bool | u8 | u16 | u32 | u64 | i32 | w40 | str | rec_ (n : Nat)
deriving DecidableEq, Repr

/-- Code of a type. -/
def OdType.code : OdType → Nat
  | .bool => 1 | .u8 => 2 | .u16 => 3 | .u32 => 4 | .u64 => 5 | .i32 => 6 | .w40 => 7 | .str => 8 | .rec_ _ => 9

/-- Bytes of a type; a string has no fixed length, and no entry takes one. -/
def OdType.bytes : OdType → Nat
  | .bool => 1 | .u8 => 1 | .u16 => 2 | .u32 => 4 | .u64 => 8 | .i32 => 4 | .w40 => 5 | .str => 64 | .rec_ n => n

/-- Access codes (R14, R487); `status` is a label status field, whose write has a status code of its own. -/
inductive OdAcc where
  | ro | rc | wo | rw | rwv | status
deriving DecidableEq, Repr

/-- An index: its row of the access table in the order of R489, and for a TABLE how many rows it has. -/
structure OdIndex where
  range : Nat
  rows : Option Nat := none
deriving DecidableEq, Repr

/-! ### The index map (R489, R495, R527) -/

/-- An index of the map. The rows of FieldRepairMap are the entries it holds. -/
def odIndex (repairs i : Nat) : Option OdIndex :=
  match i with
  | 0x1000 => some { range := 0 }
  | 0x1001 => some { range := 0, rows := some 17 }
  | 0x1100 => some { range := 1 }
  | 0x1101 => some { range := 1, rows := some 20 }
  | 0x1102 => some { range := 1, rows := some 2048 }
  | 0x1103 => some { range := 1 }
  | 0x1104 => some { range := 1 }
  | 0x1110 => some { range := 1 }
  | 0x2000 => some { range := 2 }
  | 0x2001 => some { range := 2, rows := some 16 }
  | 0x2400 => some { range := 3, rows := some 16 }
  | 0x2401 => some { range := 3, rows := some 1024 }
  | 0x2402 => some { range := 3, rows := some 16 }
  | 0x3000 => some { range := 4 }
  | 0x3001 => some { range := 4, rows := some 64 }
  | 0x3002 => some { range := 4, rows := some 65 }
  | 0x3400 => some { range := 5 }
  | 0x3401 => some { range := 5, rows := some repairs }
  | 0x3800 => some { range := 6 }
  | 0x3801 => some { range := 6, rows := some 32 }
  | 0x4000 => some { range := 7, rows := some 65536 }
  | 0x4001 => some { range := 7 }
  | 0x4400 => some { range := 8 }
  | 0x4401 => some { range := 8, rows := some 64 }
  | 0x5000 => some { range := 9 }
  | 0x5001 => some { range := 9, rows := some 32 }
  | 0x5400 => some { range := 10, rows := some 46608 }
  | 0x5401 => some { range := 10, rows := some 68 }
  | 0x5402 => some { range := 10 }
  | 0x6000 => some { range := 11 }
  | 0x6001 => some { range := 11, rows := some 256 }
  | 0x6002 => some { range := 11 }
  | 0x7000 => some { range := 12, rows := some 64 }
  | 0x7001 => some { range := 12, rows := some 22 }
  | 0x7800 => some { range := 13 }
  | 0x7801 => some { range := 13, rows := some 32 }
  | 0x7802 => some { range := 13, rows := some 64 }
  | 0x7803 => some { range := 13 }
  | 0x8000 => some { range := 14 }
  | 0x8001 => some { range := 14 }
  | 0x8002 => some { range := 14, rows := some 16 }
  | 0xF000 => some { range := 15 }
  | 0xF001 => some { range := 15 }
  | 0xF002 => some { range := 15 }
  | 0xF003 => some { range := 15, rows := some 8 }
  | 0xF004 => some { range := 15 }
  | 0xF010 => some { range := 15, rows := some 16 }
  | _ => none

/-- The shadowed or protection register that a U32 entry mirrors (R483, R489). -/
def mirrorOf (i sub row : Nat) : Option Nat :=
  match i, sub with
  | 0x2000, 2 => some (Reg.EYE_POLICY 0)
  | 0x2400, s =>
    let off := Reg.HOST_BIND row + 4 * (s - 1)
    if 1 ≤ s ∧ s ≤ 32 ∧ (regRow? off).isSome = true then some off else none
  | 0x2401, s => if 1 ≤ s ∧ s ≤ 3 then some (Reg.WIN_BASE (row / 64) (row % 64) + 4 * (s - 1)) else none
  | 0x3000, 2 => some Reg.SCHED_CFG
  | 0x3000, 3 => some Reg.TRAIN_CFG
  | 0x3000, 4 => some Reg.SNAPSHOT_CFG
  | 0x3400, 1 => some Reg.ECC_CFG
  | 0x3400, 2 => some Reg.ECC_LABELS
  | 0x3800, 1 => some Reg.COH_CFG
  | 0x3800, 2 => some Reg.COH_LABELS
  | 0x3801, s => if 1 ≤ s ∧ s ≤ 3 then some (Reg.SW_BASE row + 4 * (s - 1)) else none
  | 0x4001, 1 => some Reg.QOS_CFG
  | 0x4400, 1 => some Reg.MOVER_CFG
  | 0x4401, s => if 1 ≤ s ∧ s ≤ 3 then some (Reg.MQ_RING row + 4 * (s - 1)) else none
  | 0x5000, 1 => some Reg.POWER_CFG
  | 0x5000, 2 => some Reg.DECL_DEFAULT
  | 0x5001, 1 => some (Reg.OCTANT_MGMT row)
  | 0x5402, 1 => some Reg.SI_CFG
  | 0x5402, 2 => some Reg.SI_CFG2
  | 0x6000, 1 => some Reg.FAULT_CFG
  | 0x6000, 2 => some Reg.FLOG_CFG
  | 0x7000, 1 => some (Reg.MBX_TABLE row)
  | 0x7800, 2 => some Reg.WDOG_CFG
  | 0x7800, 3 => some Reg.MARGIN_CFG
  | _, _ => none

/-- Type and access of an entry that mirrors no register. -/
def odOwn (i sub : Nat) : Option (OdType × OdAcc) :=
  match i, sub with
  | 0x1000, 1 => some (.str, .ro)
  | 0x1000, 2 => some (.str, .ro)
  | 0x1000, 3 => some (.u32, .ro)
  | 0x1000, 4 => some (.u8, .ro)
  | 0x1000, 5 => some (.bool, .wo)
  | 0x1001, 1 => some (.w40, .ro)
  | 0x1100, 1 => some (.u32, .ro)
  | 0x1100, 2 => some (.u32, .ro)
  | 0x1100, 3 => some (.u32, .ro)
  | 0x1101, s => if 1 ≤ s ∧ s ≤ 13 then some (.u32, .ro) else none
  | 0x1102, 1 => some (.u64, .ro)
  | 0x1103, 1 => some (.u64, .ro)
  | 0x1103, 2 => some (.u32, .ro)
  | 0x1104, 1 => some (.u32, .ro)
  | 0x1110, 1 => some (.u64, .ro)
  | 0x1110, 2 => some (.u32, .ro)
  | 0x1110, 3 => some (.bool, .ro)
  | 0x1110, 4 => some (.rec_ 12, .wo)
  | 0x2000, 1 => some (.u32, .rwv)
  | 0x2001, s => if 1 ≤ s ∧ s ≤ 5 then some (.u32, .ro) else none
  | 0x2402, 1 => some (.u32, .rc)
  | 0x3000, 1 => some (.u8, .rwv)
  | 0x3001, s => if 1 ≤ s ∧ s ≤ 4 then some (.u32, .rc) else none
  | 0x3002, s => if 1 ≤ s ∧ s ≤ 8 then some (.u32, .ro) else none
  | 0x3400, 3 => some (.bool, .rwv)
  | 0x3401, 1 => some (.u32, .ro)
  | 0x4000, 1 => some (.u8, .rwv)
  | 0x4000, 2 => some (.u8, .rwv)
  | 0x4000, 3 => some (.u16, .rwv)
  | 0x4000, 4 => some (.u16, .rwv)
  | 0x4000, 5 => some (.u16, .status)
  | 0x4000, 6 => some (.u16, .status)
  | 0x4000, 7 => some (.u8, .status)
  | 0x4000, 8 => some (.u32, .status)
  | 0x4000, 0xFF => some (.rec_ 32, .ro)
  | 0x5400, s => if s = 4 then some (.i32, .ro) else if 1 ≤ s ∧ s ≤ 3 then some (.u8, .ro) else none
  | 0x5401, s => if 1 ≤ s ∧ s ≤ 180 then some (.u8, .ro) else none
  | 0x6001, 1 => some (.rec_ 16, .ro)
  | 0x6001, 2 => some (.u32, .ro)
  | 0x6001, 3 => some (.u32, .ro)
  | 0x6001, 4 => some (.u8, .ro)
  | 0x6002, s => if s = 1 ∨ s = 2 then some (.u32, .rc) else none
  | 0x7001, 1 => some (.u32, .rc)
  | 0x7800, 1 => some (.rec_ 8, .ro)
  | 0x7800, 4 => some (.u32, .ro)
  | 0x7801, 1 => some (.u16, .ro)
  | 0x7801, 2 => some (.u32, .ro)
  | 0x7801, 3 => some (.u8, .ro)
  | 0x7802, 0xFF => some (.rec_ 44, .ro)
  | 0x7803, 1 => some (.rec_ 9, .rwv)
  | 0x8000, 1 => some (.rec_ 96, .ro)
  | 0x8000, 2 => some (.u8, .ro)
  | 0x8000, 3 => some (.bool, .ro)
  | 0x8001, s => if s = 1 ∨ s = 2 then some (.u64, .ro) else if s = 3 ∨ s = 4 then some (.u32, .ro) else none
  | 0x8002, 1 => some (.u8, .ro)
  | 0x8002, 2 => some (.u16, .ro)
  | 0xF000, s =>
    if s = 4 ∨ s = 8 ∨ s = 9 then some (.bool, .ro) else if s = 6 then some (.u8, .ro) else if s = 7 then some (.u8, .rw)
    else if 1 ≤ s ∧ s ≤ 5 then some (.u32, .ro) else none
  | 0xF001, 1 => some (.u8, .wo)
  | 0xF002, 1 => some (.u16, .rwv)
  | 0xF003, 1 => some (.u32, .ro)
  | 0xF003, 2 => some (.u8, .ro)
  | 0xF003, 3 => some (.u64, .ro)
  | 0xF003, 4 => some (.u32, .ro)
  | 0xF004, 1 => some (.rec_ 6, .ro)
  | 0xF010, s => if s = 1 ∨ s = 2 then some (.u32, .rwv) else none
  | _, _ => none

/-- A field of an index's rows, or an entry of an index that is no table. -/
def odField (i sub : Nat) : Option (OdType × OdAcc) := if (mirrorOf i sub 0).isSome then some (.u32, .rwv) else odOwn i sub

/-- The fields of a table's rows, in order (R482). -/
def rowSubs (i : Nat) : List Nat := ((List.range 254).map (· + 1)).filter fun k => (odField i k).isSome

/-- Type and access of an entry: for a table the cursor, a field, or the whole row (R482). A row of counters that reading clears is
cleared as its fields are. -/
def odEntry (x : OdIndex) (i sub : Nat) : Option (OdType × OdAcc) :=
  if x.rows.isSome && sub == 0 then some (.u32, .rw)
  else match odField i sub with
    | some e => some e
    | none =>
      if x.rows.isSome && sub == 0xFF then
        let fields := (rowSubs i).filterMap (odField i)
        some (.rec_ ((fields.map fun f => f.1.bytes).sum), if fields.any (fun f => f.2 == .rc) then .rc else .ro)
      else none

/-! ### What entries read -/

/-- Entries of the MRAM repair map in the format of R433, the factory's left out. -/
def State.fieldRepairs (s : State) : List Word :=
  let b := s.base
  let rows := (List.range 64).flatMap fun ch => ((b.chan ch).spares.filter fun x => !x.factory && x.confirmed).map fun x =>
    BitVec.ofNat 32 (2 ^ 30 + ch + 2 ^ 6 * x.bank + 2 ^ 11 * x.spare + 2 ^ 13 * x.row)
  let pins := (List.range 64).flatMap fun ch => ((List.range 4).filter fun k => decide ((b.canes ch).useOf k < 60)).map fun k =>
    BitVec.ofNat 32 (2 * 2 ^ 30 + ch + 2 ^ 6 * k + 2 ^ 8 * (b.canes ch).useOf k)
  let buses := b.si.busShifts.map fun y => BitVec.ofNat 32 (3 * 2 ^ 30 + y.1 + 2 ^ 2 * y.2.2 + 2 ^ 11 * y.2.1)
  let own := repairEntries s.rd
  (rows ++ pins ++ buses).filter fun w => !own.contains w

/-- Change of the monthly mean width over the last 12 months, in signed steps (R340): the newest month's mean less that of twelve
months before, zero without one. -/
def CaneRecord.trend (r : CaneRecord) : Int :=
  match r.months with
  | [] => 0
  | (m, sum, n) :: t =>
    match t.find? fun x => x.1 + 12 == m with
    | some (_, s', n') => ((sum / n : Nat) : Int) - ((s' / n' : Nat) : Int)
    | none => 0

/-- The entries of the MRAM fault log, newest first. -/
def Base.mramNewest (b : Base) (k : Nat) : Option MramEntry := b.flt.mramLog.reverse[k]?

/-- The version slots in order; a version being written has its slot (R495, R498). -/
def Base.slotsShown (b : Base) : List Version :=
  match b.dict.commitStep, b.dict.pending with
  | 3, some p => makeRoom b.dict.versions ++ [p]
  | _, _ => b.dict.versions

/-- Hours of a time in ns. -/
def hours (ns : Nat) : Nat := min 0xFFFFFFFF (ns / 3600000000000)

/-- ConfirmLeftMs (R495). -/
def Base.confirmLeft (b : Base) : Nat := match b.dict.windowEnd with | some t => (t - b.pl.epochs) / 1000 | none => 0

/-- A record of the fuse-margin log: the word, the three copies at normal, low and high reference, the epoch (the order of its bytes is
the model's). -/
def marginRecord (e : Nat × BitVec 96 × BitVec 96 × BitVec 96 × BitVec 48) : List Byte :=
  le 2 e.1 ++ le 12 e.2.1.toNat ++ le 12 e.2.2.1.toNat ++ le 12 e.2.2.2.1.toNat ++ le 6 e.2.2.2.2.toNat

/-- The number that an entry outside the versions reads as, for identity `who` and the row its cursor names; a REC is the number its
bytes make. -/
def State.odNumber (s : State) (who i sub row : Nat) : Nat :=
  let b := s.base
  let d := b.dict
  let l := d.life
  match i, sub with
  | 0x1000, 3 => b.boot.fwVersion.toNat
  | 0x1000, _ => b.boot.lifecycle
  | 0x1001, _ => (Config.dieIdentity row).toNat
  | 0x1100, 1 => hours l.powerNs
  | 0x1100, 2 => l.coldBoots
  | 0x1100, _ => l.warmResets
  | 0x1101, k => hours (Tab.get 0 l.temp (16 * row + k))
  | 0x1102, _ => Tab.get 0 l.bankActs row
  | 0x1103, 1 => l.mramWrites
  | 0x1103, _ => l.mramMaxWord
  | 0x1104, _ => l.fuseMargin
  | 0x1110, 1 => b.calendar.1
  | 0x1110, 2 => b.calendar.2
  | 0x1110, _ => if d.calValid then 1 else 0
  | 0x2001, k => (b.reg (Reg.PORT_STATUS row + 0xC + 4 * k)).toNat
  | 0x2402, _ => Tab.get 0 d.retiredAccess row
  | 0x3001, k => Tab.get 0 b.pl.deferrals (4 * row + k - 1)
  | 0x3002, k => (((if row = 0 then b.snapHeader else b.snapWords (row - 1))[k - 1]?).getD 0).toNat
  | 0x3401, _ => ((s.fieldRepairs[row]?).getD 0).toNat
  | 0x4000, 5 => min 0xFFFF (b.effReserve (b.label row))
  | 0x4000, 6 => min 0xFFFF ((b.label row).m256 / 256)
  | 0x4000, 7 => (b.label row).step
  | 0x4000, 8 => (b.label row).misses
  | 0x4000, _ => ofLe ((b.labelWords row).flatMap fun w => le 4 w.toNat)
  | 0x5400, 1 => (Tab.get {} b.si.records row).baseline
  | 0x5400, 2 => (Tab.get {} b.si.records row).latest
  | 0x5400, 3 => (Tab.get {} b.si.records row).lowest
  | 0x5400, _ => (BitVec.ofInt 32 (Tab.get {} b.si.records row).trend).toNat
  | 0x5401, k => Tab.get 0 b.si.monthly (256 * row + k - 1)
  | 0x6001, k =>
    match b.mramNewest row with
    | none => 0
    | some e => if k = 1 then e.msg.bits.toNat else if k = 2 then e.seq else if k = 3 then e.powerOn else (if e.acked then 1 else 0) + (if e.escalated then 2 else 0)
  | 0x6002, 1 => d.logOverwritten
  | 0x6002, _ => d.logSkipped
  | 0x7001, _ => Tab.get 0 d.noticesLost row
  | 0x7800, 1 => (if b.boot.preferredB then 1 else 0) + (if b.boot.new then 2 ^ 8 else 0) + 2 ^ 16 * b.boot.attempts + 2 ^ 32 * b.boot.svnFloor
  | 0x7800, _ => b.boot.cmdCounter
  | 0x7801, k =>
    match b.boot.journal[row]? with
    | none => 0
    | some e => if k = 1 then e.word else if k = 2 then e.value.toNat else match e.state with | .complete => 0 | .incomplete => 1 | .failed => 2
  | 0x7802, _ => match b.boot.marginLog[row]? with | some e => ofLe (marginRecord e) | none => 0
  | 0x8000, 1 => ofLe ((List.range 24).flatMap fun k => le 4 (s.rd (0x51C + k)).toNat)
  | 0x8000, 2 => if fld (s.rd 0x539) 6 0 = 0 then 0x3D else fld (s.rd 0x539) 6 0
  | 0x8000, _ => if regionLocked s.otp 5 then 1 else 0
  | 0x8001, 1 => b.pack.framesSent
  | 0x8001, 2 => b.pack.framesUnheard
  | 0x8001, 3 => b.pack.recordNotices
  | 0x8001, _ => b.pack.tamperNotices
  | 0x8002, 1 => (Tab.get 0 b.pack.capSent row - 1) >>> 16 % 64
  | 0x8002, _ => (Tab.get 0 b.pack.capSent row - 1) >>> 4 % 1024
  | 0xF000, 1 => d.active
  | 0xF000, 2 => match d.pending with | some p => p.number | none => 0
  | 0xF000, 3 => d.previous
  | 0xF000, 4 => if d.onTrial then 1 else 0
  | 0xF000, 5 => b.confirmLeft
  | 0xF000, 6 => d.trialBoots
  | 0xF000, 7 => Tab.get 0 d.readView who
  | 0xF000, 8 => if b.drift then 1 else 0
  | 0xF000, _ => if b.protectionPending then 1 else 0
  | 0xF003, k =>
    match b.slotsShown[row]? with
    | none => 0
    | some v => if k = 1 then v.number else if k = 2 then v.role else if k = 3 then v.activatedAt else (Config.versionCrc v.content).toNat
  | 0xF004, _ => d.lastVersion + 2 ^ 32 * d.lastStep + 2 ^ 40 * d.lastReason
  | _, _ => 0

/-- The number that an RWV entry has in a version (R483, R489, R494, R495). -/
def Version.odNumber (v : Version) (i sub row : Nat) : Nat :=
  match mirrorOf i sub row with
  | some off => (v.get off).toNat
  | none =>
    let w := v.label (BitVec.ofNat 16 row)
    match i, sub with
    | 0x2000, _ => (v.get (Reg.PORT_LTR 0)).toNat
    | 0x3000, _ => v.setWidth
    | 0x3400, _ => if v.injEnable then 1 else 0
    | 0x4000, 1 => fld w.1 2 0
    | 0x4000, 2 => fld w.1 13 8
    | 0x4000, 3 => fld w.1 31 16
    | 0x4000, _ => fld w.2 15 0
    | 0x7803, _ => (v.get Reg.DIAG_FW_BASE).toNat + 2 ^ 32 * (v.get Reg.DIAG_FW_LIMIT).toNat + (if v.diagLock then 2 ^ 64 else 0)
    | 0xF002, _ => v.windowS
    | 0xF010, 1 => (accessRow v.access row).1.toNat
    | 0xF010, _ => (accessRow v.access row).2.toNat
    | _, _ => 0

/-- The version that RWV reads of an identity return (R495): PENDING, while one is open, by its ReadView. -/
def Base.readVersion (b : Base) (who : Nat) : Version :=
  if Tab.get 0 b.dict.readView who = 1 then b.dict.pending.getD b.activeVersion else b.activeVersion

/-- The bytes of one field or entry. -/
def State.odBytes (s : State) (who i sub row : Nat) (t : OdType) (a : OdAcc) : List Byte :=
  match i, sub with
  | 0x1000, 1 => textBytes (if s.base.boot.gradeE then "GXM-OR128-64-E" else "GXM-OR128-64-C")
  | 0x1000, 2 => Config.serialNumber
  | _, _ => le t.bytes (if a = .rwv then (s.base.readVersion who).odNumber i sub row else s.odNumber who i sub row)

/-- The bytes of an entry, the whole row of a table among them. -/
def State.odRead (s : State) (who i sub row : Nat) (t : OdType) (a : OdAcc) : List Byte :=
  match odField i sub with
  | some _ => s.odBytes who i sub row t a
  | none => (rowSubs i).flatMap fun k => match odField i k with | some f => s.odBytes who i k row f.1 f.2 | none => []

/-- Reading an RC entry clears it (R14). -/
def Base.odCleared (b : Base) (i sub row : Nat) : Base :=
  match i with
  | 0x2402 => b.updDict fun d => { d with retiredAccess := Tab.set 0 d.retiredAccess row 0 }
  | 0x3001 =>
    let ks := if sub = 0xFF then [0, 1, 2, 3] else [sub - 1]
    b.updPl fun p => { p with deferrals := ks.foldl (fun (t : Tab Nat) k => Tab.set 0 t (4 * row + k) 0) p.deferrals }
  | 0x6002 => b.updDict fun d => if sub = 1 then { d with logOverwritten := 0 } else { d with logSkipped := 0 }
  | 0x7001 => b.updDict fun d => { d with noticesLost := Tab.set 0 d.noticesLost row 0 }
  | _ => b

/-! ### What entries take -/

/-- A written value lies in the entry's range (R481, R483, R489, R494, R495). -/
def odInRange (i sub row : Nat) (t : OdType) (v : Nat) : Bool :=
  match mirrorOf i sub row with
  | some off =>
    let mask := ((regRow? off).map RegRow.mask).getD 0
    (clampReg off (BitVec.ofNat 32 v &&& mask)).2.isEmpty
  | none =>
    match i, sub with
    | 0x1110, 4 => decide (v >>> 64 < 1000000000)
    | 0x3000, 1 => decide (v ≤ 2)
    | 0x4000, 1 => decide (v ≤ 7)
    | 0x4000, 2 => decide (v ≤ 63)
    | 0x4000, 3 => v == 0 || decide (100 ≤ v)
    | 0x7803, 1 => decide (v >>> 64 ≤ 1)
    | 0xF000, 7 => decide (v ≤ 1)
    | 0xF001, 1 => decide (1 ≤ v) && decide (v ≤ 5)
    | 0xF002, 1 => decide (5 ≤ v) && decide (v ≤ 3600)
    | _, _ => t != .bool || decide (v ≤ 1)

/-- An RWV entry set in a version. -/
def Version.odPut (v : Version) (i sub row x : Nat) : Version :=
  match mirrorOf i sub row with
  | some off => v.put off (BitVec.ofNat 32 x &&& ((regRow? off).map RegRow.mask).getD 0)
  | none =>
    let l : Label := BitVec.ofNat 16 row
    let w := v.label l
    match i, sub with
    | 0x2000, _ => v.put (Reg.PORT_LTR 0) (BitVec.ofNat 32 x)
    | 0x3000, _ => { v with setWidth := x }
    | 0x3400, _ => { v with injEnable := x == 1 }
    | 0x4000, 1 => v.putLabel l (setFld w.1 2 0 x, w.2)
    | 0x4000, 2 => v.putLabel l (setFld w.1 13 8 x, w.2)
    | 0x4000, 3 => v.putLabel l (setFld w.1 31 16 x, w.2)
    | 0x4000, _ => v.putLabel l (w.1, setFld w.2 15 0 x)
    | 0x7803, _ =>
      let m := fun off : Nat => ((regRow? off).map RegRow.mask).getD 0
      { (v.put Reg.DIAG_FW_BASE (BitVec.ofNat 32 x &&& m Reg.DIAG_FW_BASE)).put Reg.DIAG_FW_LIMIT (BitVec.ofNat 32 (x >>> 32) &&& m Reg.DIAG_FW_LIMIT) with
        diagLock := x >>> 64 == 1 }
    | 0xF002, _ => { v with windowS := x }
    | 0xF010, 1 => { v with access := putAccess v.access row (BitVec.ofNat 32 x, (accessRow v.access row).2) }
    | 0xF010, _ => { v with access := putAccess v.access row ((accessRow v.access row).1, BitVec.ofNat 32 x) }
    | _, _ => v

/-! ### Checks (R482, R487, R488) -/

/-- The row that an identity's cursor of a table names; 0 for an index that is no table. -/
def Base.cursor (b : Base) (who i : Nat) : Nat := Tab.get 0 b.dict.cursors (65536 * who + i)

/-- A host identity reaches only its own rows of tables indexed by host, and only the labels of its range (R482). -/
def Base.rowAllowed (b : Base) (who i row : Nat) : Bool :=
  if 16 ≤ who then true
  else match i with
    | 0x2400 | 0x2402 | 0x8002 => row == who
    | 0x2401 => row / 64 == who
    | 0x4000 => decide (b.rf (Reg.HOST_LABEL_RANGE who) 15 0 ≤ row) && decide (row ≤ b.rf (Reg.HOST_LABEL_RANGE who) 31 16)
    | _ => true

/-- VersionCommand and CalendarSet are taken from MGMT alone (R489, R495). -/
def mgmtOnly (i sub : Nat) : Bool := i == 0xF001 || (i == 0x1110 && sub == 4)

/-- The identity may use the entry in this direction (R482, R488). Nothing in Rind's range is written, whatever its mask says. -/
def Base.odAllowed (b : Base) (x : OdIndex) (who i sub row : Nat) (write : Bool) : Bool :=
  let m := accessRow b.dict.access x.range
  (if write then x.range == 14 || tb m.2 who else tb m.1 who) && (!mgmtOnly i sub || who == 16) && b.rowAllowed who i row

/-- A firmware request to raise SVN_FLOOR to the running image's SVN (R428): it is never lowered. -/
def Base.raiseFloor (b : Base) (v : Nat) : Base :=
  if v = 1 then (b.updBoot fun x => { x with svnFloor := max x.svnFloor x.fwSvn }).countMram else b

/-- CalendarSet (R491): the base and the epoch are recorded together. -/
def Base.setCalendar (b : Base) (v : Nat) : Base :=
  (b.updDict fun d => { d with calSec := v % 2 ^ 64, calNs := v >>> 64, calAt := b.pl.epochs, calValid := true }).send .calendarSet dictSrc 0

/-- A commit is in steps 2 to 5 (R487, R498). While firmware applies the values of a rollback, a COMMIT and a ROLLBACK are turned away with
the same code (DESIGN CHOICE, entry 153). -/
def Base.committing (b : Base) : Bool := b.dict.commitStep == 3 || b.dict.commitStep == 5

/-- What a write that passed every check up to RANGE does: the status code and the base after it (R487). -/
def Base.odStore (b : Base) (x : OdIndex) (who i sub row v : Nat) (a : OdAcc) : Nat × Base :=
  if x.rows.isSome && sub == 0 then
    if x.rows.getD 0 ≤ v then (8, b)
    else
      let b := b.updDict fun d => { d with cursors := Tab.set 0 d.cursors (65536 * who + i) v }
      (0, if i = 0x3002 ∧ v = 0 then b.openSnapshot else b)
  else if a = .rwv then
    match b.dict.pending with
    | none => (9, b)
    | some p => if b.committing then (10, b) else (0, b.updDict fun d => { d with pending := some (p.odPut i sub row v) })
  else if a = .status then (12, b.send .statusWriteRefused 0x481 row)
  else match i with
    | 0x1000 => (0, b.raiseFloor v)
    | 0x1110 => (0, b.setCalendar v)
    | 0xF000 => (0, b.updDict fun d => { d with readView := Tab.set 0 d.readView who v })
    | 0xF001 =>
      if b.committing || (b.versionBusy && (v == 3 || v == 5)) then (10, b)
      else match b.versionCommand v with | some b' => (0, b') | none => (11, b)
    | _ => (5, b)

/-- A request is refused with a code; ACCESS is reported with index and subindex (R487, R504). -/
def Base.odRefused (b : Base) (code i sub : Nat) : Nat × Base := (code, if code = 4 then b.send .dictDenied dictSrc (i + 65536 * sub) else b)

/-- A dictionary write (R487): the status code and the base after it. -/
def State.odWrite (s : State) (who i sub : Nat) (data : List Byte) : Nat × Base :=
  let b := s.base
  match odIndex s.fieldRepairs.length i with
  | none => (2, b)
  | some x =>
    match odEntry x i sub with
    | none => (3, b)
    | some (t, a) =>
      let cursor := x.rows.isSome && sub == 0
      let v := ofLe data
      let row := if cursor && data.length == 4 then v else b.cursor who i
      if !b.odAllowed x who i sub row true then b.odRefused 4 i sub
      else if a = .ro ∨ a = .rc then (5, b)
      else if data.length ≠ t.bytes then (6, b)
      else if !cursor && !odInRange i sub row t v then (7, b)
      else b.odStore x who i sub row v a

/-- A dictionary read (R487): the status code, the type, the data, and the base after it. -/
def State.odReadReq (s : State) (who op i sub : Nat) : Nat × Nat × List Byte × Base :=
  let b := s.base
  if op ≠ 1 then (1, 0, [], b)
  else match odIndex s.fieldRepairs.length i with
  | none => (2, 0, [], b)
  | some x =>
    match odEntry x i sub with
    | none => (3, 0, [], b)
    | some (t, a) =>
      let row := b.cursor who i
      if x.rows.isSome && sub == 0 then
        if b.odAllowed x who i sub row false then (0, t.code, le 4 row, b) else (4, 0, [], (b.odRefused 4 i sub).2)
      else if !b.odAllowed x who i sub row false then (4, 0, [], (b.odRefused 4 i sub).2)
      else if a = .wo then (5, 0, [], b)
      else if x.rows.isSome && decide (x.rows.getD 0 ≤ row) then (8, 0, [], b)
      else (0, t.code, s.odRead who i sub row t a, if a = .rc then b.odCleared i sub row else b)

/-! ### The paths (R484 to R486) -/

/-- The identity that a path's requests carry (R484). -/
def odWho : OdPath → Nat
  | .window => 16
  | .mctp _ => 16
  | .mailbox h => h.toNat
  | .firmware c => 17 + c.toNat

/-- The bytes of the write data in the window. -/
def Base.windowData (b : Base) : List Byte :=
  ((List.range 256).flatMap fun w => le 4 (b.reg (Reg.OD_DATA w)).toNat).take (b.rf Reg.OD_LEN 10 0)

/-- The request stands in the window (R486). -/
def Base.inWindow (b : Base) (op i sub : Nat) (data : List Byte) : Bool :=
  b.mgmtFull && b.dict.odBusy && b.rf Reg.OD_CMD 15 0 == i && b.rf Reg.OD_CMD 23 16 == sub && b.rf Reg.OD_CMD 25 24 == op
    && (op != 2 || b.windowData == data)

/-- The path brings this request to firmware. -/
def Base.odUp (b : Base) (p : OdPath) (op i sub : Nat) (data : List Byte) : Bool :=
  b.fwRuns && match p with
    | .window => b.inWindow op i sub data
    | .mctp t => b.transportUp t && b.eid t != 0
    | .mailbox h => b.hostUp h.toNat
    | .firmware _ => true

/-- Read data in the window's data registers. -/
def Base.fillWindow (b : Base) (l : List Byte) : Base :=
  forN ((l.length + 3) / 4) (fun (w : Nat) (b : Base) => b.setReg (Reg.OD_DATA w) (BitVec.ofNat 32 (ofLe ((l.drop (4 * w)).take 4)))) b

/-- The response leaves on the path (R485, R486): the type is 0 when the status is not 0. -/
def Base.odAnswer (b : Base) (p : OdPath) (status type : Nat) (data : List Byte) : Base :=
  let b := match p with
    | .window => (b.fillWindow data).updDict fun d => { d with odBusy := false, odDone := true, odStatus := status, odType := type, odLen := data.length }
    | _ => b
  b.emit (.od p status type data)

/-- A write request on a path; its response carries the entry's type. -/
def State.odWriteOn (s : State) (p : OdPath) (i sub : Nat) (data : List Byte) : State :=
  if s.base.odUp p 2 i sub data then
    let (code, b) := s.odWrite (odWho p) i sub data
    let type := match (odIndex s.fieldRepairs.length i).bind fun x => odEntry x i sub with | some e => e.1.code | none => 0
    { s with base := b.odAnswer p code (if code = 0 then type else 0) [] }
  else s

/-- A read request on a path. -/
def State.odReadOn (s : State) (p : OdPath) (op i sub : Nat) : State :=
  if s.base.odUp p op i sub [] then
    let (code, type, data, b) := s.odReadReq (odWho p) op i sub
    { s with base := b.odAnswer p code type data }
  else s

/-- OD_READ (R485, R487): an OP other than 1 and 2 is refused with OP; 2 is a write of no data. -/
def execOdRead (p : OdPath) (op : Byte) (index : BitVec 16) (sub : Byte) (s : State) : Host.Outcome State Fault Refusal :=
  .next (if op = 2 then s.odWriteOn p index.toNat sub.toNat [] else s.odReadOn p op.toNat index.toNat sub.toNat)

/-- OD_WRITE (R487, R493). -/
def execOdWrite (p : OdPath) (index : BitVec 16) (sub : Byte) (data : List Byte) (s : State) : Host.Outcome State Fault Refusal :=
  .next (s.odWriteOn p index.toNat sub.toNat data)

/-- A write of VersionCommand (R495, R497). -/
def State.versionOn (s : State) (p : OdPath) (c : Nat) : State := s.odWriteOn p 0xF001 1 (le 1 c)

/-- VERSION_OPEN (R497). -/
def execVersionOpen (p : OdPath) (s : State) : Host.Outcome State Fault Refusal := .next (s.versionOn p 1)

/-- VERSION_DISCARD (R497). -/
def execVersionDiscard (p : OdPath) (s : State) : Host.Outcome State Fault Refusal := .next (s.versionOn p 2)

/-- VERSION_COMMIT (R497, R498). -/
def execVersionCommit (p : OdPath) (s : State) : Host.Outcome State Fault Refusal := .next (s.versionOn p 3)

/-- VERSION_CONFIRM (R497, R501). -/
def execVersionConfirm (p : OdPath) (s : State) : Host.Outcome State Fault Refusal := .next (s.versionOn p 4)

/-- VERSION_ROLLBACK (R497, R501). -/
def execVersionRollback (p : OdPath) (s : State) : Host.Outcome State Fault Refusal := .next (s.versionOn p 5)

/-- RAISE_SVN_FLOOR (R428). -/
def execRaiseSvnFloor (p : OdPath) (v : Byte) (s : State) : Host.Outcome State Fault Refusal := .next (s.odWriteOn p 0x1000 5 [v])

/-- CALENDAR_SET (R491): seconds, then nanoseconds. -/
def execCalendarSet (p : OdPath) (sec : BitVec 64) (ns : Word) (s : State) : Host.Outcome State Fault Refusal :=
  .next (s.odWriteOn p 0x1110 4 (le 8 sec.toNat ++ le 4 ns.toNat))

end Sys2Proof.Machine
end

