-- ==== Sys2Proof/Machine/Metering.lean ====
section
/-! DEFINITION. Machine/Metering.lean: Rind (chapter 16): tap frames, capacity and energy, records, the inspector's
requests and tamper causes. -/

namespace Sys2Proof.Machine

/-- Rind's counter limits (R508): U32 for REFUSED, U64 for the others. -/
def sat32 (a n : Nat) : Nat := satAdd (2 ^ 32 - 1) a n
def sat64 (a n : Nat) : Nat := satAdd (2 ^ 64 - 1) a n

/-- Energy added to a tenant, in units of 1/512 pJ (R510): 10^9 pJ make a millijoule. -/
def Tenant.addEnergy (t : Tenant) (u : Nat) : Tenant :=
  let all := t.energyPj + u
  { t with energy := sat64 t.energy (all / 512000000000), energyPj := all % 512000000000 }

def Rind.updTenant (r : Rind) (i : Nat) (f : Tenant → Tenant) : Rind := { r with tenants := Tab.upd {} r.tenants i f }

/-- A coefficient of RIND_SEAL by word number (R526). -/
def Rind.coeff (r : Rind) (w : Nat) : Nat := ((r.sealCopy[w - 0x510]?).map BitVec.toNat).getD 0

/-- Bits [hi:lo] of a tap word. -/
def tapFld (w : BitVec 64) (hi lo : Nat) : Nat := (w.toNat >>> lo) % 2 ^ (hi + 1 - lo)

/-- The two 32-bit words of a tap word, low first. -/
def tapHalves (w : BitVec 64) : List Word := [w.extractLsb' 0 32, w.extractLsb' 32 32]

/-- The frame starts with an EPOCH word and ends with the CRC of what precedes (R512, R513). -/
def frameOk (ws : List (BitVec 64)) : Bool :=
  match ws.head?, ws.getLast? with
  | some h, some l => tapFld h 63 60 == 1 && tapFld l 63 60 == 6 && decide (2 ≤ ws.length)
      && l.extractLsb' 0 32 == crc32 (ws.dropLast.flatMap tapHalves)
  | _, _ => false

/-- One word of an accepted frame (R508, R510, R512). The tap carries bytes written and no count of lines written, so the
energy of writes takes a line for each 64 bytes begun (DESIGN CHOICE). -/
def Rind.tapWord (r : Rind) (w : BitVec 64) : Rind :=
  match tapFld w 63 60 with
  | 2 =>
    let lines := tapFld w 21 8; let bytes := tapFld w 43 24
    r.updTenant (tapFld w 5 0) fun t => (({ t with
      bytesRead := sat64 t.bytesRead (64 * lines)
      bytesWritten := sat64 t.bytesWritten bytes
      refused := sat32 t.refused (tapFld w 55 44) }).addEnergy (512 * lines * r.coeff 0x534)).addEnergy (512 * ((bytes + 63) / 64) * r.coeff 0x535)
  | 3 => r.updTenant (tapFld w 5 0) fun t => { t with bytesMoved := sat64 t.bytesMoved (tapFld w 45 8) }
  | 4 => r.updTenant (tapFld w 5 0) fun t => t.addEnergy (512 * (tapFld w 22 8 * r.coeff 0x536 + tapFld w 38 23 * r.coeff 0x537))
  | 5 => { r with hosts := Tab.set {} r.hosts (tapFld w 3 0) { blocks := tapFld w 13 4, tenant := tapFld w 21 16, bound := tapFld w 22 22 == 1 } }
  | _ => r

/-- A frame arrives on the tap (R512, R513): a frame whose CRC fails is discarded; a break in the epochs is flagged. Before
genesis nothing is counted. -/
def Rind.frame (r : Rind) (ws : List (BitVec 64)) : Rind :=
  if !r.power || !r.genesis then r
  else if !frameOk ws then { r with error := true }
  else
    let ep := BitVec.ofNat 48 (((ws.head?).map fun h => tapFld h 47 0).getD 0)
    let gap := match r.lastEpoch with | some e => ep != e + 1 | none => false
    let r := ws.foldl Rind.tapWord r
    { r with lastEpoch := some ep, gap := r.gap || gap }

/-- A millisecond of Rind's clock (R509, R510). -/
def Rind.capacityTick (r : Rind) : Rind :=
  forN 16 (fun h r =>
    let c := Tab.get {} r.hosts h
    if c.bound then r.updTenant c.tenant fun t =>
      ({ t with capacity := sat64 t.capacity (256 * c.blocks) }).addEnergy (r.coeff 0x538 * 1000000 * c.blocks)
    else r) r

/-! ### Records -/

/-- The fields of a record in the order of R515, the signature left out. -/
def RindRecord.body (x : RindRecord) : List Nat :=
  [0x444E4952, 1, x.kind, (if x.gap then 1 else 0) + (if x.error then 2 else 0) + (if x.unheard then 4 else 0),
    x.seq, x.timeStart, x.timeEnd, x.epochEnd.toNat, x.tamperCount, x.causes.toNat, x.rotated, x.prevHash.toNat]
  ++ (List.range 64).flatMap fun i =>
    let t := Tab.get {} x.tenants i
    [i, t.refused, t.bytesRead, t.bytesWritten, t.bytesMoved, t.capacity, t.energy]

/-- The record with its signature. -/
def RindRecord.all (x : RindRecord) : List Nat := x.body ++ [x.signature.toNat]

/-- The number of Rind's key for `Config.sign`. -/
def rindKey : Nat := 1

/-- The counters and the time are kept in Rind's own MRAM (R511, R517). -/
def Rind.checkpoint (r : Rind) : Rind := { r with savedTenants := r.tenants, savedTime := r.time }

/-- A record is closed and committed (R514 to R517): it takes the next SEQ, the oldest of 64 gives way. The state area is written with it, so
that no counter falls below a record's (R508; DEDUCED, entry 154). -/
def Rind.close (r : Rind) (kind start : Nat) : Rind :=
  let x : RindRecord := {
    kind := kind, gap := r.gap, error := r.error, unheard := r.unheard, seq := r.nextSeq, timeStart := start,
    timeEnd := r.time, epochEnd := r.lastEpoch.getD 0, tamperCount := r.tamper, causes := r.causes, rotated := r.rotated + (if 64 ≤ r.records.length then 1 else 0),
    prevHash := r.head, tenants := r.tenants, signature := 0 }
  let x := { x with signature := Config.sign rindKey (Config.sha384 x.body) }
  let full := 64 ≤ r.records.length
  { r.checkpoint with
    records := (if full then r.records.drop 1 else r.records) ++ [x]
    rotated := if full then r.rotated + 1 else r.rotated
    head := Config.sha384 x.all
    nextSeq := r.nextSeq + 1
    gap := false
    error := false
    unheard := false
    causes := 0
    lastRecord := r.time
    periodFrom := if kind = 1 ∨ kind = 2 then r.time else r.periodFrom
    tamperDue := false
    tamperRecAt := if kind = 5 then some r.time else r.tamperRecAt }

/-- A PERIOD record is due (R514). -/
def Rind.periodDue (r : Rind) : Bool := r.genesis && decide (r.periodFrom + 3600000 ≤ r.time)

/-- A TAMPER record may be closed now: at most one a second (R524). -/
def Rind.tamperAllowed (r : Rind) : Bool := match r.tamperRecAt with | some t => decide (t + 1000 ≤ r.time) | none => true

/-- A cause has been counted within the last second (R523). -/
def Rind.recentCause (r : Rind) (c : Nat) : Bool :=
  match r.causeAt.find? fun e => e.1 == c with | some e => decide (r.time < e.2 + 1000) | none => false

/-- A tamper cause is counted, at most once per cause per second, and a TAMPER record is owed (R523, R524). The flag says that it was
counted. -/
def Rind.countCause (r : Rind) (c : Nat) : Rind × Bool :=
  if !r.genesis || r.recentCause c then (r, false)
  else ({ r with tamper := sat32 r.tamper 1, causes := setBit r.causes c true, causeAt := Tab.insert c r.time r.causeAt, tamperDue := true }, true)

/-- A TAMPER record that is owed is closed, at most one a second; a record of a lower code that is due stands for it (R514, R524). -/
def Rind.closeTamper (r : Rind) : Rind := if r.tamperDue && r.tamperAllowed && !r.periodDue then r.close 5 r.lastRecord else r

/-- A tamper cause is detected while Rind runs (R523, R524). -/
def Rind.tamperCause (r : Rind) (c : Nat) : Rind × Bool :=
  let (r, counted) := r.countCause c
  (if counted then r.closeTamper else r, counted)

/-! ### What the base die sees -/

/-- The record-ready notice (R525): a message without address and a notice on every valid channel that RIND sends on. -/
def Base.recordNotice (b : Base) : Base :=
  if !b.alive then b
  else
    let b := b.send .rindRecord 0x5E0 0
    forN 64 (fun c b => if b.mbxSender c = some 22 then b.mbxPost 22 c 0 else b) b

/-- The tamper notice. -/
def Base.tamperNotice (b : Base) : Base := if b.alive then b.send .rindTamper 0x5E1 0 else b

/-- Rind changes; each record it committed gives a notice. -/
def State.withRind (s : State) (r : Rind) (tamper : Bool) : State :=
  let b := if tamper then s.base.tamperNotice else s.base
  { s with rind := r, base := forN (r.nextSeq - s.rind.nextSeq) (fun _ b => b.recordNotice) b }

/-- RIND_TAP_FRAME (R512, R513). -/
def execRindTapFrame (words : List (BitVec 64)) (s : State) : Host.Outcome State Fault Refusal :=
  .next { s with rind := s.rind.frame words }

/-- RIND_MS_TICK (R509): a millisecond of Rind's clock; a TAMPER record owed is closed when one a second allows it. -/
def execRindMsTick (s : State) : Host.Outcome State Fault Refusal :=
  if !s.rind.power || !s.rind.genesis then .next s
  else
    let r := { (s.rind.capacityTick) with time := s.rind.time + 1 }
    .next (s.withRind r.closeTamper false)

/-- RIND_CHECKPOINT (R511): counters and time are kept in Rind's own MRAM. -/
def execRindCheckpoint (s : State) : Host.Outcome State Fault Refusal :=
  if s.rind.power then .next { s with rind := s.rind.checkpoint } else .next s

/-- RIND_PERIOD_RECORD (R514): every 3,600 s of Rind's clock. -/
def execRindPeriodRecord (s : State) : Host.Outcome State Fault Refusal :=
  if s.rind.power && s.rind.periodDue then .next (s.withRind (s.rind.close 2 s.rind.lastRecord) false) else .next s

/-- RIND_POWER_UP (R511, R514, R518, R523, R524): the counters of the last checkpoint stand; after genesis a POWER_UP record
states the time of that checkpoint, and with the causes found while the state area is read it stands for the TAMPER record of the same
millisecond (R514). `lostRecord` says that a held or state-area record is lost, `lostCounter` that the tamper counter's own record is: it is
then taken from the newest record. `chainBreak` says that the stored newest record does not hash to the chain head. -/
def execRindPowerUp (lostRecord lostCounter chainBreak : Bool) (s : State) : Host.Outcome State Fault Refusal :=
  let s := { s with base := s.base.updPack fun p => { p with rindPresent := true } }
  if s.rind.power then .next s
  else
    let r := { s.rind with power := true, up := true, unheard := s.rind.genesis }
    if !r.genesis then .next { s with rind := { r with time := 0 } }
    else
      let r := if lostCounter then { r with tamper := ((r.records.getLast?).map fun x => x.tamperCount).getD 0 } else r
      let (r, t) := if chainBreak then r.countCause 2 else (r, false)
      let (r, t) := if lostRecord || lostCounter then ((r.countCause 3).1, (r.countCause 3).2 || t) else (r, t)
      .next (s.withRind (r.close 4 r.savedTime) t)

/-- The words of the fuse path: RIND_SEAL 0x510 to 0x539 (R506, R526). -/
def sealWords (rd : Nat → Word) : List Word := (List.range 42).map fun i => rd (0x510 + i)

/-- RIND_SEAL_DELIVERY (R506, R514, R523): once at each base-die boot before BOOT_PHASE is left. The first locked seal that
verifies closes GENESIS; later words are compared with the seal copy. -/
def execRindSealDelivery (s : State) : Host.Outcome State Fault Refusal :=
  if !s.base.alive || s.base.boot.run || !s.rind.power then .next s
  else
    let rd := otpRaw s.otp
    let good := sealVerifies rd 5 0x54C
    if !s.rind.genesis then
      if regionLocked s.otp 5 && good then
        let key := (sealWords rd).drop 12 |>.take 24
        let r := { s.rind with
                   genesis := true, sealCopy := sealWords rd, time := 0, periodFrom := 0, lastRecord := 0, savedTime := 0,
                   head := Config.sha384 (Config.serialNumber.map BitVec.toNat ++ key.map BitVec.toNat) }
        .next (s.withRind (r.close 1 0) false)
      else .next s
    else if good && sealWords rd == s.rind.sealCopy then .next s
    else
      let (r, t) := s.rind.tamperCause 4
      .next (s.withRind r t)

/-! ### Inspection (R520) -/

/-- What Rind puts on its own I3C pins. -/
def State.rindSay (s : State) (status : Nat) (r : Reply) : State := { s with base := s.base.emit (.rind status r) }

/-- A request reaches Rind while it is powered. While Rind computes a signature (`busy`) it answers BUSY (1) and serves nothing (R521). -/
def State.rindAsk (s : State) (busy : Bool) (f : State → State) : Host.Outcome State Fault Refusal :=
  if !s.rind.up then .next s else if busy then .next (s.rindSay 1 .busy) else .next (f s)

/-- RIND_GET_INFO. -/
def execRindGetInfo (busy : Bool) (s : State) : Host.Outcome State Fault Refusal :=
  s.rindAsk busy fun s =>
    let r := s.rind
    let key := (r.sealCopy.drop 12).take 24
    s.rindSay 0 (.numbers ([1] ++ Config.serialNumber.map BitVec.toNat ++ key.map BitVec.toNat ++
      [((r.records.head?).map fun x => x.seq).getD 0, ((r.records.getLast?).map fun x => x.seq).getD 0, r.tamper, r.time]))

/-- RIND_GET_RECORD: GONE (2) when the record is no longer held or not yet made. -/
def execRindGetRecord (seq : BitVec 64) (busy : Bool) (s : State) : Host.Outcome State Fault Refusal :=
  s.rindAsk busy fun s =>
    match s.rind.records.find? fun x => x.seq == seq.toNat with
    | some x => s.rindSay 0 (.numbers x.all)
    | none => s.rindSay 2 .rejected

/-- RIND_CLOSE_INTERVAL: REFUSED (3) within 60 s of the previous ON_DEMAND record; a PERIOD record due at the same moment
satisfies it. Before genesis there is nothing to close (DESIGN CHOICE: REFUSED). -/
def execRindCloseInterval (busy : Bool) (s : State) : Host.Outcome State Fault Refusal :=
  s.rindAsk busy fun s =>
    let r := s.rind
    let early := match r.onDemandAt with | some t => decide (r.time < t + 60000) | none => false
    if !r.genesis || early then s.rindSay 3 .rejected
    else
      let r' := if r.periodDue then r.close 2 r.lastRecord else { (r.close 3 r.lastRecord) with onDemandAt := some r.time }
      (s.withRind r' false).rindSay 0 (.number r.nextSeq)

/-- RIND_CHALLENGE: nonce, newest SEQ, chain head, TAMPER_COUNT and time, signed. -/
def execRindChallenge (nonce : BitVec 256) (busy : Bool) (s : State) : Host.Outcome State Fault Refusal :=
  s.rindAsk busy fun s =>
    let r := s.rind
    let body := [nonce.toNat, r.nextSeq - 1, r.head.toNat, r.tamper, r.time]
    s.rindSay 0 (.numbers (body ++ [(Config.sign rindKey (Config.sha384 body)).toNat]))

/-! ### Tamper and power (R523, R511, R537) -/

/-- RIND_VOLTAGE_EXCURSION. -/
def execRindVoltageExcursion (s : State) : Host.Outcome State Fault Refusal :=
  if s.rind.power then (let (r, t) := s.rind.tamperCause 0; .next (s.withRind r t)) else .next s

/-- RIND_CLOCK_FAULT. -/
def execRindClockFault (s : State) : Host.Outcome State Fault Refusal :=
  if s.rind.power then (let (r, t) := s.rind.tamperCause 1; .next (s.withRind r t)) else .next s

/-- Rind without its supply: the last checkpoint stands (R511), and what the last CAPACITY words said, which the state area does not hold, is
lost (R517). -/
def Rind.lose (r : Rind) : Rind :=
  { r with power := false, up := false, tenants := r.savedTenants, time := r.savedTime, lastEpoch := none, hosts := [] }

/-- VDD_RIND_LOSS (R511, R537): a power loss, no tamper cause; AON senses the absence. -/
def execVddRindLoss (s : State) : Host.Outcome State Fault Refusal :=
  .next { s with rind := s.rind.lose, base := s.base.updPack fun p => { p with rindPresent := false } }

end Sys2Proof.Machine
end

