-- ==== Sys2Proof/Machine/Planner.lean ====
section
/-! DEFINITION. Machine/Planner.lean: the epoch boundary (R27 to R31, R36 to R38, R44 to R47), the plan (R23, R24), and the housekeeping
that firmware and the planner do by the epoch (R401, R490). -/

namespace Sys2Proof.Machine

/-! ### The plan (R23, R24, R36, R37) -/

/-- PLAN_COMPLETE (R23): firmware has written the plan for the next epoch and marked it complete. A plan
shows that the firmware runs, which makes a Pith complex that was reset ready (R401, DEDUCED, entry 48). -/
def execPlanComplete (plan : Plan) (s : State) : Host.Outcome State Fault Refusal :=
  s.whenBase Base.fwRuns fun b => (b.updPl fun p => { p with inactive := plan, inactiveDone := true }).blockReady 17

/-- FIRMWARE_WATCHDOG (R24, R401, R414): 16 consecutive boundaries without a plan reset the Pith complex; the message reports it. -/
def execFirmwareWatchdog (s : State) : Host.Outcome State Fault Refusal :=
  s.whenBase (fun b => b.fwRuns && decide (16 ≤ b.pl.missed)) fun b =>
    let done := decide ((b.recentResets 17).length < 3)
    let b := b.countedReset 17
    if done then b.sendOutside .firmwareWatchdog dictSrc 0 else b

/-- Falling precedence of the retraining items (R36). -/
def itemRank : PauseItem → Nat
  | .slice => 0
  | .caneShift => 1
  | .drift => 2

/-- The place of an item among its channel's: those deferred for 1,000 epochs come first, as they are forced (R36). -/
def PauseDue.rank (d : PauseDue) : Nat := (if 1000 ≤ d.deferred then 0 else 3) + itemRank d.item

/-- No other item of the channel in the list goes before this one: at most one item per channel and epoch (R36). -/
def firstOfChannel (l : List PauseDue) (e : PauseDue) : Bool := !l.any fun x => x.ch == e.ch && decide (x.rank < e.rank)

/-- An item has been deferred for one more epoch. -/
def PauseDue.defer (d : PauseDue) : PauseDue := { d with deferred := d.deferred + 1 }

/-- One deferral of an item of a channel: 0 refresh, 1 retraining, 2 scrub, 3 sensor (R37, R44, R47). -/
def Base.deferred (b : Base) (ch item n : Nat) : Base :=
  if n = 0 then b
  else
    let b := b.updPl fun p => { p with deferrals := Tab.upd 0 p.deferrals (4 * ch + item) (fun x => satAdd 0xFFFFFFFF x n) }
    (b.countChan ch fun k => { k with deferred := k.deferred + n }).bump (Reg.DEFER_REFRESH + 4 * item) n

/-- The rows of patrol scrub that a channel owes at the end of an epoch: those carried and those of the epoch's plan that were not
done. Each counts as deferred in this epoch (R36, R37). A channel whose set is not ACTIVE does not count the quota, and none is owed
while patrol scrub is off (R215). -/
def Base.carryQuota (b : Base) (ch new : Nat) : Base :=
  let c := b.chan ch
  if !tb (b.reg Reg.ECC_CFG) 8 || b.retired ch || (b.set_ (b.setOf ch)).state != 0 then b
  else
    let owed := c.scrubOwed + new
    let b := (b.setChan ch { c with scrubOwed := owed }).deferred ch 2 owed
    if c.scrubOwed < 1024 ∧ 1024 ≤ owed then b.send .scrubShortfall 0x340 (chAddr ch 0 0) else b

/-- A visit or a slice of a channel whose set is not ACTIVE is skipped, and does not count as deferred (R175). -/
def Base.skippedVisit (b : Base) (d : PauseDue) : Bool :=
  let x := b.set_ (b.setOf d.ch.toNat)
  d.item != .caneShift && (x.state != 0 || x.exiting)

/-- Retraining items that this epoch did not serve: each is counted (R37). -/
def Base.countDeferred (b : Base) (l : List PauseDue) : Base := l.foldl (fun (b : Base) (d : PauseDue) => b.deferred d.ch.toNat 1 1) b

/-- The items of the ended epoch that were not done are counted, and those that are carried wait (R36, R37). -/
def Base.closePlan (b : Base) : Base :=
  let old := b.pl.active
  let undone := (b.pl.due.filter fun d => !b.skippedVisit d).map PauseDue.defer
  let b := b.countDeferred undone
  let b := forN 64 (fun (ch : Nat) (b : Base) => b.carryQuota ch (old.scrub.filter fun c => c.toNat == ch).length) b
  let b := old.sensors.foldl (fun (b : Base) (d : Fin 20) => if d.val < 16 then b.deferred (4 * d.val) 3 1 else b.bump Reg.DEFER_SENSOR) b
  b.updPl fun p => { p with due := [], carried := p.carried ++ undone.filter fun e => !p.carried.any fun x => x.ch == e.ch && x.item == e.item }

/-- The items a plan gives its epoch beside those carried: an item that is carried already is not planned twice. -/
def Planner.offered (p : Planner) (new : Plan) : List PauseDue :=
  p.carried ++ (new.pauses.filter fun e => !p.carried.any fun x => x.ch == e.1 && x.item == e.2).map fun e => { ch := e.1, item := e.2 }

/-- SI_CTRL.FULLWIDTH_NOW (R353): the first plan in which the test is permitted takes the bus out, unless it takes another. -/
def Base.withRequested (b : Base) (new : Plan) : Plan :=
  if new.fullWidth.isSome || !b.fwPermitted then new
  else match (List.range 4).find? fun q => (b.bus q).fwNow with
    | some q => { new with fullWidth := some (BitVec.ofNat 2 q) }
    | none => new

/-- A plan takes effect: of each channel's retraining items, those carried included, the first in precedence; the rest are displaced
and counted (R36). Sensor samples not taken are carried. -/
def Base.takePlan (b : Base) (new : Plan) : Base :=
  let new := b.withRequested new
  let all := b.pl.offered new
  let rest := (all.filter fun e => !firstOfChannel all e).map PauseDue.defer
  let late := b.pl.active.sensors.filter fun d => !new.sensors.contains d
  let b := b.updPl fun p => { p with
    active := { new with sensors := late ++ new.sensors }, due := all.filter (firstOfChannel all), carried := rest, fallback := false, missed := 0 }
  let b := b.countDeferred rest
  if !new.scrub.isEmpty || new.segment.isSome || new.fullWidth.isSome then b.wakeMover else b

/-- The fallback plan (R24): no retraining pause, no scrub quota; the items carried wait on, and samples not taken are carried. Each
such epoch is counted and reported. Firmware that does not run, or whose Pith complex is being reset, misses no boundary (entry 42). -/
def Base.fallbackPlan (b : Base) : Base :=
  let rest := b.pl.carried.map PauseDue.defer
  let counts := b.fwRuns && !b.flt.shadows.any fun x => x.block == 17
  let b := b.updPl fun p => { p with
    active := { sensors := p.active.sensors }, carried := rest, fallback := true, missed := if counts then p.missed + 1 else 0 }
  ((b.countDeferred rest).bump Reg.PLAN_FALLBACK_COUNT).send .planFallback 0x5BA 64

/-- Action 4 of R28. -/
def Base.swapPlan (b : Base) : Base :=
  let b := b.closePlan
  if b.pl.inactiveDone then (b.takePlan b.pl.inactive).updPl fun p => { p with inactive := {}, inactiveDone := false }
  else b.fallbackPlan

/-! ### Snapshots (R47) -/

/-- The ended epoch in the counts of channels whose set was not ACTIVE. -/
def Base.countNotActive (b : Base) : Base :=
  forN 64 (fun (ch : Nat) (b : Base) =>
    let x := b.set_ (b.setOf ch)
    if x.state != 0 || x.exiting then b.countChan ch fun k => { k with notActive := k.notActive + 1 } else b) b

/-- A snapshot is due at this boundary. -/
def Base.snapshotDue (b : Base) : Bool :=
  let n := b.rf Reg.SNAPSHOT_CFG 15 0
  tb (b.reg Reg.SNAPSHOT_CFG) 16 && decide (b.pl.intervalFrom < b.pl.epochs) && (b.pl.epochs - b.pl.intervalFrom) % n == 0

/-- Action 2 of R28. -/
def Base.takeSnapshot (b : Base) (ended : BitVec 48) : Base :=
  if b.snapshotDue then
    let b := if b.pl.newestOpened then b else b.bump Reg.SNAPSHOT_OVERRUN
    let n := b.rf Reg.SNAPSHOT_CFG 15 0
    b.updPl fun p => { p with
      newest := some { epoch := ended, seq := p.snapSeq + 1, interval := n, counts := p.acc }
      newestOpened := false
      snapSeq := p.snapSeq + 1
      acc := b.freshCounts }
  else b

/-! ### Refresh credits (R37, R38) -/

/-- Credit of an epoch in 39ths of a refresh: 320 / 39 a channel, doubled on a hot die, less the octants dropped (R38, R168, R169). -/
def Base.creditGain (b : Base) (ch : Nat) : Nat :=
  40 * (8 - (b.droppedIn (b.setOf ch)).length) * (if b.dram.hot.getLsbD (dieOf ch) then 2 else 1)

/-- The refreshes that are owed and for which a planned slot was left, counted once each (R37): the deferral count of a channel, and
its banks' counts after it. -/
def deferRefresh (c : Chan) : Nat × Tab Nat :=
  (List.range 32).foldl (fun (a : Nat × Tab Nat) (k : Nat) =>
    let owed := Tab.get 0 c.debt k
    let old := Tab.get 0 c.counted k
    let room := c.slots - (a.2.map fun e => e.2).sum
    let n := min (owed - old) room
    (a.1 + n, Tab.set 0 a.2 k (old + n))) (0, c.counted)

/-- Action 6 of R28 for a channel. -/
def Base.allotRefresh (b : Base) (ch : Nat) : Base :=
  let x := b.set_ (b.setOf ch)
  if b.retired ch || (decide (2 ≤ x.state) && x.sre) then b
  else
    let (n, counted) := deferRefresh (b.chan ch)
    let credit := Tab.get 0 b.pl.credit ch + b.creditGain ch
    let owed := Tab.get 0 b.pl.charged ch
    let paid := min owed (credit / 39)
    let slots := min 24 (credit / 39 - paid)
    let b := b.updPl fun p => { p with
      credit := Tab.set 0 p.credit ch (credit - 39 * (paid + slots))
      charged := Tab.set 0 p.charged ch (owed - paid) }
    (b.updChan ch fun c => { c with slots := c.slots + slots, counted := counted }).deferred ch 0 n

/-! ### The tap frame (R512) -/

/-- A host's CAPACITY word: blocks held, the tenant of its default label, BOUND. -/
def Base.capWord (b : Base) (h : Nat) : Nat :=
  let owns := (List.range 8).any (fun k => tb (b.reg (Reg.ALLOC_BASE h k)) 31) || b.hosts.extents.any fun e => e.host.toNat == h
  h + 2 ^ 4 * (if owns then (b.effBlocks h).length else 0) + 2 ^ 16 * (b.tenantOf (b.defaultLabel h)) + (if b.bound h then 2 ^ 22 else 0)

/-- The words of a tenant's tallies that are not all zero. -/
def tallyWords (t : Nat) (x : Tally) : List Nat :=
  let rd := min 16383 x.linesRead; let wr := min 1048575 x.bytesWritten; let no := min 4095 x.refused
  (if rd + wr + no = 0 then [] else [t + 2 ^ 8 * rd + 2 ^ 24 * wr + 2 ^ 44 * no + 2 * 2 ^ 60])
    ++ (if x.moved = 0 then [] else [t + 2 ^ 8 * min (2 ^ 38 - 1) x.moved + 3 * 2 ^ 60])
    ++ (if x.acts + x.rows = 0 then [] else [t + 2 ^ 8 * min 32767 x.acts + 2 ^ 23 * min 65535 x.rows + 4 * 2 ^ 60])

/-- The frame of the ended epoch goes out on the tap; every thousandth names every host (R512). AON counts it as unheard while
VDD_RIND is absent (R507). -/
def Base.sendFrame (b : Base) (ended : BitVec 48) : Base :=
  let caps := (List.range 16).filter fun h => b.pl.epochs % 1000 == 0 || Tab.get 0 b.pack.capSent h != b.capWord h + 1
  let body := (b.pack.tallies.flatMap fun e => tallyWords e.1 e.2) ++ caps.map fun h => b.capWord h + 5 * 2 ^ 60
  let head := 2 ^ 60 + 2 ^ 48 * (body.length + 1) + ended.toNat
  let ws := (head :: body).map (BitVec.ofNat 64)
  let crc : BitVec 64 := BitVec.ofNat 64 ((crc32 (ws.flatMap tapHalves)).toNat + 6 * 2 ^ 60)
  let sent := caps.foldl (fun (t : Tab Nat) h => Tab.set 0 t h (b.capWord h + 1)) b.pack.capSent
  (b.updPack fun p => { p with
    tallies := [], capSent := sent, framesSent := satAdd (2 ^ 64 - 1) p.framesSent 1
    framesUnheard := if p.rindPresent then p.framesUnheard else satAdd (2 ^ 64 - 1) p.framesUnheard 1 }).emit (.tapFrame (ws ++ [crc]))

/-! ### The boundary (R28) -/

/-- Fences and isolations end whose clear has been accepted (R249, R396). -/
def Base.endFences (b : Base) : Base :=
  let u := b.coh.unisolate
  let b := { b with flt := { b.flt with fenced := b.flt.fenced &&& ~~~b.flt.unfence, unfence := 0 } }
  b.updCoh fun c => { c with isolated := c.isolated &&& ~~~u, swept := c.swept &&& ~~~u, ldReset := c.ldReset &&& ~~~u, unisolate := 0 }

/-- Row buses at a boundary: the cycles that descriptors have taken of the epoch begin anew (R265), and a bus whose full-width test has ended returns (R335), which ends the
hold of the sets (R360). -/
def Base.busBoundary (b : Base) : Base :=
  forN 4 (fun (q : Nat) (b : Base) =>
    let back := (b.bus q).tested && !(b.bus q).retired
    let b := b.updBus q fun x => { x with descCycles := 0, testing := x.testing && !x.tested, tested := false }
    let b := if back then forN 4 (fun (i : Nat) (b : Base) => b.updSet i fun x => { x with testHold := false }) b else b
    if back then b.fastPath q else b) b

/-- The bin of a reading (R490), in quarters of a degree. -/
def tempBin (r : Int) : Nat := if r < 0 then 1 else min 13 (2 + (r / 40).toNat)

/-- The ended epoch in the lifetime counters (R490). -/
def Base.liveEpoch (b : Base) : Base :=
  let temp := (List.range 20).foldl (fun (t : Tab Nat) (d : Nat) =>
    if (b.diode d).valid then Tab.upd 0 t (16 * d + tempBin (b.diode d).reading) (· + 1000) else t) b.dict.life.temp
  b.updDict fun d => { d with life := { d.life with powerNs := d.life.powerNs + 1000, temp := temp } }

/-- Action 1 of R28. -/
def Base.countEpoch (b : Base) : Base :=
  let b := b.updPl fun p => { p with phase := 0, epochs := p.epochs + 1, epoch := p.epoch + 1 }
  if b.pl.epoch = 0 then b.send .epochWrap 0x5BA 0 else b

/-- Timers that a boot held start at the boundary after BOOT_PHASE is left (R397). -/
def Base.freeTimers (b : Base) : Base := if b.flt.timersHeld && b.boot.run then b.restartTimers else b

/-- The actions of a boundary in the order of R28. Thermal steps and D come before action 3 (R314, R371). -/
def Base.boundary (b : Base) : Base :=
  let ended := b.pl.epoch
  let b := (b.liveEpoch.countNotActive.countEpoch).takeSnapshot ended
  let b := b.endFences.thermalBoundary.recomputeD.commitBoundary
  let b := b.swapPlan
  let b := b.applyCuts.replenish.foldLabels
  let b := forN 64 (fun (ch : Nat) (b : Base) => b.allotRefresh ch) b
  let b := (b.powerBoundary.busBoundary.freeTimers.sendFrame ended).pump
  if b.fwRuns then b.recordCanes else b

/-- EPOCH_BOUNDARY (R28): the controller clock runs once the internal cold reset is released. -/
def execEpochBoundary (s : State) : Host.Outcome State Fault Refusal := s.whenBase Base.alive Base.boundary

/-! ### Counter clears, stall and lifetime -/

/-- DEFER_CLEAR (R44). -/
def execDeferClear (v : Word) (s : State) : Host.Outcome State Fault Refusal :=
  s.whenBase Base.mgmtFull fun b => b.clearCounters Reg.DEFER_REFRESH 6 v

/-- FAULT_COUNT_CLEAR (R414). -/
def execFaultCountClear (v : Word) (s : State) : Host.Outcome State Fault Refusal :=
  s.whenBase Base.mgmtFull fun b => b.clearCounters Reg.LOGGED_COUNT 5 v

/-- Descriptors run or wait to be fetched. -/
def Base.moverPending (b : Base) : Bool := !b.mov.slots.isEmpty || b.mov.queues.any fun e => e.2.state == 1

/-- MOVER_STALL_RESET (R401): firmware resets the mover after 10 ms without progress with work pending. -/
def execMoverStallReset (s : State) : Host.Outcome State Fault Refusal :=
  s.whenBase (fun b => b.fwRuns && b.moverPending && decide (b.mov.lastProgress + 10000000 ≤ b.now)) fun b => b.countedReset 16

/-- LIFETIME_PERSIST (R490): once every 360 s. -/
def execLifetimePersist (s : State) : Host.Outcome State Fault Refusal :=
  s.whenBase (fun b => b.fwRuns && decide (b.dict.lifeFrom + 360000000 ≤ b.pl.epochs)) fun b =>
    b.updDict fun d => { d with lifeSaved := d.life, lifeFrom := b.pl.epochs }

end Sys2Proof.Machine
end

