-- ==== Sys2Proof/Machine/Dispatch.lean ====
section
/-! DEFINITION. Machine/Dispatch.lean: one arm per command. -/

namespace Sys2Proof.Machine

def exec (i : Instr) (s : State) : Host.Outcome State Fault Refusal :=
  match i with
  -- The epoch, commits, register writes and counter clears
  | .epochBoundary => Sys2Proof.Machine.execEpochBoundary s
  | .planComplete plan => Sys2Proof.Machine.execPlanComplete plan s
  | .firmwareWatchdog => Sys2Proof.Machine.execFirmwareWatchdog s
  | .commit src mask => Sys2Proof.Machine.execCommit src mask s
  | .registerWrite src off val be => Sys2Proof.Machine.execRegisterWrite src off val be s
  | .deferClear v => Sys2Proof.Machine.execDeferClear v s
  | .countClear b v => Sys2Proof.Machine.execCountClear b v s
  | .hostCountClear h v => Sys2Proof.Machine.execHostCountClear h v s
  | .layoutCountClear v => Sys2Proof.Machine.execLayoutCountClear v s
  | .dramCountClear v => Sys2Proof.Machine.execDramCountClear v s
  | .eccCountClear v => Sys2Proof.Machine.execEccCountClear v s
  | .chEccClear ch v => Sys2Proof.Machine.execChEccClear ch v s
  | .cohCountClear v => Sys2Proof.Machine.execCohCountClear v s
  | .moverCountClear v => Sys2Proof.Machine.execMoverCountClear v s
  | .qosCountClear v => Sys2Proof.Machine.execQosCountClear v s
  | .qosHistClear => Sys2Proof.Machine.execQosHistClear s
  | .siCountClear v => Sys2Proof.Machine.execSiCountClear v s
  | .ptCountClear v => Sys2Proof.Machine.execPtCountClear v s
  | .faultCountClear v => Sys2Proof.Machine.execFaultCountClear v s
  | .mgmtCountClear v => Sys2Proof.Machine.execMgmtCountClear v s
  -- Fabric lanes and link bring-up
  | .perstAssert p => Sys2Proof.Machine.execPerstAssert p s
  | .perstRelease p => Sys2Proof.Machine.execPerstRelease p s
  | .refclkLost p => Sys2Proof.Machine.execRefclkLost p s
  | .refclkRestored p => Sys2Proof.Machine.execRefclkRestored p s
  | .detectRetry b => Sys2Proof.Machine.execDetectRetry b s
  | .receiverDetected b lanes => Sys2Proof.Machine.execReceiverDetected b lanes s
  | .pollingComplete b locked => Sys2Proof.Machine.execPollingComplete b locked s
  | .pollingTimeout b locked => Sys2Proof.Machine.execPollingTimeout b locked s
  | .symbolLockDone b inverted => Sys2Proof.Machine.execSymbolLockDone b inverted s
  | .configurationComplete b offer => Sys2Proof.Machine.execConfigurationComplete b offer s
  | .configurationTimeout b => Sys2Proof.Machine.execConfigurationTimeout b s
  | .rateStepComplete b rate failed final => Sys2Proof.Machine.execRateStepComplete b rate failed final s
  | .eqFailed b rate => Sys2Proof.Machine.execEqFailed b rate s
  | .eqPhase2End b rate eyes => Sys2Proof.Machine.execEqPhase2End b rate eyes s
  | .phase3PresetRequest b set => Sys2Proof.Machine.execPhase3PresetRequest b set s
  | .flitReceived b f => Sys2Proof.Machine.execFlitReceived b f s
  | .flitAlignment b => Sys2Proof.Machine.execFlitAlignment b s
  | .alignmentLost b => Sys2Proof.Machine.execAlignmentLost b s
  | .lockLost l => Sys2Proof.Machine.execLockLost l s
  | .adaptFreeze b => Sys2Proof.Machine.execAdaptFreeze b s
  | .eyeCheck b eyes => Sys2Proof.Machine.execEyeCheck b eyes s
  | .hostRecoveryRequest b reeq => Sys2Proof.Machine.execHostRecoveryRequest b reeq s
  | .recoveryComplete b rate failed => Sys2Proof.Machine.execRecoveryComplete b rate failed s
  | .l0pEntry b width => Sys2Proof.Machine.execL0pEntry b width s
  | .l0pExit b => Sys2Proof.Machine.execL0pExit b s
  | .l1Entry b => Sys2Proof.Machine.execL1Entry b s
  | .l12Entry b => Sys2Proof.Machine.execL12Entry b s
  | .electricalIdleExit b => Sys2Proof.Machine.execElectricalIdleExit b s
  | .partLinkExit b => Sys2Proof.Machine.execPartLinkExit b s
  | .wakeTimeout b => Sys2Proof.Machine.execWakeTimeout b s
  | .hostLinkReset b disable => Sys2Proof.Machine.execHostLinkReset b disable s
  | .marginSessionStart l => Sys2Proof.Machine.execMarginSessionStart l s
  | .marginSessionEnd l => Sys2Proof.Machine.execMarginSessionEnd l s
  | .portHoldDetect b => Sys2Proof.Machine.execPortHoldDetect b s
  | .portRetrain b => Sys2Proof.Machine.execPortRetrain b s
  | .portReeq b => Sys2Proof.Machine.execPortReeq b s
  | .eyeCheckDisable b => Sys2Proof.Machine.execEyeCheckDisable b s
  | .laneReadmit l => Sys2Proof.Machine.execLaneReadmit l s
  | .laneForceExclude l => Sys2Proof.Machine.execLaneForceExclude l s
  | .pllUnlock p => Sys2Proof.Machine.execPllUnlock p s
  | .serdesRailBrownout => Sys2Proof.Machine.execSerdesRailBrownout s
  | .serdesRailRestored => Sys2Proof.Machine.execSerdesRailRestored s
  -- Fabric transactions and the label extension
  | .memRd r => Sys2Proof.Machine.execMemRd r s
  | .memRdData r => Sys2Proof.Machine.execMemRdData r s
  | .memInv r nt => Sys2Proof.Machine.execMemInv r nt s
  | .memSpecRd r => Sys2Proof.Machine.execMemSpecRd r s
  | .memRdFwd r opcode => Sys2Proof.Machine.execMemRdFwd r opcode s
  | .memWr r data poison => Sys2Proof.Machine.execMemWr r data poison s
  | .memWrPtl r data be => Sys2Proof.Machine.execMemWrPtl r data be s
  | .biConflict b ld tag dpa => Sys2Proof.Machine.execBiConflict b ld tag dpa s
  | .biRsp b ld dpa kind => Sys2Proof.Machine.execBiRsp b ld dpa kind s
  | .labelSlot b code a c => Sys2Proof.Machine.execLabelSlot b code a c s
  | .decoderCommit ld k d => Sys2Proof.Machine.execDecoderCommit ld k d s
  | .labelExtensionEnable ld enable code => Sys2Proof.Machine.execLabelExtensionEnable ld enable code s
  | .dcAddRequest h base limit => Sys2Proof.Machine.execDcAddRequest h base limit s
  | .dcExtentAccept h base limit => Sys2Proof.Machine.execDcExtentAccept h base limit s
  | .dcExtentRelease h base limit => Sys2Proof.Machine.execDcExtentRelease h base limit s
  | .dcForcedRelease h base limit => Sys2Proof.Machine.execDcForcedRelease h base limit s
  | .rangeHoldEnd h base limit => Sys2Proof.Machine.execRangeHoldEnd h base limit s
  | .ideKeySet b enable aggregation => Sys2Proof.Machine.execIdeKeySet b enable aggregation s
  | .getPoisonList ld base limit => Sys2Proof.Machine.execGetPoisonList ld base limit s
  | .setOctantTolerance h octant tol needed => Sys2Proof.Machine.execSetOctantTolerance h octant tol needed s
  | .getOctantTolerance h octant => Sys2Proof.Machine.execGetOctantTolerance h octant s
  | .clearEventRecords ld handles => Sys2Proof.Machine.execClearEventRecords ld handles s
  | .msixEnable ld enable mask entries => Sys2Proof.Machine.execMsixEnable ld enable mask entries s
  | .ldConventionalReset ld => Sys2Proof.Machine.execLdConventionalReset ld s
  | .scanMedia ld base limit => Sys2Proof.Machine.execScanMedia ld base limit s
  | .sanitize ld => Sys2Proof.Machine.execSanitize ld s
  -- Address map, DRAM scheduling, error correction, coherence
  | .fillComplete stripe => Sys2Proof.Machine.execFillComplete stripe s
  | .fillFallback stripe quadrants => Sys2Proof.Machine.execFillFallback stripe quadrants s
  | .fillTableFull => Sys2Proof.Machine.execFillTableFull s
  | .xlateDpaHi v => Sys2Proof.Machine.execXlateDpaHi v s
  | .initmapQuery v => Sys2Proof.Machine.execInitmapQuery v s
  | .channelSelect ch noise parity => Sys2Proof.Machine.execChannelSelect ch noise parity s
  | .refreshTick ch bank => Sys2Proof.Machine.execRefreshTick ch bank s
  | .starvation ch => Sys2Proof.Machine.execStarvation ch s
  | .trfComplete ch bank => Sys2Proof.Machine.execTrfComplete ch bank s
  | .throttleExpire ch bank label => Sys2Proof.Machine.execThrottleExpire ch bank label s
  | .driftVisit ch m => Sys2Proof.Machine.execDriftVisit ch m s
  | .retrainSlice ch values => Sys2Proof.Machine.execRetrainSlice ch values s
  | .trainCtrlStart ch => Sys2Proof.Machine.execTrainCtrlStart ch s
  | .channelTraining group results => Sys2Proof.Machine.execChannelTraining group results s
  | .storedTrainingLoad checks => Sys2Proof.Machine.execStoredTrainingLoad checks s
  | .lineDecode ch noise => Sys2Proof.Machine.execLineDecode ch noise s
  | .healClosed ch bank row col => Sys2Proof.Machine.execHealClosed ch bank row col s
  | .historyExpire ch => Sys2Proof.Machine.execHistoryExpire ch s
  | .bucketTick => Sys2Proof.Machine.execBucketTick s
  | .spareMoveRowInStage ch noise => Sys2Proof.Machine.execSpareMoveRowInStage ch noise s
  | .spareRowAssigned ch => Sys2Proof.Machine.execSpareRowAssigned ch s
  | .scrubRow ch => Sys2Proof.Machine.execScrubRow ch s
  | .scrubRowDecoded ch noise => Sys2Proof.Machine.execScrubRowDecoded ch noise s
  | .scrubVerifyDone ch noise => Sys2Proof.Machine.execScrubVerifyDone ch noise s
  | .scrubCycleLate ch => Sys2Proof.Machine.execScrubCycleLate ch s
  | .injArmNextWrite v => Sys2Proof.Machine.execInjArmNextWrite v s
  | .injRewriteNow v => Sys2Proof.Machine.execInjRewriteNow v s
  | .injClearAll v => Sys2Proof.Machine.execInjClearAll v s
  | .snoopTimeout h line => Sys2Proof.Machine.execSnoopTimeout h line s
  | .sweepDone => Sys2Proof.Machine.execSweepDone s
  | .trackersFull => Sys2Proof.Machine.execTrackersFull s
  | .hostIsolateClear h => Sys2Proof.Machine.execHostIsolateClear h s
  -- Row mover
  | .moverDoorbell h q tail => Sys2Proof.Machine.execMoverDoorbell h q tail s
  | .descFetch q noise => Sys2Proof.Machine.execDescFetch q noise s
  | .descStart slot => Sys2Proof.Machine.execDescStart slot s
  | .rowBusCycle bus ok noise => Sys2Proof.Machine.execRowBusCycle bus ok noise s
  | .descComplete slot => Sys2Proof.Machine.execDescComplete slot s
  | .claimSlow slot => Sys2Proof.Machine.execClaimSlow slot s
  | .moverStallReset => Sys2Proof.Machine.execMoverStallReset s
  | .moverRecovery => Sys2Proof.Machine.execMoverRecovery s
  -- Task labels
  | .lblStagePush v => Sys2Proof.Machine.execLblStagePush v s
  | .lblStageDiscard v => Sys2Proof.Machine.execLblStageDiscard v s
  | .lblViewSel v => Sys2Proof.Machine.execLblViewSel v s
  -- Stack integrity
  | .caneTestShift u => Sys2Proof.Machine.execCaneTestShift u s
  | .caneTestResult u res => Sys2Proof.Machine.execCaneTestResult u res s
  | .caneTestShiftBack u => Sys2Proof.Machine.execCaneTestShiftBack u s
  | .sweepLate => Sys2Proof.Machine.execSweepLate s
  | .fullwidthTestStart b => Sys2Proof.Machine.execFullwidthTestStart b s
  | .fullwidthTestDone b failed min weakest weak => Sys2Proof.Machine.execFullwidthTestDone b failed min weakest weak s
  | .siTestChannel ch => Sys2Proof.Machine.execSiTestChannel ch s
  | .siFullwidthNow b => Sys2Proof.Machine.execSiFullwidthNow b s
  | .droopWarn d arr vpp => Sys2Proof.Machine.execDroopWarn d arr vpp s
  | .droopFault d arr vpp => Sys2Proof.Machine.execDroopFault d arr vpp s
  | .droopHoldEnd d => Sys2Proof.Machine.execDroopHoldEnd d s
  | .heartbeatLoss d => Sys2Proof.Machine.execHeartbeatLoss d s
  | .guardExit d => Sys2Proof.Machine.execGuardExit d s
  | .guardStatusRead ch trip => Sys2Proof.Machine.execGuardStatusRead ch trip s
  | .heartbeatRecovery d => Sys2Proof.Machine.execHeartbeatRecovery d s
  -- Power and thermal
  | .powerStateEntry set state => Sys2Proof.Machine.execPowerStateEntry set state s
  | .sreIssue set => Sys2Proof.Machine.execSreIssue set s
  | .chSetPowerOff set => Sys2Proof.Machine.execChSetPowerOff set s
  | .setExitComplete set => Sys2Proof.Machine.execSetExitComplete set s
  | .octantDrop k => Sys2Proof.Machine.execOctantDrop k s
  | .sensorSample d reading trip loadChanged => Sys2Proof.Machine.execSensorSample d reading trip loadChanged s
  | .thermalTrip d reading mramCut coreFails => Sys2Proof.Machine.execThermalTrip d reading mramCut coreFails s
  -- Faults and events
  | .faultMessageAccept => Sys2Proof.Machine.execFaultMessageAccept s
  | .reactionTimerExpire scope => Sys2Proof.Machine.execReactionTimerExpire scope s
  | .escalateTimerExpire scope => Sys2Proof.Machine.execEscalateTimerExpire scope s
  | .faultAck v => Sys2Proof.Machine.execFaultAck v s
  | .faultNPulseEnd => Sys2Proof.Machine.execFaultNPulseEnd s
  | .releaseFaultN => Sys2Proof.Machine.execReleaseFaultN s
  | .fenceClear v => Sys2Proof.Machine.execFenceClear v s
  | .resetCtrl v => Sys2Proof.Machine.execResetCtrl v s
  | .shadowClose block => Sys2Proof.Machine.execShadowClose block s
  | .flogSel v => Sys2Proof.Machine.execFlogSel v s
  | .flogRd v => Sys2Proof.Machine.execFlogRd v s
  | .mramLogPersist => Sys2Proof.Machine.execMramLogPersist s
  -- Boot, lifecycle, fuses and SPDM
  | .internalColdResetRelease straps strapError gradeE mram => Sys2Proof.Machine.execInternalColdResetRelease straps strapError gradeE mram s
  | .imageLoaded slotB img => Sys2Proof.Machine.execImageLoaded slotB img s
  | .bootExit who => Sys2Proof.Machine.execBootExit who s
  | .memoryActive => Sys2Proof.Machine.execMemoryActive s
  | .resetCmdWarm v => Sys2Proof.Machine.execResetCmdWarm v s
  | .resetCmdCold v => Sys2Proof.Machine.execResetCmdCold v s
  | .fmResetCommand => Sys2Proof.Machine.execFmResetCommand s
  | .watchdogExpire => Sys2Proof.Machine.execWatchdogExpire s
  | .bootTimerExpire => Sys2Proof.Machine.execBootTimerExpire s
  | .wdogKick who v => Sys2Proof.Machine.execWdogKick who v s
  | .fuseRead v low high => Sys2Proof.Machine.execFuseRead v low high s
  | .fuseProgram by_ word value => Sys2Proof.Machine.execFuseProgram by_ word value s
  | .fuseProgramDone ok => Sys2Proof.Machine.execFuseProgramDone ok s
  | .fuseLock region => Sys2Proof.Machine.execFuseLock region s
  | .marginScan noise => Sys2Proof.Machine.execMarginScan noise s
  | .graftAppend a entry lines => Sys2Proof.Machine.execGraftAppend a entry lines s
  | .voidWords by_ words => Sys2Proof.Machine.execVoidWords by_ words s
  | .lifecycleReturn a => Sys2Proof.Machine.execLifecycleReturn a s
  | .lifecycleVoid by_ => Sys2Proof.Machine.execLifecycleVoid by_ s
  | .jtagUnlock a => Sys2Proof.Machine.execJtagUnlock a s
  | .lifecycleAdvance by_ bit => Sys2Proof.Machine.execLifecycleAdvance by_ bit s
  | .raiseSvnFloor p v => Sys2Proof.Machine.execRaiseSvnFloor p v s
  | .firmwareSlotWrite slotB img => Sys2Proof.Machine.execFirmwareSlotWrite slotB img s
  | .rcvGo slotB chunk => Sys2Proof.Machine.execRcvGo slotB chunk s
  | .rcvChunkDone error => Sys2Proof.Machine.execRcvChunkDone error s
  | .rcvFinish slotB img => Sys2Proof.Machine.execRcvFinish slotB img s
  | .spdmGetVersion p => Sys2Proof.Machine.execSpdmGetVersion p s
  | .spdmGetCapabilities p => Sys2Proof.Machine.execSpdmGetCapabilities p s
  | .spdmNegotiateAlgorithms p offered => Sys2Proof.Machine.execSpdmNegotiateAlgorithms p offered s
  | .spdmGetDigests p => Sys2Proof.Machine.execSpdmGetDigests p s
  | .spdmGetCertificate p slot => Sys2Proof.Machine.execSpdmGetCertificate p slot s
  | .spdmChallenge p slot => Sys2Proof.Machine.execSpdmChallenge p slot s
  | .spdmGetMeasurements p index signed => Sys2Proof.Machine.execSpdmGetMeasurements p index signed s
  | .spdmKeyExchange p slot session => Sys2Proof.Machine.execSpdmKeyExchange p slot session s
  | .spdmFinish p session macOk => Sys2Proof.Machine.execSpdmFinish p session macOk s
  | .spdmEndSession p session => Sys2Proof.Machine.execSpdmEndSession p session s
  | .spdmHeartbeat p session => Sys2Proof.Machine.execSpdmHeartbeat p session s
  -- Management port and mailboxes
  | .mgmtPerst => Sys2Proof.Machine.execMgmtPerst s
  | .mgmtPerstRelease => Sys2Proof.Machine.execMgmtPerstRelease s
  | .barUnmapped off write => Sys2Proof.Machine.execBarUnmapped off write s
  | .diagWindowRead off bytes => Sys2Proof.Machine.execDiagWindowRead off bytes s
  | .diagWindowWrite off lines => Sys2Proof.Machine.execDiagWindowWrite off lines s
  | .appliedAddr v => Sys2Proof.Machine.execAppliedAddr v s
  | .locksWrite v => Sys2Proof.Machine.execLocksWrite v s
  | .snapSel v => Sys2Proof.Machine.execSnapSel v s
  | .mbxPost who c v => Sys2Proof.Machine.execMbxPost who c v s
  | .mbxPop who c => Sys2Proof.Machine.execMbxPop who c s
  | .mbxCrossedClear who c => Sys2Proof.Machine.execMbxCrossedClear who c s
  | .mbxLockRead who c => Sys2Proof.Machine.execMbxLockRead who c s
  | .mbxLockRelease who c v => Sys2Proof.Machine.execMbxLockRelease who c v s
  | .mbxWake who b => Sys2Proof.Machine.execMbxWake who b s
  | .mbxWakeDone b => Sys2Proof.Machine.execMbxWakeDone b s
  | .mctpSetEndpointId r eid => Sys2Proof.Machine.execMctpSetEndpointId r eid s
  | .mctpGetEndpointId r => Sys2Proof.Machine.execMctpGetEndpointId r s
  | .mctpGetEndpointUuid r => Sys2Proof.Machine.execMctpGetEndpointUuid r s
  | .mctpGetVersionSupport r => Sys2Proof.Machine.execMctpGetVersionSupport r s
  | .mctpGetMessageTypeSupport r => Sys2Proof.Machine.execMctpGetMessageTypeSupport r s
  | .mctpGetVendorMsgSupport r => Sys2Proof.Machine.execMctpGetVendorMsgSupport r s
  | .fmApiCommand p => Sys2Proof.Machine.execFmApiCommand p s
  | .i3cEntdaa addr => Sys2Proof.Machine.execI3cEntdaa addr s
  | .i3cSetdasa staticAddr addr => Sys2Proof.Machine.execI3cSetdasa staticAddr addr s
  | .domainPowerOff b => Sys2Proof.Machine.execDomainPowerOff b s
  -- Object dictionary and configuration versions
  | .odRead p op index sub => Sys2Proof.Machine.execOdRead p op index sub s
  | .odWrite p index sub data => Sys2Proof.Machine.execOdWrite p index sub data s
  | .versionOpen p => Sys2Proof.Machine.execVersionOpen p s
  | .versionDiscard p => Sys2Proof.Machine.execVersionDiscard p s
  | .versionCommit p => Sys2Proof.Machine.execVersionCommit p s
  | .versionStored mramOk => Sys2Proof.Machine.execVersionStored mramOk s
  | .versionConfirm p => Sys2Proof.Machine.execVersionConfirm p s
  | .versionRollback p => Sys2Proof.Machine.execVersionRollback p s
  | .confirmWindowExpire => Sys2Proof.Machine.execConfirmWindowExpire s
  | .calendarSet p sec ns => Sys2Proof.Machine.execCalendarSet p sec ns s
  | .lifetimePersist => Sys2Proof.Machine.execLifetimePersist s
  -- Rind
  | .rindTapFrame words => Sys2Proof.Machine.execRindTapFrame words s
  | .rindMsTick => Sys2Proof.Machine.execRindMsTick s
  | .rindCheckpoint => Sys2Proof.Machine.execRindCheckpoint s
  | .rindPeriodRecord => Sys2Proof.Machine.execRindPeriodRecord s
  | .rindPowerUp lostRecord lostCounter chainBreak => Sys2Proof.Machine.execRindPowerUp lostRecord lostCounter chainBreak s
  | .rindSealDelivery => Sys2Proof.Machine.execRindSealDelivery s
  | .rindGetInfo busy => Sys2Proof.Machine.execRindGetInfo busy s
  | .rindGetRecord seq busy => Sys2Proof.Machine.execRindGetRecord seq busy s
  | .rindCloseInterval busy => Sys2Proof.Machine.execRindCloseInterval busy s
  | .rindChallenge nonce busy => Sys2Proof.Machine.execRindChallenge nonce busy s
  | .rindVoltageExcursion => Sys2Proof.Machine.execRindVoltageExcursion s
  | .rindClockFault => Sys2Proof.Machine.execRindClockFault s
  -- Rails and JTAG
  | .vddAuxBrownout => Sys2Proof.Machine.execVddAuxBrownout s
  | .coreRailBrownout rail => Sys2Proof.Machine.execCoreRailBrownout rail s
  | .vddRindLoss => Sys2Proof.Machine.execVddRindLoss s
  | .jtagInstruction op => Sys2Proof.Machine.execJtagInstruction op s
  | .tapReset => Sys2Proof.Machine.execTapReset s

end Sys2Proof.Machine
end

