-- ==== Sys2Proof/Machine/Flags.lean ====
section
/-! DEFINITION. Machine/Flags.lean: what a read of a register returns (R9, R13): the status fields that the register maps compute from
the state, and the values held. -/

namespace Sys2Proof.Machine

/-- A word made of fields: pairs of a field's low bit and its value. -/
def packed (l : List (Nat × Nat)) : Word := BitVec.ofNat 32 (l.map fun e => e.2 * 2 ^ e.1).sum

/-- A truth value as a field. -/
def flag (b : Bool) : Nat := if b then 1 else 0

/-- The members of a rising list of numbers as bits. -/
def bitsOf (l : List Nat) : Nat := (l.map fun k => 2 ^ k).sum

/-- Part of a whole in percent. -/
def percent (part whole : Nat) : Nat := min 100 (100 * part / max 1 whole)

/-- A signed number of steps in 8 bits. -/
def steps8 (i : Int) : Nat := (BitVec.ofInt 8 i).toNat

/-! ### Planner and ports (R45, R47, R85 to R91) -/

/-- Largest refresh debt of a channel. -/
def Chan.maxOwed (c : Chan) : Nat := ((List.range 32).map fun k => Tab.get 0 c.debt k).foldl max 0

/-- EPOCH_STATUS (R45). -/
def Base.epochStatus (b : Base) : Word :=
  let owed := ((List.range 64).map fun c => (b.chan c).maxOwed).foldl max 0
  packed [(0, flag b.pl.fallback), (1, flag b.pl.boundaryCommit), (2, flag (b.dram.hot != 0)), (3, flag (owed == 8)), (8, owed)]

/-- SNAPSHOT_STATUS (R47). -/
def Base.snapshotStatus (b : Base) : Word :=
  packed [(0, flag (b.pl.newest.isSome && !b.pl.newestOpened)), (16, match b.pl.newest with | some x => x.seq % 65536 | none => 0)]

/-- PORT_STATUS.LINK_STATE (R87); symbol lock shows as Polling. -/
def LinkState.code : LinkState → Nat
  | .detect => 0 | .polling => 1 | .symbolLock => 1 | .configuration => 2 | .rateStep => 5 | .l0 => 3 | .recovery => 4 | .recoveryEq => 5
  | .l0p => 6 | .l1 => 7 | .l12 => 8 | .hotReset => 9 | .disabled => 10 | .held => 11

/-- The link is up: L0, L0p, L1 or L1.2 (R87). -/
def LinkState.up : LinkState → Bool
  | .l0 | .l0p | .l1 | .l12 => true
  | _ => false

/-- PORT_STATUS (R87). -/
def Base.portStatus (b : Base) (k : Nat) : Word :=
  let p := b.port k
  packed [(0, p.link.code), (5, p.rate), (8, if p.linked then p.width else 0), (12, p.flitFormat), (14, flag p.cxlMode), (15, flag p.reversed),
    (16, flag p.frozen), (17, flag (b.split (k / 2))), (18, flag p.link.up)]

/-- LANE_STATUS (R90): 8b/10b symbol lock exists at 2.5 and 5 GT/s only, block lock at 8 GT/s and above. -/
def Base.laneStatus (b : Base) (l : Nat) : Word :=
  let x := b.lane l
  let rate := (b.port (b.blockOfLane l)).rate
  packed [(0, flag x.bitLock), (1, flag (x.symLock && decide (rate < 2))), (2, flag (if rate = 5 then (b.port (b.blockOfLane l)).aligned else x.blockLock && decide (2 ≤ rate))),
    (3, flag x.polarity), (4, flag x.excluded), (5, flag x.margining), (8, x.logical)]

/-- LANE_EYE (R91): AGE in ms. -/
def Base.laneEye (b : Base) (l : Nat) : Word :=
  let x := b.lane l
  match x.eyeAt with
  | some t => packed [(0, x.height.toNat), (8, x.widthUI.toNat), (16, min 255 ((b.now - t) / 1000000))]
  | none => 0

/-- LANE_EYE_BASE (R91). -/
def Base.laneEyeBase (b : Base) (l : Nat) : Word :=
  let x := b.lane l
  packed [(0, x.baseHeight.toNat), (8, x.baseWidth.toNat), (16, x.baseRate)]

/-- HOST_STATUS (R126). -/
def Base.hostStatus (b : Base) (h : Nat) : Word :=
  let mine := b.hosts.extents.filter fun e => e.host.toNat == h
  packed [(0, flag (b.coh.isolated.getLsbD h)), (1, flag (mine.any fun e => e.stage == .offered)), (8, (mine.filter fun e => e.stage != .offered).length)]

/-! ### Layout, channels and error correction (R150, R187, R227) -/

/-- LAYOUT_STATUS (R128, R150). -/
def Base.layoutStatus (b : Base) : Word :=
  let a := b.activeVersion.logWidth
  packed [(0, b.lay.n - 4), (4, b.sets), (8, b.octants), (16, a - 4), (18, flag (a != b.lay.n))]

/-- INITMAP_QUERY.MARKED (R150). -/
def Base.queryMarked (b : Base) : Bool :=
  let st := b.rf Reg.INITMAP_QUERY 20 0
  Tab.get false b.lay.marked st || b.lay.fills.any fun f => f.stripe == st

/-- STORED_USED (R171, R188): the last boot used stored training for every channel that is not retired. -/
def Base.storedUsed (b : Base) : Bool := b.boot.memActive && (List.range 64).all fun c => b.retired c || (b.chan c).usedStored

/-- TRAIN_STATUS (R187). -/
def Base.trainStatus (b : Base) : Word :=
  packed [(0, flag b.dram.retraining.isSome), (8, b.dram.retraining.getD 0), (16, b.dram.retrainWait.length), (24, flag b.storedUsed)]

/-- CH_STATUS.STATE (R187): its reset value 0 under the internal cold reset. A DROPPED set has no code of its own: its channels are in
self-refresh and read 2 (DESIGN CHOICE, entry 116). -/
def Base.chState (b : Base) (c : Nat) : Nat :=
  let x := b.set_ (b.setOf c)
  match (b.chan c).train with
  | .retired => 7
  | .sliced => 6
  | .untrained | .training => if b.boot.coldHeld then 0 else 5
  | .trained => if x.exiting then 4 else if x.state ≤ 1 then x.state else if x.sre then 2 else 3

/-- CH_STATUS (R187). -/
def Base.chStatus (b : Base) (c : Nat) : Word :=
  packed [(0, b.chState c), (3, flag (b.dram.hot.getLsbD (dieOf c))), (4, flag (b.chan c).drain), (8, bitsOf (b.droppedIn (b.setOf c)))]

/-- CH_QUEUE (R187). -/
def Base.chQueue (b : Base) (c : Nat) : Word :=
  let x := b.chan c
  packed [(0, min 64 x.readQ.length), (8, min 64 x.writeQ.length), (16, x.rowQ.length), (24, x.xbar.length)]

/-- The centre that lies farthest from its trained value, among the canes of an eye (R172). -/
def farthest (l : List Int) : Int := l.foldl (fun a x => if a.natAbs < x.natAbs then x else a) 0

/-- The least of some eye widths; 0 before any is known. -/
def leastWidth : List Nat → Nat
  | [] => 0
  | a :: t => t.foldl min a

/-- CH_DRIFT (R187): the offsets of the canes that are farthest off, the least width of both eyes, VISIT_AGE in ms. -/
def Base.chDrift (b : Base) (c : Nat) : Word :=
  let x := b.chan c
  packed [(0, steps8 (farthest x.readCentres)), (8, steps8 (farthest x.writeCentres)), (16, leastWidth (x.readWidths ++ x.writeWidths) % 256),
    (24, min 255 ((b.pl.epochs - x.visitAt) / 1000))]

/-- CH_THROTTLE (R187). -/
def Base.chThrottle (b : Base) (c : Nat) : Word :=
  let x := b.chan c
  packed [(0, (x.throttles.filter fun t => decide (b.pl.epochs < t.until_)).length), (16, x.lastThrottled.toNat)]

/-- CH_REFRESH (R187). -/
def Base.chRefresh (b : Base) (c : Nat) : Word :=
  let x := b.chan c
  let m := x.maxOwed
  packed [(0, m), (4, ((List.range 32).find? fun k => Tab.get 0 x.debt k == m).getD 0), (16, min 0xFFFF x.trfCount)]

/-- Channels that are not retired. -/
def Base.liveChans (b : Base) : List Nat := (List.range 64).filter fun c => !b.retired c

/-- SCRUB_STATUS (R226): the slowest channel, and whole-part cycles. -/
def Base.scrubStatus (b : Base) : Word :=
  let least := fun (f : Chan → Nat) (top : Nat) => (b.liveChans.map fun c => f (b.chan c)).foldl min top
  packed [(0, percent (least (fun c => c.scrubPos) 2097152) 2097152), (8, least (fun c => c.scrubCycles) 255),
    (16, flag (b.liveChans.any fun c => (b.chan c).scrubLate))]

/-- BUCKET_DATA of the bank BUCKET_SEL names (R198, R199). -/
def Base.bucketData (b : Base) : Word :=
  let k := b.rf Reg.BUCKET_SEL 10 0
  packed [(0, Tab.get 0 b.dram.buckets k), (7, flag (Tab.get false b.dram.overflowed k)), (8, (b.chan (k / 32)).sparesLeft (k % 32)),
    (16, min 0xFFFF (Tab.get 0 b.dram.corrections k))]

/-- INJ_STATUS (R221, R223). -/
def Base.injStatus (b : Base) : Word :=
  packed [(0, b.dram.injections.length), (8, flag b.dram.armed.isSome), (9, flag b.dram.injRefused), (12, b.dram.injReason)]

/-- CH_ECC_STATUS (R191). -/
def Base.chEccStatus (b : Base) (c : Nat) : Word :=
  let e := (b.chan c).erased
  packed [(0, e.getD 0 0x3F), (8, e.getD 1 0x3F), (16, e.length), (20, 6 - e.length)]

/-- CH_REPAIR (R208, R204, R200, R211). -/
def Base.chRepair (b : Base) (c : Nat) : Word :=
  let x := b.chan c
  packed [(0, x.remap.length), (4, flag (x.remap.length == 8)), (8, x.history.length), (16, min 16 x.healQ.length),
    (24, ((List.range 32).filter fun k => x.sparesLeft k == 0).length)]

/-- CH_SCRUB_POS (R215, R217). -/
def Base.chScrubPos (b : Base) (c : Nat) : Word :=
  packed [(0, (b.chan c).scrubPos), (24, min 127 (b.chan c).scrubRetries)]

/-! ### Coherence, mover and labels (R256, R299, R324) -/

/-- COH_STATUS. -/
def Base.cohStatus (b : Base) : Word :=
  packed [(0, b.coh.trackers.length), (16, b.coh.victims.length), (24, flag b.coh.dirRecovered)]

/-- Rows of a sweep's blocks: 4,096 stripes of 64 rows a block. -/
def Sweep.rows (w : Sweep) : Nat := (w.blocks.map fun r => (r.2 + 1 - r.1) * 262144).sum

/-- Rows of a sweep's blocks that it has passed. -/
def Sweep.passed (w : Sweep) : Nat := (w.blocks.map fun r => min ((r.2 + 1 - r.1) * 262144) (w.at_ - r.1 * 262144)).sum

/-- SWEEP_STATUS. -/
def Base.sweepStatus (b : Base) : Word :=
  let waiting := bitsOf ((List.range 16).filter fun h => b.coh.sweeps.any fun w => w.host.toNat == h)
  match b.coh.sweeps with
  | w :: _ => packed [(0, 1), (4, w.host.toNat), (8, percent w.passed w.rows), (16, waiting)]
  | [] => 0

/-- MOVER_STATUS. -/
def Base.moverStatus (b : Base) : Word :=
  packed [(0, b.mov.slots.length), (8, bitsOf ((List.range 4).filter b.busServes)), (12, flag (b.mov.domain == .on || b.mov.domain == .goingOff)),
    (16, min 64 (b.lay.fills.filter fun f => f.claim.isSome).length), (24, min 16 b.mov.checkpoints.length)]

/-- MQ_STATUS. -/
def Base.mqStatus (b : Base) (q : Nat) : Word :=
  let x := b.queue q
  packed [(0, x.head), (12, x.tail), (24, x.state), (28, x.error)]

/-- QOS_STATUS (R324). -/
def Base.qosStatus (b : Base) : Word :=
  packed [(0, bitsOf ((List.range 8).filter fun c => decide (0 < b.qos.cut.getD c 0))), (8, flag b.qos.thermalCut), (9, flag b.qos.lastRefused),
    (10, flag b.qos.foldOverflow), (12, b.qos.lastReason)]

/-- Configured and effective reservations of the classes below `n`. -/
def Base.reserveOf (b : Base) (n : Nat) : Word :=
  let own := b.qos.table.filter fun e => decide (e.2.cls < n)
  packed [(0, min 0xFFFF (own.map fun e => e.2.reserve).sum), (16, min 0xFFFF (own.map fun e => b.effReserve e.2).sum)]

/-- LBL_STAGE_STATUS (R323). -/
def Base.stageStatus (b : Base) : Word :=
  packed [(0, b.qos.staging.length), (16, flag (decide (256 ≤ b.qos.staging.length))), (17, flag b.qos.pushRefused)]

/-! ### Canes, dies, power and sensors (R353, R379) -/

/-- SI_STATUS. -/
def Base.siStatus (b : Base) : Word :=
  let out := b.si.segOut.isSome || b.si.heartbeatOut.isSome || (List.range 64).any fun c => (b.canes c).testOut.isSome
  let done := ((List.range 9424).filter fun k => b.si.tested.getLsbD k).length
  packed [(0, flag out), (1, b.si.fwActive.getD 0), (3, flag b.si.fwActive.isSome), (8, percent done 9424), (16, b.si.cycles), (24, flag b.si.late)]

/-- CH_CANE_STATUS. -/
def Base.chCaneStatus (b : Base) (c : Nat) : Word :=
  let x := b.canes c
  packed [(0, ((List.range 4).filter fun k => x.useOf k == 0x3C).length), (3, (b.chan c).erased.length), (5, flag (b.retired c)),
    (6, flag (x.useOf 3 == 0x3D)), (7, flag x.testOut.isSome), (8, min 63 x.minWidth), (16, x.weakest)]

/-- CH_CANE_MAP. -/
def Base.chCaneMap (b : Base) (c : Nat) : Word := packed ((List.range 4).map fun k => (8 * k, (b.canes c).useOf k))

/-- RB_CANE_STATUS. -/
def Base.rbCaneStatus (b : Base) (q : Nat) : Word :=
  let x := b.bus q
  let out := match b.si.segOut with | some o => o.1 == q | none => false
  packed [(0, (b.busFree q).length), (16, x.erased.length), (20, flag x.retired), (21, flag x.testing), (22, flag out), (24, min 255 x.minWidth)]

/-- DIE_GUARD. -/
def Base.dieGuardWord (b : Base) (d : Nat) : Word :=
  let g := b.guard d
  packed [(0, g.state), (2, flag g.onBackup), (3, flag !b.backupReady d), (4, g.reason), (8, min 255 g.entries), (16, min 0xFFFF g.ignored)]

/-- The lowest codes of the last epoch (R342, R353): 0 before an epoch has ended since the reset, and free where no crossing was reported, since no
command brings the codes of a rail that stays above its thresholds (entry 144). -/
def Base.supplyLow (b : Base) (d : Nat) : Byte × Byte :=
  let e := b.pl.epochs
  if e ≤ b.si.supplyFrom then (0, 0)
  else match (b.guard d).lows.filter fun x => x.1 + 1 == e with
    | [] => (Config.railLow d e false, Config.railLow d e true)
    | x :: t => t.foldl (fun a y => (if y.2.1.toNat < a.1.toNat then y.2.1 else a.1, if y.2.2.toNat < a.2.toNat then y.2.2 else a.2)) x.2

/-- DIE_SUPPLY. -/
def Base.dieSupply (b : Base) (d : Nat) : Word :=
  let g := b.guard d
  let recent := fun l : List Nat => min 255 (l.filter fun t => decide (b.pl.epochs < t + 1000)).length
  packed [(0, (b.supplyLow d).1.toNat), (8, (b.supplyLow d).2.toNat), (16, recent g.warns), (24, recent g.holds)]

/-- POWER_STATUS. -/
def Base.powerStatus (b : Base) : Word :=
  packed (((List.range b.sets).map fun s => (2 * s, (b.set_ s).state)) ++ [(8, ((List.range 32).filter fun k => b.pw.dropped.getLsbD k).length)])

/-- The code of a diode's last reading; 0 before its first sample (R380). -/
def Diode.code (x : Diode) : Nat := if x.valid then tempCode x.reading else 0

/-- THERMAL_STATUS. -/
def Base.thermalStatus (b : Base) : Word :=
  let top := fun l : List Nat => l.foldl (fun m d => if (b.diode m).code < (b.diode d).code then d else m) (l.head?.getD 0)
  let d := top (List.range 16)
  let e := top ((List.range 4).map (· + 16))
  packed [(0, (b.diode d).code), (8, d), (12, ((List.range 16).map fun k => (b.diode k).step).foldl max 0), (16, (b.diode e).code),
    (24, flag ((List.range 20).any fun k => b.nearLimit k)), (25, flag ((List.range 20).any fun k => (b.diode k).failed)), (26, b.pw.floor)]

/-- SET_POWERs. -/
def Base.setPower (b : Base) (s : Nat) : Word :=
  let x := b.set_ s
  packed [(0, x.state), (2, flag x.exiting), (3, flag x.testHold), (8, bitsOf (b.droppedIn s))]

/-- SET_TOLs: its reset value 0 under the internal cold reset. -/
def Base.setTolWord (b : Base) (s : Nat) : Word := if b.boot.coldHeld then 0 else BitVec.ofNat 32 (b.setTol s)

/-- OCTANT_STATUSk: its reset value, NEEDED alone, under the internal cold reset. -/
def Base.octantStatus (b : Base) (k : Nat) : Word :=
  let t := b.tolOf k
  if b.boot.coldHeld then 1
  else packed [(0, flag (b.neededOf k)), (1, flag (b.pw.dropped.getLsbD k)), (2, flag !(b.owners k).isEmpty), (3, flag (b.ringIn k)),
    (16, if t = unlimited then 0xFFFF else min 0xFFFE (t / 100))]

/-- TEMPi. -/
def Base.tempWord (b : Base) (d : Nat) : Word :=
  let x := b.diode d
  packed [(0, x.code), (8, flag x.valid), (9, flag x.failed), (10, flag (b.nearLimit d)), (11, if d < 16 then x.step else 0),
    (16, if x.valid then min 255 ((b.pl.epochs - x.sampledAt) / 10) else 0), (24, if x.valid then tempCode x.highest else 0)]

/-! ### Faults and boot (R413, R445) -/

/-- A scope's timer runs. -/
def Base.timerRuns (b : Base) (scope : Nat) : Bool := b.flt.timers.any fun t => t.scope == scope

/-- FAULT_STATUS. -/
def Base.faultStatus (b : Base) : Word :=
  let (k, src) := match b.flt.lastFatal with | some x => (x.1.code, x.2) | none => (0, 0)
  packed [(0, flag b.flt.fatal), (1, flag b.flt.faultNLow), (2, flag (b.flt.viral != 0)), (3, flag (b.timerRuns 48)), (4, flag b.flt.hold),
    (8, k), (16, src)]

/-- RESET_STATUS. -/
def Base.resetStatus (b : Base) : Word :=
  packed [(0, bitsOf ((List.range 19).filter fun k => b.flt.shadows.any fun s => s.block == k)), (24, b.flt.lastRefused), (31, flag b.flt.refused)]

/-- FLOG_HEAD: the newest sequence number; 0 while the log is empty. -/
def Base.flogHead (b : Base) : Nat := if b.flt.log.isEmpty then 0 else b.flt.nextSeq - 1

/-- BOOT_STATUS. -/
def Base.bootStatus (b : Base) : Word :=
  let x := b.boot
  packed [(0, x.resetKind), (2, flag x.slotB), (3, flag x.slotFallback), (4, flag x.retained), (5, x.attempts), (7, flag x.recovery), (8, min 255 x.grafts),
    (16, x.replacements), (24, x.graftSeal)]

/-- LIFECYCLE_STATUS. -/
def State.lifecycleStatus (s : State) : Word :=
  let locked := bitsOf (([(0, 0), (1, 2), (2, 4), (3, 5)].filter fun e => regionLocked s.otp e.2).map fun e => e.1)
  packed [(0, s.base.boot.lifecycle), (4, lifecycleOf (otpRaw s.otp 0x40)), (8, locked), (12, flag s.base.instrOpen)]

/-- FUSE_STATUS. -/
def Base.fuseStatus (b : Base) : Word :=
  let op := match b.boot.fuseOp with | none => 0 | some .lock => 3 | some _ => 1
  packed [(0, flag (op != 0)), (1, op), (8, min 255 (b.boot.journal.filter fun e => decide (e.state ≠ .complete)).length), (16, b.boot.marginal)]

/-! ### Mailboxes, recovery and the dictionary window (R467, R477, R486) -/

/-- The notice at the head of a channel. -/
def Base.mbxHead (b : Base) (c : Nat) : Notice := ((b.mbx c).fifo.head?).getD { ptr := 0, len := 0, seq := 0 }

/-- MBX_STATUS (R469, R474). -/
def Base.mbxStatus (b : Base) (c : Nat) : Word :=
  let m := b.mbx c
  packed [(0, m.fifo.length), (3, flag (decide (4 ≤ m.fifo.length))), (4, m.lastPost), (8, flag m.crossed)]

/-- MBX_WAKE of a bank (R472, R479): ON and WAKE_DONE. The doorbells lie in AON, and nothing is powered under the internal cold reset. -/
def Base.wakeWord (b : Base) (k : Nat) : Word :=
  packed [(0, flag (!b.boot.coldHeld && b.bankOn k)), (1, flag (b.mg.wakeDone.getLsbD k))]

/-- LBL_VIEW_SEL (R325). -/
def Base.viewSel (b : Base) : Word := packed [(0, b.rf Reg.LBL_VIEW_SEL 15 0), (31, flag b.qos.viewValid)]

/-- APPLIED_ADDR (R458). -/
def Base.appliedAddr (b : Base) : Word :=
  BitVec.ofNat 32 (b.mg.applyOffset + (if b.mg.applyValid ∧ (groupOf b.mg.applyOffset).isNone then 2 ^ 30 else 0) + (if b.mg.applyValid then 2 ^ 31 else 0))

/-- RCV_STATUS. -/
def Base.rcvStatus (b : Base) : Word :=
  packed [(0, flag b.mg.rcvBusy), (1, flag b.mg.rcvDone), (2, b.mg.rcvError), (8, b.mg.rcvResult)]

/-- OD_STATUS. -/
def Base.odStatusWord (b : Base) : Word :=
  let d := b.dict
  packed [(0, flag d.odBusy), (1, flag d.odDone), (8, d.odStatus), (16, d.odType), (20, d.odLen)]

/-! ### The read (R9) -/

/-- The register of a row that lies at an offset: its number in the row. -/
def RegRow.indexOf (r : RegRow) (off : Nat) : Nat :=
  let d := off - r.base
  (if r.n1 ≤ 1 then 0 else d / r.s1) * r.n2 + (if r.n1 ≤ 1 then d else d % r.s1) / r.s2

/-- The status registers, by the offset of their row and their number in it; none for a register whose value is held. -/
def State.statusWord (s : State) (row k : Nat) : Option Word :=
  let b := s.base
  match row with
  | 0x0 => some (packed [(0, 0x0128), (16, flag b.boot.gradeE)])
  | 0x8 => some (packed [(0, bitsOf ((List.range 16).filter fun g => b.mg.captures.any fun c => c.group == g)), (16, flag b.versionBusy)])
  | 0xC => some (packed [(0, b.mg.lastApplied.toNat), (16, b.mg.groupRefused.toNat)])
  | 0x10 => some b.appliedAddr
  | 0x14 => some (if (groupOf b.mg.applyOffset).isSome then b.reg b.mg.applyOffset else 0)
  | 0x18 => some b.mg.locks
  | 0x20 => some (packed [(0, flag b.mg.snapValid), (1, flag b.mg.snapBad)])
  | 0x24 => some (b.mg.snapWords.getD k 0)
  | 0x54 => some (packed [(0, b.mg.eidPcie.toNat), (8, b.mg.eidI3c.toNat), (16, b.mg.i3cAddr.toNat)])
  | 0x20000 => some b.epochStatus
  | 0x20028 => some b.snapshotStatus
  | 0x30000 => some (b.portStatus k)
  | 0x31000 => some (b.links.straps.setWidth 32)
  | 0x32000 => some (b.laneStatus k)
  | 0x32004 => some (b.laneEye k)
  | 0x32008 => some (b.laneEyeBase k)
  | 0x40080 => some (b.hostStatus k)
  | 0x50004 => some b.layoutStatus
  | 0x50010 => some (if b.lay.xlateValid then b.lay.xlate else b.lay.xlate &&& 0x7FFFFFFF)
  | 0x50014 => some (b.reg Reg.INITMAP_QUERY ||| (if b.queryMarked then 0x80000000 else 0))
  | 0x6000C => some b.trainStatus
  | 0x60010 => some (b.dram.hot.setWidth 32)
  | 0x61000 => some (b.chStatus k)
  | 0x61004 => some (b.chQueue k)
  | 0x61008 => some (b.chDrift k)
  | 0x6100C => some (b.chThrottle k)
  | 0x61010 => some (b.chRefresh k)
  | 0x70008 => some b.scrubStatus
  | 0x70028 => some b.bucketData
  | 0x7004C => some b.injStatus
  | 0x71000 => some (b.chEccStatus k)
  | 0x71004 => some (b.chRepair k)
  | 0x71008 => some (b.chScrubPos k)
  | 0x80008 => some b.cohStatus
  | 0x8002C => some b.sweepStatus
  | 0x90004 => some b.moverStatus
  | 0x9100C => some (b.mqStatus k)
  | 0xA0004 => some b.qosStatus
  | 0xA0008 => some (packed [(0, b.qos.d), (16, b.qos.dHold)])
  | 0xA000C => some (packed [(0, b.qos.dNominal), (16, limit03 b.qos.dHold)])
  | 0xA0010 => some (b.reserveOf 4)
  | 0xA0014 => some (b.reserveOf 8)
  | 0xA0038 => some b.stageStatus
  | 0xA003C => some b.viewSel
  | 0xA0044 => some (BitVec.ofNat 32 (Tab.get 0 b.qos.hist (16 * b.rf Reg.CLASS_HIST_SEL 2 0 + b.rf Reg.CLASS_HIST_SEL 7 4)))
  | 0xA0060 => some (b.qos.view.getD k 0)
  | 0xB0008 => some b.siStatus
  | 0xB1000 => some (b.chCaneStatus k)
  | 0xB1004 => some (b.chCaneMap k)
  | 0xB2000 => some (b.rbCaneStatus k)
  | 0xB2004 => some (packed [(0, (b.bus k).weakest), (16, min 255 (b.bus k).weakCount)])
  | 0xB2008 => some (b.bus k).lastTest
  | 0xB3000 => some (b.dieGuardWord k)
  | 0xB3004 => some (b.dieSupply k)
  | 0xC0008 => some b.powerStatus
  | 0xC000C => some b.thermalStatus
  | 0xC1000 => some (b.setPower k)
  | 0xC1004 => some (b.setTolWord k)
  | 0xC2004 => some (b.octantStatus k)
  | 0xC3000 => some (b.tempWord k)
  | 0xD0008 => some b.faultStatus
  | 0xD0018 => some (BitVec.ofNat 32 (bitsOf ((List.range 16).filter b.timerRuns)))
  | 0xD001C => some (BitVec.ofNat 32 (bitsOf ((List.range 32).filter fun o => b.timerRuns (16 + o))))
  | 0xD0020 => some b.flt.fenced
  | 0xD002C => some b.resetStatus
  | 0xD0030 => some (BitVec.ofNat 32 b.flogHead)
  | 0xE0000 => some (BitVec.ofNat 32 (flag b.boot.run))
  | 0xE0008 => some b.bootStatus
  | 0xE000C => some s.lifecycleStatus
  | 0xE0010 => some b.boot.fwVersion
  | 0xE0014 => some (packed [(0, b.boot.fwSvn), (16, b.boot.svnFloor)])
  | 0xE0028 => some b.boot.readData
  | 0xE002C => some (packed [(0, flag b.boot.readValid), (1, b.boot.readFlags.toNat)])
  | 0xE0030 => some b.fuseStatus
  | 0xF0000 => some ((b.mbx k).ptr.extractLsb' 0 32)
  | 0xF0004 => some ((b.mbx k).ptr.extractLsb' 32 32)
  | 0xF0800 => some (b.wakeWord k)
  | 0xF000C => some (b.mbxStatus k)
  | 0xF001C => some (BitVec.ofNat 32 (b.mbx k).lock)
  | 0xF0010 => some ((b.mbxHead k).ptr.extractLsb' 0 32)
  | 0xF0014 => some ((b.mbxHead k).ptr.extractLsb' 32 32)
  | 0xF0018 => some (packed [(0, (b.mbxHead k).len.toNat), (16, (b.mbxHead k).seq.toNat)])
  | 0xF2004 => some b.rcvStatus
  | 0x11000C => some b.odStatusWord
  | 0xF00000 => some (let v := Tab.get 0 b.mg.msixTable k; if k % 4 = 3 then v ^^^ 1 else v)
  | 0xF01000 => some (b.mg.msixPending.extractLsb' (32 * k) 32)
  | _ => none

/-- What an endpoint read of the register at an offset returns (R9): the shadow of an RWS register, zero of a write-only one, zero
where the map has none or the instance is absent. -/
def State.readReg (s : State) (off : Nat) : Word :=
  match if s.base.absent off then none else regRow? off with
  | none => 0
  | some r =>
    match s.statusWord r.base (r.indexOf off), r.access with
    | some w, _ => w
    | none, .rws => Tab.get 0 s.base.shadow off
    | none, .wo => 0
    | none, _ => s.base.reg off

end Sys2Proof.Machine
end

