-- ==== Sys2Proof/Safety.lean ====
section
/-! DEFINITION. Safety.lean: the terms in which claims are stated: what a safe run is, and what commands of one shape do. -/

namespace Sys2Proof

/-- A step of `s` answers a next state. -/
def Completes (s : Machine.State) : Prop := ∃ t, Machine.step s = .next t

/-- The first `n` steps from `s` all answer a next state. -/
def SafeFor : Nat → Machine.State → Prop
  | 0, _ => True
  | n + 1, s => ∃ t, Machine.step s = .next t ∧ SafeFor n t

/-- The counters at base, base + 4, ... below n: those of the bits set in `v` hold in `new` what they gained in the cycle of the clear, zero
where they gained nothing (R46); every other register and everything else is as in `old`. -/
def ClearedBy (old new : Machine.Base) (base n : Nat) (v : Word) : Prop :=
  new = { old with regs := new.regs } ∧
    (∀ k, k < n → v.getLsbD k = true → new.reg (base + 4 * k) = Machine.bumpWord 0 (Machine.Tab.get 0 old.incsNow (base + 4 * k))) ∧
    ∀ off, (∀ k, k < n → v.getLsbD k = true → off ≠ base + 4 * k) → new.reg off = old.reg off

/-- Commands that act on what lies outside the core supply or the core reset: the rails, the reset pins, the TAP, and Rind on its own supply
(R537). Every other command acts on the part alone. -/
def actsWithoutCore : Instr → Bool
  | .internalColdResetRelease .. | .vddAuxBrownout | .coreRailBrownout .. | .vddRindLoss | .serdesRailBrownout | .serdesRailRestored => true
  | .jtagInstruction .. | .tapReset | .perstAssert .. | .perstRelease .. | .mgmtPerst | .mgmtPerstRelease => true
  | .rindPowerUp .. | .rindMsTick | .rindPeriodRecord | .rindClockFault | .rindVoltageExcursion | .rindTapFrame .. | .rindCheckpoint => true
  | .rindGetInfo .. | .rindGetRecord .. | .rindChallenge .. | .rindCloseInterval .. => true
  | _ => false

/-- Commands that Rind takes: its clock, its supply, its sensors, the tap, the seal and the inspector. -/
def rindCommand : Instr → Bool
  | .rindPowerUp .. | .rindMsTick | .rindPeriodRecord | .rindClockFault | .rindVoltageExcursion | .rindTapFrame .. | .rindCheckpoint => true
  | .rindGetInfo .. | .rindGetRecord .. | .rindChallenge .. | .rindCloseInterval .. | .rindSealDelivery | .vddRindLoss => true
  | _ => false

/-- Commands that may store into the DRAM arrays: a write that issues, a row of a row bus, a scrubbed row, a moved row; and those that end the
supply of the arrays or start the part anew. -/
def arrayCommand : Instr → Bool
  | .channelSelect .. | .rowBusCycle .. | .scrubRowDecoded .. | .spareRowAssigned .. => true
  | .internalColdResetRelease .. | .vddAuxBrownout | .coreRailBrownout .. => true
  | _ => false

/-- The ledger of Rind: at most 64 records, numbered without a gap up to the last number given, each with the hash of its predecessor, the head
the hash of the newest (R515 to R517); none before genesis. -/
def Ledger (r : Machine.Rind) : Prop :=
  r.records.length ≤ 64 ∧ r.records.length ≤ r.nextSeq ∧
    (r.records.map fun x => x.seq) = (List.range r.records.length).map (· + (r.nextSeq - r.records.length)) ∧
    (∀ i x y, r.records[i]? = some x → r.records[i + 1]? = some y → y.prevHash = Config.sha384 x.all) ∧
    (∀ x, r.records.getLast? = some x → r.head = Config.sha384 x.all) ∧ (r.genesis = false → r.records = [] ∧ r.nextSeq = 0)

end Sys2Proof
end

