-- ==== Sys2Proof/Certificates/Slice0/Obligations.lean ====
section
/-! DEFINITION. Certificates/Slice0/Obligations.lean: the statements for the provers. -/

section Obligations

open Sys2Proof Sys2Proof.Machine

/-! ### The whole machine -/

/-- A step takes the command at the front of the queue and executes it on the state with the queue's rest. -/
def Obligations.step_runs_front : Prop :=
  ∀ (s : State) (c : Instr) (rest : List Instr), s.pending = c :: rest →
    step s = exec c { s with pending := rest }

/-- On an empty queue one controller cycle passes, up to the last cycle of the epoch. The model's choice (DESIGN CHOICE, entry
1): the manual gives the part a clock and no command for a cycle. -/
def Obligations.idle_step_is_a_cycle : Prop :=
  ∀ s : State, s.pending = [] →
    step s = .next { s with base := { s.base with pl := { s.base.pl with phase := min 999 (s.base.pl.phase + 1) } } }

/-- Every command answers a next state from every state, and leaves the commands that wait behind it as they are.
It rests on the model's choices in log entries 2, 4. -/
def Obligations.every_command_completes : Prop :=
  ∀ (c : Instr) (s : State), ∃ t, exec c s = .next t ∧ t.pending = s.pending

/-- After cold reset each register with a reset value reads it, in force and in its shadow; the epoch counter is 0, no link
is up, no message is held, and no command waits. The part is held until its reset is released, and the invariants hold: the arrays in canonical
form, Rind's ledger whole, no lifecycle fuse set.
It rests on the model's choices in log entries 51, 52. -/
def Obligations.reset_values_and_invariants : Prop :=
  (∀ e ∈ regResets, State.reset.base.reg e.1 = e.2 ∧ Tab.get 0 State.reset.base.shadow e.1 = e.2) ∧
  (∀ off, (∀ e ∈ regResets, e.1 ≠ off) → State.reset.base.reg off = 0) ∧
  State.reset.base.pl.epoch = 0 ∧ (∀ k, (State.reset.base.port k).link = .detect) ∧
  State.reset.base.flt.outbox = [] ∧ State.reset.base.flt.log = [] ∧ State.reset.base.boot.run = false ∧ State.reset.pending = [] ∧
  Memory.wf State.reset.mem = true ∧ Ledger State.reset.rind ∧ lifecycleOf (otpRaw State.reset.otp 0x40) = 0 ∧ State.reset.base.alive = false

/-! ### Registers, commits and counters -/

/-- A register written reads as written, and no other register changes. A counter advances by n and stays at 0xFFFF_FFFF once
there, and what it gains in the present cycle is kept for a clear of that cycle; no other register changes. -/
def Obligations.registers_and_counters : Prop :=
  ∀ (b : Base) (off o n : Nat) (v : Word),
    (b.setReg off v).reg off = v ∧ (o ≠ off → (b.setReg off v).reg o = b.reg o) ∧
    (b.setReg off v) = { b with regs := (b.setReg off v).regs } ∧
    ((b.bump off n).reg off).toNat = min 0xFFFFFFFF ((b.reg off).toNat + n) ∧
    (o ≠ off → (b.bump off n).reg o = b.reg o) ∧ (b.bump off n) = { b with regs := (b.bump off n).regs, incs := (b.bump off n).incs, incAt := b.now } ∧
    Tab.get 0 (b.bump off n).incsNow off = Tab.get 0 b.incsNow off + n ∧ (o ≠ off → Tab.get 0 (b.bump off n).incsNow o = Tab.get 0 b.incsNow o)

/-- REGISTER_WRITE: a whole write to an RWS register of an unlocked group changes its shadow alone, in the bits it has; a read
of the register returns them, and the value in force stands. What the shadow held before the cycle of the write is kept for a strobe of
that cycle. A write to a group that is locked is discarded, counted and reported; one while firmware activates a version is discarded and
reported. A write with partial byte enables changes nothing.
It rests on the model's choice in log entry 53. -/
def Obligations.register_write_reaches_shadow : Prop :=
  ∀ (s : State) (off : BitVec 24) (val : Word) (r : RegRow) (g : Nat),
    s.base.mgmtFull = true → regRow? off.toNat = some r → r.access = .rws → r.group = some g →
    ownRow off.toNat = false → s.base.absent off.toNat = false →
    (s.base.mg.locks.getLsbD (16 + g) = false → s.base.dict.commitStep < 5 →
      ∃ t : State, exec (.registerWrite .mgmt off val 15) s = .next t ∧
        t = { s with base := { s.base with
          shadow := Tab.set 0 s.base.shadow off.toNat (val &&& r.mask), mg := { s.base.mg with undo := t.base.mg.undo, undoAt := s.base.now } } } ∧
        t.readReg off.toNat = val &&& r.mask ∧ t.base.reg off.toNat = s.base.reg off.toNat ∧
        ∀ o, Tab.get 0 t.base.shadowBefore o = Tab.get 0 s.base.shadowBefore o) ∧
    (s.base.mg.locks.getLsbD (16 + g) = true →
      exec (.registerWrite .mgmt off val 15) s =
        .next { s with base := (s.base.bump Reg.LOCKED_WRITE_COUNT).send .lockedWrite 0x580 off.toNat }) ∧
    (s.base.mg.locks.getLsbD (16 + g) = false → 5 ≤ s.base.dict.commitStep →
      exec (.registerWrite .mgmt off val 15) s = .next { s with base := s.base.send .versionBusy 0x580 off.toNat }) ∧
    (∀ be : BitVec 4, be ≠ 15 → exec (.registerWrite .mgmt off val be) s = .next s)

/-- COMMIT: a strobe of the endpoint or of firmware captures the shadows of the groups its mask names among 0 to 12, as they stood before
any write of its own cycle. A capture takes the place of the group's earlier one; the other captures stay. A mask that names group 8 captures
every staged label entry, and another mask none. The values in force do not change. A mask of zero does nothing, and while firmware activates
a version a strobe of the endpoint is discarded and reported. -/
def Obligations.commit_captures_shadows : Prop :=
  (∀ (s : State) (src : Src) (mask : BitVec 16), (src = .mgmt ∧ s.base.mgmtFull = true ∧ s.base.dict.commitStep < 5 ∨ (∃ c, src = .core c) ∧ s.base.fwRuns = true) →
    mask ≠ 0 →
    ∃ b : Base, exec (.commit src mask) s = .next { s with base := b } ∧
      b = { s.base with mg := { s.base.mg with captures := b.mg.captures, strobes := b.mg.strobes }, qos := { s.base.qos with staging := b.qos.staging } } ∧
      b.mg.strobes = s.base.mg.strobes + 1 ∧
      (∀ g, g < 13 → mask.getLsbD g = true → ∃ c ∈ b.mg.captures, c.group = g ∧ c.strobe = b.mg.strobes ∧ c.mask = mask ∧ (c.mgmt = true ↔ src = .mgmt) ∧
        (∀ off, groupOf off = some g → Tab.get 0 c.regs off = Tab.get 0 s.base.shadowBefore off) ∧ ∀ d ∈ b.mg.captures, d.group = g → d = c) ∧
      (∀ c : Capture, (13 ≤ c.group ∨ mask.getLsbD c.group = false) → (c ∈ b.mg.captures ↔ c ∈ s.base.mg.captures)) ∧
      b.qos.staging = if mask.getLsbD 8 then s.base.qos.staging.map fun e => { e with strobe := some b.mg.strobes } else s.base.qos.staging) ∧
  (∀ s : State, s.base.mgmtFull = true → exec (.commit .mgmt 0) s = .next s ∧
    ∀ mask, mask ≠ 0 → 5 ≤ s.base.dict.commitStep → exec (.commit .mgmt mask) s = .next { s with base := s.base.send .versionBusy 0x580 Reg.COMMIT }) ∧
  (∀ b : Base, b.mg.undoAt ≠ b.now → b.shadowBefore = b.shadow)

/-- DEFER_CLEAR, COUNT_CLEAR, HOST_COUNT_CLEAR, LAYOUT_COUNT_CLEAR, DRAM_COUNT_CLEAR, ECC_COUNT_CLEAR, CH_ECC_CLEAR,
COH_COUNT_CLEAR, MOVER_COUNT_CLEAR, SI_COUNT_CLEAR, PT_COUNT_CLEAR, FAULT_COUNT_CLEAR and MGMT_COUNT_CLEAR: each set bit clears
its counter, which keeps what it gained in the cycle of the clear, and nothing else changes. Bit 3 of QOS_COUNT_CLEAR clears the histogram too; QOS_HIST_CLEAR clears it alone. -/
def Obligations.counter_clears : Prop :=
  ∀ (s : State) (v : Word), s.base.mgmtFull = true →
    let clears := fun (c : Instr) (base n : Nat) => ∃ b, exec c s = .next { s with base := b } ∧ ClearedBy s.base b base n v
    clears (.deferClear v) Reg.DEFER_REFRESH 6 ∧ clears (.layoutCountClear v) Reg.FILL_COUNT 4 ∧
    clears (.dramCountClear v) Reg.NEIGHBOUR_REFRESH_COUNT 4 ∧ clears (.eccCountClear v) Reg.CORRECTED_COUNT 5 ∧
    clears (.cohCountClear v) Reg.BISNP_COUNT 6 ∧ clears (.moverCountClear v) Reg.DESC_DONE_COUNT 5 ∧
    clears (.siCountClear v) Reg.CANE_FAIL_COUNT 4 ∧ clears (.ptCountClear v) Reg.STATE_CHANGE_COUNT 4 ∧
    clears (.faultCountClear v) Reg.LOGGED_COUNT 5 ∧ clears (.mgmtCountClear v) Reg.UNMAPPED_COUNT 4 ∧
    (∀ k : PortBlk, s.base.present_ k.toNat = true → clears (.countClear k v) (Reg.RECOVERY_COUNT k.toNat) 5) ∧
    (∀ h : HostId, clears (.hostCountClear h v) (Reg.FIREWALL_COUNT h.toNat) 3) ∧
    (∀ ch : ChanId, clears (.chEccClear ch v) (Reg.CH_CORRECTED ch.toNat) 3) ∧
    (∃ b, exec (.qosCountClear v) s =
        .next { s with base := { b with qos := { s.base.qos with hist := if v.getLsbD 3 then [] else s.base.qos.hist } } } ∧
      ClearedBy s.base b Reg.COMMIT_REFUSED_COUNT 3 v) ∧
    exec .qosHistClear s = .next { s with base := { s.base with qos := { s.base.qos with hist := [] } } }

/-- What a write by the endpoint does to each: APPLIED_ADDR takes a register's offset, LOCKS_WRITE sets lock bits and clears none, SNAP_SEL captures the
words of its selector, LBL_VIEW_SEL those of a label, INITMAP_QUERY takes a stripe, XLATE_DPA_HI translates an address.
It rests on the model's choice in log entry 53. -/
def Obligations.endpoint_selectors : Prop :=
  ∀ (s : State) (v : Word), s.base.mgmtFull = true →
    exec (.appliedAddr v) s =
      .next { s with base := { s.base with mg := { s.base.mg with applyOffset := 4 * fld v 23 2, applyValid := true } } } ∧
    (∃ m : Mgmt, exec (.locksWrite v) s = .next { s with base := { s.base with mg := m } } ∧ m = { s.base.mg with locks := m.locks } ∧
      ∀ i, m.locks.getLsbD i = (s.base.mg.locks.getLsbD i || v.getLsbD i && (i == 0 || decide (16 ≤ i)))) ∧
    (∃ (b : Base) (words : List Word), exec (.snapSel v) s = .next { s with base := b } ∧
      b = { s.base with regs := b.regs, pl := b.pl, mg := { s.base.mg with snapWords := words, snapValid := true, snapBad := b.mg.snapBad } } ∧
      b.reg Reg.SNAP_SEL = v &&& 0xFFFF ∧ (fld v 15 0 ≠ 3 → b.pl = s.base.pl) ∧
      (fld v 15 0 = 3 → b.pl.newestOpened = true ∧ (s.base.pl.newest.isSome = true → b.pl.opened = s.base.pl.newest))) ∧
    (∃ b : Base, exec (.lblViewSel v) s = .next { s with base := b } ∧
      b = { s.base with regs := b.regs, qos := { s.base.qos with view := s.base.labelWords (fld v 15 0), viewValid := true } } ∧
      b.reg Reg.LBL_VIEW_SEL = v &&& 0xFFFF ∧ ∀ o, o ≠ Reg.LBL_VIEW_SEL → b.reg o = s.base.reg o) ∧
    exec (.initmapQuery v) s = .next { s with base := s.base.setReg Reg.INITMAP_QUERY (v &&& 0x1FFFFF) } ∧
    (∃ b : Base, exec (.xlateDpaHi v) s = .next { s with base := b } ∧
      b.lay.xlate = xlateWord (placeOf s.base.lay.n (fld v 4 0 * 2 ^ 32 + (s.base.reg Reg.XLATE_DPA_LO).toNat)) ∧ b.lay.xlateValid = true ∧
      b = { s.base with regs := b.regs, lay := { s.base.lay with xlate := b.lay.xlate, xlateValid := true } })

/-! ### The epoch and its plan -/

/-- EPOCH_BOUNDARY: the actions of a boundary follow in the manual's order: the counter and the snapshot, the captured groups, the
plan buffers, the budgets, the refresh credits.
The counter of action 1 advances by one and the cycles of the epoch begin anew. A snapshot that is due takes the counts gathered since
the last one and is not opened yet; one that nobody opened before it is an overrun.
The plan buffer that is complete takes effect at the boundary: its scrub rows and its segment are the new epoch's, and the buffer is empty
again; without one the fallback plan runs, with no scrub row and no segment, and is counted.
PLAN_COMPLETE fills the inactive plan buffer and marks it complete, and the active plan stands; FIRMWARE_WATCHDOG, after 16 boundaries without
a plan, resets the Pith complex: its shadow opens, the buffer is emptied, the count of boundaries begins anew, and the message goes out. A
fourth reset within 60 s is refused.
It rests on the model's choices in log entries 19, 20, 22, 23, 42, 48, 66, 79. -/
def Obligations.epoch_and_plan : Prop :=
  (∀ s : State, s.base.alive = true →
    exec .epochBoundary s = .next { s with base :=
      let ended := s.base.pl.epoch
      let b := (s.base.liveEpoch.countNotActive.countEpoch).takeSnapshot ended
      let b := b.endFences.thermalBoundary.recomputeD.commitBoundary
      let b := b.swapPlan
      let b := b.applyCuts.replenish.foldLabels
      let b := forN 64 (fun (ch : Nat) (b : Base) => b.allotRefresh ch) b
      let b := (b.powerBoundary.busBoundary.freeTimers.sendFrame ended).pump
      if b.fwRuns then b.recordCanes else b }) ∧
  ((∀ b : Base, b.countEpoch.pl = { b.pl with phase := 0, epochs := b.pl.epochs + 1, epoch := b.pl.epoch + 1 } ∧
    (b.pl.epoch + 1 ≠ 0 → b.countEpoch = { b with pl := b.countEpoch.pl }) ∧
    (b.pl.epoch + 1 = 0 → b.countEpoch = ({ b with pl := b.countEpoch.pl } : Base).send .epochWrap 0x5BA 0)) ∧
  (∀ (b : Base) (e : BitVec 48),
    (b.snapshotDue = false → b.takeSnapshot e = b) ∧
    (b.snapshotDue = true → ∃ x : Snapshot, (b.takeSnapshot e).pl.newest = some x ∧ x.epoch = e ∧ x.seq = b.pl.snapSeq + 1 ∧ x.counts = b.pl.acc ∧
      x.interval = b.rf Reg.SNAPSHOT_CFG 15 0 ∧ (b.takeSnapshot e).pl.newestOpened = false ∧ (b.takeSnapshot e).pl.opened = b.pl.opened ∧
      ((b.takeSnapshot e).reg Reg.SNAPSHOT_OVERRUN).toNat =
        if b.pl.newestOpened then (b.reg Reg.SNAPSHOT_OVERRUN).toNat else min 0xFFFFFFFF ((b.reg Reg.SNAPSHOT_OVERRUN).toNat + 1))) ∧
  (∀ b : Base,
    (b.pl.inactiveDone = true → b.swapPlan.pl.active.scrub = b.pl.inactive.scrub ∧ b.swapPlan.pl.active.segment = b.pl.inactive.segment ∧
      b.swapPlan.pl.fallback = false ∧ b.swapPlan.pl.missed = 0 ∧ b.swapPlan.pl.inactive = {} ∧ b.swapPlan.pl.inactiveDone = false) ∧
    (b.pl.inactiveDone = false → b.swapPlan.pl.active.scrub = [] ∧ b.swapPlan.pl.active.segment = none ∧ b.swapPlan.pl.active.fullWidth = none ∧
      b.swapPlan.pl.due = [] ∧ b.swapPlan.pl.fallback = true ∧
      (b.swapPlan.reg Reg.PLAN_FALLBACK_COUNT).toNat = min 0xFFFFFFFF ((b.reg Reg.PLAN_FALLBACK_COUNT).toNat + 1))) ∧
  (∀ (s : State) (plan : Plan), s.base.fwRuns = true →
    (∃ b : Base, exec (.planComplete plan) s = .next { s with base := b } ∧
      b = { s.base with pl := { s.base.pl with inactive := plan, inactiveDone := true }, flt := { s.base.flt with shadows := b.flt.shadows } } ∧
      (∀ x ∈ s.base.flt.shadows, x.block ≠ 17 → x ∈ b.flt.shadows) ∧
      ∀ x ∈ b.flt.shadows, x.block = 17 → x.closeAt ≤ s.base.now + 1000) ∧
    (16 ≤ s.base.pl.missed → (s.base.recentResets 17).length < 3 →
      ∃ b : Base, exec .firmwareWatchdog s = .next { s with base := b.sendMsg (b.mkMsg .firmwareWatchdog 0x5BB 0) } ∧
        b = { s.base with pl := { s.base.pl with inactive := {}, inactiveDone := false, missed := 0 }
                          flt := { s.base.flt with shadows := b.flt.shadows, history := b.flt.history } } ∧
        (b.recentResets 17).head? = some s.base.pl.epochs ∧ (∀ k, k ≠ 17 → b.recentResets k = s.base.recentResets k) ∧
        (∃ x ∈ b.flt.shadows, x.block = 17 ∧ x.openedAt = s.base.now ∧ x.closeAt = s.base.now + 100000) ∧
        ∀ x, x.block ≠ 17 → (x ∈ b.flt.shadows ↔ x ∈ s.base.flt.shadows)) ∧
    (16 ≤ s.base.pl.missed → 3 ≤ (s.base.recentResets 17).length → exec .firmwareWatchdog s = .next { s with base := s.base.resetRefused 17 }) ∧
    (s.base.pl.missed < 16 → exec .firmwareWatchdog s = .next s)))

/-! ### Messages and shadows -/

/-- A message sent outside every open shadow of its source, with firmware running, enters the outbox behind the messages there
while its source holds fewer than two; nothing but the outbox changes.
Inside an open shadow of its source a CORRECTED or CONTAINED message is counted, in the shadow and in SHADOWED_COUNT, and goes
into no outbox and no log, and starts no timer. A FATAL message is never shadowed.
An outbox never holds more than two messages of a source: a message that joins keeps it so.
It rests on the model's choices in log entries 14, 37, 45. -/
def Obligations.messages_and_shadows : Prop :=
  (∀ (b : Base) (k : Kind) (src addr : Nat) (host : Option HostId) (inj : Bool),
    b.boot.run = true → (b.shadowsOf src = [] ∨ k.cls = .fatal) → (b.flt.outbox.filter fun x => x.source == src).length < 2 →
    b.send k src addr host inj = { b with flt := { b.flt with outbox := b.flt.outbox ++ [b.mkMsg k src addr host inj] } }) ∧
  (∀ (b : Base) (k : Kind) (src addr : Nat) (host : Option HostId) (inj : Bool),
    (k.cls ≠ .fatal → b.shadowsOf src ≠ [] →
      ∃ c : Base, b.send k src addr host inj = c ∧ c = { b with regs := c.regs, incs := c.incs, incAt := c.incAt, flt := { b.flt with shadows := c.flt.shadows } } ∧
        (c.reg Reg.SHADOWED_COUNT).toNat = min 0xFFFFFFFF ((b.reg Reg.SHADOWED_COUNT).toNat + 1) ∧
        (∀ o, o ≠ Reg.SHADOWED_COUNT → c.reg o = b.reg o) ∧
        (∀ x ∈ b.flt.shadows, dependent x.block src = true →
          { x with count := min 0xFFFF (x.count + 1), sent := x.sent ++ [b.mkMsg k src addr host inj] } ∈ c.flt.shadows) ∧
        (∀ x ∈ b.flt.shadows, dependent x.block src = false → x ∈ c.flt.shadows)) ∧
    (k.cls = .fatal → b.send k src addr host inj = b.sendMsg (b.mkMsg k src addr host inj))) ∧
  (∀ (b : Base) (k : Kind) (src addr : Nat) (host : Option HostId) (inj : Bool) (n : Nat),
    (b.flt.outbox.filter fun x => x.source == n).length ≤ 2 →
    ((b.send k src addr host inj).flt.outbox.filter fun x => x.source == n).length ≤ 2)

/-! ### Fabric lanes and link bring-up -/

/-- Stages 1 to 3 of a training, on a port that can train. DETECT_RETRY puts a port without a link in Detect and has its shadow close
an epoch later. RECEIVER_DETECTED applies the exclusions and readmissions written since the last training, and with a lane detected and a width
that avoids the excluded lanes the port polls. POLLING_COMPLETE with bit lock on every lane kept goes on to symbol lock. POLLING_TIMEOUT,
in either stage, returns to Detect with no lane locked and else excludes the lanes without lock. SYMBOL_LOCK_DONE records each lane's
symbol lock and polarity and goes on to Configuration.
Stage 4: CONFIGURATION_COMPLETE takes the widest width that both ends have over the usable lanes: the port is in L0 at 2.5 GT/s
with it, CXL as agreed, and stage 5 begins; the lanes of the width are numbered, and the block's other lanes are idle, reading 0xFF, without
lock. Without a width nothing changes. CONFIGURATION_TIMEOUT returns to Detect.
It rests on the model's choices in log entries 26, 28. -/
def Obligations.training_stages : Prop :=
  (∀ (s : State) (k : PortBlk) (m : BitVec 8), s.base.canTrain k.toNat = true →
    let n := k.toNat
    let b := s.base
    let kept := (b.lanesOf n).filter fun l => (b.port n).detected.getLsbD (l - b.laneBase n) && !(b.lane l).excluded
    let locked := fun l : Nat => m.getLsbD (l - b.laneBase n)
    ((b.port n).link = .detect ∨ (b.port n).link = .hotReset ∨ (b.port n).link = .disabled →
      exec (.detectRetry k) s =
        .next { s with base := (b.updPort n fun p => { p with link := .detect }).blockReady n } ∧
      (let b' := ((b.blockReady n).applyLaneCtrl n).checkWidth n
       let seen := m &&& BitVec.ofNat 8 (2 ^ b'.laneCount n - 1)
       exec (.receiverDetected k m) s = .next { s with base :=
         if (b'.port n).noWidth = true ∨ seen = 0 then b' else b'.updPort n fun p => { p with link := .polling, detected := seen } })) ∧
    ((b.port n).link = .polling → kept ≠ [] → (∀ l ∈ kept, locked l = true) →
      ∃ t, exec (.pollingComplete k m) s = .next { s with base := { b with links := t } } ∧ t = { b.links with ports := t.ports, lanes := t.lanes } ∧
        Tab.get {} t.ports n = { b.port n with link := .symbolLock } ∧
        (∀ l, Tab.get {} t.lanes l = if l ∈ kept then { b.lane l with bitLock := true } else b.lane l) ∧
        ∀ j, j ≠ n → Tab.get {} t.ports j = b.port j) ∧
    ((b.port n).link = .polling ∨ (b.port n).link = .symbolLock → (∀ l ∈ kept, locked l = false) →
      exec (.pollingTimeout k m) s = .next { s with base := b.toState n .detect }) ∧
    ((b.port n).link = .polling ∨ (b.port n).link = .symbolLock → (∃ l ∈ kept, locked l = true) →
      exec (.pollingTimeout k m) s = .next { s with base := ((kept.filter fun l => !locked l).foldl Base.excludeLane b).checkWidth n }) ∧
    ((b.port n).link = .symbolLock →
      ∃ t, exec (.symbolLockDone k m) s = .next { s with base := { b with links := t } } ∧ t = { b.links with ports := t.ports, lanes := t.lanes } ∧
        Tab.get {} t.ports n = { b.port n with link := .configuration } ∧
        (∀ l, Tab.get {} t.lanes l = if l ∈ kept then { b.lane l with symLock := true, polarity := locked l } else b.lane l) ∧
        ∀ j, j ≠ n → Tab.get {} t.ports j = b.port j)) ∧
  (∀ (s : State) (k : PortBlk) (o : LinkOffer), s.base.canTrain k.toNat = true → (s.base.port k.toNat).link = .configuration →
    let n := k.toNat
    let b := s.base
    let best := bestWidth (b.laneUsable n) (b.laneBase n) (b.laneCount n) o.width.val o.reversed
    let number := fun (rev : Bool) (l : Nat) => if rev then b.laneBase n + b.laneCount n - 1 - l else l - b.laneBase n
    (best = none → exec (.configurationComplete k o) s = .next s) ∧
    (∀ w rev, best = some (w, rev) → w ≤ o.width.val ∧ w ≤ b.laneCount n ∧
      (∀ l ∈ widthLanes (b.laneBase n) (b.laneCount n) w rev, b.laneUsable n l = true) ∧
      ∃ t, exec (.configurationComplete k o) s = .next { s with base := { b with links := t } } ∧ t = { b.links with ports := t.ports, lanes := t.lanes } ∧
        Tab.get {} t.ports n = { b.port n with
          width := w, activeWidth := w, reversed := rev, link := .l0, stepping := true, rate := 0, cxl := o.cxl, latOpt := o.latOpt, offered := o.width.val } ∧
        (∀ l ∈ b.lanesOf n, Tab.get {} t.lanes l =
          if number rev l < w then { b.lane l with logical := number rev l }
          else { b.lane l with logical := 255, bitLock := false, symLock := false, blockLock := false }) ∧
        (∀ l, l ∉ b.lanesOf n → Tab.get {} t.lanes l = b.lane l) ∧ ∀ j, j ≠ n → Tab.get {} t.ports j = b.port j) ∧
    exec (.configurationTimeout k) s = .next { s with base := b.toState n .detect })

/-- The width a training takes is the widest that fits: no wider width of the block within the cap has every lane usable in
either numbering. -/
def Obligations.best_width_is_widest : Prop :=
  ∀ (ok : Nat → Bool) (base n cap : Nat) (prefer : Bool) (w : Nat), (w = 1 ∨ w = 2 ∨ w = 4 ∨ w = 8) → w ≤ n → w ≤ cap →
    (widthFits ok base n w true = true ∨ widthFits ok base n w false = true) →
    ∃ v rev, bestWidth ok base n cap prefer = some (v, rev) ∧ w ≤ v ∧ v ≤ n ∧ v ≤ cap ∧ widthFits ok base n v rev = true ∧
      (rev ≠ prefer → widthFits ok base n v prefer = false)

/-- Stage 5. RATE_STEP_COMPLETE: with every lane of the width locked the port is in L0 at the new rate, its lanes locked, with block lock
at 8 GT/s and above, and what phase 2 measured at that rate is their baseline; the last step releases what waited for L0. With every
lane failed it is an equalisation failure, and the port is back at the previous rate, with nothing of it recorded; lanes that alone failed
are excluded, and the width narrows under the present numbering where that has a width. EQ_FAILED is such a failure. EQ_PHASE2_END asks for settings
of the host's transmitter and measures the lanes; a lane that began from stored start values and does not reach its floor has them
discarded. PHASE3_PRESET_REQUEST in equalisation accepts and holds every standard preset, and a set of coefficients in range, and refuses others.
FLIT_RECEIVED at a rate that has flits: at 64 GT/s a corrected flit is counted, and one that fails its check is counted and asked for
again. A flit that passes lengthens the good run, begins a new time for its messages and ends the label contexts of the one before; the flits that
the link partner asks for again are sent and counted. In a secure stream a flit that does not end the MAC epoch is counted in it; at its end
the epoch's messages are released when the MAC verifies, and else they are discarded, the stream is insecure and the failure is
reported. FLIT_ALIGNMENT and ADAPT_FREEZE follow their runs.
It rests on the model's choices in log entries 26, 27, 28. -/
def Obligations.rates_and_flits : Prop :=
  (∀ (s : State) (k : PortBlk) (rate : Fin 6) (failed : BitVec 8) (final : Bool) (eyes : List LaneEye) (set : TxSetting), s.base.canTrain k.toNat = true →
    let n := k.toNat
    let b := s.base
    let p := b.port n
    let bad := (b.lanesOf n).filter fun l => decide ((b.lane l).logical < p.width) && failed.getLsbD (l - b.laneBase n)
    let back := b.setPort n { p with link := .l0, phase2 := [] }
    let failedEq : State := { s with base := back.send .eqFailed (0x40 + n) (n / 2 * 16 + 15) }
    let lane := fun e : LaneEye => b.laneBase n + e.lane.toNat
    let start := fun e : LaneEye => (b.links.eqStart.find? fun x => x.1 == 8 * lane e + rate.val).map (·.2)
    (p.link = .l0 ∨ p.link = .rateStep → p.stepping = true → p.rate ≤ rate.val →
      (bad = [] → ∃ c : Base, exec (.rateStepComplete k rate failed final) s = .next { s with base := if final then (c.enterL0 n).checkRate n else c } ∧
        c.port n = { p with link := .l0, rate := rate.val, stepping := !final, goodRun := 0, badRun := 0, aligned := false, phase2 := [] } ∧
        c = { b with links := { b.links with ports := c.links.ports, lanes := c.links.lanes, eqStart := c.links.eqStart } } ∧
        (∀ l, (c.lane l).bitLock = ((b.lane l).bitLock || decide (l ∈ b.activeLanes n)) ∧
          (c.lane l).blockLock = if l ∈ b.activeLanes n then decide (2 ≤ rate.val) else (b.lane l).blockLock) ∧
        (p.phase2Rate = rate.val → (p.phase2.map fun e => e.lane).Nodup → ∀ e ∈ p.phase2, (b.lane (lane e)).logical < p.width →
          (c.lane (lane e)).baseHeight = e.height ∧ (c.lane (lane e)).baseWidth = e.width ∧ (c.lane (lane e)).baseRate = rate.val)) ∧
      (bad ≠ [] → bad.length = p.width → exec (.rateStepComplete k rate failed final) s = .next failedEq) ∧
      (bad ≠ [] → bad.length ≠ p.width → exec (.rateStepComplete k rate failed final) s = .next { s with base := back.narrow n bad false } ∧
        ∀ w, let c := bad.foldl Base.excludeLane back
          bestWidth (c.laneUsable n) (c.laneBase n) (c.laneCount n) (c.port n).offered (c.port n).reversed = some (w, (c.port n).reversed) →
          back.narrow n bad false = c.numberLanes n w (c.port n).reversed)) ∧
    (p.link = .l0 ∨ p.link = .rateStep → p.stepping = true → p.rate < rate.val → exec (.eqFailed k rate) s = .next failedEq) ∧
    (2 ≤ rate.val → ((p.link = .l0 ∨ p.link = .rateStep) ∧ p.stepping = true ∧ p.rate < rate.val) ∨ (p.link = .recoveryEq ∧ p.rate = rate.val) →
      ∃ c : Base, exec (.eqPhase2End k rate eyes) s = .next { s with base := c } ∧ c.free = b.free + 1 ∧
        c.out = .txRequest k rate.val (Config.freeNat b.free) :: b.out ∧ (c.port n).phase2Rate = rate.val ∧
        (c.port n).link = (if p.link = .recoveryEq then .recoveryEq else .rateStep) ∧
        ((eyes.map fun e => e.lane).Nodup → ∀ e ∈ eyes, e.lane.toNat < b.laneCount n → (b.lane (lane e)).logical < p.width →
          (start e = none ∨ b.eyeFloor n rate.val ≤ e.height.toNat →
            e ∈ (c.port n).phase2 ∧ c.lane (lane e) = { b.lane (lane e) with startFrom := start e, adapt := e.adapt }) ∧
          (start e ≠ none → e.height.toNat < b.eyeFloor n rate.val → c.lane (lane e) = { b.lane (lane e) with startFrom := none }))) ∧
    (p.link = .rateStep ∨ p.link = .recoveryEq → 2 ≤ p.phase2Rate →
      (txAccepted p.phase2Rate set = true →
        exec (.phase3PresetRequest k set) s = .next { s with base := (b.setPort n { p with tx := some set }).emit (.presetAnswer k true) }) ∧
      (txAccepted p.phase2Rate set = false → exec (.phase3PresetRequest k set) s = .next { s with base := b.emit (.presetAnswer k false) })) ∧
    (∀ (r : Nat) (i : Fin 11) (w : Word), txAccepted r (.preset i) = true ∧ txAccepted r (.coefficients w) = Config.txInRange r w)) ∧
  (∀ (s : State) (k : PortBlk) (f : Flit), s.base.canTrain k.toNat = true → ((s.base.port k.toNat).link = .l0 ∨ (s.base.port k.toNat).link = .l0p) →
    let n := k.toNat
    let b := s.base
    let p := b.port n
    let c := if p.rate = 5 ∧ f.corrected = true then b.bump (Reg.FEC_CORRECTED_COUNT n) else b
    let good := { p with
      flitsRx := p.flitsRx + 1, badRun := 0, goodRun := p.goodRun + 1, slot := [], flitAt := b.now,
      idleRun := if f.idle then p.idleRun + 1 else 0, frozen := f.idle && p.frozen }
    let bad := { p with flitsRx := p.flitsRx + 1, badRun := p.badRun + 1, goodRun := 0, flitsReplayed := p.flitsReplayed + 1 }
    let again := (p.replay.take f.resend).reverse
    let passed := if again = [] then c.setPort n good
      else (again.foldl Base.emit ((c.setPort n good).bump (Reg.REPLAY_COUNT n))).updPort n fun p => { p with flitsReplayed := p.flitsReplayed + again.length }
    let agg := if p.flitFormat = 1 then 5 else p.ideAgg
    (p.flitFormat ≠ 0 → p.rate = 5 → f.crcOk = false →
      exec (.flitReceived k f) s = .next { s with base := ((c.setPort n bad).bump (Reg.REPLAY_COUNT n)).emit (.replay k) }) ∧
    (p.flitFormat ≠ 0 → (p.rate ≠ 5 ∨ f.crcOk = true) →
      (p.ide ≠ 1 → exec (.flitReceived k f) s = .next { s with base := passed }) ∧
      (p.ide = 1 → p.ideFlits + 1 < agg →
        exec (.flitReceived k f) s = .next { s with base := passed.updPort n fun p => { p with ideFlits := p.ideFlits + 1 } }) ∧
      (p.ide = 1 → agg ≤ p.ideFlits + 1 → f.macOk = true →
        exec (.flitReceived k f) s = .next { s with base := (passed.updPort n fun p => { p with ideFlits := 0 }).releaseEpoch n }) ∧
      (p.ide = 1 → agg ≤ p.ideFlits + 1 → f.macOk = false →
        ∃ d : Base, exec (.flitReceived k f) s = .next { s with base := d.send .ideIntegrityFail (0xA0 + n) (n / 2 * 16 + 15) } ∧
          (d.port n).ide = 2 ∧ (d.port n).unverified = [] ∧ (d.port n).flitsRx = p.flitsRx + 1 ∧ d = { passed with links := { passed.links with ports := d.links.ports } } ∧
          ∀ j, j ≠ n → d.port j = b.port j)) ∧
    (p.rate = 5 → 4 ≤ p.goodRun → exec (.flitAlignment k) s = .next { s with base := b.setPort n { p with aligned := true } }) ∧
    (1024 ≤ p.idleRun → exec (.adaptFreeze k) s = .next { s with base := b.setPort n { p with frozen := true } }))

/-- ALIGNMENT_LOST, after eight failed flits at 64 GT/s, and LOCK_LOST, of a lane in use at 8 to 32 GT/s, in L0 or in a Recovery, report the
loss and ask for a Recovery; a lane's loss counts for its port and for the lane.
A Recovery from L0 or L0p: the port is in Recovery at its full width, adaptation goes on and the lanes idle in L0p lock again; it is
counted, told to the host and remembered for a second, and the ninth within a second is reported. A request with re-equalisation that comes while one
runs turns a Recovery entered in the same cycle into one with it, and makes another owed after an earlier one; a request without it joins the one
that runs. HOST_RECOVERY_REQUEST, PORT_RETRAIN and PORT_REEQ are such requests; on a port that trains or is in L1 or L1.2 a register's
request lapses.
RECOVERY_COMPLETE. With no lane locked the link goes down. Else the end of a re-equalisation sets the new baselines, and lanes without
lock and lanes whose new baseline is below the floor are excluded and the width narrows; where a width is left the lanes in use are locked, and the port is
in L0 at the rate settled on, or in the Recovery that was owed.
It rests on the model's choices in log entries 27, 29. -/
def Obligations.recovery_of_a_link : Prop :=
  (∀ (s : State) (k : PortBlk) (l : LaneId),
    let b := s.base
    let n := k.toNat
    let p := b.port n
    let i := l.toNat
    let m := b.blockOfLane i
    let unlocked := b.setLane i { b.lane i with blockLock := false }
    let counted := (unlocked.bump (Reg.LOCK_LOSS_COUNT m)).bump (Reg.LANE_ERR_COUNT i)
    let unaligned := b.setPort n { p with aligned := false, badRun := 0 }
    (b.canTrain n = true → (p.link = .l0 ∨ p.link = .l0p) → p.rate = 5 → p.aligned = true → 8 ≤ p.badRun →
      exec (.alignmentLost k) s =
        .next { s with base := (unaligned.send .alignmentLost (0x40 + n) (n / 2 * 16 + 15)).enterRecovery n false }) ∧
    (b.canTrain m = true → ((b.port m).link = .l0 ∨ (b.port m).link = .l0p ∨ (b.port m).link = .recovery ∨ (b.port m).link = .recoveryEq) →
      2 ≤ (b.port m).rate → (b.port m).rate ≤ 4 → (b.lane i).logical < (b.port m).activeWidth → (b.lane i).blockLock = true →
      exec (.lockLost l) s = .next { s with base := (counted.send .lockLost i (i / 8 * 16 + i % 8)).enterRecovery m false })) ∧
  (∀ (s : State) (k : PortBlk) (reeq : Bool),
    let n := k.toNat
    let b := s.base
    let p := b.port n
    let recent := p.recoveries.filter fun t => b.now < t + 1000000000
    let idle := (b.lanesOf n).filter fun l => decide (p.activeWidth ≤ (b.lane l).logical) && decide ((b.lane l).logical < p.width)
    let entered := fun re : Bool =>
      (((b.lockLanes idle p.rate).setPort n { p with
        link := if re then .recoveryEq else .recovery, activeWidth := p.width, recoveries := (b.now :: recent).take 9, frozen := false, idleRun := 0, phase2 := [] }).bump
        (Reg.RECOVERY_COUNT n)).emit (.recovery k re)
    let result := fun re : Bool => if recent.length = 8 then (entered re).send .recoveryStorm (0x40 + n) (n / 2 * 16 + 15) else entered re
    (∀ l, (b.lockLanes idle p.rate).lane l = if l ∈ idle then { b.lane l with bitLock := true, blockLock := decide (2 ≤ p.rate) } else b.lane l) ∧
    ((p.link = .l0 ∨ p.link = .l0p) →
      (b.canTrain n = true → exec (.hostRecoveryRequest k reeq) s = .next { s with base := result reeq }) ∧
      (b.mgmtFull = true → b.present_ n = true → exec (.portRetrain k) s = .next { s with base := result false } ∧
        exec (.portReeq k) s = .next { s with base := result true })) ∧
    (p.link = .recovery → b.mgmtFull = true → b.present_ n = true →
      (p.recoveries.head? ≠ some b.now ∨ p.exiting = true → exec (.portReeq k) s = .next { s with base := b.setPort n { p with reeqOwed := true } }) ∧
      (p.recoveries.head? = some b.now → p.exiting = false →
        exec (.portReeq k) s = .next { s with base := { b.setPort n { p with link := .recoveryEq } with
          out := replaceFirst (fun e => e == .recovery k false) (.recovery k true) b.out } }) ∧
      exec (.portRetrain k) s = .next s) ∧
    (p.link ≠ .l0 → p.link ≠ .l0p → p.link ≠ .recovery → b.mgmtFull = true → b.present_ n = true →
      exec (.portReeq k) s = .next s ∧ exec (.portRetrain k) s = .next s)) ∧
  (∀ (s : State) (k : PortBlk) (rate : Fin 6) (failed : BitVec 8), s.base.canTrain k.toNat = true →
    ((s.base.port k.toNat).link = .recovery ∨ (s.base.port k.toNat).link = .recoveryEq) →
    let n := k.toNat
    let b := s.base
    let p := b.port n
    let lost := (b.lanesOf n).filter fun l => decide ((b.lane l).logical < p.width) && failed.getLsbD (l - b.laneBase n)
    let measured := if p.link = .recoveryEq then b.endPhase3 n p.rate true else b
    let bad := lost ++ (measured.activeLanes n).filter fun l => (measured.lane l).belowFloor && !lost.contains l
    let kept := if bad = [] then measured else measured.narrow n bad true
    let locked := kept.lockLanes (kept.activeLanes n) rate.val
    let inL0 := (locked.setPort n { locked.port n with rate := rate.val, reeqOwed := false, goodRun := 0, badRun := 0, aligned := false }).enterL0 n
    let ended := if rate.val = (kept.port n).rate then inL0 else (inL0.checkRate n).refreshActive n
    (lost.length = p.width → exec (.recoveryComplete k rate failed) s = .next { s with base := b.linkDownTo n .detect false }) ∧
    (lost.length ≠ p.width →
      ((kept.port n).linked = false → exec (.recoveryComplete k rate failed) s = .next { s with base := kept }) ∧
      ((kept.port n).linked = true → (kept.port n).reeqOwed = false → exec (.recoveryComplete k rate failed) s = .next { s with base := ended }) ∧
      ((kept.port n).linked = true → (kept.port n).reeqOwed = true →
        exec (.recoveryComplete k rate failed) s = .next { s with base := ended.enterRecovery n true }) ∧
      ((kept.port n).linked = true → (ended.port n).link = .l0 ∧ (ended.port n).rate = rate.val ∧ (ended.port n).reeqOwed = false ∧
        ∀ l ∈ kept.activeLanes n, (locked.lane l).bitLock = true ∧ (locked.lane l).blockLock = decide (2 ≤ rate.val))))

/-- EYE_CHECK, while checks run: each lane in use that is measured and not under margining takes its check's outcome; one under margining
keeps its record and the skipped check counts for the lane. A check that asks for something is reported, and the port enters Recovery, with
re-equalisation where a lane asks for it. A check of a lane at or above its threshold asks for nothing and ends the run below; one below it lengthens the
run, which at its limit asks for a Recovery, and for re-equalisation at the first check after the lane's second Recovery within a second.
EYE_CHECK_DISABLE sets the bit that stops the checks.
MARGIN_SESSION_START, on a lane in use at 16 GT/s and above, begins a session and reports what can be margined; MARGIN_SESSION_END ends it.
LANE_READMIT waits for the next training, and leaves a lane whose exclusion is forced excluded; LANE_FORCE_EXCLUDE stands in LANE_CTRL until then,
and a readmission that waits goes on waiting.
It rests on the model's choice in log entry 28. -/
def Obligations.eye_checks_and_lane_control : Prop :=
  ((∀ (s : State) (k : PortBlk) (eyes : List LaneEye),
    let n := k.toNat
    let b := s.base
    let result := fun (l : Nat) (e : LaneEye) => (b.lane l).check b.now (b.rf (Reg.EYE_POLICY n) 7 0) (b.rf (Reg.EYE_POLICY n) 27 24) e
    let measured := fun (l : Nat) (e : LaneEye) => l ∈ b.activeLanes n ∧ (b.lane l).margining = false ∧ eyes.find? (fun e => b.laneBase n + e.lane.toNat == l) = some e
    let asks := fun a : EyeAsk => ∃ l e, measured l e ∧ (result l e).2 = a
    (b.canTrain n = true → ((b.port n).link = .l0 ∨ (b.port n).link = .l0p) → (b.reg (Reg.PORT_CTRL n)).getLsbD 3 = false →
      ∃ c d : Base, exec (.eyeCheck k eyes) s = .next { s with base := d } ∧
        (∀ l e, measured l e → c.lane l = (result l e).1) ∧ (∀ l, (∀ e, ¬measured l e) → c.lane l = b.lane l) ∧
        (∀ l ∈ b.activeLanes n, (b.lane l).margining = true →
          (c.reg (Reg.LANE_ERR_COUNT l)).toNat = min 0xFFFFFFFF ((b.reg (Reg.LANE_ERR_COUNT l)).toNat + 1)) ∧
        c = { b with links := { b.links with lanes := c.links.lanes }, regs := c.regs, incs := c.incs, incAt := c.incAt, flt := c.flt } ∧
        (asks .reeq → d = c.enterRecovery n true) ∧ (¬asks .reeq → asks .recovery → d = c.enterRecovery n false) ∧
        (¬asks .reeq → ¬asks .recovery → d = c ∧ c.flt = b.flt)) ∧
    (b.mgmtFull = true → b.present_ n = true →
      exec (.eyeCheckDisable k) s = .next { s with base := b.setReg (Reg.PORT_CTRL n) (b.reg (Reg.PORT_CTRL n) ||| 8) })) ∧
  (∀ (x : Lane) (now pct consec : Nat) (e : LaneEye),
    let caused := x.caused.filter fun t => now < t + 1000000000
    let seen := { x with height := e.height, widthUI := e.width, eyeAt := some now, caused := caused }
    let low := 100 * e.height.toNat < pct * x.baseHeight.toNat ∨ 100 * e.width.toNat < pct * x.baseWidth.toNat
    (¬low → x.check now pct consec e = ({ seen with below := 0, recheck := false }, .none)) ∧
    (low → x.recheck = true → 2 ≤ caused.length → x.check now pct consec e = ({ seen with below := 0, recheck := false }, .reeq)) ∧
    (low → (x.recheck = false ∨ caused.length < 2) →
      (consec ≤ x.below + 1 → x.check now pct consec e = ({ seen with below := 0, recheck := true, caused := (now :: caused).take 2 }, .recovery)) ∧
      (x.below + 1 < consec → x.check now pct consec e = ({ seen with below := x.below + 1, recheck := false }, .none))))) ∧
  (∀ (s : State) (l : LaneId), let n := l.toNat
    let b := s.base
    let k := b.blockOfLane n
    (b.canTrain k = true → ((b.port k).link = .l0 ∨ (b.port k).link = .l0p) → 3 ≤ (b.port k).rate → (b.lane n).logical < (b.port k).activeWidth →
      exec (.marginSessionStart l) s =
        .next { s with base := (b.setLane n { b.lane n with margining := true }).emit (.marginCaps l (marginCaps (b.port k).rate)) }) ∧
    (b.alive = true → exec (.marginSessionEnd l) s = .next { s with base := b.setLane n { b.lane n with margining := false } }) ∧
    (b.mgmtFull = true →
      ((b.reg (Reg.LANE_CTRL n)).getLsbD 1 = false →
        exec (.laneReadmit l) s = .next { s with base := (b.setReg (Reg.LANE_CTRL n) 0).setLane n { b.lane n with readmit := true } }) ∧
      ((b.reg (Reg.LANE_CTRL n)).getLsbD 1 = true →
        exec (.laneReadmit l) s = .next { s with base := (b.setReg (Reg.LANE_CTRL n) 2).setLane n { b.lane n with readmit := false } }) ∧
      ((b.reg (Reg.LANE_CTRL n)).getLsbD 0 = false →
        exec (.laneForceExclude l) s = .next { s with base := b.setReg (Reg.LANE_CTRL n) 2 })))

/-- The link power states. L0P_ENTRY, with 256-byte flits, narrows the link and stops the clock recovery of the lanes left idle; L0P_EXIT
restores the width and their lock; L1_ENTRY and L1_2_ENTRY stop the link and every lane's clock recovery. An exit from L1 or L1.2 passes through
Recovery: ELECTRICAL_IDLE_EXIT starts it for the host, PART_LINK_EXIT, when the part has something to send, from L1 at once and from L1.2 by asserting
WAKE_N. WAKE_TIMEOUT reports, once, an exit that has not begun 1 ms after that.
Resets and clocks of a port; its pins are shared by its two blocks. PERST_ASSERT, on a block whose pin was not asserted, takes down the link
of a block that is present, opening its shadow, and ends its lanes' exclusions; PERST_RELEASE releases the pin. REFCLK_LOST takes the links of the
port down and is reported, once; REFCLK_RESTORED has clock and PLL again; PLL_UNLOCK holds the port and is reported. HOST_LINK_RESET takes a link down to
Disabled, or to Hot Reset with the block's shadow open. PORT_HOLD_DETECT sets the hold, opens the shadow and takes the link down.
It rests on the model's choices in log entries 25, 27, 30, 39, 47. -/
def Obligations.link_power_resets_and_clocks : Prop :=
  (∀ (s : State) (k : PortBlk) (w : Fin 9), s.base.canTrain k.toNat = true →
    let n := k.toNat
    let b := s.base
    let p := b.port n
    let moves := fun (c : Instr) (st : LinkState) (width : Nat) (lanes : Nat → Lane) =>
      ∃ t, exec c s = .next { s with base := { b with links := t } } ∧ t = { b.links with ports := t.ports, lanes := t.lanes } ∧
        Tab.get {} t.ports n = { p with link := st, activeWidth := width } ∧ (∀ j, j ≠ n → Tab.get {} t.ports j = b.port j) ∧ ∀ l, Tab.get {} t.lanes l = lanes l
    (p.link = .l0 → 2 ≤ p.flitFormat → (w.val = 1 ∨ w.val = 2 ∨ w.val = 4) → w.val < p.width →
      moves (.l0pEntry k w) .l0p w.val fun l =>
        if l ∈ b.activeLanes n ∧ w.val ≤ (b.lane l).logical then { b.lane l with bitLock := false, blockLock := false } else b.lane l) ∧
    (p.link = .l0p → moves (.l0pExit k) .l0 p.width fun l =>
      if l ∈ b.lanesOf n ∧ (b.lane l).logical < p.width then { b.lane l with bitLock := true, blockLock := decide (2 ≤ p.rate) } else b.lane l) ∧
    (let asleep := fun l => if l ∈ b.lanesOf n then { b.lane l with bitLock := false, blockLock := false } else b.lane l
     (p.link = .l0 ∨ p.link = .l0p → moves (.l1Entry k) .l1 p.width asleep) ∧
     (p.link = .l0 ∨ p.link = .l0p ∨ p.link = .l1 → moves (.l12Entry k) .l12 p.width asleep)) ∧
    (p.link = .l1 ∨ p.link = .l12 →
      exec (.electricalIdleExit k) s = .next { s with base := b.setPort n { p with link := .recovery, exiting := true } }) ∧
    (p.link = .l1 → p.txq ≠ [] →
      exec (.partLinkExit k) s = .next { s with base := (b.setPort n { p with link := .recovery, exiting := true }).emit (.linkExit k) }) ∧
    (p.link = .l12 → p.txq ≠ [] → p.wakeAt = none →
      exec (.partLinkExit k) s = .next { s with base := (b.setPort n { p with wakeAt := some b.now, wakeLate := false }).emit (.linkExit k) }) ∧
    (∀ t, p.link = .l12 → p.wakeAt = some t → t + 1000000 ≤ b.now →
      (p.wakeLate = false → exec (.wakeTimeout k) s =
        .next { s with base := (b.setPort n { p with wakeLate := true }).send .wakeTimeout (0x58 + n / 2) (n / 2 * 16 + 15) }) ∧
      (p.wakeLate = true → exec (.wakeTimeout k) s = .next s))) ∧
  (∀ (s : State) (p : BitVec 3) (k : PortBlk), s.base.alive = true →
    let n := k.toNat
    let b := s.base
    let q := p.toNat
    let j := 2 * q
    let msg := q * 16 + 15
    let freed := fun (b : Base) (j : Nat) => (b.lanesOf j).foldl (fun c l => c.updLane l fun x => { x with excluded := false }) b
    let reset := fun (b : Base) (j : Nat) =>
      if (b.port j).perst then b
      else
        let b := if b.alive && b.present_ j then (b.openShadow j 100000).linkDown j else b
        let b := if b.present_ j then freed b j else b
        b.updPort j fun x => { x with perst := true, noWidth := false, narrowed := false }
    let pins := fun (f : Port → Port) (b : Base) => (b.updPort j f).updPort (j + 1) f
    let down := fun (b : Base) (j : Nat) => b.linkDownTo j (b.restState j) false
    let unclocked := pins (fun x => { x with refclk := false }) (if b.split q then down (down b j) (j + 1) else down b j)
    let held := (b.setReg (Reg.PORT_CTRL n) ((b.reg (Reg.PORT_CTRL n) ||| 1) &&& 9)).openShadow n 100000
    exec (.perstAssert p) s = .next { s with base := reset (reset b j) (j + 1) } ∧
    exec (.perstRelease p) s = .next { s with base := pins (fun x => { x with perst := false }) b } ∧
    ((b.port j).refclk = true → exec (.refclkLost p) s = .next { s with base := unclocked.send .refclkLost (0x50 + q) msg }) ∧
    ((b.port j).refclk = false → exec (.refclkLost p) s = .next s) ∧
    exec (.refclkRestored p) s = .next { s with base := pins (fun x => { x with refclk := true, pll := true }) b } ∧
    exec (.pllUnlock p) s = .next { s with base := (pins (fun x => { x with pll := false }) b).send .pllUnlock (0x50 + q) msg } ∧
    (∀ (f : Port → Port) (i : Nat), (pins f b).port i = if i = j ∨ i = j + 1 then f (b.port i) else b.port i) ∧
    (b.present_ n = true → (b.port n).linked = true →
      exec (.hostLinkReset k true) s = .next { s with base := b.linkDownTo n .disabled false } ∧
      exec (.hostLinkReset k false) s = .next { s with base := (b.openShadow n 100000).linkDownTo n .hotReset true }) ∧
    (b.mgmtFull = true → b.present_ n = true → (b.reg (Reg.PORT_CTRL n)).getLsbD 0 = false →
      exec (.portHoldDetect k) s = .next { s with base := held.linkDownTo n .held true }))

/-! ### Fabric transactions -/

/-- A request of a host that the port carries, with a credit of its channel, inside its effective ranges and with nothing that answers it at
once, takes its label and its charge, passes the host-binding stage and goes on to the map stage: MEM_RD, MEM_RD_DATA, MEM_INV, MEM_WR,
MEM_WR_PTL. A MEM_WR_PTL with every byte enabled is a MEM_WR. One for a logical device that the port does not carry is dropped, counted and
reported. In a secure stream a request whose MAC epoch is not verified waits for that; in an insecure stream it is discarded.
It rests on the model's choices in log entries 32, 36, 44. -/
def Obligations.requests_pass_the_host_binding_stage : Prop :=
  ∀ (s : State) (r : MemReq) (data : Data) (poison nt : Bool) (be : BitVec 64) (dpa : Nat),
    let b := s.base
    let k := r.port.toNat
    let p := b.port k
    let h := b.ldOf k r.ld.toNat
    let line := dpa / 64
    let all := fun f : Instr → ReqOp → Prop =>
      f (.memRd r) (.rd r.snp) ∧ f (.memRdData r) .rdData ∧ f (.memInv r nt) .inv ∧ f (.memWr r data poison) (.wr data poison) ∧
      f (.memWrPtl r data be) (if be = BitVec.allOnes 64 then .wr data false else .ptl data be)
    let passes := fun (c : Instr) (op : ReqOp) =>
      let q : Req := { who := .host r.port (BitVec.ofNat 4 h) r.tag, op := op, line := line, metaField := r.metaField, arrived := b.now }
      let b1 := b.countSubst q h
      let b2 := (b1.lookup (b1.labelled q h) 1).2
      let q2 : Req := { (b1.lookup (b1.labelled q h) 1).1 with passed := b2.dram.passes }
      b.credits k op.rwd = true → b1.fencedOct (b1.octantOf line) = false → b1.retired (b1.place line).ch = false → b1.idleReq (b1.labelled q h) = false →
      exec c s = .next { s with base := (((b2.updDram fun d => { d with passes := d.passes + 1 }).upset line r.upset).present q2).pump }
    (b.alive = true → p.ide ≠ 1 ∨ p.ideFlits = 0 → b.carriesLd h k = true → b.flt.fatal = false → b.coh.isolated.getLsbD h = false →
      b.hdm h r.hpa.toNat = some dpa → dpa < 2 ^ 37 → b.inEff h (dpa / 268435456) = true → b.heldForOther h (dpa / 268435456) = false → all passes) ∧
    (b.alive = true → p.ide ≠ 1 ∨ p.ideFlits = 0 → b.carriesLd h k = false →
      all fun c op => b.credits k op.rwd = true → exec c s = .next { s with base := b.send .ldNotBound (0x80 + k) (k / 2 * 16 + 15) }) ∧
    (b.alive = true → p.ide = 1 → p.ideFlits ≠ 0 → all fun c op => b.credits k op.rwd = true →
      exec c s = .next { s with base := b.setPort k { p with unverified := p.unverified ++ [{ at_ := p.flitAt, flit := p.flitsRx, msg := c }] } }) ∧
    (p.ide = 2 → all fun c _ => exec c s = .next s)

/-- The firewall: a request of a host that the port carries, outside its effective ranges, or of one that is isolated, reaches no line. A
read is answered with 64 zero bytes and poison, a write or an invalidation with Cmp; the directory, the map, the channels and the lines stay as they
are. One outside the ranges is counted.
It rests on the model's choice in log entry 36. -/
def Obligations.firewall_keeps_memory : Prop :=
  ∀ (s : State) (r : MemReq) (data : Data) (poison nt : Bool) (be : BitVec 64),
    let b := s.base
    let k := r.port.toNat
    let h := b.ldOf k r.ld.toNat
    b.alive = true → (b.port k).ide ≠ 1 ∨ (b.port k).ideFlits = 0 → b.carriesLd h k = true → b.flt.fatal = false →
    (b.coh.isolated.getLsbD h = true ∨ ∀ dpa, b.hdm h r.hpa.toNat = some dpa → dpa < 2 ^ 37 → b.inEff h (dpa / 268435456) = false) →
    let kept := fun (c : Instr) (rwd : Bool) (x : Rsp) => b.credits k rwd = true → ∃ t : Base, exec c s = .next { s with base := t } ∧
      t.dram = b.dram ∧ t.coh = b.coh ∧ t.lay = b.lay ∧ t.mov = b.mov ∧ t.hosts = b.hosts ∧ t.free = b.free ∧
      (b.coh.isolated.getLsbD h = false → (t.reg (Reg.FIREWALL_COUNT h)).toNat = min 0xFFFFFFFF ((b.reg (Reg.FIREWALL_COUNT h)).toNat + 1)) ∧
      t.out = .rsp r.port (BitVec.ofNat 4 h) r.tag x :: b.out
    kept (.memRd r) false (.data 0 true 0) ∧ kept (.memRdData r) false (.data 0 true 0) ∧ kept (.memInv r nt) false .cmp ∧
    kept (.memWr r data poison) true .cmp ∧ kept (.memWrPtl r data be) true .cmp

/-- Messages of a logical device that the port carries, outside a MAC epoch that waits: MEM_SPEC_RD is accepted and discarded; MEM_RD_FWD is
dropped and reported; BI_CONFLICT waits for the host's earlier requests of the line. A LABEL_SLOT with one context of a device whose extension
is active since an earlier flit takes its place among the port's contexts; one with another code than the one in force is malformed, and counted for the
device of an SLD port. LABEL_EXTENSION_ENABLE keeps the slot code while the extension is on.
BI_RSP to a snoop that was sent: a response that the snoop allows changes the flow's record and ends the snoop, and what waited for it goes
on; one that it does not allow is reported, the snoop is sent again, and the second such isolates the host.
It rests on the model's choices in log entries 32, 70. -/
def Obligations.other_fabric_messages_and_snoops : Prop :=
  (∀ (s : State) (r : MemReq) (op : BitVec 4) (p : PortBlk) (ld : HostId) (tag : BitVec 16) (dpa : Dpa) (a c : SlotContext) (en : Bool) (code : BitVec 4),
    let b := s.base
    let k := p.toNat
    let h := b.ldOf k ld.toNat
    let g := b.ldOf k a.ld.toNat
    let hears := fun k : Nat => b.alive = true ∧ (b.port k).carries = true ∧ ((b.port k).ide = 0 ∨ (b.port k).ide = 1 ∧ (b.port k).ideFlits = 0)
    (hears r.port.toNat → b.credits r.port.toNat false = true → b.carriesLd (b.ldOf r.port.toNat r.ld.toNat) r.port.toNat = true →
      exec (.memSpecRd r) s = .next s ∧
      exec (.memRdFwd r op) s =
        .next { s with base := b.send .unsupportedOpcode (0x80 + r.port.toNat) (r.port.toNat / 2 * 16 + 15) }) ∧
    (hears k → b.carriesLd h k = true →
      let waiting := { b with coh := { b.coh with conflicts := b.coh.conflicts ++ [(p, BitVec.ofNat 4 h, tag, dpa.toNat / 64, b.dram.passes)] } }
      exec (.biConflict p ld tag dpa) s = .next { s with base := waiting.ackConflicts }) ∧
    (hears k → code = b.slotCode k → a.valid = true → c.valid = false → b.carriesLd g k = true → b.extActive g = true → (b.ld g).lblFrom < (b.port k).flitsRx →
      let x : SlotCtx := { ld := BitVec.ofNat 4 g, label := a.label, deadline := a.deadline.toNat }
      exec (.labelSlot p code a c) s =
        .next { s with base := b.setPort k { b.port k with slot := x :: (b.port k).slot.filter fun y => y.ld.toNat != g } }) ∧
    (hears k → code ≠ b.slotCode k →
      let counted := if (b.reg (Reg.PORT_LD_MODE k)).getLsbD 0 = false ∧ b.carriesLd g k = true then b.bump (Reg.SLOT_MALFORMED_COUNT g) else b
      exec (.labelSlot p code a c) s = .next { s with base := counted.send .slotMalformed (0x80 + k) (k / 2 * 16 + 15) }) ∧
    (b.hostUp ld.toNat = true →
      let d := b.ld ld.toNat
      let written := b.setLd ld.toNat { d with lblEnable := en, slotCode := if d.lblEnable then d.slotCode else code }
      exec (.labelExtensionEnable ld en code) s = .next { s with base := written.refreshActive (b.portOf ld.toNat) })) ∧
  (∀ (s : State) (p : PortBlk) (ld : HostId) (dpa : Dpa) (kind : BiRspKind) (t : Tracker) (sn : Snoop),
    let b := s.base
    let h := b.ldOf p.toNat ld.toNat
    let line := dpa.toNat / 64
    b.alive = true → (b.port p.toNat).carries = true → ((b.port p.toNat).ide = 0 ∨ (b.port p.toNat).ide = 1 ∧ (b.port p.toNat).ideFlits = 0) →
    b.carriesLd h p.toNat = true →
    (b.coh.trackers.find? fun x => x.line == line && x.snoops.any fun y => y.host.toNat == h && y.sent) = some t →
    (t.snoops.find? fun y => y.host.toNat == h) = some sn →
    (∀ t', t.respond h sn.kind kind = some t' → (∀ y ∈ t'.snoops, y.host.toNat ≠ h) ∧
      exec (.biRsp p ld dpa kind) s = .next { s with base := (b.setTracker line t').pump }) ∧
    (t.respond h sn.kind kind = none → sn.resent = true →
      exec (.biRsp p ld dpa kind) s = .next { s with base := (b.send .biProtocolError (0x410 + h) (64 * line)).isolate h true line }) ∧
    (t.respond h sn.kind kind = none → sn.resent = false →
      let r := (b.send .biProtocolError (0x410 + h) (64 * line)).sendSnoop h line sn.kind
      let again := { t with snoops := t.snoops.map fun x => if x.host.toNat = h then { r.1 with resent := true } else x }
      exec (.biRsp p ld dpa kind) s = .next { s with base := r.2.setTracker line again }))

/-- Registers and mailbox of a logical device whose port carries it: DECODER_COMMIT commits a decoder of a supported interleave inside the
host's ranges, or refuses it and reports that; MSIX_ENABLE holds the new mask and table and, when it enables, keeps the pending vectors that stay masked and sends those that do
not; CLEAR_EVENT_RECORDS drops the records named, all or none; GET_POISON_LIST answers the lines of the list in the host's ranges and the range asked for;
SCAN_MEDIA lists the lines found poisoned; SANITIZE clears the stripes of the host's own blocks. LD_CONVENTIONAL_RESET returns the registers and keeps the
traffic counts. IDE_KEY_SET, with a finished session of the port's own path, secures a stream under the aggregation named, and a refresh changes
nothing that runs.
Dynamic capacity, with firmware running: DC_ADD_REQUEST offers an extent under a new tag, or is refused with its reason. DC_EXTENT_ACCEPT takes an offer;
DC_EXTENT_RELEASE has an extent in force leave at the next boundary and one not yet in force at once; of an extent that the host does not hold both
answer invalid input. DC_FORCED_RELEASE does the same and reports it. RANGE_HOLD_END ends a hold whose requests have answered; after a release the blocks
that no host holds any longer are cleared; a hold whose requests have not answered stays.
It rests on the model's choices in log entries 33, 34, 35, 50. -/
def Obligations.logical_devices_and_dynamic_capacity : Prop :=
  (∀ (s : State) (ld : HostId) (i : Fin 4) (d : DecoderCfg) (en : Bool) (mask : BitVec 8) (entries : List (Fin 24 × Word)) (hs : List Nat)
    (base limit : Dpa) (p : PortBlk) (agg : Fin 4),
    let b := s.base
    let h := ld.toNat
    let cfg : Decoder := {
      base := d.base.toNat * 268435456, size := d.size.toNat * 268435456, ways := d.ways.toNat, pos := d.pos.toNat,
      gran := 2 ^ d.granLog2.toNat, dpaBase := d.dpaBase.toNat * 268435456 }
    let seen := b.dram.poison.filter fun l => b.inEff h (blockOf l) && decide (base.toNat ≤ 64 * l) && decide (64 * l ≤ limit.toNat)
    let own := (b.effBlocks h).filter fun x => (b.windowOf x).isNone && !((List.range 16).any fun o => o != h && b.inEff o x)
    let held := fun x : Decoder => b.setLd h { b.ld h with decoders := (b.ld h).decoders.set i.val x }
    (b.hostUp h = true →
      (cfgSupported d = true → b.spanOk h d = true → exec (.decoderCommit ld i d) s = .next { s with base := held { cfg with committed := true } }) ∧
      ((cfgSupported d = false ∨ b.spanOk h d = false) → exec (.decoderCommit ld i d) s =
        .next { s with base := (held { cfg with error := true }).send .decoderCommitRefused (0x90 + h) (d.dpaBase.toNat * 268435456) }) ∧
      (∃ t : Base, exec (.msixEnable ld en mask entries) s = .next { s with base := t } ∧ (t.ld h).msixEnable = en ∧ (t.ld h).msixMask = mask ∧
        (t.ld h).msixTable = entries.foldl (fun t e => Tab.set 0 t e.1.val e.2) (b.ld h).msixTable ∧
        t = { b with hosts := t.hosts, out := t.out } ∧ (en = false → t.out = b.out ∧ (t.ld h).msixPending = (b.ld h).msixPending) ∧
        (en = true → ∀ v, (t.ld h).msixPending.getLsbD v = ((b.ld h).msixPending.getLsbD v && mask.getLsbD v)) ∧
        (en = true → ∀ v, v < 8 → (b.ld h).msixPending.getLsbD v = true → mask.getLsbD v = false → .msixHost ld v ∈ t.out)) ∧
      ((∀ n ∈ hs, ∃ x ∈ b.flt.records, x.ld = ld ∧ x.handle = n) →
        let left := { b with flt := { b.flt with records := b.flt.records.filter fun x => !(x.ld == ld && hs.contains x.handle) } }
        exec (.clearEventRecords ld hs) s = .next { s with base := left.reply ld .success }) ∧
      ((∃ n ∈ hs, ∀ x ∈ b.flt.records, x.ld = ld → x.handle ≠ n) → exec (.clearEventRecords ld hs) s = .next { s with base := b.reply ld .invalidInput }) ∧
      exec (.getPoisonList ld base limit) s =
        .next { s with base := b.reply ld (.numbers ((if b.dram.poisonLost then 1 else 0) :: seen.map fun l => 64 * l)) } ∧
      exec (.scanMedia ld base limit) s = .next { s with base := ((s.scanHits h base.toNat limit.toNat).foldl Base.listPoison b).reply ld .success } ∧
      exec (.sanitize ld) s = .next { s with base := (b.unmarkBlocks own).reply ld .success }) ∧
    (∀ l, l ∈ s.scanHits h base.toNat limit.toNat ↔
      (∃ e ∈ b.lay.marked, e.1 = stripeOf l) ∧ b.inEff h (blockOf l) = true ∧ base.toNat ≤ 64 * l ∧ 64 * l ≤ limit.toNat ∧ b.noAccess l = false ∧ s.readsPoison l = true) ∧
    (b.alive = true →
      let d := b.ld h
      let fresh : LogicalDev := { linesRead := d.linesRead, linesWritten := d.linesWritten, bytesMoved := d.bytesMoved }
      exec (.ldConventionalReset ld) s =
        .next { s with base := { b.setLd h fresh with coh := { b.coh with ldReset := setBit b.coh.ldReset h true } } }) ∧
    (∀ x ∈ b.boot.sessions, b.alive = true → (b.port p.toNat).linked = true → x.finished = true →
      x.path = (if tb (b.reg (Reg.PORT_LD_MODE p.toNat)) 0 then .doeFm else .doe (BitVec.ofNat 4 (b.rf (Reg.PORT_LD_MODE p.toNat) 4 1))) →
      ∃ t, exec (.ideKeySet p true agg) s = .next { s with base := { b with links := { b.links with ports := t } } } ∧
        ∀ j, Tab.get {} t j =
          if j = p.toNat ∧ (b.port j).ide ≠ 1 then { b.port j with ide := 1, ideAgg := agg.val + 1, ideFlits := 0, unverified := [] } else b.port j)) ∧
  (∀ (s : State) (h : HostId) (base limit : BitVec 9),
    let b := s.base
    let n := h.toNat
    let reason := b.extentReason n base.toNat limit.toNat (b.extentsOf n)
    let is := fun e : Extent => e.host == h && e.base == base.toNat && e.limit == limit.toNat
    let hit := fun e : Extent => is e && e.stage != .releasing
    let ends := fun r : HeldRange => r.host == h && r.base == base.toNat && r.limit == limit.toNat && !b.holdRuns r
    let withExtents := fun l : List Extent => { b with hosts := { b.hosts with extents := l } }
    let ended := { b with hosts := { b.hosts with held := dropFirst ends b.hosts.held } }
    (b.fwRuns = true → reason ≠ 0 →
      exec (.dcAddRequest h base limit) s =
        .next { s with base := (b.emit (.fmReply .invalidInput)).send .dcAddRefused 0xB0 (base.toNat + reason * 2 ^ 16 + n * 2 ^ 24) }) ∧
    (b.fwRuns = true → reason = 0 →
      let e : Extent := { host := h, base := base.toNat, limit := limit.toNat, tag := b.hosts.nextTag, stage := .offered }
      let b1 := { b with hosts := { b.hosts with extents := b.hosts.extents ++ [e], nextTag := b.hosts.nextTag + 1 } }
      exec (.dcAddRequest h base limit) s = .next { s with base := (b1.dcRecord n 0 e.tag e.base e.limit).emit (.fmReply .success) }) ∧
    (b.hostUp n = true → b.fwRuns = true →
      (b.hosts.extents.any (fun e => is e && e.stage == .offered) = true →
        let taken := withExtents (updFirst (fun e => is e && e.stage == .offered) (fun e => { e with stage := .accepted }) b.hosts.extents)
        exec (.dcExtentAccept h base limit) s = .next { s with base := taken.reply h .success }) ∧
      (b.hosts.extents.any (fun e => is e && e.stage == .offered) = false → exec (.dcExtentAccept h base limit) s = .next { s with base := b.reply h .invalidInput }) ∧
      (b.hosts.extents.find? hit = none → exec (.dcExtentRelease h base limit) s = .next { s with base := b.reply h .invalidInput })) ∧
    (∀ e, b.hosts.extents.find? hit = some e →
      let left := if e.stage = .inForce then updFirst hit (fun e => { e with stage := .releasing }) b.hosts.extents else dropFirst hit b.hosts.extents
      let forced := ((withExtents left).send .dcForcedRelease 0xB0 (268435456 * base.toNat)).dcRecord n 2 e.tag e.base e.limit
      (b.hostUp n = true → b.fwRuns = true → exec (.dcExtentRelease h base limit) s = .next { s with base := (withExtents left).reply h .success }) ∧
      (b.fwRuns = true → exec (.dcForcedRelease h base limit) s = .next { s with base := forced.emit (.fmReply .success) })) ∧
    (b.alive = true →
      (b.hosts.held.find? ends = none → exec (.rangeHoldEnd h base limit) s = .next s) ∧
      ∀ r, b.hosts.held.find? ends = some r →
        (r.clears = false → exec (.rangeHoldEnd h base limit) s = .next { s with base := ended }) ∧
        (r.clears = true →
          let gone := (blocksOf r.base r.limit).filter fun x => !((List.range 16).any fun o => ended.inEff o x)
          exec (.rangeHoldEnd h base limit) s = .next { s with base := ended.unmarkBlocks gone })))

/-! ### Layout and fills -/

/-- FILL_COMPLETE confirms the fill of a stripe whose rows are all written and closed, and does nothing before that. FILL_FALLBACK
sends a quadrant's rows down the line path, counts and reports it: one whose bus is out of service at once, one that the mover has not begun after
200 ns; without such a quadrant it does nothing. FILL_TABLE_FULL reports the first wait for an entry that has passed 10 µs, of a request before one of the mover.
It rests on the model's choices in log entries 58, 67. -/
def Obligations.fill_commands : Prop :=
  ∀ (s : State) (st : BitVec 21) (quads : BitVec 4), s.base.alive = true →
    let b := s.base
    let fill := b.lay.fills.find? fun f => f.stripe == st.toNat && !f.released && f.claim.isNone
    (∀ f, fill = some f → b.fillReady f = true → exec (.fillComplete st) s = .next { s with base := b.confirmFill f }) ∧
    (∀ f, fill = some f → b.fillReady f = false → exec (.fillComplete st) s = .next s) ∧
    (fill = none → exec (.fillComplete st) s = .next s ∧ exec (.fillFallback st quads) s = .next s) ∧
    (∀ f, fill = some f →
      let late := fun q : Nat => decide (f.at_ + 200 ≤ b.now) && !f.begun b q
      let taken := (List.range 4).filter fun q => quads.getLsbD q && !f.linePath.getLsbD q && (late q || !b.busServes q)
      let rows := (stripeRows b.lay.n f.stripe).zipIdx.filter fun e => taken.contains (quadOf e.1.ch) && f.rowDue b e.2 e.1
      let qs := taken.filter fun q => rows.any fun e => quadOf e.1.ch == q
      let path := qs.foldl (fun (m : BitVec 4) (q : Nat) => setBit m q true) f.linePath
      let b1 := b.updLay fun l => { l with fills := l.fills.map fun (g : Fill) => if g.stripe = f.stripe then { g with linePath := path } else g }
      let b2 := (b1.bump Reg.FILL_FALLBACK_COUNT qs.length).send .fillFallback 0x3F0 (f.stripe * 65536)
      let b3 := rows.foldl (fun b e => (rowPlaces e.1.ch e.1.bank e.1.row).foldl (fun b p => b.fillLine f p) b) b2
      (qs ≠ [] → exec (.fillFallback st quads) s = .next { s with base := b3 }) ∧
      (qs = [] → exec (.fillFallback st quads) s = .next s)) ∧
    (let waits := (b.lay.fillWait.map fun w => (w.2, stripeOf w.1.line)) ++ b.mov.slots.filterMap fun e => e.2.fillSince
     (∀ w, (waits.find? fun w => decide (w.1 + 10000 < b.now)) = some w →
       exec .fillTableFull s = .next { s with base := b.send .fillTableFull 0x3F0 (w.2 * 65536) }) ∧
     ((∀ w ∈ waits, b.now ≤ w.1 + 10000) → exec .fillTableFull s = .next s))

/-! ### The channels -/

/-- CHANNEL_SELECT issues what ranks first: a refresh, a targeted refresh, a read or a write, or nothing; a row transfer issues with its bus
and a line of a move with the move's command. Only a write that issues changes the arrays, in the bytes of its line. A refresh of tier 0 ranks first, then a
move; of the queued requests the best has the smallest key, and a row transfer goes before it only with a smaller one.
It rests on the model's choices in log entries 57, 58, 110, 112, 113. -/
def Obligations.channel_select_issues_the_first : Prop :=
  (∀ (s : State) (ch : ChanId) (noise : Noise), s.base.alive = true →
    let k := ch.toNat
    let t := s.base.now
    let r := s.base.pick k t
    let b := s.base.updChan k fun c => { c with drain := r.2 }
    let u : State := { s with base := b }
    let run := exec (.channelSelect ch noise none) s
    (r.1 = none ∨ r.1 = some .move ∨ (∃ e, r.1 = some (.row e)) → run = .next { s with base := b.pump }) ∧
    (∀ bank forced, r.1 = some (.refresh bank forced) → run = .next { s with base := (b.issueRefresh k bank t forced).pump }) ∧
    (∀ bank nbh, r.1 = some (.trf bank nbh) → run = .next { s with base := (b.issueTrf k bank nbh t).pump }) ∧
    (∀ e, r.1 = some (.line e) → e.wr = none → ∃ x : Base, run = .next { s with base := x } ∧
      x = (((State.issueRead { u with base := b.release e.req } k t e).base.drainChan k).pump)) ∧
    (∀ e w, r.1 = some (.line e) → e.wr = some w → ∃ v : State, run = .next v ∧
      v = ((State.issueWrite { u with base := b.release e.req } k t e noise).onBase fun b => (b.drainChan k).pump) ∧
      v.otp = s.otp ∧ v.rind = s.rind ∧
      let at_ := rawAddr k e.bank ((s.base.chan k).rawRow e.bank e.row) e.col
      ∀ a, (a < at_ ∨ at_ + 80 ≤ a) → Memory.byte v.mem a = Memory.byte s.mem a)) ∧
  (∀ (b : Base) (k t : Nat),
    (∀ m, b.tier0 k t = some m → (b.pick k t).1 = some m) ∧
    (b.tier0 k t = none → b.moveDue k t = true → (b.pick k t).1 = some .move) ∧
    (∀ e, (b.pick k t).1 = some (.line e) → (b.bestLine k t).1 = some e) ∧
    (∀ e x, (b.pick k t).1 = some (.row e) → (b.bestLine k t).1 = some x → keyLt e.key x.key = true)) ∧
  (∀ (l : List Entry) (e : Entry), best l = some e → e ∈ l ∧ ∀ x ∈ l, keyLt x.key e.key = false)

/-- REFRESH_TICK of the bank whose turn it is, once due, adds one to its debt, or is held while the debt is 8; the turn passes to the next bank and
the next tick is due one spacing later. STARVATION makes every request of the channel that has waited the limit starved, line by line and row by row, and counts and
reports each; scrub is none. TRF_COMPLETE, at its time, counts a targeted refresh and clears its neighbourhood; THROTTLE_EXPIRE ends the throttles that are due.
It rests on the model's choices in log entries 49, 67. -/
def Obligations.refresh_starvation_and_throttle : Prop :=
  ∀ (s : State) (ch : ChanId) (bank : BitVec 5) (label : Label), s.base.alive = true →
    let b := s.base
    let k := ch.toNat
    let c := b.chan k
    let x := b.set_ (b.setOf k)
    let late := fun arrival : Nat => decide (arrival + 1000 * b.rf Reg.SCHED_CFG 23 16 ≤ b.now)
    let due := fun e : Entry => !e.starved && e.tier != 3 && late e.arrival
    let dueRow := fun e : RowEntry => !e.starved && (e.tier == 1 || e.tier == 2) && late e.arrival
    let star := fun e : Entry => if due e then { e with starved := true } else e
    let starRow := fun e : RowEntry => if dueRow e then { e with starved := true } else e
    let hit := (((c.readQ ++ c.writeQ).filter due).map fun e => (e.bank, e.row)) ++ (c.rowQ.filter dueRow).map fun e => (e.bank, e.row)
    let marked := b.setChan k { c with readQ := c.readQ.map star, writeQ := c.writeQ.map star, rowQ := c.rowQ.map starRow }
    let starved := hit.foldl (fun (b : Base) (e : Nat × Nat) => (b.bump Reg.STARVE_COUNT).send .starvation (0x100 + 8 * k) (k + 64 * e.1 + 2048 * e.2)) marked
    let throttle := fun t : Throttle => t.label == label && t.bank == bank.toNat && decide (t.until_ ≤ b.pl.epochs)
    (b.boot.memActive = true → b.retired k = false → (b.droppedIn (b.setOf k)).length ≠ 8 → x.state < 2 → c.tickBank = bank.toNat → c.tickDue ≤ 224 * b.now →
      let next := { c with
        tickBank := (bank.toNat + 1) % 32
        tickDue := (if c.tickDue + 224 ≤ 224 * b.now then 224 * b.now else c.tickDue) + b.tickSpacing k }
      (Tab.get 0 c.debt bank.toNat < 8 → ∃ t : Tab Nat, exec (.refreshTick ch bank) s = .next { s with base := b.setChan k { next with debt := t } } ∧
        Tab.get 0 t bank.toNat = Tab.get 0 c.debt bank.toNat + 1 ∧ ∀ j, j ≠ bank.toNat → Tab.get 0 t j = Tab.get 0 c.debt j) ∧
      (8 ≤ Tab.get 0 c.debt bank.toNat → ∃ t : Tab Bool, exec (.refreshTick ch bank) s = .next { s with base := b.setChan k { next with heldTick := t } } ∧
        Tab.get false t bank.toNat = true ∧ ∀ j, j ≠ bank.toNat → Tab.get false t j = Tab.get false c.heldTick j)) ∧
    ((c.tickBank ≠ bank.toNat ∨ 224 * b.now < c.tickDue) → exec (.refreshTick ch bank) s = .next s) ∧
    exec (.starvation ch) s = .next { s with base := starved } ∧
    (∀ y, (c.trfRunning.find? fun y => y.1 == bank.toNat && decide (y.2.2 ≤ b.now)) = some y →
      let c' := { c with trfRunning := c.trfRunning.filter (fun z => decide (z ≠ y)), trfCount := satAdd 0xFFFF c.trfCount 1 }
      exec (.trfComplete ch bank) s = .next { s with base := b.setChan k (c'.clearNbh y.2.1) }) ∧
    (c.throttles.any throttle = true →
      let ended := b.setChan k { c with throttles := c.throttles.filter fun t => !throttle t }
      exec (.throttleExpire ch bank label) s = .next { s with base := ended.updLabel label.toNat fun e => { e with throttles := e.throttles - 1 } }) ∧
    (c.throttles.any throttle = false → exec (.throttleExpire ch bank label) s = .next s)

/-- Training at boot. CHANNEL_TRAINING of the group whose turn it is, with a result for every channel of it that is open, trains those
channels in turn, and the turn passes on; it does nothing otherwise. A channel that trains without a failed cane is trained, with its values and the temperature at
capture in its record; one that no arrangement trains is retired and reported. STORED_TRAINING_LOAD takes the checks one by one: a record whose CRC,
part identity, temperature within 20 degrees and pattern hold is used; another is rejected, reported and trained in full. TRAIN_CTRL_START asks for a retrain of a trained
channel: it starts, or waits once while another runs.
DRIFT_VISIT in a pause of the plan holds the channel 20 cycles, moves each cane's centre in the eye visited by at most one step toward what was
measured, records the widths and turns to the other eye; past the limit of a centre or a width it reports and asks for a retrain. RETRAIN_SLICE holds the channel 1 µs and
takes one slice off, no sooner than 10 epochs after the last; the last one stores the record and reports, and the next channel that waits starts.
It rests on the model's choice in log entry 65. -/
def Obligations.channel_training : Prop :=
  ((∀ (s : State) (group : Fin 4) (results : List TrainResult) (checks : List TrainCheck) (ch : ChanId),
    let b := s.base
    let k := ch.toNat
    let c := b.chan k
    let waits := fun i : Nat => (b.chan i).train == .untrained || (b.chan i).train == .training
    let open_ := ((List.range 16).map fun i => 16 * group.val + i).filter waits
    let trainedAll := (results.filter fun r => open_.contains r.ch.toNat).foldl (fun b r => b.trainFull r) b
    (b.alive = true → b.boot.memActive = false →
      (b.dram.trainGroup = group.val → (∀ i ∈ open_, ∃ r ∈ results, r.ch.toNat = i) →
        exec (.channelTraining group results) s =
          .next { s with base := { trainedAll with dram := { trainedAll.dram with trainGroup := group.val + 1 } } }) ∧
      ((b.dram.trainGroup ≠ group.val ∨ ∃ i ∈ open_, ∀ r ∈ results, r.ch.toNat ≠ i) → exec (.channelTraining group results) s = .next s) ∧
      exec (.storedTrainingLoad checks) s = .next { s with base := (checks.filter fun x => waits x.ch.toNat).foldl (fun b x => b.loadRecord x) b }) ∧
    (b.mgmtFull = true → c.train = .trained → b.dram.retraining = none →
      exec (.trainCtrlStart ch) s = .next { s with base := b.startRetrain k }) ∧
    (b.mgmtFull = true → c.train = .trained → b.dram.retraining ≠ none → b.dram.retrainWait.contains k = false →
      exec (.trainCtrlStart ch) s = .next { s with base := { b with dram := { b.dram with retrainWait := b.dram.retrainWait ++ [k] } } }) ∧
    (b.mgmtFull = true → (c.train ≠ .trained ∨ b.dram.retraining ≠ none ∧ b.dram.retrainWait.contains k = true) → exec (.trainCtrlStart ch) s = .next s)) ∧
  (∀ (b : Base) (r : TrainResult) (x : TrainCheck) (old : TrainRecord),
    let fresh := fun (c : Chan) => { c with
      train := .trained, readCentres := [], writeCentres := [], readWidths := List.replicate 40 100, writeWidths := List.replicate 40 100
      visitAt := b.pl.epochs, writeEye := false }
    let k := r.ch.toNat
    (r.failedCanes = [] → b.retired k = false → r.failedAt = none →
      b.trainFull r = b.setChan k { fresh (b.chan k) with usedStored := false, record := some { values := r.values, temp := r.temp } }) ∧
    (r.failedCanes = [] → b.retired k = false → r.failedAt ≠ none →
      b.trainFull r = ((b.retireQuiet k).send .trainingFailed (0x100 + 8 * k + 2) k).pump) ∧
    (b.retired x.ch.toNat = false → (b.chan x.ch.toNat).record = some old →
      (x.crcOk = true ∧ x.partOk = true ∧ x.patternOk = true ∧ old.temp - x.full.temp ≤ 20 ∧ x.full.temp - old.temp ≤ 20 →
        b.loadRecord x = b.setChan x.ch.toNat { fresh (b.chan x.ch.toNat) with usedStored := true }) ∧
      ((x.crcOk = false ∨ x.partOk = false ∨ x.patternOk = false ∨ 20 < old.temp - x.full.temp ∨ 20 < x.full.temp - old.temp) →
        b.loadRecord x = (b.send .storedTrainingRejected (0x100 + 8 * x.ch.toNat + 2) x.ch.toNat).trainFull { x.full with ch := x.ch })))) ∧
  ((∀ (s : State) (ch : ChanId) (m : DriftMeasure) (values : TrainValues) (b : Base),
    let k := ch.toNat
    let c := b.chan k
    let held := fun n : Nat => { c with pauseUntil := (c.cols.map ColSlot.ends).foldl max b.now + n, visitAt := b.pl.epochs }
    let eye := if c.writeEye then { held 20 with writeCentres := stepCentres c.writeCentres m.centres, writeWidths := m.widths, writeEye := false }
      else { held 20 with readCentres := stepCentres c.readCentres m.centres, readWidths := m.widths, writeEye := true }
    let seen := b.setChan k eye
    let passed := (∃ x ∈ m.centres, b.rf Reg.TRAIN_CFG 3 0 < x.natAbs) ∨ ∃ w ∈ m.widths, w < b.rf Reg.TRAIN_CFG 15 8
    (s.base.visitable k = true → (s.base.chan k).train = .trained → s.base.takePause ch .drift = some b →
      (¬passed → exec (.driftVisit ch m) s = .next { s with base := seen }) ∧
      (passed → exec (.driftVisit ch m) s = .next { s with base := (seen.send .driftLimit (0x100 + 8 * k + 2) k).requestRetrain k })) ∧
    (s.base.visitable k = true → (s.base.chan k).train = .sliced → ((s.base.chan k).lastSlice = 0 ∨ (s.base.chan k).lastSlice + 10 ≤ s.base.pl.epochs) →
      s.base.takePause ch .slice = some b →
      let sliced := { c with pauseUntil := (c.cols.map ColSlot.ends).foldl max b.now + 1000, slicesLeft := c.slicesLeft - 1, lastSlice := b.pl.epochs }
      (1 < c.slicesLeft → exec (.retrainSlice ch values) s = .next { s with base := b.setChan k sliced }) ∧
      (c.slicesLeft = 1 →
        let done := { sliced with
          train := .trained, visitAt := b.pl.epochs, writeEye := false, readCentres := [], writeCentres := []
          readWidths := List.replicate 40 100, writeWidths := List.replicate 40 100
          record := some (TrainRecord.retrained c.record values ((b.diode (dieOf k)).reading / 4)) }
        exec (.retrainSlice ch values) s = .next { s with base := ((b.setChan k done).send .retrainDone (0x100 + 8 * k + 2) k).nextRetrain k }))) ∧
  (∀ (old measured : List Int) (i : Nat) (x : Int), measured[i]? = some x →
    ∃ y, (stepCentres old measured)[i]? = some y ∧ (x - y).natAbs = (x - old.getD i 0).natAbs - 1 ∧ (y - old.getD i 0).natAbs ≤ 1))

/-! ### Error correction, repair and scrub -/

/-- LINE_DECODE takes the oldest line read of the channel. One that a queued write answered is delivered as that write holds it. One answered by a die that
ignores commands goes back to the queue, and the die is noted. Else it is decoded with the noise of its read, counted, tracked and healed, and delivered. An
uncorrectable decode counts for the part and the channel, and a line that it stamps is listed as poisoned or the list's overflow is noted; a corrected one
counts for both, and while a heal of the line is under way for the channel alone.
HEAL_CLOSED arms the history entry, counts the heal for the part and the channel and queues a verify read. HISTORY_EXPIRE frees the entries
without a decode for 10,000 epochs. BUCKET_TICK takes one from every bucket and re-arms the banks at or below the level.
It rests on the model's choices in log entries 13, 16, 57, 60. -/
def Obligations.line_decode_and_heals : Prop :=
  ((∀ (s : State) (ch : ChanId) (noise : Noise) (i : Inflight) (rest : List Inflight), s.base.alive = true → (s.base.chan ch.toNat).inflight = i :: rest →
    let k := ch.toNat
    let c := s.base.chan k
    let b := s.base.setChan k { c with inflight := rest }
    let a := s.readDecode k i
    let d := decodeWord a.erasures (addNoise i.raw noise)
    (∀ dat m, i.forwarded = some (dat, m) →
      exec (.lineDecode ch noise) s = .next { s with base := ((b.deliverLine k i { out := .clean, data := dat, mt := m }).drainChan k).pump }) ∧
    (i.forwarded = none → i.raw = guardBurst → exec (.lineDecode ch noise) s = .next { s with base := b.guardBurstRead k i }) ∧
    (i.forwarded = none → i.raw ≠ guardBurst →
      exec (.lineDecode ch noise) s = .next { s with base := (((b.onDecode a d).deliverLine k i d).drainChan k).pump }) ∧
    a.erasures = erasedSymbols (s.base.declaredPins k) ∧ a.place = i.entry.place k ∧ a.line = i.entry.req.line) ∧
  (∀ (b : Base) (a : DecodeAt) (d : Decoded), a.place.ch < 64 →
    let t := b.onDecode a d
    let counts := fun (off : Nat) => (t.reg off).toNat = min 0xFFFFFFFF ((b.reg off).toNat + 1)
    (d.out = .uncorrectable → counts Reg.UNCORRECTABLE_COUNT ∧ counts (Reg.CH_UNCORRECTABLE a.place.ch) ∧
      (a.stamps = true → a.overtaken = false → a.silent = false → (b.chan a.place.ch).stampPending a.place.bank a.place.row a.place.col = false →
        a.line ∈ t.dram.poison ∨ t.dram.poisonLost = true)) ∧
    (d.out = .corrected → a.beforeHeal = false → counts Reg.CORRECTED_COUNT ∧ counts (Reg.CH_CORRECTED a.place.ch)) ∧
    (d.out = .corrected → a.beforeHeal = true → t = b.bump (Reg.CH_CORRECTED a.place.ch)))) ∧
  (∀ (s : State) (ch : ChanId) (bank : BitVec 5) (row : BitVec 16) (col : BitVec 4), s.base.alive = true →
    let b := s.base
    let k := ch.toNat
    let c := b.chan k
    let p : Place := { ch := k, bank := bank.toNat, row := row.toNat, col := col.toNat }
    let hit := fun h : Nat × Nat × Nat × Nat => h.1 == p.bank && h.2.1 == p.row && h.2.2.1 == p.col && decide (h.2.2.2 ≤ b.now)
    let inflight := c.inflight.map fun (i : Inflight) => if i.entry.at_ p.bank p.row p.col then { i with beforeHeal := true } else i
    let c' := { c with healing := dropFirst hit c.healing, inflight := inflight }
    let b1 := b.setChan k (c'.histUpd p fun x => { x with healDone := true, readsLeft := 3, lastEp := b.pl.epochs })
    let b2 := (b1.bump Reg.HEAL_COUNT).bump (Reg.CH_HEALED k)
    let r := b2.internal .verify (.rd .cur) (b2.lineAt p) b2.healLabel
    let kept := c.history.filter fun h => decide (b.pl.epochs < h.lastEp + 10000)
    let left := (b.dram.buckets.map fun e => (e.1, e.2 - 1)).filter fun e => e.2 != 0
    let full := b.dram.overflowed.filter fun e => decide (b.rf Reg.ECC_CFG 21 16 < Tab.get 0 left e.1)
    (c.healing.any hit = true →
      exec (.healClosed ch bank row col) s = .next { s with base := r.2.feedIn k (r.2.entryOf { r.1 with decided := true } none) }) ∧
    (c.healing.any hit = false → exec (.healClosed ch bank row col) s = .next s) ∧
    exec (.historyExpire ch) s = .next { s with base := b.setChan k { c with history := kept } } ∧
    (b.pl.epoch.toNat % 10000000 = 0 → b.dram.bucketAt < b.pl.epochs → exec .bucketTick s =
      .next { s with base := { b with dram := { b.dram with bucketAt := b.pl.epochs, buckets := left, overflowed := full } } }))

/-- A spare-row move. SPARE_MOVE_ROW_IN_STAGE on the line path reads and decodes one line, when the channel can take it; over the row bus it makes the
offer and, once accepted, reads and decodes the row, and of a die that ignores commands it notes that. With the sixteenth line the latch is programmed, 65 ns
later. SPARE_ROW_ASSIGNED from then on writes one line, or the row once its offer is accepted, into the spare and nowhere else; 65 ns after the sixteenth the latch is confirmed, the
row's remap entries are freed, the move is reported and its requests go on.
It rests on the model's choices in log entries 61, 64. -/
def Obligations.spare_row_move : Prop :=
  (∀ (s : State) (ch : ChanId) (noise : List Noise) (m : SpareMove),
    let k := ch.toNat
    let b := s.base
    let c := b.chan k
    let takes := b.moveDue k b.now = true ∧ b.tier0 k b.now = none
    let reads := fun (b : Base) (e : RowEntry) => (b.useBus k b.now e).activateRow k b.now e
    let inStage := if b.stageHeld (quadOf k) < 8 then b.offerRow k (m.offer true) else b
    let offered := b.offerRow k (m.offer false)
    b.alive = true → c.move = some m →
    (m.programmedAt = none → b.moveByLine k m = true →
      (takes → exec (.spareMoveRowInStage ch noise) s = .next (s.moveLineRead k m (noise.getD m.lines.length []))) ∧
      (¬takes → exec (.spareMoveRowInStage ch noise) s = .next s)) ∧
    (m.programmedAt = none → b.moveByLine k m = false → b.drains (quadOf k) = false →
      (inStage.rowAccepted k (m.offer true) = none → exec (.spareMoveRowInStage ch noise) s = .next { s with base := inStage }) ∧
      ∀ e, inStage.rowAccepted k (m.offer true) = some e →
        (inStage.ignores k = true → exec (.spareMoveRowInStage ch noise) s = .next { s with base := (reads inStage e).rowBurst k }) ∧
        (∀ words, State.rowWords { s with base := inStage } k m.bank m.row noise = some words →
          let step := fun (x : List (BitVec 640) × Base) (w : BitVec 640 × Nat) =>
            (x.1 ++ [(x.2.decodeMove k m w.2 w.1 true).1], (x.2.decodeMove k m w.2 w.1 true).2)
          let read := words.zipIdx.foldl step (([] : List (BitVec 640)), (reads inStage e).dropRow k 0 e)
          exec (.spareMoveRowInStage ch noise) s = .next { s with base := read.2.moveRead k read.1 })) ∧
    (m.programmedAt ≠ none → exec (.spareMoveRowInStage ch noise) s = .next s) ∧
    (∀ t, m.programmedAt = some t → t ≤ b.now → m.written ≠ 16 →
      (b.moveByLine k m = true → takes → exec (.spareRowAssigned ch) s = .next (s.moveLineWrite k m)) ∧
      (b.moveByLine k m = false →
        (offered.rowAccepted k (m.offer false) = none → exec (.spareRowAssigned ch) s = .next { s with base := offered }) ∧
        ∀ e, offered.rowAccepted k (m.offer false) = some e →
          let landed := State.writeRow { s with base := (offered.useBus k b.now e).dropRow k 0 e } k b.now e m.lines
          exec (.spareRowAssigned ch) s = .next { landed with base := landed.base.moveWritten k 16 })) ∧
    (∀ t u, m.programmedAt = some t → t ≤ b.now → m.written = 16 → m.confirmAt = some u → u ≤ b.now →
      let ended := b.setChan k { c with
        moves := c.moves.drop 1
        remap := c.remap.filter fun r => !(r.bank == m.bank && r.row == m.row)
        spares := c.spares.map fun (x : SpareRow) => if x.bank = m.bank ∧ x.row = m.row ∧ x.spare = m.spare then { x with confirmed := true } else x }
      exec (.spareRowAssigned ch) s = .next { s with base := (ended.send .spareRowAssigned (0x100 + 8 * k + 6) (k + 64 * m.bank + 2048 * m.row)).drainChan k }) ∧
    (∀ t, exec (.spareRowAssigned ch) s = .next t → m.lines.length = 16 → m.written ≤ 16 →
      let row := rawAddr k m.bank (c.rawRow m.bank m.row) 0
      t.otp = s.otp ∧ t.rind = s.rind ∧ ∀ a, (a < row ∨ row + 1280 ≤ a) → Memory.byte t.mem a = Memory.byte s.mem a)) ∧
  (∀ (b : Base) (k : Nat) (m : SpareMove) (lines : List (BitVec 640)), (b.chan k).move = some m → m.lines.length + lines.length = 16 →
    (b.moveRead k lines).chan k = { b.chan k with
      moves := { m with lines := m.lines ++ lines, programmedAt := some (b.now + 65) } :: (b.chan k).moves.drop 1
      spares := (b.chan k).spares ++ [{ bank := m.bank, row := m.row, spare := m.spare, confirmed := false }] }) ∧
  (∀ (b : Base) (k n : Nat) (m : SpareMove), (b.chan k).move = some m →
    (b.moveWritten k n).chan k = { b.chan k with
      moves := { m with written := m.written + n, confirmAt := if m.written + n = 16 then some (b.now + 65) else none } :: (b.chan k).moves.drop 1 })

/-- Patrol scrub. SCRUB_ROW with a quota wraps the cycle when no row needs scrubbing, and else reads the next row at or after the pointer, which moves past it, or
the row to be tried again; without a quota it does nothing. A read goes line by line where the bus is out of service, waits while the bus drains, and else is offered and, once
accepted, holds its lines and spends the quota. SCRUB_ROW_DECODED ends on a clean row; it cancels the rewrite when a write came between, and up to three attempts are made; else it offers the
rewrite and, once accepted, makes it. SCRUB_VERIFY_DONE reads the row again and checks every line. SCRUB_CYCLE_LATE reports, once, a cycle longer than one and a quarter periods.
It rests on the model's choices in log entries 20, 63. -/
def Obligations.patrol_scrub : Prop :=
  (∀ (s : State) (ch : ChanId) (noise : List Noise) (j : ScrubJob) (b' : Base),
    let k := ch.toNat
    let b := s.base
    let c := b.chan k
    let quota := fun x : Base => (x.takeQuota ch).getD x
    b.alive = true →
    (b.scrubOk k = true → b.takeQuota ch = some b' →
      (c.scrubJob = none → nextScrub c.scrubPos (b.scrubRows k) = none →
        exec (.scrubRow ch) s = .next { s with base := b'.setChan k ((b'.chan k).scrubWrap b'.pl.epochs) }) ∧
      (∀ p, c.scrubJob = none → nextScrub c.scrubPos (b.scrubRows k) = some p →
        let wrapped := fun (x : Base) (c : Chan) => if p < c.scrubPos ∨ p = 2097151 then c.scrubWrap x.pl.epochs else c
        let past := fun x : Base => (quota x).updChan k fun c => { wrapped x c with scrubPos := (p + 1) % 2097152 }
        exec (.scrubRow ch) s = .next (s.scrubRead k { bank := p % 32, row := p / 32 } past)) ∧
      (c.scrubJob = some j → j.lines = none → j.verifying = false → exec (.scrubRow ch) s = .next (s.scrubRead k j quota))) ∧
    (b.takeQuota ch = none → exec (.scrubRow ch) s = .next s) ∧
    (∀ raw, c.scrubJob = some j → j.lines = some raw →
      let ds := b.decodeRow k (raw.zipIdx.map fun e => addNoise e.1 (noise.getD e.2 []))
      let clean := ∀ d ∈ ds, d.out = .clean ∨ d.out = .cleanErased
      let decoded := b.scrubDecodes k j ds
      let offer := b.scrubOffer j.bank j.row false (j.readAt + 32)
      let offered := b.offerRow k offer
      (clean → exec (.scrubRowDecoded ch noise) s = .next { s with base := decoded.updChan k fun c => { c with scrubJob := none } }) ∧
      (¬clean → j.overtaken = true → exec (.scrubRowDecoded ch noise) s = .next (State.scrubCancel { s with base := decoded } k j raw ds)) ∧
      (¬clean → j.overtaken = false →
        (offered.scrubTransfer k (offered.scrubOffer j.bank j.row false (j.readAt + 32)) = none → exec (.scrubRowDecoded ch noise) s = .next { s with base := offered }) ∧
        ∀ e, offered.scrubTransfer k (offered.scrubOffer j.bank j.row false (j.readAt + 32)) = some e →
          exec (.scrubRowDecoded ch noise) s = .next (State.scrubWrite { s with base := offered.scrubDecodes k j ds } k j ds e))) ∧
    (c.scrubJob = some j → j.verifying = true →
      let inStage := if b.stageHeld (quadOf k) < 8 then b.offerRow k (b.scrubOffer j.bank j.row true 0) else b
      let offer := inStage.scrubOffer j.bank j.row true 0
      (b.busServes (quadOf k) = false → exec (.scrubVerifyDone ch noise) s = .next { s with base := b.scrubLines k j.bank j.row }) ∧
      (b.busServes (quadOf k) = true → b.drains (quadOf k) = true → exec (.scrubVerifyDone ch noise) s = .next s) ∧
      (b.busServes (quadOf k) = true → b.drains (quadOf k) = false →
        (inStage.scrubTransfer k offer = none → exec (.scrubVerifyDone ch noise) s = .next { s with base := inStage }) ∧
        ∀ e words, inStage.scrubTransfer k offer = some e → State.rowWords { s with base := inStage } k j.bank j.row noise = some words →
          let opened := (((inStage.useBus k b.now e).activateRow k b.now e).dropRow k 0 e)
          let checked := (inStage.decodeRow k words).zipIdx.foldl (fun b e => b.verifyLine k j e.2 e.1) opened
          exec (.scrubVerifyDone ch noise) s = .next { s with base := (checked.updChan k fun c => { c with scrubJob := none }).drainChan k })) ∧
    (c.scrubLate = false → 4500000000 * b.rf Reg.ECC_CFG 7 0 < b.pl.epochs - c.scrubFrom → tb (b.reg Reg.ECC_CFG) 8 = true → b.retired k = false →
      exec (.scrubCycleLate ch) s = .next { s with base := (b.setChan k { c with scrubLate := true }).send .scrubCycleLate 0x340 k }) ∧
    (c.scrubLate = true ∨ b.pl.epochs - c.scrubFrom ≤ 4500000000 * b.rf Reg.ECC_CFG 7 0 → exec (.scrubCycleLate ch) s = .next s)) ∧
  (∀ (s : State) (k : Nat) (j : ScrubJob) (take : Base → Base) (raw : List (BitVec 640)) (ds : List Decoded),
    let b := s.base
    let inStage := if b.stageHeld (quadOf k) < 8 then b.offerRow k (b.scrubOffer j.bank j.row true 0) else b
    let offer := inStage.scrubOffer j.bank j.row true 0
    (b.busServes (quadOf k) = false → s.scrubRead k j take = { s with base := (take b).scrubLines k j.bank j.row }) ∧
    (b.busServes (quadOf k) = true → b.drains (quadOf k) = true → s.scrubRead k j take = s) ∧
    (b.busServes (quadOf k) = true → b.drains (quadOf k) = false →
      (inStage.scrubTransfer k offer = none → s.scrubRead k j take = { s with base := inStage }) ∧
      ∀ e words, inStage.scrubTransfer k offer = some e → State.rowWords { s with base := inStage } k j.bank j.row [] = some words →
        ((s.scrubRead k j take).base.chan k).scrubJob = some { j with lines := some words, overtaken := false, readAt := b.now } ∧
        (s.scrubRead k j take).mem = s.mem) ∧
    (j.attempt < 2 → ∃ again : ScrubJob, ((s.scrubCancel k j raw ds).base.chan k).scrubJob = some again ∧
      again.bank = j.bank ∧ again.row = j.row ∧ again.attempt = j.attempt + 1 ∧ again.lines = none ∧ again.verifying = false))

/-- A write of INJ_CTRL, with the bits that INJ_ARM_NEXT_WRITE, INJ_REWRITE_NOW and INJ_CLEAR_ALL name: with CLEAR_ALL every recorded line is
rewritten without its error, and nothing else happens; else with REWRITE_NOW the target of the registers is rewritten with it; else with ARM_NEXT_WRITE the target is armed.
The two requests are refused, and reported, for the first reason that applies. -/
def Obligations.injection_commands : Prop :=
  ∀ (s : State) (v : BitVec 3), s.base.mgmtFull = true →
    let b := s.base
    let i := b.injTarget
    let taken := { b with dram := { b.dram with injRefused := false, injReason := 0 } }
    let refused := { b with dram := { b.dram with injRefused := true, injReason := b.injReason i } }
    let gone := (refused.send .injectRefused (0x100 + 8 * (b.place i.line).ch + 7) (64 * i.line))
    let all := fun t : Base => exec (.injArmNextWrite v) s = .next { s with base := t } ∧ exec (.injRewriteNow v) s = .next { s with base := t } ∧
      exec (.injClearAll v) s = .next { s with base := t }
    (v.getLsbD 2 = true → all (b.dram.injections.foldl (fun b i => b.rewrite { i with mask := 0 }) b)) ∧
    (v.getLsbD 2 = false → v.getLsbD 1 = true → b.injReason i = 0 → all (taken.rewrite i)) ∧
    (v.getLsbD 2 = false → v.getLsbD 1 = false → v.getLsbD 0 = true → b.injReason i = 0 → all { taken with dram := { taken.dram with armed := some i } }) ∧
    (v.getLsbD 2 = false → (v.getLsbD 1 = true ∨ v.getLsbD 0 = true) → b.injReason i ≠ 0 → all gone) ∧
    (v = 0 → all b) ∧
    (b.injReason i = 1 ↔ tb (b.reg Reg.INJ_ENABLE) 0 = false)

/-! ### Coherence and labels -/

/-- SNOOP_TIMEOUT counts and isolates a host that has not answered within the limit. SWEEP_DONE ends the running sweep once its cache entries and
its rows are done: the host's blocks of it that it no longer holds are untouched. TRACKERS_FULL reports the first request that has waited 10 µs for a tracker. HOST_ISOLATE_CLEAR of a host that
is swept and whose logical device has been reset clears its bit where it is still recorded and has the isolation end at the next boundary; it is refused and reported before that.
It rests on the model's choices in log entries 38, 67, 69. -/
def Obligations.coherence_events : Prop :=
  ∀ (s : State) (h : HostId) (line : BitVec 31),
    let b := s.base
    let late := fun x : Snoop => x.host == h && (match x.sentAt with | some t => decide (t + 1000 * b.rf Reg.COH_CFG 13 0 ≤ b.now) | none => false)
    let waits := b.coh.trackers.any fun t => t.line == line.toNat && t.snoops.any late && !(b.coh.isolated.getLsbD h.toNat)
    (b.alive = true → waits = true → exec (.snoopTimeout h line) s = .next { s with base := (b.bump Reg.SNOOP_TIMEOUT_COUNT).isolate h.toNat true line.toNat }) ∧
    (b.alive = true → waits = false → exec (.snoopTimeout h line) s = .next s) ∧
    (∀ w rest, b.alive = true → b.coh.sweeps = w :: rest → w.cacheDone = true → (∀ st ∈ b.sweepStripes w, 64 * st + 64 ≤ w.at_) →
      ∃ t : Tab (BitVec 512), (∀ n, n ≠ w.host.toNat → Tab.get 0 t n = Tab.get 0 b.coh.touched n) ∧
        (∀ k, k < 512 → (Tab.get 0 t w.host.toNat).getLsbD k =
          ((Tab.get 0 b.coh.touched w.host.toNat).getLsbD k && (!w.has (k * 4194304) || b.inEff w.host.toNat k))) ∧
        (let swept := if w.release then b.coh.swept else setBit b.coh.swept w.host.toNat true
         let done := { b with coh := { b.coh with sweeps := rest, swept := swept, touched := t } }
         exec .sweepDone s = .next { s with base := done.send .sweepDone 0x402 (((w.blocks.head?).map fun r => r.1 * 268435456).getD 0) })) ∧
    (∀ w rest, b.alive = true → b.coh.sweeps = w :: rest → (w.cacheDone = false ∨ ∃ st ∈ b.sweepStripes w, w.at_ < 64 * st + 64) →
      exec .sweepDone s = .next s) ∧
    (∀ w, b.alive = true → (b.coh.waiting.find? fun w => decide (w.need = .tracker) && decide (w.since + 10000 < b.now)) = some w →
      exec .trackersFull s = .next { s with base := b.send .trackersFull 0x400 (64 * w.req.line) }) ∧
    (b.alive = true → (∀ w ∈ b.coh.waiting, w.need = .tracker → b.now ≤ w.since + 10000) → exec .trackersFull s = .next s) ∧
    (b.mgmtFull = true → b.coh.isolated.getLsbD h.toNat = true → b.coh.swept.getLsbD h.toNat = true → b.coh.ldReset.getLsbD h.toNat = true →
      let held := ((b.coh.cache.map fun e => (e.1, e.2.dir)) ++ b.coh.victims).filter fun e => e.2.vec.getLsbD h.toNat
      let t := held.foldl (fun b e => b.dropHost h.toNat e.1 e.2 b.sweepLabel) b
      exec (.hostIsolateClear h) s =
        .next { s with base := ({ t with coh := { t.coh with unisolate := setBit t.coh.unisolate h.toNat true } } : Base).pump }) ∧
    (b.mgmtFull = true → (b.coh.isolated.getLsbD h.toNat = false ∨ b.coh.swept.getLsbD h.toNat = false ∨ b.coh.ldReset.getLsbD h.toNat = false) →
      exec (.hostIsolateClear h) s = .next { s with base := b.send .isolateClearRefused 0x400 0 })

/-- A write of LBL_STAGE_CTRL, with the bits that LBL_STAGE_PUSH and LBL_STAGE_DISCARD name. With DISCARD the entries that no strobe has captured
leave; else with PUSH the entry of the staging registers joins the list, in place of an uncaptured entry of its label, and with 256 entries it is refused and
reported. While a version is applied the write is answered VERSION_BUSY.
It rests on the model's choice in log entry 77. -/
def Obligations.label_staging : Prop :=
  ∀ (s : State) (v : BitVec 2), s.base.mgmtFull = true →
    let b := s.base
    let e : Staged := { label := (b.reg Reg.LBL_STAGE_INDEX).extractLsb' 0 16, w0 := b.reg Reg.LBL_STAGE_W0, w1 := b.reg Reg.LBL_STAGE_W1 }
    let mine := fun x : Staged => x.label == e.label && x.strobe.isNone
    let l := b.qos.staging
    let both := fun t : Base => exec (.lblStagePush v) s = .next { s with base := t } ∧ exec (.lblStageDiscard v) s = .next { s with base := t }
    let push := b.versionBusy = false ∧ v.getLsbD 1 = false ∧ v.getLsbD 0 = true
    (push → l.any mine = true → both { b with qos := { b.qos with staging := replaceFirst mine e l, pushRefused := false } }) ∧
    (push → l.any mine = false → l.length < 256 → both { b with qos := { b.qos with staging := l ++ [e], pushRefused := false } }) ∧
    (push → l.any mine = false → 256 ≤ l.length → both (({ b with qos := { b.qos with pushRefused := true } } : Base).send .stageFull 0x481 e.label.toNat)) ∧
    (b.versionBusy = false → v.getLsbD 1 = true → both { b with qos := { b.qos with staging := l.filter fun e => e.strobe.isSome } }) ∧
    (b.versionBusy = false → v = 0 → both b) ∧
    (b.versionBusy = true → both (b.send .versionBusy 0x580 Reg.LBL_STAGE_CTRL))

/-! ### The row mover -/

/-- MOVER_DOORBELL sets the queue's tail: the queue runs when work is there, an error is left behind, the MOVER domain is woken, and nothing but the mover and
that wake changes. A doorbell of a queue that is disabled, or with a tail outside the ring, is counted and reported.
DESC_FETCH takes the descriptor of the round robin's queue into the first free slot: a ring outside the host's ranges is a ring fault; the holders
of the line are asked first; then an unmarked line gives a descriptor of zeros, one that no access reaches a bad line, one that a queued write covers what that write holds, and
another what the decoder makes of the array, once the channel can take the read. DESC_START starts a descriptor whose predecessors have started, and after a FENCE only one without predecessors.
It rests on the model's choices in log entries 68, 72. -/
def Obligations.doorbells_and_descriptors : Prop :=
  (∀ (s : State) (h : HostId) (q : BitVec 2) (tail : BitVec 12),
    let b := s.base
    let k := 4 * h.toNat + q.toNat
    let x := b.queue k
    b.hostUp h.toNat = true →
    (x.state = 3 ∨ b.ringSize k ≤ tail.toNat → exec (.moverDoorbell h q tail) s =
      .next { s with base := (b.bump Reg.DOORBELL_INVALID_COUNT).send .doorbellInvalid (0x4C0 + h.toNat) (tail.toNat + 4096 * q.toNat) }) ∧
    (x.state ≠ 3 → tail.toNat < b.ringSize k →
      ∃ t : Base, exec (.moverDoorbell h q tail) s = .next { s with base := t } ∧
        t = { b with mov := t.mov, mg := { b.mg with wakeDue := t.mg.wakeDue } } ∧
        t.queue k = { x with
          tail := tail.toNat, oddPass := x.oddPass && !x.anew, anew := false, error := if x.state = 2 then 0 else x.error
          state := if x.head = tail.toNat ∧ (x.state ≠ 1 ∨ (b.slotsOf k).isEmpty) then 0 else 1 } ∧
        (∀ j, j ≠ k → t.queue j = b.queue j) ∧ t.mov.slots = b.mov.slots ∧
        t.mov.domain = (match b.mov.domain with | .off => .waking | .goingOff => .on | d => d))) ∧
  (∀ (s : State) (q : BitVec 6) (noise : Noise) (slot : BitVec 4) (k : Nat),
    let b := s.base
    let n := q.toNat
    let x := b.queue n
    let line := (b.ringBase n + 64 * x.head) / 64
    let p := b.place line
    let c := b.chan p.ch
    let charged := b.internal (.mover 17 0) .rdData line (b.queueLabel n)
    let e := charged.2.entryOf charged.1 none
    let waits := (c.feed ++ c.xbar ++ c.upstream).any fun y => y.at_ p.bank p.row p.col
    let takes := fun (b1 : Base) (d : Data) (bad : Bool) =>
      ∃ t : Base, exec (.descFetch q noise) s = .next { s with base := t } ∧ t = { b1 with mov := t.mov } ∧
        t.mov.slots = b1.mov.slots ++ [(k, { queue := n, index := x.head, desc := { Desc.parse d with seq := if bad then 0 else (Desc.parse d).seq }, badLine := bad })] ∧
        t.queue n = { x with head := (x.head + 1) % b1.ringSize n, asked := false } ∧ t.mov.rr = (n + 1) % 64 ∧ ∀ j, j ≠ n → t.queue j = b1.queue j
    (b.moverRuns = true → ((List.range 16).find? fun i => (b.slot i).isNone) = some k → b.nextQueue = some n →
      (b.effHolds (n / 4) (b.ringBase n) (b.ringBase n + b.ringBytes n - 1) = false →
        exec (.descFetch q noise) s = .next { s with base := b.ringFault n x.head 1 }) ∧
      (b.effHolds (n / 4) (b.ringBase n) (b.ringBase n + b.ringBytes n - 1) = true → b.moverQuiet 17 = true →
        (x.asked = false → b.noHolders line = false →
          exec (.descFetch q noise) s = .next { s with base := ((b.updQueue n fun x => { x with asked := true }).probe 17 line false (b.queueLabel n)).pump }) ∧
        (x.asked = true ∨ b.noHolders line = true →
          (b.isMarked line = false → takes b 0 false) ∧
          (b.isMarked line = true → b.noAccess line = true → takes b 0 true) ∧
          (b.isMarked line = true → b.noAccess line = false → waits = false →
            (∀ w, c.forward e = some w → w.full = true → takes charged.2 w.data (w.poison == some true)) ∧
            (c.forward e = none → b.fetchReady e p.ch = false → exec (.descFetch q noise) s = .next { s with base := b.touchSet p.ch }) ∧
            (c.forward e = none → b.fetchReady e p.ch = true → (c.remapOf p.bank p.row p.col).isSome = true →
              let a := s.readDecode p.ch { entry := e, act := b.now, raw := s.lineWord p }
              let d := decodeWord a.erasures (addNoise (s.lineWord p) noise)
              takes (charged.2.onDecode a d) d.data (d.out == .uncorrectable || d.mt.poison)))))) ∧
    (b.moverRuns = false → exec (.descFetch q noise) s = .next s) ∧
    (∀ sl, b.slot slot.toNat = some sl → b.moverRuns = true → sl.started = false →
      let before := (b.slotsOf sl.queue).takeWhile fun e => e.1 != slot.toNat
      ((∀ e ∈ before, e.2.started = true) → (sl.desc.fence = false ∨ before = []) →
        exec (.descStart slot) s = .next { s with base := b.startDesc slot.toNat sl }) ∧
      ((∃ e ∈ before, e.2.started = false) ∨ sl.desc.fence = true ∧ before ≠ [] → exec (.descStart slot) s = .next s)))

/-- ROW_BUS_CYCLE, once in an even cycle: every slot advances by a step, and the bus makes one offer and carries at most one transfer, the first of its sources'
offers that a channel accepts; a bus out of service has the sweep's row go line by line. A transfer that fails stores nothing, and none touches the fuses or Rind. DESC_COMPLETE of the oldest
descriptor of its queue, once it has ended and nothing of it is on its way, writes its record and, when that has entered its write queue, frees the slot; a ring outside the host's
ranges is a ring fault, and the record is discarded.
CLAIM_SLOW reports a claim held for more than 10 µs. MOVER_STALL_RESET resets a mover with work that has made no progress for 10 ms. MOVER_RECOVERY, with
memory active, writes the checkpoints' records, empties their table and lets the mover run.
It rests on the model's choices in log entries 24, 71, 72, 73, 74, 75. -/
def Obligations.row_bus_and_mover_supervision : Prop :=
  (∀ (s : State) (bus : BusId) (ok : Bool) (noise : List Noise) (slot : BitVec 4) (x : Slot),
    let q := bus.toNat
    let k := slot.toNat
    (s.base.moverRuns = true → s.base.pl.phase % 2 = 0 → (s.base.bus q).offeredAt ≠ some s.base.now →
      let begun := (s.base.updBus q fun x => { x with offeredAt := some s.base.now }).startSweep
      let moved := ((forN 16 (fun (k : Nat) (b : Base) => b.advance k) begun).pump).learnNext q
      let b := match moved.sweeping with | some (w, i, p) => moved.sweepCancel w i p | none => moved
      let jobs := b.rowJobs q
      let offered := (b.withdraw q jobs).offerNext q jobs
      (b.busServes q = false → (∀ w i p, b.sweeping = some (w, i, p) → quadOf p.ch ≠ q) → exec (.rowBusCycle bus ok noise) s = .next { s with base := b }) ∧
      (∀ w i p, b.busServes q = false → b.sweeping = some (w, i, p) → quadOf p.ch = q →
        exec (.rowBusCycle bus ok noise) s = .next { s with base := b.sweepLines i p }) ∧
      (b.busServes q = true → offered.transferNow q jobs = none → exec (.rowBusCycle bus ok noise) s = .next { s with base := offered }) ∧
      (∀ j e, b.busServes q = true → offered.transferNow q jobs = some (j, e) →
        let u : State := { s with base := offered.useBus j.place.ch offered.now e }
        exec (.rowBusCycle bus ok noise) s = .next (match j with
          | .fill f i p => u.fillCycle q ok f i p e
          | .piece c => u.pieceCycle q ok noise c e
          | .sweep w i p => u.sweepCycle q ok noise w i p e))) ∧
    (s.base.moverRuns = false ∨ s.base.pl.phase % 2 ≠ 0 ∨ (s.base.bus q).offeredAt = some s.base.now → exec (.rowBusCycle bus ok noise) s = .next s) ∧
    (∀ t, exec (.rowBusCycle bus ok noise) s = .next t → t.otp = s.otp ∧ t.rind = s.rind ∧ (ok = false → t.mem = s.mem)) ∧
    (s.base.moverRuns = true → s.base.slot k = some x → x.status ≠ none → ((s.base.slotsOf x.queue).head?.map fun e => e.1) = some k → s.base.moverQuiet k = true →
      let bytes := s.base.bytesDone k x
      let freed := fun b : Base => { b with mov := { b.mov with slots := b.mov.slots.filter fun e => e.1 != k } }
      let sent := ((s.base.updSlot k fun y => { y with recSent := true }).sendRecord (.mover k 0) x bytes).pump
      (x.recSent = true → exec (.descComplete slot) s = .next { s with base := (((freed s.base).afterRecord x bytes false).restQueue x.queue).pump }) ∧
      (x.recSent = false → s.base.ringHeld x.queue = false →
        exec (.descComplete slot) s = .next { s with base := ((((freed s.base).reportBytes x bytes).ringFault x.queue x.index 2).restQueue x.queue).pump }) ∧
      (x.recSent = false → s.base.ringHeld x.queue = true →
        (sent.moverQuiet k = true → exec (.descComplete slot) s = .next { s with base := (((freed sent).afterRecord x bytes false).restQueue x.queue).pump }) ∧
        (sent.moverQuiet k = false → exec (.descComplete slot) s = .next { s with base := sent }))) ∧
    (s.base.slot k = some x → x.status = none → exec (.descComplete slot) s = .next s)) ∧
  (∀ (s : State) (slot : BitVec 4),
    let b := s.base
    (∀ f x, b.alive = true → (b.lay.fills.find? fun f => decide (f.claim = some slot.toNat) && decide (f.at_ + 10000 < b.now)) = some f →
      b.slot slot.toNat = some x →
      exec (.claimSlow slot) s = .next { s with base := b.send .claimSlow 0x4D0 (x.index + 4096 * (x.queue % 4)) }) ∧
    ((∀ f ∈ b.lay.fills, f.claim = some slot.toNat → b.now ≤ f.at_ + 10000) → exec (.claimSlow slot) s = .next s) ∧
    (b.fwRuns = true → b.moverPending = true → b.mov.lastProgress + 10000000 ≤ b.now → exec .moverStallReset s = .next { s with base := b.countedReset 16 }) ∧
    (b.moverPending = false ∨ b.now < b.mov.lastProgress + 10000000 → exec .moverStallReset s = .next s) ∧
    (b.fwRuns = true → b.boot.memActive = true →
      let cleared := { b with mov := { b.mov with checkpoints := [], stopped := false } }
      let recorded := b.mov.checkpoints.foldl (fun (b : Base) (x : Slot) => b.recover x) cleared
      exec .moverRecovery s = .next { s with base := (forN 64 (fun (q : Nat) (b : Base) => b.restQueue q) recorded).pump }))

/-! ### The stack -/

/-- Cane tests. CANE_TEST_SHIFT takes a position of a channel out with an idle spare in its place and pauses the channel; a spare that carries
nothing goes out without a pause; without an idle spare a signal position goes out in erasure mode, a command position is skipped and reported; a
segment goes out with eight free spares; a heartbeat goes out while its backup is ready, and is skipped without one. While another position is
out nothing starts. CANE_TEST_RESULT records the margin of the position that is out: a position that fails keeps the spare, a weak one is
reported. CANE_TEST_SHIFT_BACK returns it after three epochs. SWEEP_LATE reports a late sweep once.
FULLWIDTH_TEST_START: a full-width test of a row bus starts in its plan's slot once the bus is drained and its row stage empty: its offers are withdrawn and it goes
out of service. FULLWIDTH_TEST_DONE: at its end the bus holds the margins, each cane that failed goes to repair, and more than eight are reported. SI_TEST_CHANNEL makes
every position of a channel that is not erased a target, and SI_FULLWIDTH_NOW asks for a full-width test; neither does anything for a retired one.
It rests on the model's choices in log entries 21, 62, 68, 81. -/
def Obligations.stack_tests : Prop :=
  (∀ (s : State) (ch : ChanId) (p : BitVec 6) (q : BusId) (sg : BitVec 11) (d : DieId) (w : CaneWidth) (res : List CaneWidth) (b' : Base) (sp : Nat),
    let b := s.base
    let k := ch.toNat
    let x := b.canes k
    let n := q.toNat
    let may := ((b.chan k).train = .trained ∨ (b.chan k).train = .sliced) ∧ (b.set_ (b.setOf k)).state = 0 ∧ x.testOut = none ∧
      (tb (b.reg Reg.SI_CFG) 24 = true ∨ x.targets.contains p.toNat = true) ∧ (b.chan k).erased.contains p.toNat = false
    let segMay := b.pl.active.segment = some (q, sg) ∧ sg.toNat < 1328 ∧ b.si.segOut = none ∧ b.si.heartbeatOut = none ∧ (b.bus n).retired = false ∧
      (∀ i, i < 4 → (b.bus i).testing = false) ∧ tb (b.reg Reg.SI_CFG) 24 = true
    b.alive = true →
    (may → p.toNat < 60 → b.idleSpare k = some sp → b.takePause ch .caneShift = some b' →
      let shifted := (b'.setUse k sp 0x3F).updCanes k fun y => { y with
        testOut := some p.toNat, testSpare := some sp, testFrom := b'.pl.epochs, erasing := false, targets := y.targets.filter (· != p.toNat) }
      exec (.caneTestShift (.pos ch p)) s = .next { s with base := shifted.pause k 20 }) ∧
    (may → 60 ≤ p.toNat → x.useOf (p.toNat - 60) = 0x3C →
      exec (.caneTestShift (.pos ch p)) s = .next { s with base := b.updCanes k fun y => { y with
        testOut := some p.toNat, testSpare := none, testFrom := b.pl.epochs, erasing := false, targets := y.targets.filter (· != p.toNat) } }) ∧
    (may → x.targets.contains p.toNat = false → b.idleSpare k = none → p.toNat < 40 → (b.chan k).erased.length ≤ 1 →
      exec (.caneTestShift (.pos ch p)) s = .next { s with base := b.updCanes k fun y => { y with
        testOut := some p.toNat, testSpare := none, testFrom := b.pl.epochs, erasing := true, targets := y.targets.filter (· != p.toNat) } }) ∧
    (may → b.idleSpare k = none → 40 ≤ p.toNat → p.toNat < 60 →
      let passed := (b.updCanes k fun y => { y with targets := y.targets.filter (· != p.toNat) }).bump Reg.SWEEP_SKIPPED_COUNT
      exec (.caneTestShift (.pos ch p)) s =
        .next { s with base := (passed.send .sweepSkipped 0x570 (caneAddr k p.toNat 0x3F)).unitDone (.pos ch p) }) ∧
    (x.testOut ≠ none → exec (.caneTestShift (.pos ch p)) s = .next s) ∧
    (segMay → (1288 ≤ sg.toNat ∨ 8 ≤ (b.busFree n).length) → ∃ t : Base,
      exec (.caneTestShift (.seg q sg)) s = .next { s with base := t } ∧
      t.si.segOut = some (n, sg.toNat, b.pl.epochs, false) ∧ t.pl.active.segment = none ∧ t.dram = b.dram ∧ t.regs = b.regs) ∧
    (b.pl.active.segment ≠ some (q, sg) → exec (.caneTestShift (.seg q sg)) s = .next s) ∧
    (b.si.heartbeatOut = none → tb (b.reg Reg.SI_CFG) 24 = true → (b.guard d.toNat).state = 0 →
      let skipped := ((b.bump Reg.SWEEP_SKIPPED_COUNT).send .sweepSkipped 0x570 d.toNat).unitDone (.heartbeat d)
      let t : Base := if b.backupReady d.toNat then { b with si := { b.si with heartbeatOut := some d.toNat } } else skipped
      exec (.caneTestShift (.heartbeat d)) s = .next { s with base := t }) ∧
    (x.testOut = some p.toNat →
      let noted := b.noteChan k p.toNat w.width.toNat
      let idle := fun y : ChanCanes => { y with testOut := none, testSpare := none, erasing := false }
      let keep := fun o : Base => (o.updCanes k idle).unitDone (.pos ch p)
      let fails := w.prbsOk = false ∨ w.width.toNat < b.rf Reg.SI_CFG 13 8
      let weak := w.width.toNat < b.rf Reg.SI_CFG 21 16
      (fails → p.toNat < 60 → x.testSpare = some sp →
        exec (.caneTestResult (.pos ch p) (w :: res)) s = .next { s with base := keep ((noted.bump Reg.CANE_FAIL_COUNT).takeSpare k p.toNat sp) }) ∧
      (fails → p.toNat < 60 → x.testSpare = none →
        exec (.caneTestResult (.pos ch p) (w :: res)) s = .next { s with base := keep (noted.failPosition k p.toNat) }) ∧
      (¬ fails → weak →
        exec (.caneTestResult (.pos ch p) (w :: res)) s =
          .next { s with base := noted.send .caneWeak (0x540 + dieOf k) (caneAddr k p.toNat (x.testSpare.getD 0x3F)) }) ∧
      (¬ fails → ¬ weak → exec (.caneTestResult (.pos ch p) (w :: res)) s = .next { s with base := noted })) ∧
    (x.testOut ≠ some p.toNat → exec (.caneTestResult (.pos ch p) (w :: res)) s = .next s ∧ exec (.caneTestShiftBack (.pos ch p)) s = .next s) ∧
    (b.pl.epochs < x.testFrom + 3 → exec (.caneTestShiftBack (.pos ch p)) s = .next s) ∧
    (x.testOut = some p.toNat → x.testFrom + 3 ≤ b.pl.epochs → x.testSpare = some sp → b.takePause ch .caneShift = some b' →
      let back := ((b'.setUse k sp 0x3C).pause k 20).updCanes k fun y => { y with testOut := none, testSpare := none, erasing := false }
      exec (.caneTestShiftBack (.pos ch p)) s = .next { s with base := back.unitDone (.pos ch p) }) ∧
    (b.si.late = false →
      (4500000000 * b.rf Reg.SI_CFG 7 0 < b.pl.epochs - b.si.sweepFrom →
        exec .sweepLate s = .next { s with base := ({ b with si := { b.si with late := true } }).send .sweepLate 0x570 0 }) ∧
      (b.pl.epochs - b.si.sweepFrom ≤ 4500000000 * b.rf Reg.SI_CFG 7 0 → exec .sweepLate s = .next s)) ∧
    (b.si.late = true → exec .sweepLate s = .next s)) ∧
  (∀ (s : State) (q : BusId) (failed : List (BitVec 14)) (min : Byte) (weakest : BitVec 14) (weak : Byte) (ch : ChanId),
    let b := s.base
    let n := q.toNat
    (b.alive = true → b.drains n = true → b.stageEmpty n = true →
      let begun := { b with pl := { b.pl with active := { b.pl.active with fullWidth := none } } }
      let away := (begun.clearOffers n).updBus n fun x => { x with testing := true, tested := false, fwNow := false }
      exec (.fullwidthTestStart q) s = .next { s with base := ({ away with si := { away.si with fwActive := some n } }).send .fastPathLost 0x4D0 n }) ∧
    (b.drains n = false ∨ b.stageEmpty n = false → exec (.fullwidthTestStart q) s = .next s) ∧
    (b.alive = true → b.si.fwActive = some n →
      let closed := ({ b with si := { b.si with fwActive := none } }).updBus n fun x => { x with
        tested := true, minWidth := min.toNat, weakest := weakest.toNat, weakCount := weak.toNat, lastTest := b.pl.epoch.setWidth 32 }
      let noted := failed.foldl (fun b c => b.busCaneFail n c.toNat) (closed.recordWidth (caneNo n weakest.toNat) (64 + n) min.toNat)
      exec (.fullwidthTestDone q failed min weakest weak) s =
        .next { s with base := if 8 < failed.length then noted.send .fullwidthFail (0x302 + 16 * n) (busAddr n 0) else noted }) ∧
    (b.si.fwActive ≠ some n → exec (.fullwidthTestDone q failed min weakest weak) s = .next s) ∧
    (b.mgmtFull = true →
      let asked := fun x : ChanCanes => (x.targets ++ (List.range 60).filter fun p => !(b.chan ch.toNat).erased.contains p).eraseDups
      (b.retired ch.toNat = false →
        exec (.siTestChannel ch) s = .next { s with base := b.updCanes ch.toNat fun x => { x with targets := asked x } }) ∧
      (b.retired ch.toNat = true → exec (.siTestChannel ch) s = .next s) ∧
      ((b.bus n).retired = false → exec (.siFullwidthNow q) s = .next { s with base := b.updBus n fun x => { x with fwNow := true } }) ∧
      ((b.bus n).retired = true → exec (.siFullwidthNow q) s = .next s)))

/-- Droop: DROOP_WARN counts and reports a sag below the warning level, DROOP_FAULT holds the die's requests 100 ns, counts and reports, and more than
sixteen holds within 1,000 epochs report an unstable supply, at most once in 1,000 epochs. A sag below neither level changes nothing.
DROOP_HOLD_END ends a hold whose time has passed. The levels: VDD_ARR (0.85 V + 2.5 mV a code) is compared with the configured drop below
1.05 V, VPP (1.50 V + 2.5 mV a code) with codes 84 and 60.
The guards: HEARTBEAT_LOSS closes the die's guard and marks the cane failed; GUARD_EXIT opens a closed guard again unless its cane failed or a
fatal fault stands; GUARD_STATUS_READ of a die that is ACTIVE begins its write logs anew, of a guarded die it detects the failed cane, and may
trip the part; HEARTBEAT_RECOVERY with a backup moves to it, reports both, owes a read-eye visit to the die's channels and stamps the writes the
die ignored, without one it retires the die's four channels; of a die whose loss is not detected it does nothing.
It rests on the model's choice in log entry 80. -/
def Obligations.droop_and_guards : Prop :=
  (∀ (s : State) (d : DieId) (arr vpp : Byte),
    let b := s.base
    let n := d.toNat
    let g := b.guard n
    let since := fun l : List Nat => l.filter fun t => decide (b.pl.epochs < t + 1000)
    let lows := (b.pl.epochs, arr, vpp) :: g.lows.filter fun e => decide (b.pl.epochs ≤ e.1 + 1)
    let warned := { g with lows := lows, warns := b.pl.epochs :: since g.warns }
    let held := { g with lows := lows, holds := b.pl.epochs :: since g.holds, holdUntil := b.now + 100 }
    let told := ((b.setGuard n held).bump Reg.DROOP_FAULT_COUNT).send .droopFault (0x560 + n) n
    let warns := arr.toNat + 2 * b.rf Reg.SI_CFG2 23 16 < 80 ∨ vpp.toNat < 84
    let faults := arr.toNat + 2 * b.rf Reg.SI_CFG2 31 24 < 80 ∨ vpp.toNat < 60
    b.alive = true →
    (warns → exec (.droopWarn d arr vpp) s = .next { s with base := (b.setGuard n warned).send .droopWarn (0x560 + n) n }) ∧
    (¬ warns → exec (.droopWarn d arr vpp) s = .next s) ∧
    (faults → (since g.holds).length < 16 → exec (.droopFault d arr vpp) s = .next { s with base := told }) ∧
    (faults → 16 ≤ (since g.holds).length → (g.unstableAt = none ∨ ∃ t, g.unstableAt = some t ∧ t + 1000 ≤ b.pl.epochs) →
      let marked := told.setGuard n { held with unstableAt := some b.pl.epochs }
      exec (.droopFault d arr vpp) s = .next { s with base := marked.send .supplyUnstable (0x560 + n) n }) ∧
    (faults → ∀ t, g.unstableAt = some t → b.pl.epochs < t + 1000 → exec (.droopFault d arr vpp) s = .next { s with base := told }) ∧
    (¬ faults → exec (.droopFault d arr vpp) s = .next s) ∧
    exec (.droopHoldEnd d) s = .next { s with base := b.setGuard n (if g.holdUntil ≤ b.now then { g with holdUntil := 0 } else g) }) ∧
  (∀ (s : State) (d : DieId) (ch : ChanId),
    let b := s.base
    let n := d.toNat
    let g := b.guard n
    let k := ch.toNat
    b.alive = true →
    (g.state = 0 ∨ g.state = 3 → exec (.heartbeatLoss d) s = .next { s with base := (b.closeGuard n).updGuard n fun g => { g with failed := true } }) ∧
    (g.state = 1 ∨ g.state = 2 → exec (.heartbeatLoss d) s = .next s) ∧
    (g.state = 1 ∨ g.state = 2 → g.failed = false → b.flt.fatal = false → exec (.guardExit d) s = .next { s with base := b.setGuard n { g with state := 0 } }) ∧
    (g.failed = true ∨ b.flt.fatal = true → exec (.guardExit d) s = .next s) ∧
    (b.boot.memActive = true → b.statusChannel k = true → (b.set_ (b.setOf k)).state = 0 →
      let h := b.guard (dieOf k)
      let found := if h.state = 0 then b.newLogs (dieOf k) else b.setGuard (dieOf k) { h with detected := h.failed }
      let u : State := { s with base := found }
      exec (.guardStatusRead ch false) s = .next u ∧
      exec (.guardStatusRead ch true) s = .next (u.trip (dieOf k) (u.base.diode (dieOf k)).reading false false)) ∧
    (b.statusChannel k = false → exec (.guardStatusRead ch false) s = .next s) ∧
    (g.detected = true → g.failed = true → b.backupReady n = false →
      let seen := b.setGuard n { g with detected := false }
      exec (.heartbeatRecovery d) s = .next { s with base := forN 4 (fun (q : Nat) (b : Base) => b.retireChannel (4 * n + q) 0x3F) seen }) ∧
    (g.detected = true → g.failed = true → b.backupReady n = true →
      let moved := (b.setGuard n { g with onBackup := true, failed := false, detected := false, state := 0, reason := 2 }).send .heartbeatMoved (0x550 + n) n
      let owed := forN 4 (fun (q : Nat) (b : Base) => b.readEyeVisit (4 * n + q)) moved
      let lost := (List.range 4).flatMap fun q => owed.ignoredWrites (4 * n + q)
      let stamped := lost.foldl (fun (b : Base) (p : Place) => b.stampIgnored p) (owed.newLogs n)
      exec (.heartbeatRecovery d) s = .next { s with base := stamped.send .guardEntered (0x550 + n) n }) ∧
    (g.detected = false ∨ g.failed = false → exec (.heartbeatRecovery d) s = .next s))

/-! ### Power and thermal -/

/-- SET_OCTANT_TOLERANCE of a host that has the octant waits for a boundary with its declaration, else it is refused and reported.
GET_OCTANT_TOLERANCE answers, for any octant that exists, with the host's declaration and what is in force.
OCTANT_DROP in its plan's slot marks an octant as dropping that no declaration needs and nothing has written for the delay, while its set can take
it, and unmarks its stripes; the mask takes effect once none is left. SENSOR_SAMPLE takes a reading, and trips the part when the sensor says so
at its trip temperature, 105 °C, or above. THERMAL_TRIP trips the part at the diode's trip temperature, 115 °C for the base die, and not below.
It rests on the model's choices in log entries 82, 83, 84. -/
def Obligations.octants_and_sensors : Prop :=
  (∀ (s : State) (h : HostId) (octant : BitVec 6) (tol : Word) (needed : Bool),
    let b := s.base
    let n := h.toNat
    let k := octant.toNat
    let d := b.declOf n k
    b.hostUp n = true → b.fwRuns = true →
    (k < b.octants → b.effMeets n (b.blocksOfOctant k) = true →
      exec (.setOctantTolerance h octant tol needed) s = .next { s with base := { b with pw := { b.pw with
        waits := b.pw.waits ++ [{ host := h, octant := k, decl := { tol := tol.toNat, needed := needed } }] } } }) ∧
    (b.octants ≤ k ∨ b.effMeets n (b.blocksOfOctant k) = false →
      exec (.setOctantTolerance h octant tol needed) s =
        .next { s with base := (b.send .declarationRefused 0x501 (declAddr (k % 32) n)).reply h .invalidInput }) ∧
    (k < b.octants →
      exec (.getOctantTolerance h octant) s =
        .next { s with base := b.reply h (.numbers [d.tol, if d.needed then 1 else 0, b.tolOf k, if b.neededOf k then 1 else 0]) }) ∧
    (b.octants ≤ k → exec (.getOctantTolerance h octant) s = .next { s with base := b.reply h .invalidInput })) ∧
  (∀ (s : State) (k : BitVec 5) (d : Fin 20) (reading : Int) (loadChanged cut coreFails : Bool),
    let b := s.base
    let n := k.toNat
    let x := b.set_ (setOfOctant n)
    let item := { b with pl := { b.pl with active := { b.pl.active with drops := b.pl.active.drops.filter (fun i => i != k) } } }
    let may := n < b.octants ∧ tb (b.reg Reg.POWER_CFG) 25 = true ∧ b.neededOf n = false ∧ b.pw.dropped.getLsbD n = false ∧
      (x.state < 2 ∨ x.sre = false) ∧ Tab.get 0 b.pw.lastWrite n + 1000 * b.rf Reg.POWER_CFG 23 16 ≤ b.pl.epochs
    b.alive = true →
    (b.pl.active.drops.contains k = true → may →
      let marked := { item with pw := { item.pw with dropping := setBit item.pw.dropping n true } }
      exec (.octantDrop k) s = .next { s with base := (marked.unmark fun st => marked.octantOf (1024 * st) == n).dropMasks }) ∧
    (b.pl.active.drops.contains k = true → ¬ may → exec (.octantDrop k) s = .next { s with base := item }) ∧
    (b.pl.active.drops.contains k = false → exec (.octantDrop k) s = .next s) ∧
    (16 ≤ d.val ∨ (b.set_ (b.setOfDie d.val)).state < 2 →
      let u : State := { s with base := b.sample d.val reading loadChanged }
      exec (.sensorSample d reading false loadChanged) s = .next u ∧
      (d.val < 16 → 420 ≤ reading → exec (.sensorSample d reading true loadChanged) s = .next (u.trip d.val reading false false)) ∧
      (16 ≤ d.val ∨ reading < 420 → exec (.sensorSample d reading true loadChanged) s = .next u)) ∧
    (d.val < 16 → 2 ≤ (b.set_ (b.setOfDie d.val)).state → ∀ trip, exec (.sensorSample d reading trip loadChanged) s = .next s) ∧
    ((if d.val < 16 then 420 else 460) ≤ reading → exec (.thermalTrip d reading cut coreFails) s = .next (s.trip d.val reading cut coreFails)) ∧
    (reading < (if d.val < 16 then 420 else 460) → exec (.thermalTrip d reading cut coreFails) s = .next s) ∧
    (s.trip d.val reading cut coreFails).base.pw.tripped = true ∧ (s.trip d.val reading cut coreFails).base.mov.slots = [] ∧
    (s.trip d.val reading cut coreFails).rind = s.rind)

/-- Power states of a set. POWER_STATE_ENTRY in its plan's slot enters a deeper state when it may and reports it, or starts the exit to a lighter one,
and gives up an entry whose SRE has not issued. SRE_ISSUE issues once every bank cycle and burst of the set has closed. CH_SET_POWER_OFF follows
30 ns later, and its channel controllers lose their logic state. SET_EXIT_COMPLETE at the end of the exit makes the set as it was asked for, counts
the wake and reports it, and after a self-refresh restarts the refresh of its channels and owes each a read-eye visit.
It rests on the model's choices in log entries 21, 82. -/
def Obligations.set_power_states : Prop :=
  ∀ (s : State) (set state : BitVec 2),
    let b := s.base
    let n := set.toNat
    let st := state.toNat
    let x := b.set_ n
    let item := { b with pl := { b.pl with active := { b.pl.active with power := b.pl.active.power.filter (fun i => i != (set, state)) } } }
    b.alive = true →
    (n < b.sets → b.pl.active.power.contains (set, state) = true →
      (x.state ≤ st → item.mayEnter n st = true →
        let entered := (item.setSet n { x with state := st, sre := false, off := false, testHold := false }).reportSet n st
        exec (.powerStateEntry set state) s = .next { s with base := if 2 ≤ st then entered.sleepSampling else entered }) ∧
      (x.state ≤ st → item.mayEnter n st = false → exec (.powerStateEntry set state) s = .next { s with base := item }) ∧
      (st < x.state → st < 2 → x.exiting = false → (x.state < 2 ∨ x.sre = true) →
        exec (.powerStateEntry set state) s = .next { s with base := item.setSet n { x.leave b.now st with testHold := st == 1 } }) ∧
      (st < 2 → x.exiting = false → 2 ≤ x.state → x.sre = false →
        exec (.powerStateEntry set state) s = .next { s with base := item.abandonEntry n })) ∧
    (b.pl.active.power.contains (set, state) = false → exec (.powerStateEntry set state) s = .next s) ∧
    (2 ≤ x.state → x.sre = false → (∀ c ∈ b.chansOfSet n, b.chanQuiet c = true) →
      exec (.sreIssue set) s = .next { s with base := b.setSet n { x with sre := true, sreAt := b.now } }) ∧
    (∀ c ∈ b.chansOfSet n, b.chanQuiet c = false → exec (.sreIssue set) s = .next s) ∧
    (2 ≤ x.state → x.sre = true → x.exiting = false → x.off = false → x.sreAt + 30 ≤ b.now →
      exec (.chSetPowerOff set) s = .next { s with base := (b.chansOfSet n).foldl Base.chanOff (b.setSet n { x with off := true }) }) ∧
    (b.now < x.sreAt + 30 → exec (.chSetPowerOff set) s = .next s) ∧
    (x.exiting = true → x.exitEnds ≤ b.now → b.now ≤ x.exitFrom + x.exitBound →
      let up := b.setSet n { x with state := x.exitTo, exiting := false, sre := false, off := false, idle := 0, testHold := x.testHold && x.exitTo == 1 }
      let told := (up.bump Reg.WAKE_COUNT).reportSet n x.exitTo
      let fresh := if 2 ≤ x.state then (told.chansOfSet n).foldl (fun (b : Base) (c : Nat) => (b.freshRefresh c).readEyeVisit c) told else told
      let sampled := fresh.wakeSampling (fresh.diesOfSet n)
      exec (.setExitComplete set) s = .next { s with base := ((sampled.chansOfSet n).foldl Base.drainChan sampled).pump }) ∧
    (x.exiting = false ∨ b.now < x.exitEnds → exec (.setExitComplete set) s = .next s)

/-! ### Faults -/

/-- FAULT_MESSAGE_ACCEPT takes the next message, one a cycle: it leaves the outbox, a notice or a repair it reports is recorded, it is suppressed and
counted in a running window of its kind, else logged under the next sequence number, and its class acts: CORRECTED no further, CONTAINED goes to its
recipients' records, starts its scope's timer and interrupts, FATAL enters the state, which drives FAULT_N. With none waiting nothing happens.
It rests on the model's choices in log entries 45, 87. -/
def Obligations.message_acceptance : Prop :=
  ∀ (s : State) (m : Msg), s.base.alive = true →
    let b0 := s.base
    let run := exec .faultMessageAccept s
    (nextMsg b0.flt.rr b0.flt.outbox = none → run = .next s) ∧
    (b0.flt.acceptedAt = some b0.now → run = .next s) ∧
    (nextMsg b0.flt.rr b0.flt.outbox = some m → b0.flt.acceptedAt ≠ some b0.now →
      let b := ((({ b0 with flt := { b0.flt with acceptedAt := some b0.now } } : Base).takeMsg m).countNotice m).recordRepair m
      let windows := if m.kind.limited then (m.source, m.kind, b.pl.epochs) :: b.flt.windows.filter (fun w => !(w.1 == m.source && w.2.1 == m.kind)) else b.flt.windows
      let logged := ({ b with flt := { b.flt with windows := windows } }).logMsg m
      let noted := { logged with flt := { logged.flt with unpersisted := logged.flt.unpersisted ++ [logged.flt.nextSeq - 1] } }
      let inWindow := m.kind.limited = true ∧ ∃ w ∈ b.flt.windows, w.1 = m.source ∧ w.2.1 = m.kind ∧ b.pl.epochs < w.2.2 + 1000
      (inWindow → run = .next { s with base := b.bump Reg.SUPPRESSED_COUNT }) ∧
      (¬ inWindow →
        (m.kind.cls = .corrected → m.kind ≠ .bucketOverflow → run = .next { s with base := logged }) ∧
        (m.kind.cls = .contained → run = .next { s with base := ((noted.msixMgmt 0).deliver m).startTimer (noted.scopeOf m) }) ∧
        (m.kind.cls = .fatal → run = .next { s with base := if noted.flt.fatal then noted else noted.enterFatal m })) ∧
      logged.flt.nextSeq = b.flt.nextSeq + 1 ∧ (∃ e ∈ logged.flt.log, e.seq = b.flt.nextSeq ∧ e.msg = m) ∧
      (m.kind.cls = .fatal → noted.flt.fatal = false → (noted.enterFatal m).flt.fatal = true ∧ (noted.enterFatal m).flt.faultNLow = true))

/-- Timers and acknowledgements. REACTION_TIMER_EXPIRE of a scope whose reaction timer has passed marks its open entries as escalated, starts its
escalation timer, isolates a host or fences an octant, counts, reports and interrupts. ESCALATE_TIMER_EXPIRE ends the scope's timers and declares
FATAL. FAULT_ACK acknowledges a scope's entries, and with none left open its timers and its escalation end. FENCE_CLEAR asks for the end of a
fence. RELEASE_FAULT_N lets the pin go after its pulse, or at FAULT_N_PULSE_END.
Resets of blocks and the log. RESET_CTRL resets a port (its link goes down), the row mover (running queues stop and their descriptors end) or the
Pith complex (its plan is dropped), each under a shadow, and is refused after three counted resets within 60 s. SHADOW_CLOSE closes a due shadow, sends
again what still holds and reports the count. FLOG_SEL copies an entry into FLOG_DATA, or none. FLOG_RD records progress and re-arms the watermark.
MRAM_LOG_PERSIST appends to the ring of 256; more than 256 waiting entries are not kept, counted and reported.
It rests on the model's choices in log entries 87, 88, 90. -/
def Obligations.reactions_shadows_and_the_log : Prop :=
  (∀ (s : State) (scope : BitVec 6) (v : Word),
    let b := s.base
    let n := scope.toNat
    let due := fun second : Bool => ∃ t ∈ b.flt.timers, t.scope = n ∧ t.second = second ∧ 1000 * t.due < b.now
    (b.alive = true → due false →
      let second : ScopeTimer := { scope := n, second := true, due := b.pl.epochs + b.escalateEpochs }
      let mine := fun e : LogEntry => decide (e.msg.kind.cls = .contained) && !e.acked && b.scopeOf e.msg == n
      let marked : Base := { b with flt := { b.flt with
        timers := b.flt.timers.filter (fun t => t.scope != n) ++ [second]
        escalated := if n ∈ b.flt.escalated then b.flt.escalated else b.flt.escalated ++ [n]
        log := b.flt.log.map fun e => if mine e then { e with escalated := true } else e } }
      let fenced : Base := { marked with flt := { marked.flt with
        fenced := setBit marked.flt.fenced (n - 16) true, unfence := setBit marked.flt.unfence (n - 16) false } }
      let acted := if n < 16 then marked.isolate n false else if n < 48 then fenced else marked
      exec (.reactionTimerExpire scope) s =
        .next { s with base := ((acted.bump Reg.ESCALATION_COUNT).send .faultEscalated 0x5B8 n).msixMgmt 3 }) ∧
    (¬ due false → exec (.reactionTimerExpire scope) s = .next s) ∧
    (b.alive = true → due true →
      let ended := { b with flt := { b.flt with timers := b.flt.timers.filter fun t => t.scope != n } }
      exec (.escalateTimerExpire scope) s = .next { s with base := ended.send .escalatedFatal 0x5B8 n }) ∧
    (¬ due true → exec (.escalateTimerExpire scope) s = .next s) ∧
    (b.mgmtFull = true →
      (tb v 31 = true → fld v 5 0 ≤ 48 → exec (.faultAck v) s = .next { s with base := b.acknowledge (fld v 5 0) (b.reg Reg.FAULT_ACK_SEQ).toNat }) ∧
      (tb v 31 = false ∨ 48 < fld v 5 0 → exec (.faultAck v) s = .next s) ∧
      (tb v 31 = true → b.flt.fenced.getLsbD (fld v 4 0) = true → exec (.fenceClear v) s =
        .next { s with base := { b with flt := { b.flt with unfence := setBit b.flt.unfence (fld v 4 0) true } } }) ∧
      (b.flt.fenced.getLsbD (fld v 4 0) = false ∨ tb v 31 = false → exec (.fenceClear v) s = .next s) ∧
      (b.flt.faultNLow = true → b.now < b.flt.pulseEnd → exec .releaseFaultN s = .next { s with base := { b with flt := { b.flt with releasePending := true } } }) ∧
      (b.flt.faultNLow = true → b.flt.pulseEnd ≤ b.now → exec .releaseFaultN s = .next { s with base := { b with flt := { b.flt with faultNLow := false } } }) ∧
      (b.flt.faultNLow = false → exec .releaseFaultN s = .next s)) ∧
    (b.alive = true → b.flt.releasePending = true → b.flt.pulseEnd ≤ b.now →
      exec .faultNPulseEnd s = .next { s with base := { b with flt := { b.flt with faultNLow := false, releasePending := false } } }) ∧
    (b.flt.releasePending = false ∨ b.now < b.flt.pulseEnd → exec .faultNPulseEnd s = .next s) ∧
    (∀ a q, (∀ e ∈ b.flt.log, e.msg.kind.cls = .contained → b.scopeOf e.msg = a → e.acked = true ∨ e.seq ≤ q) →
      (∀ t ∈ (b.acknowledge a q).flt.timers, t.scope ≠ a) ∧ a ∉ (b.acknowledge a q).flt.escalated)) ∧
  (∀ (s : State) (v : Word) (block : BitVec 5) (sh : Shadow),
    let b := s.base
    let k := fld v 4 0
    let minute := (Tab.get [] b.flt.history k).filter fun t => decide (b.pl.epochs < t + Config.aonMinute)
    let counted := { b with flt := { b.flt with history := Tab.set [] b.flt.history k ((b.pl.epochs :: Tab.get [] b.flt.history k).take 3) } }
    (b.mgmtFull = true → tb v 31 = true →
      (minute.length < 3 →
        (k < 16 → exec (.resetCtrl v) s = .next { s with base := (counted.openShadow k 100000).linkDown k }) ∧
        (k = 16 → exec (.resetCtrl v) s = .next { s with base := counted.stopQueues.resetMover.openShadow 16 1000 }) ∧
        (k = 17 → exec (.resetCtrl v) s =
          .next { s with base := ({ counted with pl := { counted.pl with inactive := {}, inactiveDone := false, missed := 0 } }).openShadow 17 100000 })) ∧
      (3 ≤ minute.length → k ≤ 17 → exec (.resetCtrl v) s =
        .next { s with base := ({ b with flt := { b.flt with refused := true, lastRefused := k } }).send .resetRateExceeded 0x5B9 k })) ∧
    (tb v 31 = false ∨ 17 < k → exec (.resetCtrl v) s = .next s) ∧
    (b.alive = true → (b.flt.shadows.find? fun x => x.block == block.toNat && decide (x.closeAt ≤ b.now)) = some sh →
      let closed := { b with flt := { b.flt with shadows := b.flt.shadows.filter fun s => s.block != sh.block } }
      let latest := sh.sent.foldr (fun m l => if l.any fun x => x.source == m.source && x.kind == m.kind then l else m :: l) []
      let again := latest.foldl (fun b m => if b.conditionHolds m then b.send m.kind m.source m.addr.toNat m.host else b) closed
      exec (.shadowClose block) s = .next { s with base := again.sendOutside .shadowClosed 0x5B9 (sh.block + min 0xFFFF sh.count * 2 ^ 16) }) ∧
    ((∀ x ∈ b.flt.shadows, x.block = block.toNat → b.now < x.closeAt) → exec (.shadowClose block) s = .next s) ∧
    (b.mgmtFull = true →
      (∃ t : Base, exec (.flogSel v) s = .next { s with base := t } ∧ t = { b with regs := t.regs } ∧ t.reg Reg.FLOG_SEL = v ∧
        (∀ e, (b.flt.log.find? fun e => e.seq == v.toNat) = some e →
          (∀ w, w < 4 → t.reg (Reg.FLOG_DATA 0 + 4 * w) = e.msg.bits.extractLsb' (32 * w) 32) ∧
          (t.reg (Reg.FLOG_DATA 4)).toNat = 1 + (if e.acked then 2 else 0) + (if e.escalated then 4 else 0)) ∧
        ((∀ e ∈ b.flt.log, e.seq ≠ v.toNat) → t.reg (Reg.FLOG_DATA 4) = 9)) ∧
      (let armed := { b.setReg Reg.FLOG_RD v with flt := { b.flt with watermarkArmed := true } }
       exec (.flogRd v) s = .next { s with base := armed.checkWatermark })) ∧
    (b.fwRuns = true →
      let waiting := b.flt.log.filter fun e => b.flt.unpersisted.contains e.seq
      let new := (waiting.drop (waiting.length - 256)).map fun e =>
        { seq := e.seq, msg := e.msg, powerOn := b.boot.powerOns, acked := e.acked, escalated := e.escalated : MramEntry }
      let ring := b.flt.mramLog ++ new
      let excess := b.flt.unpersisted.length - 256
      let kept := { b with
        flt := { b.flt with mramLog := ring.drop (ring.length - 256), unpersisted := [] }
        dict := { b.dict with
          logSkipped := b.dict.logSkipped + excess, life := { b.dict.life with mramWrites := b.dict.life.mramWrites + new.length } } }
      exec .mramLogPersist s = .next { s with base := if excess = 0 then kept else kept.send .mramLogSkipped 0x5B8 excess }))

/-! ### Reset and boot -/

/-- Resets: RESET_CMD_WARM and RESET_CMD_COLD, writes of RESET_CMD, are refused without its key; with it the first resets warm at once, the second makes
a cold reset fall due 10 µs later, and kinds 0 and 3 do nothing.
FM_RESET_COMMAND resets warm, and so do WATCHDOG_EXPIRE and BOOT_TIMER_EXPIRE once their time has passed, and not before. A warm reset keeps the arrays, and the queue of commands with Rind.
INTERNAL_COLD_RESET_RELEASE starts a part that AON holds, or one whose cold reset is due: the straps are read, the lifecycle is taken from the
fuses and the boot begins. It is ignored after a trip, while a SerDes rail is out, and while no release is due. A cold reset loses the arrays. Of what boot code reads in MRAM, a
boot record that is lost reads as slot A and no floor, without the directory version 0 is in use, and PREVIOUS stands for an ACTIVE that is lost.
It rests on the model's choices in log entries 88, 89, 93, 95, 96. -/
def Obligations.resets_warm_and_cold : Prop :=
  (∀ (s : State) (v : Word),
    let b := s.base
    let delayed := if b.boot.coldDue.isSome then b else { b with boot := { b.boot with coldDue := some (b.now + 10000) } }
    (b.mgmtUp = true →
      (fld v 31 16 ≠ 0x7A5E → exec (.resetCmdWarm v) s = .next { s with base := b.send .resetCmdRefused 0x5C5 0 } ∧
        exec (.resetCmdCold v) s = .next { s with base := b.send .resetCmdRefused 0x5C5 0 }) ∧
      (fld v 31 16 = 0x7A5E → fld v 1 0 = 1 → exec (.resetCmdWarm v) s = .next (s.warmBoot 2)) ∧
      (fld v 31 16 = 0x7A5E → fld v 1 0 = 2 → exec (.resetCmdCold v) s = .next { s with base := delayed }) ∧
      (fld v 31 16 = 0x7A5E → fld v 1 0 = 0 ∨ fld v 1 0 = 3 → exec (.resetCmdWarm v) s = .next s ∧ exec (.resetCmdCold v) s = .next s)) ∧
    (b.fwRuns = true → exec .fmResetCommand s = .next (s.warmBoot 2)) ∧
    (b.alive = true → b.boot.run = true → b.boot.kickedAt + 1000000 * b.rf Reg.WDOG_CFG 15 0 ≤ b.now → exec .watchdogExpire s = .next (s.warmBoot 3)) ∧
    (b.now < b.boot.kickedAt + 1000000 * b.rf Reg.WDOG_CFG 15 0 → exec .watchdogExpire s = .next s) ∧
    (b.alive = true → b.boot.run = false → b.boot.bootAt + 500000000 ≤ b.now → exec .bootTimerExpire s = .next (s.warmBoot 3)) ∧
    (b.now < b.boot.bootAt + 500000000 → exec .bootTimerExpire s = .next s) ∧
    (∀ k, (s.warmBoot k).mem = s.mem ∧ (s.warmBoot k).rind = s.rind ∧ (s.warmBoot k).pending = s.pending)) ∧
  (∀ (s : State) (straps : Byte) (gradeE : Bool) (mram : BootRecords),
    let b := s.base
    let run := exec (.internalColdResetRelease straps false gradeE mram) s
    (b.pw.tripped = false → b.pack.serdesOff = false → b.boot.coldHeld = true →
      let boots := satAdd 0xFFFFFFFF b.dict.life.coldBoots 1
      let read := { b with links := { b.links with straps := straps }, dict := { b.dict with life := { b.dict.life with coldBoots := boots } } }
      let boot := { b.boot with coldHeld := false, gradeE := gradeE, powerOns := boots, lifecycle := lifecycleOf (otpRaw s.otp 0x40) }
      let u : State := { s with base := { read with boot := boot, flt := { read.flt with faultNLow := false } } }
      run = .next (u.bootStart true mram)) ∧
    (b.pw.tripped = true ∨ b.pack.serdesOff = true → run = .next s) ∧
    (b.boot.coldHeld = false → b.boot.coldDue = none → run = .next s) ∧
    (b.pw.tripped = false → b.pack.serdesOff = false → b.boot.coldHeld = false → (∃ t, b.boot.coldDue = some t ∧ t ≤ b.now) → b.alive = true →
      ∃ t : State, run = .next t ∧ t.mem = [] ∧ t.rind = s.rind) ∧
    (mram.bootRecord = .sound → mram.directory = .sound → b.readRecords mram = b) ∧
    (mram.bootRecord = .lost →
      let t := b.readRecords mram
      t.boot.preferredB = false ∧ t.boot.new = false ∧ t.boot.attempts = 0 ∧ t.boot.svnFloor = 0) ∧
    (mram.directory = .lost → (b.readRecords mram).dict.active = 0 ∧ (b.readRecords mram).dict.previous = 0) ∧
    (b.dict.active ≠ 0 → (b.readActive .lost).dict.active = b.dict.previous ∧ (b.readActive .lost).dict.previous = 0))

/-- The boot: IMAGE_LOADED takes an image that verifies and rejects another with its reason, and with no slot left the part goes into recovery. BOOT_EXIT
of P0 with an image loaded starts firmware and the watchdog, counts the attempt, sends what BOOT held, and firmware applies the LTR and the labels
of its version. MEMORY_ACTIVE opens the memory once every channel is ready, starts the window of a version on trial and sends what the boot ROM
deferred. WDOG_KICK by a management core of a firmware that runs restarts the watchdog.
It rests on the model's choices in log entries 86, 93, 94. -/
def Obligations.boot_commands : Prop :=
  ∀ (s : State) (slotB : Bool) (img : Image) (who : BitVec 5) (v : Word),
    let b := s.base
    (b.alive = true → b.boot.run = false → b.boot.loaded = false → b.boot.nextSlot = some slotB →
      (s.imageCode img = 0 →
        let taken := { b.boot with loaded := true, slotB := slotB, fwVersion := img.version, fwSvn := img.svn.toNat }
        exec (.imageLoaded slotB img) s =
          .next { s with base := { b with boot := { taken with haveImage := true, sramDigest := img.digest, aonDigest := img.digest } } }) ∧
      (s.imageCode img ≠ 0 →
        let addr := s.imageCode img + (if slotB then 16 else 0)
        let marked := b.updBoot fun x => if slotB then { x with rejectedB := true } else { x with rejectedA := true }
        let told := marked.send .bootImageRejected 0x5C1 addr
        exec (.imageLoaded slotB img) s = .next { s with base := if told.boot.nextSlot.isNone then told.enterRecoveryMode addr else told })) ∧
    (b.boot.nextSlot ≠ some slotB → exec (.imageLoaded slotB img) s = .next s) ∧
    (b.alive = true → b.boot.run = false → b.boot.loaded = true →
      let started := { b with boot := { b.boot with run := true, attempts := min 3 (b.boot.attempts + 1), kickedAt := b.now } }
      exec (.bootExit 17) s = .next { s with base := started.sendHeld.firmwareLtr.firmwareLabels.firmwareRecords }) ∧
    (who.toNat ≠ 17 ∨ b.boot.loaded = false ∨ b.boot.run = true → exec (.bootExit who) s = .next s) ∧
    (b.fwRuns = true → b.boot.memActive = false → b.flt.hold = false → b.flt.fatal = false → b.memoryReady = true →
      let open_ := b.flt.shadows.map fun (x : Shadow) => if x.block = 18 then { x with closeAt := min x.closeAt (b.now + 3000) } else x
      let active := { b with boot := { b.boot with memActive := true, attempts := 0, new := false }, flt := { b.flt with shadows := open_ } }
      let window := { active with dict := { active.dict with windowEnd := some (b.pl.epochs + 1000000 * b.activeVersion.windowS) } }
      exec .memoryActive s = .next { s with base := (if b.dict.onTrial then window else active).sendDeferred }) ∧
    (b.memoryReady = false ∨ b.flt.hold = true ∨ b.flt.fatal = true → exec .memoryActive s = .next s) ∧
    (b.alive = true → b.boot.run = true → 17 ≤ who.toNat → who.toNat ≤ 20 → tb v 0 = true →
      exec (.wdogKick who v) s = .next { s with base := { b with boot := { b.boot with kickedAt := b.now } } }) ∧
    (who.toNat < 17 ∨ 20 < who.toNat ∨ tb v 0 = false → exec (.wdogKick who v) s = .next s)

/-! ### Fuses and lifecycle -/

/-- FUSE_READ answers with the word as the controller reads it and its four flags, hidden words as zero, and counts and reports a word whose copies
disagree. FUSE_PROGRAM starts the pulses of a word that nothing forbids, refuses another with its reason, advances LIFECYCLE one bit at a time and
leaves lock words to FUSE_LOCK. FUSE_PROGRAM_DONE writes the word three times and starts the next, an advance being reported, or on a failure writes
a part of it and ends the operation.
FUSE_LOCK programs the lock word of a region whose seal verifies in a state that opens it, and is refused for another or while the controller is
busy; MARGIN_SCAN counts the words that read differently; GRAFT_APPEND by a command that verifies starts the batch in the first free slot, else it is
rejected; VOID_WORDS starts the setting of every bit of words whose last program failed, and is refused with reason 1 when one is not so.
It rests on the model's choices in log entries 12, 97, 98. -/
def Obligations.fuse_commands : Prop :=
  (∀ (s : State) (v : Word) (by_ : FuseBy) (word : BitVec 11) (value : Word),
    let b := s.base
    let w := fld v 10 0
    let seen := b.setReg Reg.FUSE_RD_ADDR (v &&& 0x107FF)
    let replaced := b.boot.replaceTable.any fun e => e.1 == w
    let data : Word := if hiddenWord w then 0 else otpRead s.otp b.boot.replaceTable w
    let read := fun disagree : Bool => ({ seen with boot := { seen.boot with readValid := true, readData := data,
                                                                             readFlags := BitVec.ofBool (hiddenWord w) ++ BitVec.ofBool replaced ++ 0#1 ++ BitVec.ofBool disagree } } : Base)
    (b.mgmtUp = true → tb v 16 = false → w < 0x600 →
      (copiesAgree (Tab.get 0 s.otp w) = true → exec (.fuseRead v 0 0) s = .next { s with base := read false }) ∧
      (copiesAgree (Tab.get 0 s.otp w) = false →
        let counted := { read true with dict := { b.dict with life := { b.dict.life with fuseMargin := b.dict.life.fuseMargin + 1 } } }
        exec (.fuseRead v 0 0) s = .next { s with base := counted.send .fuseMarginal 0x5C3 w })) ∧
    (b.alive = true → word ≠ 0x40 → word ≠ 0x3E → word ≠ 0x23E → word ≠ 0x502 → word ≠ 0x54E →
      (∀ r, s.programReason by_ word.toNat value = some r →
        exec (.fuseProgram by_ word value) s = .next { s with base := b.send .fuseProgramRefused 0x5C2 (word.toNat + r * 2 ^ 16) }) ∧
      (s.programReason by_ word.toNat value = none →
        let entry : JournalEntry := { word := word.toNat, value := value, state := .incomplete }
        let pulsing := { b.boot with fuseOp := some .program, fuseQueue := [(word.toNat, value)], journal := journalAdd b.boot.journal entry }
        exec (.fuseProgram by_ word value) s = .next { s with base := { b with boot := pulsing } })) ∧
    (b.alive = true → word = 0x3E ∨ word = 0x23E ∨ word = 0x502 ∨ word = 0x54E →
      exec (.fuseProgram by_ word value) s = .next { s with base := b.send .fuseLockRefused 0x5C2 word.toNat }) ∧
    (b.alive = true → ∀ k, k < 5 → (otpRaw s.otp 0x40).getLsbD k = false → value = BitVec.ofNat 32 (2 ^ k) →
      exec (.fuseProgram by_ 0x40 value) s = .next (s.advance k by_)) ∧
    (∀ op a x rest, b.alive = true → b.boot.fuseOp = some op → b.boot.fuseQueue = (a, x) :: rest →
      let closed := fun st : JournalState => { b.boot with journal := journalSet b.boot.journal a st, fuseOp := none, fuseQueue := [] }
      let otp := Tab.set 0 s.otp a (Tab.get 0 s.otp a ||| (x ++ x ++ x))
      (op ≠ .advance → exec (.fuseProgramDone true) s = .next { s with otp := otp, base := ({ b with boot := closed .complete }).fuseStart op rest }) ∧
      (op = .advance →
        let told := ({ b with boot := closed .complete }).send .lifecycleAdvanced 0x5C4 (lifecycleOf (otpRaw otp 0x40))
        exec (.fuseProgramDone true) s = .next { s with otp := otp, base := told.fuseStart op rest }) ∧
      ∃ part : BitVec 96, part &&& ~~~(x ++ x ++ x) = 0 ∧ exec (.fuseProgramDone false) s =
        .next { s with otp := Tab.set 0 s.otp a (Tab.get 0 s.otp a ||| part), base := { b with boot := closed .failed, free := b.free + 1 } }) ∧
    (b.boot.fuseOp = none → ∀ ok, exec (.fuseProgramDone ok) s = .next s)) ∧
  (∀ (s : State) (region : Fin 7) (sw lw : Nat) (a : AuthCmd) (entry : BitVec 7) (lines : List GraftLine) (slot : Nat) (words : List (BitVec 11)) (noise : List MarginNoise),
    let b := s.base
    let r := region.val
    (b.alive = true → sealWord r = some sw → lockWord r = some lw →
      (b.boot.fuseOp = none → sealVerifies (otpRaw s.otp) r sw = true → regionOpen b.boot.lifecycle r .firmware = true → regionLocked s.otp r = false →
        exec (.fuseLock region) s = .next { s with base := b.fuseStart .lock [(lw, otpRaw s.otp lw ||| 1)] }) ∧
      (b.boot.fuseOp = none → sealVerifies (otpRaw s.otp) r sw = false → exec (.fuseLock region) s = .next { s with base := b.send .fuseLockRefused 0x5C2 lw }) ∧
      (∀ op, b.boot.fuseOp = some op → exec (.fuseLock region) s = .next { s with base := b.send .fuseLockRefused 0x5C2 (lw + 5 * 2 ^ 16) })) ∧
    (b.alive = true → sealWord r = none → exec (.fuseLock region) s = .next { s with base := b.send .fuseLockRefused 0x5C2 (regionBase r) }) ∧
    (b.fwRuns = true → let n := (marginalWords s.otp noise).length
      ∃ t : Base, exec (.marginScan noise) s = .next { s with base := t } ∧ t.boot.marginal = n ∧
        t.dict.life.fuseMargin = b.dict.life.fuseMargin + n ∧ t.mg = b.mg ∧ t.pw = b.pw ∧ t.dram = b.dram) ∧
    (b.fwRuns = true → b.boot.fuseOp = none → s.authOk a = true → entry.toNat + lines.length ≤ 128 →
      ((List.range 8).find? fun k => otpRaw s.otp (0x4C0 + 2 * k) == 0 && otpRaw s.otp (0x4C1 + 2 * k) == 0) = some slot →
      let taken := (b.updBoot fun x => { x with cmdCounter := x.cmdCounter + 1 }).emit (.command (.errorCode 0))
      let u : State := { s with base := taken }
      let batch := graftBatch (otpRaw s.otp) entry.toNat lines slot
      (∀ e ∈ batch, u.programReason (.command a) e.1 e.2 = none) →
      exec (.graftAppend a entry lines) s = .next { s with base := taken.fuseStart .program batch }) ∧
    (b.fwRuns = true → b.boot.fuseOp = none → (s.authOk a = false ∨ 128 < entry.toNat + lines.length) →
      exec (.graftAppend a entry lines) s = .next { s with base := (b.send .fuseCommandRejected 0x5C6 0).emit (.command (.errorCode 1)) }) ∧
    (b.alive = true → b.boot.fuseOp = none →
      let open_ := fun w : BitVec 11 => regionOpen b.boot.lifecycle (regionOf w.toNat) .firmware = true ∧ voidable b.boot.journal w.toNat = true
      ((∀ w ∈ words, open_ w) →
        let ones := words.map fun w => (w.toNat, (BitVec.allOnes 32 : Word))
        exec (.voidWords .firmware words) s = .next { s with base := b.fuseStart .program ones }) ∧
      (∀ w rest, words = w :: rest → ¬ open_ w →
        exec (.voidWords .firmware words) s = .next { s with base := b.send .fuseProgramRefused 0x5C2 (w.toNat + 2 ^ 16) })))

/-- LIFECYCLE_RETURN, LIFECYCLE_VOID and JTAG_UNLOCK with a command that verifies advance to RETURN and to VOID and open JTAG, and count the command;
one that does not verify is rejected. LIFECYCLE_ADVANCE starts the program of the next bit when its conditions hold, else it is refused.
RAISE_SVN_FLOOR of an identity with the right raises the floor to the running image's SVN with 1, never lowers it, changes nothing with 0, and
answers status 7 otherwise.
FIRMWARE_SLOT_WRITE prefers a slot that verifies and that firmware did not boot from. In recovery RCV_GO starts a chunk, RCV_CHUNK_DONE ends it
and interrupts, RCV_FINISH verifies the slot; outside recovery the two answer error 3.
It rests on the model's choices in log entries 93, 98. -/
def Obligations.lifecycle_and_recovery : Prop :=
  (∀ (s : State) (a : AuthCmd) (by_ : FuseBy) (bit : Fin 3) (p : OdPath) (v : Byte),
    let b := s.base
    let taken := (b.updBoot fun x => { x with cmdCounter := x.cmdCounter + 1 }).emit (.command (.errorCode 0))
    let u : State := { s with base := taken }
    let rejected : State := { s with base := (b.send .fuseCommandRejected 0x5C6 0).emit (.command (.errorCode 1)) }
    let w := otpRaw s.otp 0x40
    (b.fwRuns = true → b.boot.fuseOp = none → s.authOk a = true →
      exec (.lifecycleReturn a) s = .next (u.advance 3 (.command a)) ∧ exec (.lifecycleVoid (.command a)) s = .next (u.advance 4 (.command a)) ∧
      (b.boot.lifecycle = 4 → exec (.jtagUnlock a) s = .next { s with base := { taken with boot := { taken.boot with jtagOpen := true } } }) ∧
      (b.boot.lifecycle ≠ 4 → exec (.jtagUnlock a) s = .next rejected)) ∧
    (b.fwRuns = true → b.boot.fuseOp = none → s.authOk a = false →
      exec (.lifecycleReturn a) s = .next rejected ∧ exec (.lifecycleVoid (.command a)) s = .next rejected ∧ exec (.jtagUnlock a) s = .next rejected) ∧
    (b.alive = true → b.boot.fuseOp = none →
      (s.advanceOk bit.val by_ = true → exec (.lifecycleAdvance by_ bit) s =
        .next { s with base := b.fuseStart .advance [(0x40, w ||| BitVec.ofNat 32 (2 ^ bit.val))] }) ∧
      (s.advanceOk bit.val by_ = false → exec (.lifecycleAdvance by_ bit) s = .next { s with base := b.fuseRefused 0x40 1 })) ∧
    (b.odUp p 2 0x1000 5 [v] = true → tb (accessRow b.dict.access 0).2 (odWho p) = true →
      let raised := { b with boot := { b.boot with svnFloor := max b.boot.svnFloor b.boot.fwSvn } }
      (v = 1 → exec (.raiseSvnFloor p v) s = .next { s with base := raised.countMram.odAnswer p 0 1 [] }) ∧
      (v = 0 → exec (.raiseSvnFloor p v) s = .next { s with base := b.odAnswer p 0 1 [] }) ∧
      (1 < v.toNat → exec (.raiseSvnFloor p v) s = .next { s with base := b.odAnswer p 7 0 [] })) ∧
    (b.odUp p 2 0x1000 5 [v] = false → exec (.raiseSvnFloor p v) s = .next s)) ∧
  (∀ (s : State) (slotB : Bool) (img : Image) (chunk : BitVec 7) (error : BitVec 2),
    let b := s.base
    let out := { s with base := { b with mg := { b.mg with rcvError := 3 } } }
    let going := { b.mg with rcvBusy := true, rcvDone := false, rcvError := 0, rcvSlot := slotB, rcvChunk := chunk.toNat }
    let code := s.imageCode img
    (b.fwRuns = true → slotB ≠ b.boot.slotB → code = 0 →
      exec (.firmwareSlotWrite slotB img) s = .next { s with base := { b with boot := { b.boot with preferredB := slotB, new := true } } }) ∧
    (slotB = b.boot.slotB ∨ code ≠ 0 → exec (.firmwareSlotWrite slotB img) s = .next s) ∧
    (b.mgmtUp = true → b.boot.recovery = false → exec (.rcvGo slotB chunk) s = .next out ∧ exec (.rcvFinish slotB img) s = .next out) ∧
    (b.mgmtUp = true → b.boot.recovery = true → b.mg.rcvBusy = false →
      exec (.rcvGo slotB chunk) s = .next { s with base := { b with mg := going } } ∧
      (let done := ({ b with mg := { b.mg with rcvDone := true, rcvError := 0, rcvResult := code, rcvSlot := slotB } }).msixMgmt 7
       exec (.rcvFinish slotB img) s = .next { s with base :=
         if code = 0 then { done with boot := { done.boot with preferredB := slotB, new := true, attempts := 0 } } else done })) ∧
    (b.mgmtUp = true → b.boot.recovery = true → b.mg.rcvBusy = true → exec (.rcvGo slotB chunk) s = .next s ∧ exec (.rcvFinish slotB img) s = .next s) ∧
    (b.alive = true → b.boot.recovery = true → b.mg.rcvBusy = true →
      let e := if error.toNat ≤ 2 then error.toNat else 1
      let done := ({ b with mg := { b.mg with rcvBusy := false, rcvDone := true, rcvError := e } }).msixMgmt 7
      exec (.rcvChunkDone error) s = .next { s with base := if e = 0 then done else done.send .recoveryChunkFailed 0x583 done.mg.rcvChunk }))

/-! ### SPDM -/

/-- The SPDM requests on a path that carries SPDM: SPDM_GET_VERSION answers version 1.2, SPDM_GET_CAPABILITIES and SPDM_NEGOTIATE_ALGORITHMS succeed; then,
once algorithms are agreed, SPDM_GET_DIGESTS answers with the digest and SPDM_GET_CERTIFICATE with the chain of slot 0, SPDM_CHALLENGE with a signature
and SPDM_GET_MEASUREMENTS with the measurements. That a request before the algorithms are agreed is rejected and the index 0 and 0xFF of the
measurements are presumed (entry 41). A path that carries none answers nothing.
Sessions: SPDM_KEY_EXCHANGE begins one, SPDM_FINISH with a good MAC finishes it and with a bad one ends it, SPDM_HEARTBEAT succeeds in a finished
session alone, SPDM_END_SESSION ends it. No other session changes.
It rests on the model's choices in log entries 11, 41. -/
def Obligations.spdm_requests_and_sessions : Prop :=
  (∀ (s : State) (p : SpdmPath) (slot : BitVec 4) (index : Byte),
    let b := s.base
    let answers := fun r : Reply => ({ s with base := b.emit (.spdm p r) } : State)
    (b.spdmUp p = true →
      exec (.spdmGetVersion p) s = .next (answers (.number 0x12)) ∧ exec (.spdmGetCapabilities p) s = .next (answers .success) ∧
      (let agreed := { b.boot with algsAgreed := if b.boot.algsAgreed.contains p then b.boot.algsAgreed else p :: b.boot.algsAgreed }
       exec (.spdmNegotiateAlgorithms p true) s = .next { s with base := ({ b with boot := agreed }).emit (.spdm p .success) }) ∧
      exec (.spdmNegotiateAlgorithms p false) s = .next (answers .rejected)) ∧
    (b.spdmUp p = true → b.boot.algsAgreed.contains p = true →
      exec (.spdmGetDigests p) s = .next (answers (.number (Config.sha384 (s.chain.map fun x => x.toNat)).toNat)) ∧
      exec (.spdmGetCertificate p 0) s = .next (answers (.bytes s.chain)) ∧
      (slot ≠ 0 → exec (.spdmGetCertificate p slot) s = .next (answers .invalidInput) ∧ exec (.spdmChallenge p slot) s = .next (answers .invalidInput)) ∧
      exec (.spdmChallenge p 0) s = .next { s with base := s.signed p [] b } ∧
      (1 ≤ index.toNat → index.toNat ≤ 6 → exec (.spdmGetMeasurements p index false) s = .next (answers (.numbers [s.measurement index.toNat])) ∧
        exec (.spdmGetMeasurements p index true) s = .next { s with base := s.signed p [s.measurement index.toNat] b }) ∧
      exec (.spdmGetMeasurements p 0 false) s = .next (answers (.numbers [6])) ∧
      exec (.spdmGetMeasurements p 0xFF false) s = .next (answers (.numbers ([1, 2, 3, 4, 5, 6].map s.measurement))) ∧
      (6 < index.toNat → index.toNat < 255 → exec (.spdmGetMeasurements p index false) s = .next (answers .invalidInput))) ∧
    (b.spdmUp p = true → b.boot.algsAgreed.contains p = false →
      exec (.spdmGetDigests p) s = .next (answers .rejected) ∧ exec (.spdmChallenge p slot) s = .next (answers .rejected) ∧
      exec (.spdmGetMeasurements p index false) s = .next (answers .rejected)) ∧
    (b.spdmUp p = false → exec (.spdmGetVersion p) s = .next s ∧ exec (.spdmGetCapabilities p) s = .next s ∧
      exec (.spdmNegotiateAlgorithms p true) s = .next s ∧ exec (.spdmGetDigests p) s = .next s ∧ exec (.spdmGetCertificate p slot) s = .next s ∧
      exec (.spdmChallenge p slot) s = .next s ∧ exec (.spdmGetMeasurements p index true) s = .next s)) ∧
  (∀ (s : State) (p : SpdmPath) (session : BitVec 16), s.base.spdmUp p = true →
    let b := s.base
    let l := b.boot.sessions
    let is := fun x : Session => decide (x.path = p) && x.id == session
    let held := fun l : List Session => ({ b with boot := { b.boot with sessions := l } } : Base)
    let answers := fun (l : List Session) (r : Reply) => ({ s with base := (held l).emit (.spdm p r) } : State)
    (b.boot.algsAgreed.contains p = true → l.any is = false →
      exec (.spdmKeyExchange p 0 session) s =
        .next { s with base := s.signed p [session.toNat] (held (l ++ [{ path := p, id := session, finished := false }])) }) ∧
    (b.boot.algsAgreed.contains p = true → l.any is = true → exec (.spdmKeyExchange p 0 session) s = .next (answers l .invalidInput)) ∧
    (l.any (fun x => is x && !x.finished) = true →
      exec (.spdmFinish p session true) s = .next (answers (l.map fun y => if is y then { y with finished := true } else y) .success)) ∧
    exec (.spdmFinish p session false) s = .next (answers (l.filter fun y => !(is y && !y.finished)) .rejected) ∧
    (l.any (fun x => is x && x.finished) = true →
      exec (.spdmEndSession p session) s = .next (answers (l.filter fun y => !is y) .success) ∧ exec (.spdmHeartbeat p session) s = .next (answers l .success)) ∧
    (l.any (fun x => is x && x.finished) = false →
      exec (.spdmEndSession p session) s = .next (answers l .rejected) ∧ exec (.spdmHeartbeat p session) s = .next (answers l .rejected)))

/-! ### The management port -/

/-- MGMT_PERST holds the endpoint in reset and MGMT_PERST_RELEASE ends it; BAR_UNMAPPED counts and reports an offset without a register, a read of which
answers zero; DIAG_WINDOW_READ and DIAG_WINDOW_WRITE pass their lines on while
the diagnostic window is open and are refused, counted and reported while it is not.
MCTP control requests addressed to the endpoint are answered: MCTP_GET_ENDPOINT_ID, MCTP_GET_ENDPOINT_UUID, MCTP_GET_VERSION_SUPPORT,
MCTP_GET_MESSAGE_TYPE_SUPPORT and MCTP_GET_VENDOR_MSG_SUPPORT with what the part has; MCTP_SET_ENDPOINT_ID stores the identity of its transport and
answers an error for 0 and 0xFF (entry 41); a message that cannot be reassembled is dropped, counted and reported. FM_API_COMMAND answers on the PCIe management port, and tunnelled on a port of
several logical devices. I3C_ENTDAA and I3C_SETDASA of the static address give an address once.
It rests on the model's choices in log entries 41, 53, 55, 56. -/
def Obligations.management_endpoint_and_mctp : Prop :=
  (∀ (s : State) (off : BitVec 24) (at_ : BitVec 28) (bytes : BitVec 10) (lines : List (BitVec 64 × Data)),
    let b := s.base
    let perst := fun x : Bool => { b with mg := { b.mg with perstAsserted := x } }
    let refused := (b.bump Reg.DIAG_FW_COUNT).send .diagFirewall 0x582 (b.windowDpa at_.toNat)
    (b.alive = true → exec .mgmtPerst s = .next { s with base := (perst true).mgmtReset } ∧ (perst true).mgmtReset.mgmtUp = false) ∧
    (b.alive = false → exec .mgmtPerst s = .next { s with base := perst true }) ∧
    exec .mgmtPerstRelease s = .next { s with base := perst false } ∧
    (b.mgmtUp = true → regRow? off.toNat = none →
      let told := fun b : Base => (b.bump Reg.UNMAPPED_COUNT).send .barUnmapped 0x580 off.toNat
      exec (.barUnmapped off true) s = .next { s with base := told b } ∧ exec (.barUnmapped off false) s = .next { s with base := told (b.emit (.command (.word 0))) }) ∧
    (b.mgmtUp = true → b.offers off.toNat = true → regRow? off.toNat ≠ none →
      exec (.barUnmapped off true) s = .next s ∧ exec (.barUnmapped off false) s = .next { s with base := b.emit (.command (.word 0)) }) ∧
    (b.mgmtFull = true → b.windowOpen = false →
      exec (.diagWindowRead at_ bytes) s = .next { s with base := refused.emit .diagAbort } ∧
      exec (.diagWindowWrite at_ lines) s = .next { s with base := { refused with mg := { refused.mg with aerAbort := true } } }) ∧
    (b.mgmtFull = true → b.windowOpen = true →
      let dpa := b.windowDpa at_.toNat
      let n := min (max 1 bytes.toNat) (2 ^ 28 - at_.toNat)
      let r := b.diagTags ((dpa + n - 1) / 64 - dpa / 64 + 1)
      let parts := diagParts dpa n r.1
      let begun := { r.2 with mg := { r.2.mg with diagReads := r.2.mg.diagReads ++ [parts] } }
      let asked := (parts.mapIdx fun i p => (dpa / 64 + i, p.tag)).foldl (fun (b : Base) (e : Nat × Nat) => b.diagLine e.1 e.2 (.rd .cur)) begun
      exec (.diagWindowRead at_ bytes) s = .next { s with base := asked }) ∧
    (∀ d, b.mgmtFull = true → b.windowOpen = true →
      let asked := (b.diagTags 1).2.diagLine (b.windowDpa at_.toNat / 64) b.mg.diagTag (.wr d false)
      exec (.diagWindowWrite at_ [(BitVec.allOnes 64, d)]) s = .next { s with base := asked })) ∧
  (∀ (s : State) (r : MctpReq) (port : PortBlk) (eid : Byte) (addr : BitVec 7),
    let b := s.base
    let answers := fun (b : Base) (x : Reply) => ({ s with base := b.emit (.mctp r.transport x) } : State)
    let dropped : State := { s with base := (b.bump Reg.MCTP_DROP_COUNT).send .mctpDropped 0x581 0 }
    (b.transportUp r.transport = true → r.good = true → (b.eid r.transport ≠ 0 ∨ r.toNull = true) →
      exec (.mctpGetEndpointId r) s = .next (answers b (.number (b.eid r.transport).toNat)) ∧
      exec (.mctpGetEndpointUuid r) s = .next (answers b (.number Config.uuid.toNat)) ∧
      exec (.mctpGetVersionSupport r) s = .next (answers b (.numbers [1, 3])) ∧
      exec (.mctpGetMessageTypeSupport r) s =
        .next (answers b (.numbers (if r.transport = .pcie then [0x00, 0x05, 0x07, 0x7E] else [0x00, 0x05, 0x7E]))) ∧
      exec (.mctpGetVendorMsgSupport r) s = .next (answers b (.number 0x1F3A)) ∧
      (eid ≠ 0 → eid ≠ 0xFF → r.transport = .pcie →
        exec (.mctpSetEndpointId r eid) s = .next (answers { b with mg := { b.mg with eidPcie := eid } } .success)) ∧
      (eid ≠ 0 → eid ≠ 0xFF → r.transport = .i3c →
        exec (.mctpSetEndpointId r eid) s = .next (answers { b with mg := { b.mg with eidI3c := eid } } .success)) ∧
      (eid = 0 ∨ eid = 0xFF → exec (.mctpSetEndpointId r eid) s = .next (answers b (.errorCode 2)))) ∧
    (b.transportUp r.transport = true → r.good = false → exec (.mctpGetEndpointId r) s = .next dropped ∧ exec (.fmApiCommand (.mctp r)) s = .next dropped) ∧
    (b.transportUp .pcie = true → r.transport = .pcie → r.good = true → b.eid .pcie ≠ 0 →
      exec (.fmApiCommand (.mctp r)) s = .next { s with base := b.emit (.fmReply .success) }) ∧
    (b.transportUp .i3c = true → r.transport = .i3c → exec (.fmApiCommand (.mctp r)) s = .next dropped) ∧
    (b.fwRuns = true → (b.port port.toNat).carries = true →
      (tb (b.reg (Reg.PORT_LD_MODE port.toNat)) 0 = true → exec (.fmApiCommand (.tunnel port)) s = .next { s with base := b.emit (.fmReply .success) }) ∧
      (tb (b.reg (Reg.PORT_LD_MODE port.toNat)) 0 = false → exec (.fmApiCommand (.tunnel port)) s =
        .next { s with base := b.send .ldNotBound (0x80 + port.toNat) (portAddr port.toNat) })) ∧
    (b.transportUp r.transport = false → exec (.mctpGetEndpointId r) s = .next s ∧ exec (.mctpSetEndpointId r eid) s = .next s ∧
      exec (.fmApiCommand (.mctp r)) s = .next s) ∧
    (b.alive = true → b.mg.i3cAddr = 0 →
      let held := { b with mg := { b.mg with i3cAddr := addr } }
      exec (.i3cEntdaa addr) s = .next { s with base := held.emit (.command (.number i3cPid)) } ∧ exec (.i3cSetdasa 0x3C addr) s = .next { s with base := held }) ∧
    (b.mg.i3cAddr ≠ 0 → exec (.i3cEntdaa addr) s = .next s ∧ exec (.i3cSetdasa 0x3C addr) s = .next s))

/-- A post that is accepted joins its channel whatever the other channels hold. It is crossed when a channel from its receiver back to its sender
holds a notice: then CROSSED is set on both and MBX_CROSSED is sent; otherwise no CROSSED changes and no message is sent. -/
def Obligations.posts_that_cross : Prop :=
  ∀ (s : State) (who : BitVec 5) (c : BitVec 6) (v : Word),
    let b := s.base
    let w := who.toNat
    let k := c.toNat
    let y := b.mbxBank k
    let n : Notice := { ptr := (b.mbx k).ptr, len := v.extractLsb' 0 16, seq := v.extractLsb' 16 16 }
    b.reaches w = true → b.mbxSender k = some w → (16 ≤ w ∨ b.coh.isolated.getLsbD w = false) → b.bankOn y = true → w ≠ 22 →
    (b.mbx k).fifo.length < 4 → b.ptrOk w n.ptr n.len.toNat = true →
    ∃ t u : Base, exec (.mbxPost who c v) s = .next { s with base := t } ∧
      (t.mbx k).fifo = (b.mbx k).fifo ++ [n] ∧ (∀ j, j ≠ k → (t.mbx j).fifo = (b.mbx j).fifo) ∧
      let back := fun j => j < 64 ∧ b.mbxSender j = some y ∧ b.mbxReceiver j = some w ∧ (t.mbx j).fifo ≠ []
      (∀ j, back j → (t.mbx j).crossed = true ∧ (t.mbx k).crossed = true ∧ t = u.send .mbxCrossed (0x588 + y) (k + 256 * w)) ∧
      (∀ j, j ≠ k → ¬ back j → (t.mbx j).crossed = (b.mbx j).crossed) ∧
      ((∀ j, ¬ back j) → (t.mbx k).crossed = (b.mbx k).crossed ∧ t.flt.outbox = b.flt.outbox ∧ t.flt.waiting = b.flt.waiting ∧ t.flt.bootHeld = b.flt.bootHeld)

/-- Mailboxes: MBX_POST by the sender of a channel appends a notice or is refused when four wait; MBX_POP by the receiver removes the head;
MBX_CROSSED_CLEAR by a party clears the bit, unless it was set in the same cycle; anyone else is denied. MBX_LOCK_READ: a free lock goes to the reader
of it; MBX_LOCK_RELEASE: its owner gives it back with owner 0, whatever the reserved bits; a reader that is no party reads 0.
Power domains behind the mailboxes: MBX_WAKE of a bank that is on keeps it on for 1 ms, of one that is off or going off starts the wake, and of one
on its way changes no time. MBX_WAKE_DONE ends the wake when its time has passed. DOMAIN_POWER_OFF turns an idle domain off and frees its locks;
the mover's needs empty queues and no row work, and it loses its logic state.
It rests on the model's choice in log entry 54. -/
def Obligations.mailboxes_and_power_domains : Prop :=
  (∀ (s : State) (who : BitVec 5) (c : BitVec 6) (v : Word),
    let b := s.base
    let w := who.toNat
    let k := c.toNat
    let x := b.mbx k
    let n : Notice := { ptr := x.ptr, len := v.extractLsb' 0 16, seq := v.extractLsb' 16 16 }
    let denied : State := { s with base := b.send .mbxDenied (0x588 + b.mbxBank k) (k + 256 * w) }
    b.reaches w = true →
    (b.mbxSender k = some w → (16 ≤ w ∨ b.coh.isolated.getLsbD w = false) → b.bankOn (b.mbxBank k) = true → w ≠ 22 →
      (4 ≤ x.fifo.length → exec (.mbxPost who c v) s = .next { s with base := b.mbxRefuse k w (b.mbxBank k) 1 }) ∧
      (x.fifo.length < 4 → b.ptrOk w n.ptr n.len.toNat = false → exec (.mbxPost who c v) s = .next { s with base := b.mbxRefuse k w (b.mbxBank k) 2 }) ∧
      (x.fifo.length < 4 → b.ptrOk w n.ptr n.len.toNat = true → exec (.mbxPost who c v) s = .next { s with base := b.mbxAccept k w (b.mbxBank k) n })) ∧
    (b.mbxSender k ≠ some w → exec (.mbxPost who c v) s = .next denied) ∧
    (b.mbxReceiver k = some w → b.bankOn (b.mbxBank k) = true → exec (.mbxPop who c) s = .next { s with base := b.setMbx k { x with fifo := x.fifo.drop 1 } }) ∧
    (b.mbxReceiver k ≠ some w → exec (.mbxPop who c) s = .next denied) ∧
    (b.mbxParty k w = true → b.bankOn (b.mbxBank k) = true →
      (x.crossedAt ≠ some b.now → exec (.mbxCrossedClear who c) s = .next { s with base := b.setMbx k { x with crossed := false } }) ∧
      (x.crossedAt = some b.now → exec (.mbxCrossedClear who c) s = .next { s with base := b.setMbx k { x with crossed := x.crossed } }) ∧
      (16 ≤ w → x.lock = 0 → exec (.mbxLockRead who c) s = .next { s with base := (b.setMbx k { x with lock := w + 1 }).emit (.mbxRead w 0) }) ∧
      (16 ≤ w → x.lock ≠ 0 → exec (.mbxLockRead who c) s = .next { s with base := b.emit (.mbxRead w (BitVec.ofNat 32 x.lock)) }) ∧
      (x.lock = w + 1 → fld v 4 0 = 0 → exec (.mbxLockRelease who c v) s = .next { s with base := b.setMbx k { x with lock := 0 } }) ∧
      (x.lock ≠ w + 1 ∨ fld v 4 0 ≠ 0 → exec (.mbxLockRelease who c v) s = .next s)) ∧
    (b.mbxParty k w = false → exec (.mbxCrossedClear who c) s = .next denied ∧ exec (.mbxLockRelease who c v) s = .next denied ∧
      exec (.mbxLockRead who c) s = .next { s with base := b.emit (.mbxRead w 0) })) ∧
  (∀ (s : State) (bank : BitVec 5),
    let b := s.base
    let k := bank.toNat
    let state := b.domainOf k
    let ready := fun b : Base => { b with mg := { b.mg with wakeDone := setBit b.mg.wakeDone k true, stayOn := Tab.set 0 b.mg.stayOn k (b.now + 1000000) } }
    let free := (b.bankChans k).foldl (fun b c => b.updMbx c fun m => { m with lock := 0 }) b
    (b.reaches 16 = true → k < 22 → k ≠ 16 →
      (state = .on → exec (.mbxWake 16 bank) s = .next { s with base := ready b }) ∧
      (state = .waking → exec (.mbxWake 16 bank) s = .next { s with base := { b with mg := { b.mg with wakeDone := setBit b.mg.wakeDone k false } } }) ∧
      (state = .off ∨ state = .goingOff →
        let c := b.setDomain k .waking
        let due := b.now + (if k = 21 then 2000 else 10000)
        exec (.mbxWake 16 bank) s =
          .next { s with base := { c with mg := { c.mg with wakeDone := setBit c.mg.wakeDone k false, wakeDue := Tab.set 0 c.mg.wakeDue k due } } })) ∧
    (b.alive = true → state = .waking →
      (Tab.get 0 b.mg.wakeDue k ≤ b.now → exec (.mbxWakeDone bank) s = .next { s with base := ready (b.setDomain k .on) }) ∧
      (b.now < Tab.get 0 b.mg.wakeDue k → exec (.mbxWakeDone bank) s = .next s)) ∧
    (state ≠ .waking → exec (.mbxWakeDone bank) s = .next s) ∧
    (b.fwRuns = true → state = .on → (∀ c ∈ b.bankChans k, (b.mbx c).fifo = []) → Tab.get 0 b.mg.stayOn k ≤ b.now →
      (18 ≤ k → k ≤ 20 →
        let off := free.setDomain k .off
        exec (.domainPowerOff bank) s = .next { s with base := { off with mg := { off.mg with wakeDone := setBit off.mg.wakeDone k false } } }) ∧
      (k = 21 → b.mov.slots = [] → (∀ q, q < 64 → (b.queue q).head = (b.queue q).tail) → b.noRowWork = true →
        let off : Base := { free with mov := { free.mov with
          rr := 0, domain := .off, buses := free.mov.buses.map fun e => (e.1, { e.2 with failures := 0 }) } }
        exec (.domainPowerOff bank) s = .next { s with base := { off with mg := { off.mg with wakeDone := setBit off.mg.wakeDone k false } } })) ∧
    (b.now < Tab.get 0 b.mg.stayOn k ∨ state ≠ .on ∨ (k = 21 ∧ b.noRowWork = false) → exec (.domainPowerOff bank) s = .next s))

/-! ### The dictionary and its versions -/

/-- OD_WRITE of an entry set in a version puts the value into PENDING and answers status 0, without one 9, and 10 while a commit or its undoing is
under way; an entry of the wrong length answers 6, one out of range 7. OD_READ answers with the value, and clears an entry that reading clears; an
identity without the right is refused with status 4 and reported. CALENDAR_SET by MGMT sets the calendar, and by any other is refused. A path that
does not carry the request answers nothing. LIFETIME_PERSIST saves the counters of life once in 360 s.
It rests on the model's choices in log entries 100, 102. -/
def Obligations.dictionary_requests : Prop :=
  ∀ (s : State) (p : OdPath) (index : BitVec 16) (sub : Byte) (data : List Byte) (x : OdIndex) (t : OdType) (v : Version) (sec : BitVec 64) (ns : Word),
    let b := s.base
    let who := odWho p
    let i := index.toNat
    let k := sub.toNat
    let row := b.cursor who i
    let n := s.fieldRepairs.length
    let field := fun a : OdAcc => odIndex n i = some x ∧ odEntry x i k = some (t, a) ∧ (x.rows = none ∨ k ≠ 0)
    let inRows := ∀ r, x.rows = some r → row < r
    (b.odUp p 2 i k data = true → field .rwv → b.odAllowed x who i k row true = true →
      (data.length ≠ t.bytes → exec (.odWrite p index sub data) s = .next { s with base := b.odAnswer p 6 0 [] }) ∧
      (data.length = t.bytes → odInRange i k row t (ofLe data) = false → exec (.odWrite p index sub data) s = .next { s with base := b.odAnswer p 7 0 [] }) ∧
      (data.length = t.bytes → odInRange i k row t (ofLe data) = true →
        (b.dict.pending = some v → b.dict.commitStep ≠ 3 → b.dict.commitStep ≠ 5 →
          let put := { b with dict := { b.dict with pending := some (v.odPut i k row (ofLe data)) } }
          exec (.odWrite p index sub data) s = .next { s with base := put.odAnswer p 0 t.code [] }) ∧
        (b.dict.pending = some v → b.dict.commitStep = 3 ∨ b.dict.commitStep = 5 →
          exec (.odWrite p index sub data) s = .next { s with base := b.odAnswer p 10 0 [] }) ∧
        (b.dict.pending = none → exec (.odWrite p index sub data) s = .next { s with base := b.odAnswer p 9 0 [] }))) ∧
    (b.odUp p 1 i k [] = true → b.odAllowed x who i k row false = true → inRows →
      (∀ a, a = .ro ∨ a = .rwv ∨ a = .rw ∨ a = .status → field a →
        exec (.odRead p 1 index sub) s = .next { s with base := b.odAnswer p 0 t.code (s.odRead who i k row t a) }) ∧
      (field .rc → exec (.odRead p 1 index sub) s = .next { s with base := (b.odCleared i k row).odAnswer p 0 t.code (s.odRead who i k row t .rc) })) ∧
    (∀ a, b.odUp p 1 i k [] = true → field a → b.odAllowed x who i k row false = false →
      exec (.odRead p 1 index sub) s = .next { s with base := (b.send .dictDenied 0x5BB (i + 65536 * k)).odAnswer p 4 0 [] }) ∧
    (b.odUp p 1 i k [] = false → exec (.odRead p 1 index sub) s = .next s) ∧
    (b.odUp p 2 i k data = false → exec (.odWrite p index sub data) s = .next s) ∧
    (let bytes := le 8 sec.toNat ++ le 4 ns.toNat
     b.odUp p 2 0x1110 4 bytes = true →
      (who = 16 → tb (accessRow b.dict.access 1).2 16 = true → ns.toNat < 1000000000 →
        let set := { b with dict := { b.dict with calSec := sec.toNat, calNs := ns.toNat, calAt := b.pl.epochs, calValid := true } }
        exec (.calendarSet p sec ns) s = .next { s with base := (set.send .calendarSet 0x5BB 0).odAnswer p 0 9 [] }) ∧
      (who ≠ 16 → exec (.calendarSet p sec ns) s = .next { s with base := (b.send .dictDenied 0x5BB (0x1110 + 65536 * 4)).odAnswer p 4 0 [] })) ∧
    (b.fwRuns = true → b.dict.lifeFrom + 360000000 ≤ b.pl.epochs →
      exec .lifetimePersist s = .next { s with base := { b with dict := { b.dict with lifeSaved := b.dict.life, lifeFrom := b.pl.epochs } } }) ∧
    (b.pl.epochs < b.dict.lifeFrom + 360000000 → exec .lifetimePersist s = .next s)

/-- VERSION_OPEN, VERSION_DISCARD, VERSION_COMMIT, VERSION_CONFIRM and VERSION_ROLLBACK of the management identity do what VersionCommand does, answer
status 11 where its state does not allow it, and 10 while a commit is under way: OPEN copies ACTIVE under the next number, DISCARD drops PENDING,
COMMIT stores a version that validates and refuses another, CONFIRM within the window ends the trial, ROLLBACK falls back to PREVIOUS. VERSION_STORED
promotes PENDING and begins to apply it, or refuses it when MRAM fails; CONFIRM_WINDOW_EXPIRE rolls back.
It rests on the model's choices in log entries 103, 104. -/
def Obligations.version_commands : Prop :=
  ∀ (s : State) (p : OdPath) (v : Version),
    let b := s.base
    let d := b.dict
    let carried := fun (c : Nat) (i : Instr) => b.odUp p 2 0xF001 1 (le 1 c) = true → odWho p = 16 → tb (accessRow d.access 15).2 16 = true →
      (d.commitStep = 3 ∨ d.commitStep = 5 → exec i s = .next { s with base := b.odAnswer p 10 0 [] }) ∧
      (d.commitStep = 0 → (∀ b', b.versionCommand c = some b' → exec i s = .next { s with base := b'.odAnswer p 0 2 [] }) ∧
        (b.versionCommand c = none → exec i s = .next { s with base := b.odAnswer p 11 0 [] }))
    let opened : Version := { b.activeVersion with number := d.highest + 1, role := 2, confirmed := true, activatedAt := 0 }
    let sure := d.versions.map fun (v : Version) => if v.number = d.active then { v with confirmed := true } else v
    let confirmed : Base := { b with dict := { d with onTrial := false, windowEnd := none, trialBoots := 0, versions := sure } }
    carried 1 (.versionOpen p) ∧ carried 2 (.versionDiscard p) ∧ carried 3 (.versionCommit p) ∧ carried 4 (.versionConfirm p) ∧ carried 5 (.versionRollback p) ∧
    (d.pending = none → d.onTrial = false →
      b.versionCommand 1 = some { b with dict := { d with pending := some opened, highest := d.highest + 1 } }) ∧
    (d.pending = some v ∨ d.onTrial = true → b.versionCommand 1 = none) ∧
    (d.pending = some v → b.versionCommand 2 = some { b with dict := { d with pending := none } }) ∧
    (d.pending = some v → b.validate v = 0 → b.versionCommand 3 = some { b with dict := { d with commitStep := 3 } }) ∧
    (d.pending = some v → b.validate v ≠ 0 → b.versionCommand 3 = some (b.refuseVersion v.number 2 (b.validate v))) ∧
    (d.pending = none → b.versionCommand 2 = none ∧ b.versionCommand 3 = none) ∧
    (∀ t, d.windowEnd = some t → d.onTrial = true → b.pl.epochs < t →
      b.versionCommand 4 = some (confirmed.countMram.send .versionConfirmed 0x5BB d.active)) ∧
    (d.onTrial = false → b.versionCommand 4 = none) ∧
    (d.previous ≠ 0 → d.commitStep = 0 → b.versionCommand 5 = some (b.rollBack 12)) ∧
    (d.previous = 0 → b.versionCommand 5 = none) ∧
    (b.fwRuns = true → d.commitStep = 3 → d.pending = some v →
      exec (.versionStored true) s = .next { s with base := ((b.countMram).promote v).applyVersion v 5 } ∧
      exec (.versionStored false) s = .next { s with base := b.refuseVersion v.number 3 9 }) ∧
    (d.commitStep ≠ 3 → exec (.versionStored true) s = .next s ∧ exec (.versionStored false) s = .next s) ∧
    (b.fwRuns = true → d.onTrial = true → d.commitStep = 0 → (∃ t, d.windowEnd = some t ∧ t ≤ b.pl.epochs) →
      exec .confirmWindowExpire s = .next { s with base := b.rollBack 11 }) ∧
    (d.onTrial = false → exec .confirmWindowExpire s = .next s)

/-! ### Rind -/

/-- The events of Rind. RIND_POWER_UP states a POWER_UP record at the time of the last checkpoint, counting a broken chain and lost records as causes.
RIND_MS_TICK adds a millisecond of capacity and time, and closes a TAMPER record that is owed and allowed. RIND_PERIOD_RECORD closes the record that is
due. RIND_CLOCK_FAULT and RIND_VOLTAGE_EXCURSION count a cause. RIND_TAP_FRAME adds a good frame's words and flags a bad one. RIND_CHECKPOINT saves
counters and time. RIND_SEAL_DELIVERY closes the GENESIS record with the first locked seal, and compares later ones. VDD_RIND_LOSS leaves the
last checkpoint.
The inspector's requests, answered once Rind is up: RIND_GET_INFO, RIND_GET_RECORD, RIND_CHALLENGE and RIND_CLOSE_INTERVAL, which closes one
record a minute at most and takes a PERIOD record that is due for its own. While Rind signs, each is answered BUSY. A record that closes takes the
next number and the hash of its predecessor, the oldest of 64 gives way, and the counters are saved with it.
It rests on the model's choices in log entries 17, 105, 106, 107. -/
def Obligations.rind_events_and_requests : Prop :=
  (∀ (s : State) (words : List (BitVec 64)) (a c d : Bool),
    let r := s.rind
    let here := s.base.updPack fun p => { p with rindPresent := true }
    let present : State := { s with base := here }
    let on : Rind := { r with power := true, up := true, unheard := r.genesis }
    let saved := { r with savedTenants := r.tenants, savedTime := r.time }
    let good := sealVerifies (otpRaw s.otp) 5 0x54C
    (r.power = true → exec (.rindPowerUp a c d) s = .next present) ∧
    (r.power = false → r.genesis = false → exec (.rindPowerUp a c d) s = .next { s with base := here, rind := { on with time := 0 } }) ∧
    (r.power = false → r.genesis = true →
      exec (.rindPowerUp false false false) s = .next (present.withRind (on.close 4 r.savedTime) false) ∧
      exec (.rindPowerUp false false true) s = .next (present.withRind ((on.countCause 2).1.close 4 (on.countCause 2).1.savedTime) (on.countCause 2).2) ∧
      exec (.rindPowerUp true false false) s = .next (present.withRind ((on.countCause 3).1.close 4 (on.countCause 3).1.savedTime) (on.countCause 3).2)) ∧
    (r.power = true → r.genesis = true →
      let ticked := { r.capacityTick with time := r.time + 1 }
      (r.tamperDue = false → exec .rindMsTick s = .next { s with rind := ticked }) ∧
      (ticked.tamperDue = true → ticked.tamperAllowed = true → ticked.periodDue = false →
        exec .rindMsTick s = .next (s.withRind (ticked.close 5 ticked.lastRecord) false)) ∧
      (ticked.tamperAllowed = false ∨ ticked.periodDue = true → exec .rindMsTick s = .next { s with rind := ticked })) ∧
    (r.power = false ∨ r.genesis = false → exec .rindMsTick s = .next s) ∧
    (r.power = true → r.periodDue = true → exec .rindPeriodRecord s = .next (s.withRind (r.close 2 r.lastRecord) false)) ∧
    (r.periodDue = false → exec .rindPeriodRecord s = .next s) ∧
    (r.power = true →
      exec .rindClockFault s = .next (s.withRind (r.tamperCause 1).1 (r.tamperCause 1).2) ∧
      exec .rindVoltageExcursion s = .next (s.withRind (r.tamperCause 0).1 (r.tamperCause 0).2) ∧
      exec .rindCheckpoint s = .next { s with rind := saved }) ∧
    (r.power = true → r.genesis = true → frameOk words = false → exec (.rindTapFrame words) s = .next { s with rind := { r with error := true } }) ∧
    (r.power = true → r.genesis = true → frameOk words = true → ∀ w rest, words = w :: rest →
      let ep := BitVec.ofNat 48 (w.toNat % 2 ^ 48)
      let counted := words.foldl Rind.tapWord r
      let broken := match r.lastEpoch with | some e => ep != e + 1 | none => false
      exec (.rindTapFrame words) s = .next { s with rind := { counted with lastEpoch := some ep, gap := counted.gap || broken } }) ∧
    (s.base.alive = true → s.base.boot.run = false → r.power = true → r.genesis = true →
      (good = true → sealWords (otpRaw s.otp) = r.sealCopy → exec .rindSealDelivery s = .next s) ∧
      (good = false ∨ sealWords (otpRaw s.otp) ≠ r.sealCopy →
        exec .rindSealDelivery s = .next (s.withRind (r.tamperCause 4).1 (r.tamperCause 4).2))) ∧
    (s.base.alive = true → s.base.boot.run = false → r.power = true → r.genesis = false →
      (good = true → regionLocked s.otp 5 = true →
        let key := ((sealWords (otpRaw s.otp)).drop 12).take 24
        let born : Rind := { r with
          genesis := true, sealCopy := sealWords (otpRaw s.otp), time := 0, periodFrom := 0, lastRecord := 0, savedTime := 0
          head := Config.sha384 (Config.serialNumber.map BitVec.toNat ++ key.map BitVec.toNat) }
        exec .rindSealDelivery s = .next (s.withRind (born.close 1 0) false)) ∧
      (good = false ∨ regionLocked s.otp 5 = false → exec .rindSealDelivery s = .next s)) ∧
    exec .vddRindLoss s = .next { s with
      base := s.base.updPack fun p => { p with rindPresent := false },
      rind := { r with power := false, up := false, tenants := r.savedTenants, time := r.savedTime, lastEpoch := none, hosts := [] } }) ∧
  (∀ (s : State) (seq : BitVec 64) (nonce : BitVec 256) (x : RindRecord) (kind start : Nat) (busy : Bool),
    let r := s.rind
    let answers := fun (status : Nat) (x : Reply) => ({ s with base := s.base.emit (.rind status x) } : State)
    let body := [nonce.toNat, r.nextSeq - 1, r.head.toNat, r.tamper, r.time]
    let spaced := ∀ t, r.onDemandAt = some t → t + 60000 ≤ r.time
    (r.up = true →
      ((r.records.find? fun x => x.seq == seq.toNat) = some x → exec (.rindGetRecord seq false) s = .next (answers 0 (.numbers x.all))) ∧
      ((∀ x ∈ r.records, x.seq ≠ seq.toNat) → exec (.rindGetRecord seq false) s = .next (answers 2 .rejected)) ∧
      exec (.rindChallenge nonce false) s = .next (answers 0 (.numbers (body ++ [(Config.sign rindKey (Config.sha384 body)).toNat]))) ∧
      (∃ l : List Nat, exec (.rindGetInfo false) s = .next (answers 0 (.numbers l)) ∧ l.getLast? = some r.time ∧ r.tamper ∈ l ∧ l.head? = some 1) ∧
      (r.genesis = false → exec (.rindCloseInterval false) s = .next (answers 3 .rejected)) ∧
      (∀ t, r.onDemandAt = some t → r.time < t + 60000 → exec (.rindCloseInterval false) s = .next (answers 3 .rejected)) ∧
      (r.genesis = true → spaced → r.periodDue = false →
        let closed := s.withRind { (r.close 3 r.lastRecord) with onDemandAt := some r.time } false
        exec (.rindCloseInterval false) s = .next { closed with base := closed.base.emit (.rind 0 (.number r.nextSeq)) }) ∧
      (r.genesis = true → spaced → r.periodDue = true →
        let closed := s.withRind (r.close 2 r.lastRecord) false
        exec (.rindCloseInterval false) s = .next { closed with base := closed.base.emit (.rind 0 (.number r.nextSeq)) }) ∧
      exec (.rindGetRecord seq true) s = .next (answers 1 .busy) ∧ exec (.rindChallenge nonce true) s = .next (answers 1 .busy) ∧
      exec (.rindGetInfo true) s = .next (answers 1 .busy) ∧ exec (.rindCloseInterval true) s = .next (answers 1 .busy)) ∧
    (r.up = false → exec (.rindGetRecord seq busy) s = .next s ∧ exec (.rindChallenge nonce busy) s = .next s ∧ exec (.rindGetInfo busy) s = .next s ∧
      exec (.rindCloseInterval busy) s = .next s) ∧
    (∃ y : RindRecord, (r.close kind start).records = (if 64 ≤ r.records.length then r.records.drop 1 else r.records) ++ [y] ∧
      y.seq = r.nextSeq ∧ y.prevHash = r.head ∧ y.timeEnd = r.time ∧ y.tenants = r.tenants ∧ y.signature = Config.sign rindKey (Config.sha384 y.body) ∧
      (r.close kind start).savedTenants = r.tenants ∧ (r.close kind start).savedTime = r.time ∧ (r.close kind start).head = Config.sha384 y.all ∧ (r.close kind start).nextSeq = r.nextSeq + 1 ∧ (r.close kind start).tenants = r.tenants))

/-! ### Rails and JTAG -/

/-- SERDES_RAIL_BROWNOUT stops the lanes and resets the endpoint, SERDES_RAIL_RESTORED locks the PLLs that have their reference again;
CORE_RAIL_BROWNOUT and VDD_AUX_BROWNOUT hold the part in cold reset with FAULT_N low, and the second removes the trip latch. JTAG_INSTRUCTION loads
an instruction and shifts out the identity code, or a free value for a scan; a closed IEEE 1687 or 1838 instruction selects BYPASS. TAP_RESET
loads IDCODE.
It rests on the model's choices in log entries 43, 88, 99, 111. -/
def Obligations.rails_and_jtag : Prop :=
  ∀ (s : State) (rail : CoreRail),
    let b := s.base
    let load := fun (t : JtagInstr) => b.updPack fun p => { p with tap := t }
    let off := { b with pack := { b.pack with serdesOff := true } }
    (b.pack.serdesOff = false → b.alive = true →
      let down := forN 16 (fun (k : Nat) (b : Base) => (b.linkDownTo k (b.restState k) false).updPort k fun p => { p with pll := false }) off
      let told := forN 8 (fun (p : Nat) (b : Base) => b.send .pllUnlock (0x50 + p) (p * 16 + 15)) down
      exec .serdesRailBrownout s = .next { s with base := told.mgmtReset }) ∧
    (b.pack.serdesOff = true → exec .serdesRailBrownout s = .next s) ∧
    (b.pack.serdesOff = true →
      ∃ t : Base, exec .serdesRailRestored s = .next { s with base := t } ∧ t = { b with links := t.links, pack := { b.pack with serdesOff := false } } ∧
        ∀ k, k < 16 → t.port k = { b.port k with pll := (b.port k).refclk }) ∧
    (b.pack.serdesOff = false → exec .serdesRailRestored s = .next s) ∧
    (∃ t : State, exec (.coreRailBrownout rail) s = .next t ∧ t.base.alive = false ∧ t.base.flt.faultNLow = true ∧ t.mem = [] ∧ t.rind = s.rind ∧ t.pending = s.pending ∧
      t.base.boot.coldHeld = true) ∧
    (∃ t : State, exec .vddAuxBrownout s = .next t ∧ t.base.pw.tripped = false ∧ t.base.boot.coldHeld = true ∧ t.base.flt.faultNLow = true ∧ t.mem = [] ∧
      t.rind = s.rind ∧ t.base.boot.tripOwed = (b.pw.tripped || b.boot.tripOwed)) ∧
    exec (.jtagInstruction .idcode) s = .next { s with base := (load .idcode).emit (.jtag (.word 0x10128C9D)) } ∧
    exec (.jtagInstruction .bypass) s = .next { s with base := (load .bypass).emit (.jtag .success) } ∧
    exec (.jtagInstruction .preload) s = .next { s with base := (load .preload).emit (.jtag .success) } ∧
    (∀ op : JtagInstr, (op = .sample ∨ op = .extest ∨ (b.instrOpen = true ∧ (op = .ieee1838 ∨ op = .ieee1687))) → ∃ n : Nat, exec (.jtagInstruction op) s =
      .next { s with base := { (load op).emit (.jtag (.number (Config.freeNat n))) with free := b.free + 1 } } ∧ n = b.free) ∧
    (b.instrOpen = false → exec (.jtagInstruction .ieee1687) s = .next { s with base := (load .bypass).emit (.jtag .success) } ∧
      exec (.jtagInstruction .ieee1838) s = .next { s with base := (load .bypass).emit (.jtag .success) }) ∧
    exec .tapReset s = .next { s with base := load .idcode }

/-! ### The whole machine: what holds in every run -/

/-- Bytes stored in the arrays read back, and every byte outside the stored ones reads as before.
It rests on the model's choice in log entry 9. -/
def Obligations.array_bytes_read_back : Prop :=
  ∀ (m : List Host.Cell) (a v n : Nat),
    (∀ x, (x < a ∨ a + n ≤ x) → Memory.byte (Memory.store m a v n) x = Memory.byte m x) ∧
    (∀ i, i < n → Memory.wf m = true → Memory.byte (Memory.store m a v n) (a + i) = BitVec.ofNat 8 (v / 2 ^ (8 * i))) ∧
    (Memory.wf m = true → v < 2 ^ (8 * n) → Memory.load (Memory.store m a v n) a n = v) ∧
    (∀ c k, Memory.wf m = true → (c + k ≤ a ∨ a + n ≤ c) → Memory.load (Memory.store m a v n) c k = Memory.load m c k)

/-- The address map of R131 and its reverse, for the three set widths: how the fields of a line's DPA and the hash give its channel, bank,
row and column, and how a place gives back its DPA. Both ways are bijections between the lines of the DPA space and the places. The hashed
bank's low three bits are the bank group an activation charges; a channel's die and its quadrant are ch / 4 and ch mod 4. -/
def Obligations.address_map_is_a_bijection : Prop :=
  (∀ n, n = 4 ∨ n = 5 ∨ n = 6 →
    (∀ dpa, dpa < 2 ^ 37 →
      let r := (dpa >>> (15 + n)) &&& 0xFFFF
      placeOf n dpa =
        { ch := ((dpa >>> (31 + n)) <<< n) ||| ((dpa >>> 8) &&& (2 ^ n - 1))
          bank := ((dpa >>> (10 + n)) &&& 0x1F) ^^^ (r &&& 0x1F) ^^^ ((r >>> 5) &&& 0x1F) ^^^ ((r >>> 10) &&& 0x1F)
          row := r ^^^ (r >>> 8)
          col := ((dpa >>> 6) &&& 3) ||| (((dpa >>> (8 + n)) &&& 3) <<< 2) } ∧
      (placeOf n dpa).ch < 64 ∧ (placeOf n dpa).bank < 32 ∧ (placeOf n dpa).row < 65536 ∧ (placeOf n dpa).col < 16 ∧
      (dpa % 64 = 0 → dpaOf n (placeOf n dpa) = dpa)) ∧
    (∀ p : Place, p.ch < 64 → p.bank < 32 → p.row < 65536 → p.col < 16 →
      let r := p.row ^^^ (p.row >>> 8)
      dpaOf n p = ((p.ch >>> n) <<< (31 + n)) ||| (r <<< (15 + n)) |||
        ((p.bank ^^^ (r &&& 0x1F) ^^^ ((r >>> 5) &&& 0x1F) ^^^ ((r >>> 10) &&& 0x1F)) <<< (10 + n)) |||
        ((p.col >>> 2) <<< (8 + n)) ||| ((p.ch &&& (2 ^ n - 1)) <<< 8) ||| ((p.col &&& 3) <<< 6) ∧
      dpaOf n p < 2 ^ 37 ∧ placeOf n (dpaOf n p) = p)) ∧
  (∀ t bank read merge, bank < 32 → ∀ x ∈ slotsOf t bank read merge, x.group = bank &&& 7) ∧
  (∀ ch, dieOf ch = ch >>> 2 ∧ quadOf ch = ch &&& 3)

/-- The line code is linear and systematic: data and metadata stand in the codeword as they are, and the codeword of a sum is the sum of the
codewords. The all-zero line is 640 zero bits. A zero row of a fill leaves that codeword in each of the sixteen lines of its row. -/
def Obligations.zero_line_is_the_zero_codeword : Prop :=
  (∀ (d : Data) (m : Meta), wordData (encodeLine d m) = d ∧ ((encodeLine d m).extractLsb' 512 32).toNat = m.bits) ∧
  (∀ (d e : Data) (m k : Meta),
    encodeLine (d ^^^ e) { sharers := m.sharers ^^^ k.sharers, st := m.st ^^^ k.st, poison := m.poison ^^ k.poison, healed := m.healed ^^ k.healed }
      = encodeLine d m ^^^ encodeLine e k) ∧
  encodeLine 0 { sharers := 0, st := 0, poison := false, healed := false } = 0 ∧
  ∀ (s : State) (bus i : Nat) (f : Fill) (p : Place) (e : RowEntry), Memory.wf s.mem = true → s.base.ignores p.ch = false →
    e.bank = p.bank → e.row = p.row → ∀ col, col < 16 → (s.fillCycle bus true f i p e).lineWord { ch := p.ch, bank := p.bank, row := p.row, col := col } = 0

/-- What is stored twice or thrice reads as written: a fuse word by the majority of its copies, also with one copy lost; a record of MRAM
by its commit word, the new content after an update and the old one after an update cut short in step 1.
It rests on the model's choice in log entry 95. -/
def Obligations.redundant_storage_reads_as_written : Prop :=
  ∀ (v x : Word) (r : MramRec Nat) (new : Nat) (cut : Option Nat),
    majority (v ++ v ++ v) = v ∧ majority (x ++ v ++ v) = v ∧ majority (v ++ x ++ v) = v ∧ majority (v ++ v ++ x) = v ∧
    (r.update new).read = some (new, false) ∧ (∀ old, r.read = some (old, false) → (r.step1 cut).read = some (old, false)) ∧
    ((r.step1 (some new)).step2).read = some (new, false) ∧ (((r.step1 (some new)).step2).step3 new).read = some (new, false)

/-- A part that is held in cold reset or has tripped takes no command but those that act without the core: everything else leaves it as it is.
It rests on the model's choice in log entry 108. -/
def Obligations.a_held_part_accepts_nothing : Prop :=
  ∀ (c : Instr) (s : State), s.base.alive = false →
    (actsWithoutCore c = false → exec c s = .next s) ∧
    (s.base.pw.tripped = true → ∀ straps e g m, exec (.internalColdResetRelease straps e g m) s = .next s)

/-- Only the commands of Rind change Rind, and what they make of it depends on it alone, but for the seal delivered to it. Only the commands that
write or lose the arrays change them. -/
def Obligations.rind_and_the_arrays_are_kept_apart : Prop :=
  ∀ (c : Instr) (s s' t t' : State), exec c s = .next t → exec c s' = .next t' →
    (rindCommand c = false → t.rind = s.rind) ∧
    (rindCommand c = true → c ≠ .rindSealDelivery → s.rind = s'.rind → t.rind = t'.rind) ∧
    (rindCommand c = true → t.mem = s.mem ∧ t.otp = s.otp) ∧
    (arrayCommand c = false → t.mem = s.mem)

/-- Every step keeps the canonical form of the arrays. -/
def Obligations.every_step_keeps_the_arrays_canonical : Prop :=
  ∀ s t : State, Memory.wf s.mem = true → step s = .next t → Memory.wf t.mem = true

/-- No step takes a programmed fuse back: every bit of every word that is set stays set, so no step takes the lifecycle back. -/
def Obligations.fuses_are_never_cleared : Prop :=
  ∀ s t : State, step s = .next t →
    (∀ w, Tab.get 0 s.otp w &&& ~~~(Tab.get 0 t.otp w) = 0) ∧ lifecycleOf (otpRaw s.otp 0x40) ≤ lifecycleOf (otpRaw t.otp 0x40)

/-- Every step keeps the ledger of Rind whole. -/
def Obligations.every_step_keeps_the_ledger : Prop :=
  ∀ s t : State, Ledger s.rind → step s = .next t → Ledger t.rind

end Obligations
end

