-- ==== Sys2Proof/Laws/Maps.lean ====
section
/-! SUPPORT. Laws/Maps.lean: what reading, writing and erasing a sparse table do to one another. They hold of every list of pairs. -/

namespace Sys2Proof.Machine

variable {α : Type}

@[simp] theorem Tab.get_nil (d : α) (k : Nat) : Tab.get d [] k = d := rfl

theorem Tab.get_insert_same (d : α) (t : Tab α) (k : Nat) (v : α) : Tab.get d (Tab.insert k v t) k = v := by
  induction t with
  | nil => simp [Tab.insert, Tab.get]
  | cons e t ih =>
    obtain ⟨j, w⟩ := e
    simp only [Tab.insert]
    split
    · simp [Tab.get]
    · split
      · simp [Tab.get]
      · next h => simp [Tab.get, h, ih]

theorem Tab.get_insert_other (d : α) (t : Tab α) {k o : Nat} (v : α) (h : o ≠ k) :
    Tab.get d (Tab.insert k v t) o = Tab.get d t o := by
  induction t with
  | nil => simp [Tab.insert, Tab.get, Ne.symm h]
  | cons e t ih =>
    obtain ⟨j, w⟩ := e
    simp only [Tab.insert]
    split
    · simp [Tab.get, Ne.symm h]
    · split
      · next hj => subst hj; simp [Tab.get, Ne.symm h]
      · simp [Tab.get, ih]

theorem Tab.get_erase_same (d : α) (t : Tab α) (k : Nat) : Tab.get d (Tab.erase k t) k = d := by
  induction t with
  | nil => rfl
  | cons e t ih =>
    obtain ⟨j, w⟩ := e
    by_cases h : j = k
    · subst h; simpa [Tab.erase] using ih
    · simp only [Tab.erase, List.filter_cons, bne_iff_ne, ne_eq, h, not_false_eq_true, if_true, Tab.get, if_false]
      exact ih

theorem Tab.get_erase_other (d : α) (t : Tab α) {k o : Nat} (h : o ≠ k) : Tab.get d (Tab.erase k t) o = Tab.get d t o := by
  induction t with
  | nil => rfl
  | cons e t ih =>
    obtain ⟨j, w⟩ := e
    by_cases hj : j = k
    · subst hj
      simp only [Tab.erase, List.filter_cons, bne_self_eq_false, Bool.false_eq_true, if_false, Tab.get, Ne.symm h]
      exact ih
    · simp only [Tab.erase, List.filter_cons, bne_iff_ne, ne_eq, hj, not_false_eq_true, if_true, Tab.get]
      split
      · rfl
      · exact ih

/-- Reading what was just written. -/
@[simp] theorem Tab.get_set_same [DecidableEq α] (d : α) (t : Tab α) (k : Nat) (v : α) : Tab.get d (Tab.set d t k v) k = v := by
  unfold Tab.set
  split
  · next h => rw [h, Tab.get_erase_same]
  · exact Tab.get_insert_same d t k v

/-- A write leaves every other key as it was. -/
theorem Tab.get_set_other [DecidableEq α] (d : α) (t : Tab α) {k o : Nat} (v : α) (h : o ≠ k) :
    Tab.get d (Tab.set d t k v) o = Tab.get d t o := by
  unfold Tab.set
  split
  · exact Tab.get_erase_other d t h
  · exact Tab.get_insert_other d t v h

/-- Reading any key after a write. -/
theorem Tab.get_set [DecidableEq α] (d : α) (t : Tab α) (k o : Nat) (v : α) :
    Tab.get d (Tab.set d t k v) o = if o = k then v else Tab.get d t o := by
  split
  · next h => subst h; simp
  · next h => exact Tab.get_set_other d t v h

/-- Two writes of one key leave what the second wrote, the first value not being the default. -/
theorem Tab.set_set [DecidableEq α] (d : α) (t : Tab α) (k : Nat) {v : α} (w : α) (h : v ≠ d) :
    Tab.set d (Tab.set d t k v) k w = Tab.set d t k w := by
  have h1 : ∀ t : Tab α, Tab.erase k (Tab.insert k v t) = Tab.erase k t := by
    intro t
    induction t with
    | nil => simp [Tab.insert, Tab.erase]
    | cons e t ih =>
      obtain ⟨j, x⟩ := e
      simp only [Tab.insert]
      split
      · simp [Tab.erase]
      · split
        · next hj => subst hj; simp [Tab.erase]
        · simp only [Tab.erase, List.filter_cons] at ih ⊢; rw [ih]
  have h2 : ∀ t : Tab α, Tab.insert k w (Tab.insert k v t) = Tab.insert k w t := by
    intro t
    induction t with
    | nil => simp [Tab.insert]
    | cons e t ih =>
      obtain ⟨j, x⟩ := e
      simp only [Tab.insert]
      split
      · simp [Tab.insert]
      · split
        · simp [Tab.insert]
        · next hk hj => simp only [Tab.insert, hk, hj, if_false, ih]
  simp only [Tab.set, h, if_false]
  split
  · exact h1 t
  · exact h2 t

@[simp] theorem Tab.get_upd_same [DecidableEq α] (d : α) (t : Tab α) (k : Nat) (f : α → α) :
    Tab.get d (Tab.upd d t k f) k = f (Tab.get d t k) := by simp [Tab.upd]

theorem Tab.get_upd_other [DecidableEq α] (d : α) (t : Tab α) {k o : Nat} (f : α → α) (h : o ≠ k) :
    Tab.get d (Tab.upd d t k f) o = Tab.get d t o := Tab.get_set_other d t _ h

end Sys2Proof.Machine
end

