-- ==== Sys2Proof/Laws/State.lean ====
section
/-! SUPPORT. Laws/State.lean: the fields of the state after each update, one lemma per field per update. -/

namespace Sys2Proof.Machine

variable (b : Base)

/-! setReg -/
@[simp] theorem Base.setReg_pl (o : Nat) (v : Word) : (b.setReg o v).pl = b.pl := rfl
@[simp] theorem Base.setReg_regs (o : Nat) (v : Word) : (b.setReg o v).regs = Tab.set 0 b.regs o v := rfl
@[simp] theorem Base.setReg_shadow (o : Nat) (v : Word) : (b.setReg o v).shadow = b.shadow := rfl
@[simp] theorem Base.setReg_incs (o : Nat) (v : Word) : (b.setReg o v).incs = b.incs := rfl
@[simp] theorem Base.setReg_incAt (o : Nat) (v : Word) : (b.setReg o v).incAt = b.incAt := rfl
@[simp] theorem Base.setReg_flt (o : Nat) (v : Word) : (b.setReg o v).flt = b.flt := rfl
@[simp] theorem Base.setReg_mg (o : Nat) (v : Word) : (b.setReg o v).mg = b.mg := rfl
@[simp] theorem Base.setReg_links (o : Nat) (v : Word) : (b.setReg o v).links = b.links := rfl
@[simp] theorem Base.setReg_hosts (o : Nat) (v : Word) : (b.setReg o v).hosts = b.hosts := rfl
@[simp] theorem Base.setReg_lay (o : Nat) (v : Word) : (b.setReg o v).lay = b.lay := rfl
@[simp] theorem Base.setReg_dram (o : Nat) (v : Word) : (b.setReg o v).dram = b.dram := rfl
@[simp] theorem Base.setReg_coh (o : Nat) (v : Word) : (b.setReg o v).coh = b.coh := rfl
@[simp] theorem Base.setReg_mov (o : Nat) (v : Word) : (b.setReg o v).mov = b.mov := rfl
@[simp] theorem Base.setReg_qos (o : Nat) (v : Word) : (b.setReg o v).qos = b.qos := rfl
@[simp] theorem Base.setReg_si (o : Nat) (v : Word) : (b.setReg o v).si = b.si := rfl
@[simp] theorem Base.setReg_pw (o : Nat) (v : Word) : (b.setReg o v).pw = b.pw := rfl
@[simp] theorem Base.setReg_boot (o : Nat) (v : Word) : (b.setReg o v).boot = b.boot := rfl
@[simp] theorem Base.setReg_dict (o : Nat) (v : Word) : (b.setReg o v).dict = b.dict := rfl
@[simp] theorem Base.setReg_pack (o : Nat) (v : Word) : (b.setReg o v).pack = b.pack := rfl
@[simp] theorem Base.setReg_out (o : Nat) (v : Word) : (b.setReg o v).out = b.out := rfl
@[simp] theorem Base.setReg_free (o : Nat) (v : Word) : (b.setReg o v).free = b.free := rfl

/-! setShadow -/
@[simp] theorem Base.setShadow_pl (o : Nat) (v : Word) : (b.setShadow o v).pl = b.pl := rfl
@[simp] theorem Base.setShadow_regs (o : Nat) (v : Word) : (b.setShadow o v).regs = b.regs := rfl
@[simp] theorem Base.setShadow_shadow (o : Nat) (v : Word) : (b.setShadow o v).shadow = Tab.set 0 b.shadow o v := rfl
@[simp] theorem Base.setShadow_incs (o : Nat) (v : Word) : (b.setShadow o v).incs = b.incs := rfl
@[simp] theorem Base.setShadow_incAt (o : Nat) (v : Word) : (b.setShadow o v).incAt = b.incAt := rfl
@[simp] theorem Base.setShadow_flt (o : Nat) (v : Word) : (b.setShadow o v).flt = b.flt := rfl
@[simp] theorem Base.setShadow_mg (o : Nat) (v : Word) : (b.setShadow o v).mg = b.mg := rfl
@[simp] theorem Base.setShadow_links (o : Nat) (v : Word) : (b.setShadow o v).links = b.links := rfl
@[simp] theorem Base.setShadow_hosts (o : Nat) (v : Word) : (b.setShadow o v).hosts = b.hosts := rfl
@[simp] theorem Base.setShadow_lay (o : Nat) (v : Word) : (b.setShadow o v).lay = b.lay := rfl
@[simp] theorem Base.setShadow_dram (o : Nat) (v : Word) : (b.setShadow o v).dram = b.dram := rfl
@[simp] theorem Base.setShadow_coh (o : Nat) (v : Word) : (b.setShadow o v).coh = b.coh := rfl
@[simp] theorem Base.setShadow_mov (o : Nat) (v : Word) : (b.setShadow o v).mov = b.mov := rfl
@[simp] theorem Base.setShadow_qos (o : Nat) (v : Word) : (b.setShadow o v).qos = b.qos := rfl
@[simp] theorem Base.setShadow_si (o : Nat) (v : Word) : (b.setShadow o v).si = b.si := rfl
@[simp] theorem Base.setShadow_pw (o : Nat) (v : Word) : (b.setShadow o v).pw = b.pw := rfl
@[simp] theorem Base.setShadow_boot (o : Nat) (v : Word) : (b.setShadow o v).boot = b.boot := rfl
@[simp] theorem Base.setShadow_dict (o : Nat) (v : Word) : (b.setShadow o v).dict = b.dict := rfl
@[simp] theorem Base.setShadow_pack (o : Nat) (v : Word) : (b.setShadow o v).pack = b.pack := rfl
@[simp] theorem Base.setShadow_out (o : Nat) (v : Word) : (b.setShadow o v).out = b.out := rfl
@[simp] theorem Base.setShadow_free (o : Nat) (v : Word) : (b.setShadow o v).free = b.free := rfl

/-! bump -/
@[simp] theorem Base.bump_pl (o n : Nat) : (b.bump o n).pl = b.pl := rfl
@[simp] theorem Base.bump_regs (o n : Nat) : (b.bump o n).regs = Tab.set 0 b.regs o (bumpWord (b.reg o) n) := rfl
@[simp] theorem Base.bump_shadow (o n : Nat) : (b.bump o n).shadow = b.shadow := rfl
@[simp] theorem Base.bump_incs (o n : Nat) : (b.bump o n).incs = Tab.upd 0 b.incsNow o (· + n) := rfl
@[simp] theorem Base.bump_incAt (o n : Nat) : (b.bump o n).incAt = b.now := rfl
@[simp] theorem Base.bump_flt (o n : Nat) : (b.bump o n).flt = b.flt := rfl
@[simp] theorem Base.bump_mg (o n : Nat) : (b.bump o n).mg = b.mg := rfl
@[simp] theorem Base.bump_links (o n : Nat) : (b.bump o n).links = b.links := rfl
@[simp] theorem Base.bump_hosts (o n : Nat) : (b.bump o n).hosts = b.hosts := rfl
@[simp] theorem Base.bump_lay (o n : Nat) : (b.bump o n).lay = b.lay := rfl
@[simp] theorem Base.bump_dram (o n : Nat) : (b.bump o n).dram = b.dram := rfl
@[simp] theorem Base.bump_coh (o n : Nat) : (b.bump o n).coh = b.coh := rfl
@[simp] theorem Base.bump_mov (o n : Nat) : (b.bump o n).mov = b.mov := rfl
@[simp] theorem Base.bump_qos (o n : Nat) : (b.bump o n).qos = b.qos := rfl
@[simp] theorem Base.bump_si (o n : Nat) : (b.bump o n).si = b.si := rfl
@[simp] theorem Base.bump_pw (o n : Nat) : (b.bump o n).pw = b.pw := rfl
@[simp] theorem Base.bump_boot (o n : Nat) : (b.bump o n).boot = b.boot := rfl
@[simp] theorem Base.bump_dict (o n : Nat) : (b.bump o n).dict = b.dict := rfl
@[simp] theorem Base.bump_pack (o n : Nat) : (b.bump o n).pack = b.pack := rfl
@[simp] theorem Base.bump_out (o n : Nat) : (b.bump o n).out = b.out := rfl
@[simp] theorem Base.bump_free (o n : Nat) : (b.bump o n).free = b.free := rfl

/-! clearCounter -/
@[simp] theorem Base.clearCounter_pl (o : Nat) : (b.clearCounter o).pl = b.pl := rfl
@[simp] theorem Base.clearCounter_regs (o : Nat) : (b.clearCounter o).regs = Tab.set 0 b.regs o (bumpWord 0 (Tab.get 0 b.incsNow o)) := rfl
@[simp] theorem Base.clearCounter_shadow (o : Nat) : (b.clearCounter o).shadow = b.shadow := rfl
@[simp] theorem Base.clearCounter_incs (o : Nat) : (b.clearCounter o).incs = b.incs := rfl
@[simp] theorem Base.clearCounter_incAt (o : Nat) : (b.clearCounter o).incAt = b.incAt := rfl
@[simp] theorem Base.clearCounter_flt (o : Nat) : (b.clearCounter o).flt = b.flt := rfl
@[simp] theorem Base.clearCounter_mg (o : Nat) : (b.clearCounter o).mg = b.mg := rfl
@[simp] theorem Base.clearCounter_links (o : Nat) : (b.clearCounter o).links = b.links := rfl
@[simp] theorem Base.clearCounter_hosts (o : Nat) : (b.clearCounter o).hosts = b.hosts := rfl
@[simp] theorem Base.clearCounter_lay (o : Nat) : (b.clearCounter o).lay = b.lay := rfl
@[simp] theorem Base.clearCounter_dram (o : Nat) : (b.clearCounter o).dram = b.dram := rfl
@[simp] theorem Base.clearCounter_coh (o : Nat) : (b.clearCounter o).coh = b.coh := rfl
@[simp] theorem Base.clearCounter_mov (o : Nat) : (b.clearCounter o).mov = b.mov := rfl
@[simp] theorem Base.clearCounter_qos (o : Nat) : (b.clearCounter o).qos = b.qos := rfl
@[simp] theorem Base.clearCounter_si (o : Nat) : (b.clearCounter o).si = b.si := rfl
@[simp] theorem Base.clearCounter_pw (o : Nat) : (b.clearCounter o).pw = b.pw := rfl
@[simp] theorem Base.clearCounter_boot (o : Nat) : (b.clearCounter o).boot = b.boot := rfl
@[simp] theorem Base.clearCounter_dict (o : Nat) : (b.clearCounter o).dict = b.dict := rfl
@[simp] theorem Base.clearCounter_pack (o : Nat) : (b.clearCounter o).pack = b.pack := rfl
@[simp] theorem Base.clearCounter_out (o : Nat) : (b.clearCounter o).out = b.out := rfl
@[simp] theorem Base.clearCounter_free (o : Nat) : (b.clearCounter o).free = b.free := rfl

/-! setPort -/
@[simp] theorem Base.setPort_pl (i : Nat) (x : Port) : (b.setPort i x).pl = b.pl := rfl
@[simp] theorem Base.setPort_regs (i : Nat) (x : Port) : (b.setPort i x).regs = b.regs := rfl
@[simp] theorem Base.setPort_shadow (i : Nat) (x : Port) : (b.setPort i x).shadow = b.shadow := rfl
@[simp] theorem Base.setPort_incs (i : Nat) (x : Port) : (b.setPort i x).incs = b.incs := rfl
@[simp] theorem Base.setPort_incAt (i : Nat) (x : Port) : (b.setPort i x).incAt = b.incAt := rfl
@[simp] theorem Base.setPort_flt (i : Nat) (x : Port) : (b.setPort i x).flt = b.flt := rfl
@[simp] theorem Base.setPort_mg (i : Nat) (x : Port) : (b.setPort i x).mg = b.mg := rfl
@[simp] theorem Base.setPort_links (i : Nat) (x : Port) : (b.setPort i x).links = { b.links with ports := Tab.set {} b.links.ports i x } := rfl
@[simp] theorem Base.setPort_hosts (i : Nat) (x : Port) : (b.setPort i x).hosts = b.hosts := rfl
@[simp] theorem Base.setPort_lay (i : Nat) (x : Port) : (b.setPort i x).lay = b.lay := rfl
@[simp] theorem Base.setPort_dram (i : Nat) (x : Port) : (b.setPort i x).dram = b.dram := rfl
@[simp] theorem Base.setPort_coh (i : Nat) (x : Port) : (b.setPort i x).coh = b.coh := rfl
@[simp] theorem Base.setPort_mov (i : Nat) (x : Port) : (b.setPort i x).mov = b.mov := rfl
@[simp] theorem Base.setPort_qos (i : Nat) (x : Port) : (b.setPort i x).qos = b.qos := rfl
@[simp] theorem Base.setPort_si (i : Nat) (x : Port) : (b.setPort i x).si = b.si := rfl
@[simp] theorem Base.setPort_pw (i : Nat) (x : Port) : (b.setPort i x).pw = b.pw := rfl
@[simp] theorem Base.setPort_boot (i : Nat) (x : Port) : (b.setPort i x).boot = b.boot := rfl
@[simp] theorem Base.setPort_dict (i : Nat) (x : Port) : (b.setPort i x).dict = b.dict := rfl
@[simp] theorem Base.setPort_pack (i : Nat) (x : Port) : (b.setPort i x).pack = b.pack := rfl
@[simp] theorem Base.setPort_out (i : Nat) (x : Port) : (b.setPort i x).out = b.out := rfl
@[simp] theorem Base.setPort_free (i : Nat) (x : Port) : (b.setPort i x).free = b.free := rfl

/-! updPort -/
@[simp] theorem Base.updPort_pl (i : Nat) (f : Port → Port) : (b.updPort i f).pl = b.pl := rfl
@[simp] theorem Base.updPort_regs (i : Nat) (f : Port → Port) : (b.updPort i f).regs = b.regs := rfl
@[simp] theorem Base.updPort_shadow (i : Nat) (f : Port → Port) : (b.updPort i f).shadow = b.shadow := rfl
@[simp] theorem Base.updPort_incs (i : Nat) (f : Port → Port) : (b.updPort i f).incs = b.incs := rfl
@[simp] theorem Base.updPort_incAt (i : Nat) (f : Port → Port) : (b.updPort i f).incAt = b.incAt := rfl
@[simp] theorem Base.updPort_flt (i : Nat) (f : Port → Port) : (b.updPort i f).flt = b.flt := rfl
@[simp] theorem Base.updPort_mg (i : Nat) (f : Port → Port) : (b.updPort i f).mg = b.mg := rfl
@[simp] theorem Base.updPort_links (i : Nat) (f : Port → Port) : (b.updPort i f).links = { b.links with ports := Tab.set {} b.links.ports i (f (b.port i)) } := rfl
@[simp] theorem Base.updPort_hosts (i : Nat) (f : Port → Port) : (b.updPort i f).hosts = b.hosts := rfl
@[simp] theorem Base.updPort_lay (i : Nat) (f : Port → Port) : (b.updPort i f).lay = b.lay := rfl
@[simp] theorem Base.updPort_dram (i : Nat) (f : Port → Port) : (b.updPort i f).dram = b.dram := rfl
@[simp] theorem Base.updPort_coh (i : Nat) (f : Port → Port) : (b.updPort i f).coh = b.coh := rfl
@[simp] theorem Base.updPort_mov (i : Nat) (f : Port → Port) : (b.updPort i f).mov = b.mov := rfl
@[simp] theorem Base.updPort_qos (i : Nat) (f : Port → Port) : (b.updPort i f).qos = b.qos := rfl
@[simp] theorem Base.updPort_si (i : Nat) (f : Port → Port) : (b.updPort i f).si = b.si := rfl
@[simp] theorem Base.updPort_pw (i : Nat) (f : Port → Port) : (b.updPort i f).pw = b.pw := rfl
@[simp] theorem Base.updPort_boot (i : Nat) (f : Port → Port) : (b.updPort i f).boot = b.boot := rfl
@[simp] theorem Base.updPort_dict (i : Nat) (f : Port → Port) : (b.updPort i f).dict = b.dict := rfl
@[simp] theorem Base.updPort_pack (i : Nat) (f : Port → Port) : (b.updPort i f).pack = b.pack := rfl
@[simp] theorem Base.updPort_out (i : Nat) (f : Port → Port) : (b.updPort i f).out = b.out := rfl
@[simp] theorem Base.updPort_free (i : Nat) (f : Port → Port) : (b.updPort i f).free = b.free := rfl

/-! setLane -/
@[simp] theorem Base.setLane_pl (i : Nat) (x : Lane) : (b.setLane i x).pl = b.pl := rfl
@[simp] theorem Base.setLane_regs (i : Nat) (x : Lane) : (b.setLane i x).regs = b.regs := rfl
@[simp] theorem Base.setLane_shadow (i : Nat) (x : Lane) : (b.setLane i x).shadow = b.shadow := rfl
@[simp] theorem Base.setLane_incs (i : Nat) (x : Lane) : (b.setLane i x).incs = b.incs := rfl
@[simp] theorem Base.setLane_incAt (i : Nat) (x : Lane) : (b.setLane i x).incAt = b.incAt := rfl
@[simp] theorem Base.setLane_flt (i : Nat) (x : Lane) : (b.setLane i x).flt = b.flt := rfl
@[simp] theorem Base.setLane_mg (i : Nat) (x : Lane) : (b.setLane i x).mg = b.mg := rfl
@[simp] theorem Base.setLane_links (i : Nat) (x : Lane) : (b.setLane i x).links = { b.links with lanes := Tab.set {} b.links.lanes i x } := rfl
@[simp] theorem Base.setLane_hosts (i : Nat) (x : Lane) : (b.setLane i x).hosts = b.hosts := rfl
@[simp] theorem Base.setLane_lay (i : Nat) (x : Lane) : (b.setLane i x).lay = b.lay := rfl
@[simp] theorem Base.setLane_dram (i : Nat) (x : Lane) : (b.setLane i x).dram = b.dram := rfl
@[simp] theorem Base.setLane_coh (i : Nat) (x : Lane) : (b.setLane i x).coh = b.coh := rfl
@[simp] theorem Base.setLane_mov (i : Nat) (x : Lane) : (b.setLane i x).mov = b.mov := rfl
@[simp] theorem Base.setLane_qos (i : Nat) (x : Lane) : (b.setLane i x).qos = b.qos := rfl
@[simp] theorem Base.setLane_si (i : Nat) (x : Lane) : (b.setLane i x).si = b.si := rfl
@[simp] theorem Base.setLane_pw (i : Nat) (x : Lane) : (b.setLane i x).pw = b.pw := rfl
@[simp] theorem Base.setLane_boot (i : Nat) (x : Lane) : (b.setLane i x).boot = b.boot := rfl
@[simp] theorem Base.setLane_dict (i : Nat) (x : Lane) : (b.setLane i x).dict = b.dict := rfl
@[simp] theorem Base.setLane_pack (i : Nat) (x : Lane) : (b.setLane i x).pack = b.pack := rfl
@[simp] theorem Base.setLane_out (i : Nat) (x : Lane) : (b.setLane i x).out = b.out := rfl
@[simp] theorem Base.setLane_free (i : Nat) (x : Lane) : (b.setLane i x).free = b.free := rfl

/-! updLane -/
@[simp] theorem Base.updLane_pl (i : Nat) (f : Lane → Lane) : (b.updLane i f).pl = b.pl := rfl
@[simp] theorem Base.updLane_regs (i : Nat) (f : Lane → Lane) : (b.updLane i f).regs = b.regs := rfl
@[simp] theorem Base.updLane_shadow (i : Nat) (f : Lane → Lane) : (b.updLane i f).shadow = b.shadow := rfl
@[simp] theorem Base.updLane_incs (i : Nat) (f : Lane → Lane) : (b.updLane i f).incs = b.incs := rfl
@[simp] theorem Base.updLane_incAt (i : Nat) (f : Lane → Lane) : (b.updLane i f).incAt = b.incAt := rfl
@[simp] theorem Base.updLane_flt (i : Nat) (f : Lane → Lane) : (b.updLane i f).flt = b.flt := rfl
@[simp] theorem Base.updLane_mg (i : Nat) (f : Lane → Lane) : (b.updLane i f).mg = b.mg := rfl
@[simp] theorem Base.updLane_links (i : Nat) (f : Lane → Lane) : (b.updLane i f).links = { b.links with lanes := Tab.set {} b.links.lanes i (f (b.lane i)) } := rfl
@[simp] theorem Base.updLane_hosts (i : Nat) (f : Lane → Lane) : (b.updLane i f).hosts = b.hosts := rfl
@[simp] theorem Base.updLane_lay (i : Nat) (f : Lane → Lane) : (b.updLane i f).lay = b.lay := rfl
@[simp] theorem Base.updLane_dram (i : Nat) (f : Lane → Lane) : (b.updLane i f).dram = b.dram := rfl
@[simp] theorem Base.updLane_coh (i : Nat) (f : Lane → Lane) : (b.updLane i f).coh = b.coh := rfl
@[simp] theorem Base.updLane_mov (i : Nat) (f : Lane → Lane) : (b.updLane i f).mov = b.mov := rfl
@[simp] theorem Base.updLane_qos (i : Nat) (f : Lane → Lane) : (b.updLane i f).qos = b.qos := rfl
@[simp] theorem Base.updLane_si (i : Nat) (f : Lane → Lane) : (b.updLane i f).si = b.si := rfl
@[simp] theorem Base.updLane_pw (i : Nat) (f : Lane → Lane) : (b.updLane i f).pw = b.pw := rfl
@[simp] theorem Base.updLane_boot (i : Nat) (f : Lane → Lane) : (b.updLane i f).boot = b.boot := rfl
@[simp] theorem Base.updLane_dict (i : Nat) (f : Lane → Lane) : (b.updLane i f).dict = b.dict := rfl
@[simp] theorem Base.updLane_pack (i : Nat) (f : Lane → Lane) : (b.updLane i f).pack = b.pack := rfl
@[simp] theorem Base.updLane_out (i : Nat) (f : Lane → Lane) : (b.updLane i f).out = b.out := rfl
@[simp] theorem Base.updLane_free (i : Nat) (f : Lane → Lane) : (b.updLane i f).free = b.free := rfl

/-! setLd -/
@[simp] theorem Base.setLd_pl (i : Nat) (x : LogicalDev) : (b.setLd i x).pl = b.pl := rfl
@[simp] theorem Base.setLd_regs (i : Nat) (x : LogicalDev) : (b.setLd i x).regs = b.regs := rfl
@[simp] theorem Base.setLd_shadow (i : Nat) (x : LogicalDev) : (b.setLd i x).shadow = b.shadow := rfl
@[simp] theorem Base.setLd_incs (i : Nat) (x : LogicalDev) : (b.setLd i x).incs = b.incs := rfl
@[simp] theorem Base.setLd_incAt (i : Nat) (x : LogicalDev) : (b.setLd i x).incAt = b.incAt := rfl
@[simp] theorem Base.setLd_flt (i : Nat) (x : LogicalDev) : (b.setLd i x).flt = b.flt := rfl
@[simp] theorem Base.setLd_mg (i : Nat) (x : LogicalDev) : (b.setLd i x).mg = b.mg := rfl
@[simp] theorem Base.setLd_links (i : Nat) (x : LogicalDev) : (b.setLd i x).links = b.links := rfl
@[simp] theorem Base.setLd_hosts (i : Nat) (x : LogicalDev) : (b.setLd i x).hosts = { b.hosts with lds := Tab.set {} b.hosts.lds i x } := rfl
@[simp] theorem Base.setLd_lay (i : Nat) (x : LogicalDev) : (b.setLd i x).lay = b.lay := rfl
@[simp] theorem Base.setLd_dram (i : Nat) (x : LogicalDev) : (b.setLd i x).dram = b.dram := rfl
@[simp] theorem Base.setLd_coh (i : Nat) (x : LogicalDev) : (b.setLd i x).coh = b.coh := rfl
@[simp] theorem Base.setLd_mov (i : Nat) (x : LogicalDev) : (b.setLd i x).mov = b.mov := rfl
@[simp] theorem Base.setLd_qos (i : Nat) (x : LogicalDev) : (b.setLd i x).qos = b.qos := rfl
@[simp] theorem Base.setLd_si (i : Nat) (x : LogicalDev) : (b.setLd i x).si = b.si := rfl
@[simp] theorem Base.setLd_pw (i : Nat) (x : LogicalDev) : (b.setLd i x).pw = b.pw := rfl
@[simp] theorem Base.setLd_boot (i : Nat) (x : LogicalDev) : (b.setLd i x).boot = b.boot := rfl
@[simp] theorem Base.setLd_dict (i : Nat) (x : LogicalDev) : (b.setLd i x).dict = b.dict := rfl
@[simp] theorem Base.setLd_pack (i : Nat) (x : LogicalDev) : (b.setLd i x).pack = b.pack := rfl
@[simp] theorem Base.setLd_out (i : Nat) (x : LogicalDev) : (b.setLd i x).out = b.out := rfl
@[simp] theorem Base.setLd_free (i : Nat) (x : LogicalDev) : (b.setLd i x).free = b.free := rfl

/-! updLd -/
@[simp] theorem Base.updLd_pl (i : Nat) (f : LogicalDev → LogicalDev) : (b.updLd i f).pl = b.pl := rfl
@[simp] theorem Base.updLd_regs (i : Nat) (f : LogicalDev → LogicalDev) : (b.updLd i f).regs = b.regs := rfl
@[simp] theorem Base.updLd_shadow (i : Nat) (f : LogicalDev → LogicalDev) : (b.updLd i f).shadow = b.shadow := rfl
@[simp] theorem Base.updLd_incs (i : Nat) (f : LogicalDev → LogicalDev) : (b.updLd i f).incs = b.incs := rfl
@[simp] theorem Base.updLd_incAt (i : Nat) (f : LogicalDev → LogicalDev) : (b.updLd i f).incAt = b.incAt := rfl
@[simp] theorem Base.updLd_flt (i : Nat) (f : LogicalDev → LogicalDev) : (b.updLd i f).flt = b.flt := rfl
@[simp] theorem Base.updLd_mg (i : Nat) (f : LogicalDev → LogicalDev) : (b.updLd i f).mg = b.mg := rfl
@[simp] theorem Base.updLd_links (i : Nat) (f : LogicalDev → LogicalDev) : (b.updLd i f).links = b.links := rfl
@[simp] theorem Base.updLd_hosts (i : Nat) (f : LogicalDev → LogicalDev) : (b.updLd i f).hosts = { b.hosts with lds := Tab.set {} b.hosts.lds i (f (b.ld i)) } := rfl
@[simp] theorem Base.updLd_lay (i : Nat) (f : LogicalDev → LogicalDev) : (b.updLd i f).lay = b.lay := rfl
@[simp] theorem Base.updLd_dram (i : Nat) (f : LogicalDev → LogicalDev) : (b.updLd i f).dram = b.dram := rfl
@[simp] theorem Base.updLd_coh (i : Nat) (f : LogicalDev → LogicalDev) : (b.updLd i f).coh = b.coh := rfl
@[simp] theorem Base.updLd_mov (i : Nat) (f : LogicalDev → LogicalDev) : (b.updLd i f).mov = b.mov := rfl
@[simp] theorem Base.updLd_qos (i : Nat) (f : LogicalDev → LogicalDev) : (b.updLd i f).qos = b.qos := rfl
@[simp] theorem Base.updLd_si (i : Nat) (f : LogicalDev → LogicalDev) : (b.updLd i f).si = b.si := rfl
@[simp] theorem Base.updLd_pw (i : Nat) (f : LogicalDev → LogicalDev) : (b.updLd i f).pw = b.pw := rfl
@[simp] theorem Base.updLd_boot (i : Nat) (f : LogicalDev → LogicalDev) : (b.updLd i f).boot = b.boot := rfl
@[simp] theorem Base.updLd_dict (i : Nat) (f : LogicalDev → LogicalDev) : (b.updLd i f).dict = b.dict := rfl
@[simp] theorem Base.updLd_pack (i : Nat) (f : LogicalDev → LogicalDev) : (b.updLd i f).pack = b.pack := rfl
@[simp] theorem Base.updLd_out (i : Nat) (f : LogicalDev → LogicalDev) : (b.updLd i f).out = b.out := rfl
@[simp] theorem Base.updLd_free (i : Nat) (f : LogicalDev → LogicalDev) : (b.updLd i f).free = b.free := rfl

/-! setChan -/
@[simp] theorem Base.setChan_pl (i : Nat) (x : Chan) : (b.setChan i x).pl = b.pl := rfl
@[simp] theorem Base.setChan_regs (i : Nat) (x : Chan) : (b.setChan i x).regs = b.regs := rfl
@[simp] theorem Base.setChan_shadow (i : Nat) (x : Chan) : (b.setChan i x).shadow = b.shadow := rfl
@[simp] theorem Base.setChan_incs (i : Nat) (x : Chan) : (b.setChan i x).incs = b.incs := rfl
@[simp] theorem Base.setChan_incAt (i : Nat) (x : Chan) : (b.setChan i x).incAt = b.incAt := rfl
@[simp] theorem Base.setChan_flt (i : Nat) (x : Chan) : (b.setChan i x).flt = b.flt := rfl
@[simp] theorem Base.setChan_mg (i : Nat) (x : Chan) : (b.setChan i x).mg = b.mg := rfl
@[simp] theorem Base.setChan_links (i : Nat) (x : Chan) : (b.setChan i x).links = b.links := rfl
@[simp] theorem Base.setChan_hosts (i : Nat) (x : Chan) : (b.setChan i x).hosts = b.hosts := rfl
@[simp] theorem Base.setChan_lay (i : Nat) (x : Chan) : (b.setChan i x).lay = b.lay := rfl
@[simp] theorem Base.setChan_dram (i : Nat) (x : Chan) : (b.setChan i x).dram = { b.dram with chans := Tab.set {} b.dram.chans i x } := rfl
@[simp] theorem Base.setChan_coh (i : Nat) (x : Chan) : (b.setChan i x).coh = b.coh := rfl
@[simp] theorem Base.setChan_mov (i : Nat) (x : Chan) : (b.setChan i x).mov = b.mov := rfl
@[simp] theorem Base.setChan_qos (i : Nat) (x : Chan) : (b.setChan i x).qos = b.qos := rfl
@[simp] theorem Base.setChan_si (i : Nat) (x : Chan) : (b.setChan i x).si = b.si := rfl
@[simp] theorem Base.setChan_pw (i : Nat) (x : Chan) : (b.setChan i x).pw = b.pw := rfl
@[simp] theorem Base.setChan_boot (i : Nat) (x : Chan) : (b.setChan i x).boot = b.boot := rfl
@[simp] theorem Base.setChan_dict (i : Nat) (x : Chan) : (b.setChan i x).dict = b.dict := rfl
@[simp] theorem Base.setChan_pack (i : Nat) (x : Chan) : (b.setChan i x).pack = b.pack := rfl
@[simp] theorem Base.setChan_out (i : Nat) (x : Chan) : (b.setChan i x).out = b.out := rfl
@[simp] theorem Base.setChan_free (i : Nat) (x : Chan) : (b.setChan i x).free = b.free := rfl

/-! updChan -/
@[simp] theorem Base.updChan_pl (i : Nat) (f : Chan → Chan) : (b.updChan i f).pl = b.pl := rfl
@[simp] theorem Base.updChan_regs (i : Nat) (f : Chan → Chan) : (b.updChan i f).regs = b.regs := rfl
@[simp] theorem Base.updChan_shadow (i : Nat) (f : Chan → Chan) : (b.updChan i f).shadow = b.shadow := rfl
@[simp] theorem Base.updChan_incs (i : Nat) (f : Chan → Chan) : (b.updChan i f).incs = b.incs := rfl
@[simp] theorem Base.updChan_incAt (i : Nat) (f : Chan → Chan) : (b.updChan i f).incAt = b.incAt := rfl
@[simp] theorem Base.updChan_flt (i : Nat) (f : Chan → Chan) : (b.updChan i f).flt = b.flt := rfl
@[simp] theorem Base.updChan_mg (i : Nat) (f : Chan → Chan) : (b.updChan i f).mg = b.mg := rfl
@[simp] theorem Base.updChan_links (i : Nat) (f : Chan → Chan) : (b.updChan i f).links = b.links := rfl
@[simp] theorem Base.updChan_hosts (i : Nat) (f : Chan → Chan) : (b.updChan i f).hosts = b.hosts := rfl
@[simp] theorem Base.updChan_lay (i : Nat) (f : Chan → Chan) : (b.updChan i f).lay = b.lay := rfl
@[simp] theorem Base.updChan_dram (i : Nat) (f : Chan → Chan) : (b.updChan i f).dram = { b.dram with chans := Tab.set {} b.dram.chans i (f (b.chan i)) } := rfl
@[simp] theorem Base.updChan_coh (i : Nat) (f : Chan → Chan) : (b.updChan i f).coh = b.coh := rfl
@[simp] theorem Base.updChan_mov (i : Nat) (f : Chan → Chan) : (b.updChan i f).mov = b.mov := rfl
@[simp] theorem Base.updChan_qos (i : Nat) (f : Chan → Chan) : (b.updChan i f).qos = b.qos := rfl
@[simp] theorem Base.updChan_si (i : Nat) (f : Chan → Chan) : (b.updChan i f).si = b.si := rfl
@[simp] theorem Base.updChan_pw (i : Nat) (f : Chan → Chan) : (b.updChan i f).pw = b.pw := rfl
@[simp] theorem Base.updChan_boot (i : Nat) (f : Chan → Chan) : (b.updChan i f).boot = b.boot := rfl
@[simp] theorem Base.updChan_dict (i : Nat) (f : Chan → Chan) : (b.updChan i f).dict = b.dict := rfl
@[simp] theorem Base.updChan_pack (i : Nat) (f : Chan → Chan) : (b.updChan i f).pack = b.pack := rfl
@[simp] theorem Base.updChan_out (i : Nat) (f : Chan → Chan) : (b.updChan i f).out = b.out := rfl
@[simp] theorem Base.updChan_free (i : Nat) (f : Chan → Chan) : (b.updChan i f).free = b.free := rfl

/-! setCanes -/
@[simp] theorem Base.setCanes_pl (i : Nat) (x : ChanCanes) : (b.setCanes i x).pl = b.pl := rfl
@[simp] theorem Base.setCanes_regs (i : Nat) (x : ChanCanes) : (b.setCanes i x).regs = b.regs := rfl
@[simp] theorem Base.setCanes_shadow (i : Nat) (x : ChanCanes) : (b.setCanes i x).shadow = b.shadow := rfl
@[simp] theorem Base.setCanes_incs (i : Nat) (x : ChanCanes) : (b.setCanes i x).incs = b.incs := rfl
@[simp] theorem Base.setCanes_incAt (i : Nat) (x : ChanCanes) : (b.setCanes i x).incAt = b.incAt := rfl
@[simp] theorem Base.setCanes_flt (i : Nat) (x : ChanCanes) : (b.setCanes i x).flt = b.flt := rfl
@[simp] theorem Base.setCanes_mg (i : Nat) (x : ChanCanes) : (b.setCanes i x).mg = b.mg := rfl
@[simp] theorem Base.setCanes_links (i : Nat) (x : ChanCanes) : (b.setCanes i x).links = b.links := rfl
@[simp] theorem Base.setCanes_hosts (i : Nat) (x : ChanCanes) : (b.setCanes i x).hosts = b.hosts := rfl
@[simp] theorem Base.setCanes_lay (i : Nat) (x : ChanCanes) : (b.setCanes i x).lay = b.lay := rfl
@[simp] theorem Base.setCanes_dram (i : Nat) (x : ChanCanes) : (b.setCanes i x).dram = b.dram := rfl
@[simp] theorem Base.setCanes_coh (i : Nat) (x : ChanCanes) : (b.setCanes i x).coh = b.coh := rfl
@[simp] theorem Base.setCanes_mov (i : Nat) (x : ChanCanes) : (b.setCanes i x).mov = b.mov := rfl
@[simp] theorem Base.setCanes_qos (i : Nat) (x : ChanCanes) : (b.setCanes i x).qos = b.qos := rfl
@[simp] theorem Base.setCanes_si (i : Nat) (x : ChanCanes) : (b.setCanes i x).si = { b.si with canes := Tab.set {} b.si.canes i x } := rfl
@[simp] theorem Base.setCanes_pw (i : Nat) (x : ChanCanes) : (b.setCanes i x).pw = b.pw := rfl
@[simp] theorem Base.setCanes_boot (i : Nat) (x : ChanCanes) : (b.setCanes i x).boot = b.boot := rfl
@[simp] theorem Base.setCanes_dict (i : Nat) (x : ChanCanes) : (b.setCanes i x).dict = b.dict := rfl
@[simp] theorem Base.setCanes_pack (i : Nat) (x : ChanCanes) : (b.setCanes i x).pack = b.pack := rfl
@[simp] theorem Base.setCanes_out (i : Nat) (x : ChanCanes) : (b.setCanes i x).out = b.out := rfl
@[simp] theorem Base.setCanes_free (i : Nat) (x : ChanCanes) : (b.setCanes i x).free = b.free := rfl

/-! updCanes -/
@[simp] theorem Base.updCanes_pl (i : Nat) (f : ChanCanes → ChanCanes) : (b.updCanes i f).pl = b.pl := rfl
@[simp] theorem Base.updCanes_regs (i : Nat) (f : ChanCanes → ChanCanes) : (b.updCanes i f).regs = b.regs := rfl
@[simp] theorem Base.updCanes_shadow (i : Nat) (f : ChanCanes → ChanCanes) : (b.updCanes i f).shadow = b.shadow := rfl
@[simp] theorem Base.updCanes_incs (i : Nat) (f : ChanCanes → ChanCanes) : (b.updCanes i f).incs = b.incs := rfl
@[simp] theorem Base.updCanes_incAt (i : Nat) (f : ChanCanes → ChanCanes) : (b.updCanes i f).incAt = b.incAt := rfl
@[simp] theorem Base.updCanes_flt (i : Nat) (f : ChanCanes → ChanCanes) : (b.updCanes i f).flt = b.flt := rfl
@[simp] theorem Base.updCanes_mg (i : Nat) (f : ChanCanes → ChanCanes) : (b.updCanes i f).mg = b.mg := rfl
@[simp] theorem Base.updCanes_links (i : Nat) (f : ChanCanes → ChanCanes) : (b.updCanes i f).links = b.links := rfl
@[simp] theorem Base.updCanes_hosts (i : Nat) (f : ChanCanes → ChanCanes) : (b.updCanes i f).hosts = b.hosts := rfl
@[simp] theorem Base.updCanes_lay (i : Nat) (f : ChanCanes → ChanCanes) : (b.updCanes i f).lay = b.lay := rfl
@[simp] theorem Base.updCanes_dram (i : Nat) (f : ChanCanes → ChanCanes) : (b.updCanes i f).dram = b.dram := rfl
@[simp] theorem Base.updCanes_coh (i : Nat) (f : ChanCanes → ChanCanes) : (b.updCanes i f).coh = b.coh := rfl
@[simp] theorem Base.updCanes_mov (i : Nat) (f : ChanCanes → ChanCanes) : (b.updCanes i f).mov = b.mov := rfl
@[simp] theorem Base.updCanes_qos (i : Nat) (f : ChanCanes → ChanCanes) : (b.updCanes i f).qos = b.qos := rfl
@[simp] theorem Base.updCanes_si (i : Nat) (f : ChanCanes → ChanCanes) : (b.updCanes i f).si = { b.si with canes := Tab.set {} b.si.canes i (f (b.canes i)) } := rfl
@[simp] theorem Base.updCanes_pw (i : Nat) (f : ChanCanes → ChanCanes) : (b.updCanes i f).pw = b.pw := rfl
@[simp] theorem Base.updCanes_boot (i : Nat) (f : ChanCanes → ChanCanes) : (b.updCanes i f).boot = b.boot := rfl
@[simp] theorem Base.updCanes_dict (i : Nat) (f : ChanCanes → ChanCanes) : (b.updCanes i f).dict = b.dict := rfl
@[simp] theorem Base.updCanes_pack (i : Nat) (f : ChanCanes → ChanCanes) : (b.updCanes i f).pack = b.pack := rfl
@[simp] theorem Base.updCanes_out (i : Nat) (f : ChanCanes → ChanCanes) : (b.updCanes i f).out = b.out := rfl
@[simp] theorem Base.updCanes_free (i : Nat) (f : ChanCanes → ChanCanes) : (b.updCanes i f).free = b.free := rfl

/-! setGuard -/
@[simp] theorem Base.setGuard_pl (i : Nat) (x : DieGuard) : (b.setGuard i x).pl = b.pl := rfl
@[simp] theorem Base.setGuard_regs (i : Nat) (x : DieGuard) : (b.setGuard i x).regs = b.regs := rfl
@[simp] theorem Base.setGuard_shadow (i : Nat) (x : DieGuard) : (b.setGuard i x).shadow = b.shadow := rfl
@[simp] theorem Base.setGuard_incs (i : Nat) (x : DieGuard) : (b.setGuard i x).incs = b.incs := rfl
@[simp] theorem Base.setGuard_incAt (i : Nat) (x : DieGuard) : (b.setGuard i x).incAt = b.incAt := rfl
@[simp] theorem Base.setGuard_flt (i : Nat) (x : DieGuard) : (b.setGuard i x).flt = b.flt := rfl
@[simp] theorem Base.setGuard_mg (i : Nat) (x : DieGuard) : (b.setGuard i x).mg = b.mg := rfl
@[simp] theorem Base.setGuard_links (i : Nat) (x : DieGuard) : (b.setGuard i x).links = b.links := rfl
@[simp] theorem Base.setGuard_hosts (i : Nat) (x : DieGuard) : (b.setGuard i x).hosts = b.hosts := rfl
@[simp] theorem Base.setGuard_lay (i : Nat) (x : DieGuard) : (b.setGuard i x).lay = b.lay := rfl
@[simp] theorem Base.setGuard_dram (i : Nat) (x : DieGuard) : (b.setGuard i x).dram = b.dram := rfl
@[simp] theorem Base.setGuard_coh (i : Nat) (x : DieGuard) : (b.setGuard i x).coh = b.coh := rfl
@[simp] theorem Base.setGuard_mov (i : Nat) (x : DieGuard) : (b.setGuard i x).mov = b.mov := rfl
@[simp] theorem Base.setGuard_qos (i : Nat) (x : DieGuard) : (b.setGuard i x).qos = b.qos := rfl
@[simp] theorem Base.setGuard_si (i : Nat) (x : DieGuard) : (b.setGuard i x).si = { b.si with guards := Tab.set {} b.si.guards i x } := rfl
@[simp] theorem Base.setGuard_pw (i : Nat) (x : DieGuard) : (b.setGuard i x).pw = b.pw := rfl
@[simp] theorem Base.setGuard_boot (i : Nat) (x : DieGuard) : (b.setGuard i x).boot = b.boot := rfl
@[simp] theorem Base.setGuard_dict (i : Nat) (x : DieGuard) : (b.setGuard i x).dict = b.dict := rfl
@[simp] theorem Base.setGuard_pack (i : Nat) (x : DieGuard) : (b.setGuard i x).pack = b.pack := rfl
@[simp] theorem Base.setGuard_out (i : Nat) (x : DieGuard) : (b.setGuard i x).out = b.out := rfl
@[simp] theorem Base.setGuard_free (i : Nat) (x : DieGuard) : (b.setGuard i x).free = b.free := rfl

/-! updGuard -/
@[simp] theorem Base.updGuard_pl (i : Nat) (f : DieGuard → DieGuard) : (b.updGuard i f).pl = b.pl := rfl
@[simp] theorem Base.updGuard_regs (i : Nat) (f : DieGuard → DieGuard) : (b.updGuard i f).regs = b.regs := rfl
@[simp] theorem Base.updGuard_shadow (i : Nat) (f : DieGuard → DieGuard) : (b.updGuard i f).shadow = b.shadow := rfl
@[simp] theorem Base.updGuard_incs (i : Nat) (f : DieGuard → DieGuard) : (b.updGuard i f).incs = b.incs := rfl
@[simp] theorem Base.updGuard_incAt (i : Nat) (f : DieGuard → DieGuard) : (b.updGuard i f).incAt = b.incAt := rfl
@[simp] theorem Base.updGuard_flt (i : Nat) (f : DieGuard → DieGuard) : (b.updGuard i f).flt = b.flt := rfl
@[simp] theorem Base.updGuard_mg (i : Nat) (f : DieGuard → DieGuard) : (b.updGuard i f).mg = b.mg := rfl
@[simp] theorem Base.updGuard_links (i : Nat) (f : DieGuard → DieGuard) : (b.updGuard i f).links = b.links := rfl
@[simp] theorem Base.updGuard_hosts (i : Nat) (f : DieGuard → DieGuard) : (b.updGuard i f).hosts = b.hosts := rfl
@[simp] theorem Base.updGuard_lay (i : Nat) (f : DieGuard → DieGuard) : (b.updGuard i f).lay = b.lay := rfl
@[simp] theorem Base.updGuard_dram (i : Nat) (f : DieGuard → DieGuard) : (b.updGuard i f).dram = b.dram := rfl
@[simp] theorem Base.updGuard_coh (i : Nat) (f : DieGuard → DieGuard) : (b.updGuard i f).coh = b.coh := rfl
@[simp] theorem Base.updGuard_mov (i : Nat) (f : DieGuard → DieGuard) : (b.updGuard i f).mov = b.mov := rfl
@[simp] theorem Base.updGuard_qos (i : Nat) (f : DieGuard → DieGuard) : (b.updGuard i f).qos = b.qos := rfl
@[simp] theorem Base.updGuard_si (i : Nat) (f : DieGuard → DieGuard) : (b.updGuard i f).si = { b.si with guards := Tab.set {} b.si.guards i (f (b.guard i)) } := rfl
@[simp] theorem Base.updGuard_pw (i : Nat) (f : DieGuard → DieGuard) : (b.updGuard i f).pw = b.pw := rfl
@[simp] theorem Base.updGuard_boot (i : Nat) (f : DieGuard → DieGuard) : (b.updGuard i f).boot = b.boot := rfl
@[simp] theorem Base.updGuard_dict (i : Nat) (f : DieGuard → DieGuard) : (b.updGuard i f).dict = b.dict := rfl
@[simp] theorem Base.updGuard_pack (i : Nat) (f : DieGuard → DieGuard) : (b.updGuard i f).pack = b.pack := rfl
@[simp] theorem Base.updGuard_out (i : Nat) (f : DieGuard → DieGuard) : (b.updGuard i f).out = b.out := rfl
@[simp] theorem Base.updGuard_free (i : Nat) (f : DieGuard → DieGuard) : (b.updGuard i f).free = b.free := rfl

/-! setSet -/
@[simp] theorem Base.setSet_pl (i : Nat) (x : SetPower) : (b.setSet i x).pl = b.pl := rfl
@[simp] theorem Base.setSet_regs (i : Nat) (x : SetPower) : (b.setSet i x).regs = b.regs := rfl
@[simp] theorem Base.setSet_shadow (i : Nat) (x : SetPower) : (b.setSet i x).shadow = b.shadow := rfl
@[simp] theorem Base.setSet_incs (i : Nat) (x : SetPower) : (b.setSet i x).incs = b.incs := rfl
@[simp] theorem Base.setSet_incAt (i : Nat) (x : SetPower) : (b.setSet i x).incAt = b.incAt := rfl
@[simp] theorem Base.setSet_flt (i : Nat) (x : SetPower) : (b.setSet i x).flt = b.flt := rfl
@[simp] theorem Base.setSet_mg (i : Nat) (x : SetPower) : (b.setSet i x).mg = b.mg := rfl
@[simp] theorem Base.setSet_links (i : Nat) (x : SetPower) : (b.setSet i x).links = b.links := rfl
@[simp] theorem Base.setSet_hosts (i : Nat) (x : SetPower) : (b.setSet i x).hosts = b.hosts := rfl
@[simp] theorem Base.setSet_lay (i : Nat) (x : SetPower) : (b.setSet i x).lay = b.lay := rfl
@[simp] theorem Base.setSet_dram (i : Nat) (x : SetPower) : (b.setSet i x).dram = b.dram := rfl
@[simp] theorem Base.setSet_coh (i : Nat) (x : SetPower) : (b.setSet i x).coh = b.coh := rfl
@[simp] theorem Base.setSet_mov (i : Nat) (x : SetPower) : (b.setSet i x).mov = b.mov := rfl
@[simp] theorem Base.setSet_qos (i : Nat) (x : SetPower) : (b.setSet i x).qos = b.qos := rfl
@[simp] theorem Base.setSet_si (i : Nat) (x : SetPower) : (b.setSet i x).si = b.si := rfl
@[simp] theorem Base.setSet_pw (i : Nat) (x : SetPower) : (b.setSet i x).pw = { b.pw with sets := Tab.set {} b.pw.sets i x } := rfl
@[simp] theorem Base.setSet_boot (i : Nat) (x : SetPower) : (b.setSet i x).boot = b.boot := rfl
@[simp] theorem Base.setSet_dict (i : Nat) (x : SetPower) : (b.setSet i x).dict = b.dict := rfl
@[simp] theorem Base.setSet_pack (i : Nat) (x : SetPower) : (b.setSet i x).pack = b.pack := rfl
@[simp] theorem Base.setSet_out (i : Nat) (x : SetPower) : (b.setSet i x).out = b.out := rfl
@[simp] theorem Base.setSet_free (i : Nat) (x : SetPower) : (b.setSet i x).free = b.free := rfl

/-! updSet -/
@[simp] theorem Base.updSet_pl (i : Nat) (f : SetPower → SetPower) : (b.updSet i f).pl = b.pl := rfl
@[simp] theorem Base.updSet_regs (i : Nat) (f : SetPower → SetPower) : (b.updSet i f).regs = b.regs := rfl
@[simp] theorem Base.updSet_shadow (i : Nat) (f : SetPower → SetPower) : (b.updSet i f).shadow = b.shadow := rfl
@[simp] theorem Base.updSet_incs (i : Nat) (f : SetPower → SetPower) : (b.updSet i f).incs = b.incs := rfl
@[simp] theorem Base.updSet_incAt (i : Nat) (f : SetPower → SetPower) : (b.updSet i f).incAt = b.incAt := rfl
@[simp] theorem Base.updSet_flt (i : Nat) (f : SetPower → SetPower) : (b.updSet i f).flt = b.flt := rfl
@[simp] theorem Base.updSet_mg (i : Nat) (f : SetPower → SetPower) : (b.updSet i f).mg = b.mg := rfl
@[simp] theorem Base.updSet_links (i : Nat) (f : SetPower → SetPower) : (b.updSet i f).links = b.links := rfl
@[simp] theorem Base.updSet_hosts (i : Nat) (f : SetPower → SetPower) : (b.updSet i f).hosts = b.hosts := rfl
@[simp] theorem Base.updSet_lay (i : Nat) (f : SetPower → SetPower) : (b.updSet i f).lay = b.lay := rfl
@[simp] theorem Base.updSet_dram (i : Nat) (f : SetPower → SetPower) : (b.updSet i f).dram = b.dram := rfl
@[simp] theorem Base.updSet_coh (i : Nat) (f : SetPower → SetPower) : (b.updSet i f).coh = b.coh := rfl
@[simp] theorem Base.updSet_mov (i : Nat) (f : SetPower → SetPower) : (b.updSet i f).mov = b.mov := rfl
@[simp] theorem Base.updSet_qos (i : Nat) (f : SetPower → SetPower) : (b.updSet i f).qos = b.qos := rfl
@[simp] theorem Base.updSet_si (i : Nat) (f : SetPower → SetPower) : (b.updSet i f).si = b.si := rfl
@[simp] theorem Base.updSet_pw (i : Nat) (f : SetPower → SetPower) : (b.updSet i f).pw = { b.pw with sets := Tab.set {} b.pw.sets i (f (b.set_ i)) } := rfl
@[simp] theorem Base.updSet_boot (i : Nat) (f : SetPower → SetPower) : (b.updSet i f).boot = b.boot := rfl
@[simp] theorem Base.updSet_dict (i : Nat) (f : SetPower → SetPower) : (b.updSet i f).dict = b.dict := rfl
@[simp] theorem Base.updSet_pack (i : Nat) (f : SetPower → SetPower) : (b.updSet i f).pack = b.pack := rfl
@[simp] theorem Base.updSet_out (i : Nat) (f : SetPower → SetPower) : (b.updSet i f).out = b.out := rfl
@[simp] theorem Base.updSet_free (i : Nat) (f : SetPower → SetPower) : (b.updSet i f).free = b.free := rfl

/-! setDiode -/
@[simp] theorem Base.setDiode_pl (i : Nat) (x : Diode) : (b.setDiode i x).pl = b.pl := rfl
@[simp] theorem Base.setDiode_regs (i : Nat) (x : Diode) : (b.setDiode i x).regs = b.regs := rfl
@[simp] theorem Base.setDiode_shadow (i : Nat) (x : Diode) : (b.setDiode i x).shadow = b.shadow := rfl
@[simp] theorem Base.setDiode_incs (i : Nat) (x : Diode) : (b.setDiode i x).incs = b.incs := rfl
@[simp] theorem Base.setDiode_incAt (i : Nat) (x : Diode) : (b.setDiode i x).incAt = b.incAt := rfl
@[simp] theorem Base.setDiode_flt (i : Nat) (x : Diode) : (b.setDiode i x).flt = b.flt := rfl
@[simp] theorem Base.setDiode_mg (i : Nat) (x : Diode) : (b.setDiode i x).mg = b.mg := rfl
@[simp] theorem Base.setDiode_links (i : Nat) (x : Diode) : (b.setDiode i x).links = b.links := rfl
@[simp] theorem Base.setDiode_hosts (i : Nat) (x : Diode) : (b.setDiode i x).hosts = b.hosts := rfl
@[simp] theorem Base.setDiode_lay (i : Nat) (x : Diode) : (b.setDiode i x).lay = b.lay := rfl
@[simp] theorem Base.setDiode_dram (i : Nat) (x : Diode) : (b.setDiode i x).dram = b.dram := rfl
@[simp] theorem Base.setDiode_coh (i : Nat) (x : Diode) : (b.setDiode i x).coh = b.coh := rfl
@[simp] theorem Base.setDiode_mov (i : Nat) (x : Diode) : (b.setDiode i x).mov = b.mov := rfl
@[simp] theorem Base.setDiode_qos (i : Nat) (x : Diode) : (b.setDiode i x).qos = b.qos := rfl
@[simp] theorem Base.setDiode_si (i : Nat) (x : Diode) : (b.setDiode i x).si = b.si := rfl
@[simp] theorem Base.setDiode_pw (i : Nat) (x : Diode) : (b.setDiode i x).pw = { b.pw with diodes := Tab.set {} b.pw.diodes i x } := rfl
@[simp] theorem Base.setDiode_boot (i : Nat) (x : Diode) : (b.setDiode i x).boot = b.boot := rfl
@[simp] theorem Base.setDiode_dict (i : Nat) (x : Diode) : (b.setDiode i x).dict = b.dict := rfl
@[simp] theorem Base.setDiode_pack (i : Nat) (x : Diode) : (b.setDiode i x).pack = b.pack := rfl
@[simp] theorem Base.setDiode_out (i : Nat) (x : Diode) : (b.setDiode i x).out = b.out := rfl
@[simp] theorem Base.setDiode_free (i : Nat) (x : Diode) : (b.setDiode i x).free = b.free := rfl

/-! setBus -/
@[simp] theorem Base.setBus_pl (i : Nat) (x : RowBus) : (b.setBus i x).pl = b.pl := rfl
@[simp] theorem Base.setBus_regs (i : Nat) (x : RowBus) : (b.setBus i x).regs = b.regs := rfl
@[simp] theorem Base.setBus_shadow (i : Nat) (x : RowBus) : (b.setBus i x).shadow = b.shadow := rfl
@[simp] theorem Base.setBus_incs (i : Nat) (x : RowBus) : (b.setBus i x).incs = b.incs := rfl
@[simp] theorem Base.setBus_incAt (i : Nat) (x : RowBus) : (b.setBus i x).incAt = b.incAt := rfl
@[simp] theorem Base.setBus_flt (i : Nat) (x : RowBus) : (b.setBus i x).flt = b.flt := rfl
@[simp] theorem Base.setBus_mg (i : Nat) (x : RowBus) : (b.setBus i x).mg = b.mg := rfl
@[simp] theorem Base.setBus_links (i : Nat) (x : RowBus) : (b.setBus i x).links = b.links := rfl
@[simp] theorem Base.setBus_hosts (i : Nat) (x : RowBus) : (b.setBus i x).hosts = b.hosts := rfl
@[simp] theorem Base.setBus_lay (i : Nat) (x : RowBus) : (b.setBus i x).lay = b.lay := rfl
@[simp] theorem Base.setBus_dram (i : Nat) (x : RowBus) : (b.setBus i x).dram = b.dram := rfl
@[simp] theorem Base.setBus_coh (i : Nat) (x : RowBus) : (b.setBus i x).coh = b.coh := rfl
@[simp] theorem Base.setBus_mov (i : Nat) (x : RowBus) : (b.setBus i x).mov = { b.mov with buses := Tab.set {} b.mov.buses i x } := rfl
@[simp] theorem Base.setBus_qos (i : Nat) (x : RowBus) : (b.setBus i x).qos = b.qos := rfl
@[simp] theorem Base.setBus_si (i : Nat) (x : RowBus) : (b.setBus i x).si = b.si := rfl
@[simp] theorem Base.setBus_pw (i : Nat) (x : RowBus) : (b.setBus i x).pw = b.pw := rfl
@[simp] theorem Base.setBus_boot (i : Nat) (x : RowBus) : (b.setBus i x).boot = b.boot := rfl
@[simp] theorem Base.setBus_dict (i : Nat) (x : RowBus) : (b.setBus i x).dict = b.dict := rfl
@[simp] theorem Base.setBus_pack (i : Nat) (x : RowBus) : (b.setBus i x).pack = b.pack := rfl
@[simp] theorem Base.setBus_out (i : Nat) (x : RowBus) : (b.setBus i x).out = b.out := rfl
@[simp] theorem Base.setBus_free (i : Nat) (x : RowBus) : (b.setBus i x).free = b.free := rfl

/-! updBus -/
@[simp] theorem Base.updBus_pl (i : Nat) (f : RowBus → RowBus) : (b.updBus i f).pl = b.pl := rfl
@[simp] theorem Base.updBus_regs (i : Nat) (f : RowBus → RowBus) : (b.updBus i f).regs = b.regs := rfl
@[simp] theorem Base.updBus_shadow (i : Nat) (f : RowBus → RowBus) : (b.updBus i f).shadow = b.shadow := rfl
@[simp] theorem Base.updBus_incs (i : Nat) (f : RowBus → RowBus) : (b.updBus i f).incs = b.incs := rfl
@[simp] theorem Base.updBus_incAt (i : Nat) (f : RowBus → RowBus) : (b.updBus i f).incAt = b.incAt := rfl
@[simp] theorem Base.updBus_flt (i : Nat) (f : RowBus → RowBus) : (b.updBus i f).flt = b.flt := rfl
@[simp] theorem Base.updBus_mg (i : Nat) (f : RowBus → RowBus) : (b.updBus i f).mg = b.mg := rfl
@[simp] theorem Base.updBus_links (i : Nat) (f : RowBus → RowBus) : (b.updBus i f).links = b.links := rfl
@[simp] theorem Base.updBus_hosts (i : Nat) (f : RowBus → RowBus) : (b.updBus i f).hosts = b.hosts := rfl
@[simp] theorem Base.updBus_lay (i : Nat) (f : RowBus → RowBus) : (b.updBus i f).lay = b.lay := rfl
@[simp] theorem Base.updBus_dram (i : Nat) (f : RowBus → RowBus) : (b.updBus i f).dram = b.dram := rfl
@[simp] theorem Base.updBus_coh (i : Nat) (f : RowBus → RowBus) : (b.updBus i f).coh = b.coh := rfl
@[simp] theorem Base.updBus_mov (i : Nat) (f : RowBus → RowBus) : (b.updBus i f).mov = { b.mov with buses := Tab.set {} b.mov.buses i (f (b.bus i)) } := rfl
@[simp] theorem Base.updBus_qos (i : Nat) (f : RowBus → RowBus) : (b.updBus i f).qos = b.qos := rfl
@[simp] theorem Base.updBus_si (i : Nat) (f : RowBus → RowBus) : (b.updBus i f).si = b.si := rfl
@[simp] theorem Base.updBus_pw (i : Nat) (f : RowBus → RowBus) : (b.updBus i f).pw = b.pw := rfl
@[simp] theorem Base.updBus_boot (i : Nat) (f : RowBus → RowBus) : (b.updBus i f).boot = b.boot := rfl
@[simp] theorem Base.updBus_dict (i : Nat) (f : RowBus → RowBus) : (b.updBus i f).dict = b.dict := rfl
@[simp] theorem Base.updBus_pack (i : Nat) (f : RowBus → RowBus) : (b.updBus i f).pack = b.pack := rfl
@[simp] theorem Base.updBus_out (i : Nat) (f : RowBus → RowBus) : (b.updBus i f).out = b.out := rfl
@[simp] theorem Base.updBus_free (i : Nat) (f : RowBus → RowBus) : (b.updBus i f).free = b.free := rfl

/-! setQueue -/
@[simp] theorem Base.setQueue_pl (i : Nat) (x : MoverQ) : (b.setQueue i x).pl = b.pl := rfl
@[simp] theorem Base.setQueue_regs (i : Nat) (x : MoverQ) : (b.setQueue i x).regs = b.regs := rfl
@[simp] theorem Base.setQueue_shadow (i : Nat) (x : MoverQ) : (b.setQueue i x).shadow = b.shadow := rfl
@[simp] theorem Base.setQueue_incs (i : Nat) (x : MoverQ) : (b.setQueue i x).incs = b.incs := rfl
@[simp] theorem Base.setQueue_incAt (i : Nat) (x : MoverQ) : (b.setQueue i x).incAt = b.incAt := rfl
@[simp] theorem Base.setQueue_flt (i : Nat) (x : MoverQ) : (b.setQueue i x).flt = b.flt := rfl
@[simp] theorem Base.setQueue_mg (i : Nat) (x : MoverQ) : (b.setQueue i x).mg = b.mg := rfl
@[simp] theorem Base.setQueue_links (i : Nat) (x : MoverQ) : (b.setQueue i x).links = b.links := rfl
@[simp] theorem Base.setQueue_hosts (i : Nat) (x : MoverQ) : (b.setQueue i x).hosts = b.hosts := rfl
@[simp] theorem Base.setQueue_lay (i : Nat) (x : MoverQ) : (b.setQueue i x).lay = b.lay := rfl
@[simp] theorem Base.setQueue_dram (i : Nat) (x : MoverQ) : (b.setQueue i x).dram = b.dram := rfl
@[simp] theorem Base.setQueue_coh (i : Nat) (x : MoverQ) : (b.setQueue i x).coh = b.coh := rfl
@[simp] theorem Base.setQueue_mov (i : Nat) (x : MoverQ) : (b.setQueue i x).mov = { b.mov with queues := Tab.set {} b.mov.queues i x } := rfl
@[simp] theorem Base.setQueue_qos (i : Nat) (x : MoverQ) : (b.setQueue i x).qos = b.qos := rfl
@[simp] theorem Base.setQueue_si (i : Nat) (x : MoverQ) : (b.setQueue i x).si = b.si := rfl
@[simp] theorem Base.setQueue_pw (i : Nat) (x : MoverQ) : (b.setQueue i x).pw = b.pw := rfl
@[simp] theorem Base.setQueue_boot (i : Nat) (x : MoverQ) : (b.setQueue i x).boot = b.boot := rfl
@[simp] theorem Base.setQueue_dict (i : Nat) (x : MoverQ) : (b.setQueue i x).dict = b.dict := rfl
@[simp] theorem Base.setQueue_pack (i : Nat) (x : MoverQ) : (b.setQueue i x).pack = b.pack := rfl
@[simp] theorem Base.setQueue_out (i : Nat) (x : MoverQ) : (b.setQueue i x).out = b.out := rfl
@[simp] theorem Base.setQueue_free (i : Nat) (x : MoverQ) : (b.setQueue i x).free = b.free := rfl

/-! updQueue -/
@[simp] theorem Base.updQueue_pl (i : Nat) (f : MoverQ → MoverQ) : (b.updQueue i f).pl = b.pl := rfl
@[simp] theorem Base.updQueue_regs (i : Nat) (f : MoverQ → MoverQ) : (b.updQueue i f).regs = b.regs := rfl
@[simp] theorem Base.updQueue_shadow (i : Nat) (f : MoverQ → MoverQ) : (b.updQueue i f).shadow = b.shadow := rfl
@[simp] theorem Base.updQueue_incs (i : Nat) (f : MoverQ → MoverQ) : (b.updQueue i f).incs = b.incs := rfl
@[simp] theorem Base.updQueue_incAt (i : Nat) (f : MoverQ → MoverQ) : (b.updQueue i f).incAt = b.incAt := rfl
@[simp] theorem Base.updQueue_flt (i : Nat) (f : MoverQ → MoverQ) : (b.updQueue i f).flt = b.flt := rfl
@[simp] theorem Base.updQueue_mg (i : Nat) (f : MoverQ → MoverQ) : (b.updQueue i f).mg = b.mg := rfl
@[simp] theorem Base.updQueue_links (i : Nat) (f : MoverQ → MoverQ) : (b.updQueue i f).links = b.links := rfl
@[simp] theorem Base.updQueue_hosts (i : Nat) (f : MoverQ → MoverQ) : (b.updQueue i f).hosts = b.hosts := rfl
@[simp] theorem Base.updQueue_lay (i : Nat) (f : MoverQ → MoverQ) : (b.updQueue i f).lay = b.lay := rfl
@[simp] theorem Base.updQueue_dram (i : Nat) (f : MoverQ → MoverQ) : (b.updQueue i f).dram = b.dram := rfl
@[simp] theorem Base.updQueue_coh (i : Nat) (f : MoverQ → MoverQ) : (b.updQueue i f).coh = b.coh := rfl
@[simp] theorem Base.updQueue_mov (i : Nat) (f : MoverQ → MoverQ) : (b.updQueue i f).mov = { b.mov with queues := Tab.set {} b.mov.queues i (f (b.queue i)) } := rfl
@[simp] theorem Base.updQueue_qos (i : Nat) (f : MoverQ → MoverQ) : (b.updQueue i f).qos = b.qos := rfl
@[simp] theorem Base.updQueue_si (i : Nat) (f : MoverQ → MoverQ) : (b.updQueue i f).si = b.si := rfl
@[simp] theorem Base.updQueue_pw (i : Nat) (f : MoverQ → MoverQ) : (b.updQueue i f).pw = b.pw := rfl
@[simp] theorem Base.updQueue_boot (i : Nat) (f : MoverQ → MoverQ) : (b.updQueue i f).boot = b.boot := rfl
@[simp] theorem Base.updQueue_dict (i : Nat) (f : MoverQ → MoverQ) : (b.updQueue i f).dict = b.dict := rfl
@[simp] theorem Base.updQueue_pack (i : Nat) (f : MoverQ → MoverQ) : (b.updQueue i f).pack = b.pack := rfl
@[simp] theorem Base.updQueue_out (i : Nat) (f : MoverQ → MoverQ) : (b.updQueue i f).out = b.out := rfl
@[simp] theorem Base.updQueue_free (i : Nat) (f : MoverQ → MoverQ) : (b.updQueue i f).free = b.free := rfl

/-! setLabel -/
@[simp] theorem Base.setLabel_pl (i : Nat) (x : LabelEntry) : (b.setLabel i x).pl = b.pl := rfl
@[simp] theorem Base.setLabel_regs (i : Nat) (x : LabelEntry) : (b.setLabel i x).regs = b.regs := rfl
@[simp] theorem Base.setLabel_shadow (i : Nat) (x : LabelEntry) : (b.setLabel i x).shadow = b.shadow := rfl
@[simp] theorem Base.setLabel_incs (i : Nat) (x : LabelEntry) : (b.setLabel i x).incs = b.incs := rfl
@[simp] theorem Base.setLabel_incAt (i : Nat) (x : LabelEntry) : (b.setLabel i x).incAt = b.incAt := rfl
@[simp] theorem Base.setLabel_flt (i : Nat) (x : LabelEntry) : (b.setLabel i x).flt = b.flt := rfl
@[simp] theorem Base.setLabel_mg (i : Nat) (x : LabelEntry) : (b.setLabel i x).mg = b.mg := rfl
@[simp] theorem Base.setLabel_links (i : Nat) (x : LabelEntry) : (b.setLabel i x).links = b.links := rfl
@[simp] theorem Base.setLabel_hosts (i : Nat) (x : LabelEntry) : (b.setLabel i x).hosts = b.hosts := rfl
@[simp] theorem Base.setLabel_lay (i : Nat) (x : LabelEntry) : (b.setLabel i x).lay = b.lay := rfl
@[simp] theorem Base.setLabel_dram (i : Nat) (x : LabelEntry) : (b.setLabel i x).dram = b.dram := rfl
@[simp] theorem Base.setLabel_coh (i : Nat) (x : LabelEntry) : (b.setLabel i x).coh = b.coh := rfl
@[simp] theorem Base.setLabel_mov (i : Nat) (x : LabelEntry) : (b.setLabel i x).mov = b.mov := rfl
@[simp] theorem Base.setLabel_qos (i : Nat) (x : LabelEntry) : (b.setLabel i x).qos = { b.qos with table := Tab.set {} b.qos.table i x } := rfl
@[simp] theorem Base.setLabel_si (i : Nat) (x : LabelEntry) : (b.setLabel i x).si = b.si := rfl
@[simp] theorem Base.setLabel_pw (i : Nat) (x : LabelEntry) : (b.setLabel i x).pw = b.pw := rfl
@[simp] theorem Base.setLabel_boot (i : Nat) (x : LabelEntry) : (b.setLabel i x).boot = b.boot := rfl
@[simp] theorem Base.setLabel_dict (i : Nat) (x : LabelEntry) : (b.setLabel i x).dict = b.dict := rfl
@[simp] theorem Base.setLabel_pack (i : Nat) (x : LabelEntry) : (b.setLabel i x).pack = b.pack := rfl
@[simp] theorem Base.setLabel_out (i : Nat) (x : LabelEntry) : (b.setLabel i x).out = b.out := rfl
@[simp] theorem Base.setLabel_free (i : Nat) (x : LabelEntry) : (b.setLabel i x).free = b.free := rfl

/-! updLabel -/
@[simp] theorem Base.updLabel_pl (i : Nat) (f : LabelEntry → LabelEntry) : (b.updLabel i f).pl = b.pl := rfl
@[simp] theorem Base.updLabel_regs (i : Nat) (f : LabelEntry → LabelEntry) : (b.updLabel i f).regs = b.regs := rfl
@[simp] theorem Base.updLabel_shadow (i : Nat) (f : LabelEntry → LabelEntry) : (b.updLabel i f).shadow = b.shadow := rfl
@[simp] theorem Base.updLabel_incs (i : Nat) (f : LabelEntry → LabelEntry) : (b.updLabel i f).incs = b.incs := rfl
@[simp] theorem Base.updLabel_incAt (i : Nat) (f : LabelEntry → LabelEntry) : (b.updLabel i f).incAt = b.incAt := rfl
@[simp] theorem Base.updLabel_flt (i : Nat) (f : LabelEntry → LabelEntry) : (b.updLabel i f).flt = b.flt := rfl
@[simp] theorem Base.updLabel_mg (i : Nat) (f : LabelEntry → LabelEntry) : (b.updLabel i f).mg = b.mg := rfl
@[simp] theorem Base.updLabel_links (i : Nat) (f : LabelEntry → LabelEntry) : (b.updLabel i f).links = b.links := rfl
@[simp] theorem Base.updLabel_hosts (i : Nat) (f : LabelEntry → LabelEntry) : (b.updLabel i f).hosts = b.hosts := rfl
@[simp] theorem Base.updLabel_lay (i : Nat) (f : LabelEntry → LabelEntry) : (b.updLabel i f).lay = b.lay := rfl
@[simp] theorem Base.updLabel_dram (i : Nat) (f : LabelEntry → LabelEntry) : (b.updLabel i f).dram = b.dram := rfl
@[simp] theorem Base.updLabel_coh (i : Nat) (f : LabelEntry → LabelEntry) : (b.updLabel i f).coh = b.coh := rfl
@[simp] theorem Base.updLabel_mov (i : Nat) (f : LabelEntry → LabelEntry) : (b.updLabel i f).mov = b.mov := rfl
@[simp] theorem Base.updLabel_qos (i : Nat) (f : LabelEntry → LabelEntry) : (b.updLabel i f).qos = { b.qos with table := Tab.set {} b.qos.table i (f (b.label i)) } := rfl
@[simp] theorem Base.updLabel_si (i : Nat) (f : LabelEntry → LabelEntry) : (b.updLabel i f).si = b.si := rfl
@[simp] theorem Base.updLabel_pw (i : Nat) (f : LabelEntry → LabelEntry) : (b.updLabel i f).pw = b.pw := rfl
@[simp] theorem Base.updLabel_boot (i : Nat) (f : LabelEntry → LabelEntry) : (b.updLabel i f).boot = b.boot := rfl
@[simp] theorem Base.updLabel_dict (i : Nat) (f : LabelEntry → LabelEntry) : (b.updLabel i f).dict = b.dict := rfl
@[simp] theorem Base.updLabel_pack (i : Nat) (f : LabelEntry → LabelEntry) : (b.updLabel i f).pack = b.pack := rfl
@[simp] theorem Base.updLabel_out (i : Nat) (f : LabelEntry → LabelEntry) : (b.updLabel i f).out = b.out := rfl
@[simp] theorem Base.updLabel_free (i : Nat) (f : LabelEntry → LabelEntry) : (b.updLabel i f).free = b.free := rfl

/-! setMbx -/
@[simp] theorem Base.setMbx_pl (i : Nat) (x : MbxChan) : (b.setMbx i x).pl = b.pl := rfl
@[simp] theorem Base.setMbx_regs (i : Nat) (x : MbxChan) : (b.setMbx i x).regs = b.regs := rfl
@[simp] theorem Base.setMbx_shadow (i : Nat) (x : MbxChan) : (b.setMbx i x).shadow = b.shadow := rfl
@[simp] theorem Base.setMbx_incs (i : Nat) (x : MbxChan) : (b.setMbx i x).incs = b.incs := rfl
@[simp] theorem Base.setMbx_incAt (i : Nat) (x : MbxChan) : (b.setMbx i x).incAt = b.incAt := rfl
@[simp] theorem Base.setMbx_flt (i : Nat) (x : MbxChan) : (b.setMbx i x).flt = b.flt := rfl
@[simp] theorem Base.setMbx_mg (i : Nat) (x : MbxChan) : (b.setMbx i x).mg = { b.mg with mbx := Tab.set {} b.mg.mbx i x } := rfl
@[simp] theorem Base.setMbx_links (i : Nat) (x : MbxChan) : (b.setMbx i x).links = b.links := rfl
@[simp] theorem Base.setMbx_hosts (i : Nat) (x : MbxChan) : (b.setMbx i x).hosts = b.hosts := rfl
@[simp] theorem Base.setMbx_lay (i : Nat) (x : MbxChan) : (b.setMbx i x).lay = b.lay := rfl
@[simp] theorem Base.setMbx_dram (i : Nat) (x : MbxChan) : (b.setMbx i x).dram = b.dram := rfl
@[simp] theorem Base.setMbx_coh (i : Nat) (x : MbxChan) : (b.setMbx i x).coh = b.coh := rfl
@[simp] theorem Base.setMbx_mov (i : Nat) (x : MbxChan) : (b.setMbx i x).mov = b.mov := rfl
@[simp] theorem Base.setMbx_qos (i : Nat) (x : MbxChan) : (b.setMbx i x).qos = b.qos := rfl
@[simp] theorem Base.setMbx_si (i : Nat) (x : MbxChan) : (b.setMbx i x).si = b.si := rfl
@[simp] theorem Base.setMbx_pw (i : Nat) (x : MbxChan) : (b.setMbx i x).pw = b.pw := rfl
@[simp] theorem Base.setMbx_boot (i : Nat) (x : MbxChan) : (b.setMbx i x).boot = b.boot := rfl
@[simp] theorem Base.setMbx_dict (i : Nat) (x : MbxChan) : (b.setMbx i x).dict = b.dict := rfl
@[simp] theorem Base.setMbx_pack (i : Nat) (x : MbxChan) : (b.setMbx i x).pack = b.pack := rfl
@[simp] theorem Base.setMbx_out (i : Nat) (x : MbxChan) : (b.setMbx i x).out = b.out := rfl
@[simp] theorem Base.setMbx_free (i : Nat) (x : MbxChan) : (b.setMbx i x).free = b.free := rfl

/-! updMbx -/
@[simp] theorem Base.updMbx_pl (i : Nat) (f : MbxChan → MbxChan) : (b.updMbx i f).pl = b.pl := rfl
@[simp] theorem Base.updMbx_regs (i : Nat) (f : MbxChan → MbxChan) : (b.updMbx i f).regs = b.regs := rfl
@[simp] theorem Base.updMbx_shadow (i : Nat) (f : MbxChan → MbxChan) : (b.updMbx i f).shadow = b.shadow := rfl
@[simp] theorem Base.updMbx_incs (i : Nat) (f : MbxChan → MbxChan) : (b.updMbx i f).incs = b.incs := rfl
@[simp] theorem Base.updMbx_incAt (i : Nat) (f : MbxChan → MbxChan) : (b.updMbx i f).incAt = b.incAt := rfl
@[simp] theorem Base.updMbx_flt (i : Nat) (f : MbxChan → MbxChan) : (b.updMbx i f).flt = b.flt := rfl
@[simp] theorem Base.updMbx_mg (i : Nat) (f : MbxChan → MbxChan) : (b.updMbx i f).mg = { b.mg with mbx := Tab.set {} b.mg.mbx i (f (b.mbx i)) } := rfl
@[simp] theorem Base.updMbx_links (i : Nat) (f : MbxChan → MbxChan) : (b.updMbx i f).links = b.links := rfl
@[simp] theorem Base.updMbx_hosts (i : Nat) (f : MbxChan → MbxChan) : (b.updMbx i f).hosts = b.hosts := rfl
@[simp] theorem Base.updMbx_lay (i : Nat) (f : MbxChan → MbxChan) : (b.updMbx i f).lay = b.lay := rfl
@[simp] theorem Base.updMbx_dram (i : Nat) (f : MbxChan → MbxChan) : (b.updMbx i f).dram = b.dram := rfl
@[simp] theorem Base.updMbx_coh (i : Nat) (f : MbxChan → MbxChan) : (b.updMbx i f).coh = b.coh := rfl
@[simp] theorem Base.updMbx_mov (i : Nat) (f : MbxChan → MbxChan) : (b.updMbx i f).mov = b.mov := rfl
@[simp] theorem Base.updMbx_qos (i : Nat) (f : MbxChan → MbxChan) : (b.updMbx i f).qos = b.qos := rfl
@[simp] theorem Base.updMbx_si (i : Nat) (f : MbxChan → MbxChan) : (b.updMbx i f).si = b.si := rfl
@[simp] theorem Base.updMbx_pw (i : Nat) (f : MbxChan → MbxChan) : (b.updMbx i f).pw = b.pw := rfl
@[simp] theorem Base.updMbx_boot (i : Nat) (f : MbxChan → MbxChan) : (b.updMbx i f).boot = b.boot := rfl
@[simp] theorem Base.updMbx_dict (i : Nat) (f : MbxChan → MbxChan) : (b.updMbx i f).dict = b.dict := rfl
@[simp] theorem Base.updMbx_pack (i : Nat) (f : MbxChan → MbxChan) : (b.updMbx i f).pack = b.pack := rfl
@[simp] theorem Base.updMbx_out (i : Nat) (f : MbxChan → MbxChan) : (b.updMbx i f).out = b.out := rfl
@[simp] theorem Base.updMbx_free (i : Nat) (f : MbxChan → MbxChan) : (b.updMbx i f).free = b.free := rfl

/-! updBoot -/
@[simp] theorem Base.updBoot_pl (f : Boot → Boot) : (b.updBoot f).pl = b.pl := rfl
@[simp] theorem Base.updBoot_regs (f : Boot → Boot) : (b.updBoot f).regs = b.regs := rfl
@[simp] theorem Base.updBoot_shadow (f : Boot → Boot) : (b.updBoot f).shadow = b.shadow := rfl
@[simp] theorem Base.updBoot_incs (f : Boot → Boot) : (b.updBoot f).incs = b.incs := rfl
@[simp] theorem Base.updBoot_incAt (f : Boot → Boot) : (b.updBoot f).incAt = b.incAt := rfl
@[simp] theorem Base.updBoot_flt (f : Boot → Boot) : (b.updBoot f).flt = b.flt := rfl
@[simp] theorem Base.updBoot_mg (f : Boot → Boot) : (b.updBoot f).mg = b.mg := rfl
@[simp] theorem Base.updBoot_links (f : Boot → Boot) : (b.updBoot f).links = b.links := rfl
@[simp] theorem Base.updBoot_hosts (f : Boot → Boot) : (b.updBoot f).hosts = b.hosts := rfl
@[simp] theorem Base.updBoot_lay (f : Boot → Boot) : (b.updBoot f).lay = b.lay := rfl
@[simp] theorem Base.updBoot_dram (f : Boot → Boot) : (b.updBoot f).dram = b.dram := rfl
@[simp] theorem Base.updBoot_coh (f : Boot → Boot) : (b.updBoot f).coh = b.coh := rfl
@[simp] theorem Base.updBoot_mov (f : Boot → Boot) : (b.updBoot f).mov = b.mov := rfl
@[simp] theorem Base.updBoot_qos (f : Boot → Boot) : (b.updBoot f).qos = b.qos := rfl
@[simp] theorem Base.updBoot_si (f : Boot → Boot) : (b.updBoot f).si = b.si := rfl
@[simp] theorem Base.updBoot_pw (f : Boot → Boot) : (b.updBoot f).pw = b.pw := rfl
@[simp] theorem Base.updBoot_boot (f : Boot → Boot) : (b.updBoot f).boot = f b.boot := rfl
@[simp] theorem Base.updBoot_dict (f : Boot → Boot) : (b.updBoot f).dict = b.dict := rfl
@[simp] theorem Base.updBoot_pack (f : Boot → Boot) : (b.updBoot f).pack = b.pack := rfl
@[simp] theorem Base.updBoot_out (f : Boot → Boot) : (b.updBoot f).out = b.out := rfl
@[simp] theorem Base.updBoot_free (f : Boot → Boot) : (b.updBoot f).free = b.free := rfl

/-! updDict -/
@[simp] theorem Base.updDict_pl (f : Dict → Dict) : (b.updDict f).pl = b.pl := rfl
@[simp] theorem Base.updDict_regs (f : Dict → Dict) : (b.updDict f).regs = b.regs := rfl
@[simp] theorem Base.updDict_shadow (f : Dict → Dict) : (b.updDict f).shadow = b.shadow := rfl
@[simp] theorem Base.updDict_incs (f : Dict → Dict) : (b.updDict f).incs = b.incs := rfl
@[simp] theorem Base.updDict_incAt (f : Dict → Dict) : (b.updDict f).incAt = b.incAt := rfl
@[simp] theorem Base.updDict_flt (f : Dict → Dict) : (b.updDict f).flt = b.flt := rfl
@[simp] theorem Base.updDict_mg (f : Dict → Dict) : (b.updDict f).mg = b.mg := rfl
@[simp] theorem Base.updDict_links (f : Dict → Dict) : (b.updDict f).links = b.links := rfl
@[simp] theorem Base.updDict_hosts (f : Dict → Dict) : (b.updDict f).hosts = b.hosts := rfl
@[simp] theorem Base.updDict_lay (f : Dict → Dict) : (b.updDict f).lay = b.lay := rfl
@[simp] theorem Base.updDict_dram (f : Dict → Dict) : (b.updDict f).dram = b.dram := rfl
@[simp] theorem Base.updDict_coh (f : Dict → Dict) : (b.updDict f).coh = b.coh := rfl
@[simp] theorem Base.updDict_mov (f : Dict → Dict) : (b.updDict f).mov = b.mov := rfl
@[simp] theorem Base.updDict_qos (f : Dict → Dict) : (b.updDict f).qos = b.qos := rfl
@[simp] theorem Base.updDict_si (f : Dict → Dict) : (b.updDict f).si = b.si := rfl
@[simp] theorem Base.updDict_pw (f : Dict → Dict) : (b.updDict f).pw = b.pw := rfl
@[simp] theorem Base.updDict_boot (f : Dict → Dict) : (b.updDict f).boot = b.boot := rfl
@[simp] theorem Base.updDict_dict (f : Dict → Dict) : (b.updDict f).dict = f b.dict := rfl
@[simp] theorem Base.updDict_pack (f : Dict → Dict) : (b.updDict f).pack = b.pack := rfl
@[simp] theorem Base.updDict_out (f : Dict → Dict) : (b.updDict f).out = b.out := rfl
@[simp] theorem Base.updDict_free (f : Dict → Dict) : (b.updDict f).free = b.free := rfl

/-! updMg -/
@[simp] theorem Base.updMg_pl (f : Mgmt → Mgmt) : (b.updMg f).pl = b.pl := rfl
@[simp] theorem Base.updMg_regs (f : Mgmt → Mgmt) : (b.updMg f).regs = b.regs := rfl
@[simp] theorem Base.updMg_shadow (f : Mgmt → Mgmt) : (b.updMg f).shadow = b.shadow := rfl
@[simp] theorem Base.updMg_incs (f : Mgmt → Mgmt) : (b.updMg f).incs = b.incs := rfl
@[simp] theorem Base.updMg_incAt (f : Mgmt → Mgmt) : (b.updMg f).incAt = b.incAt := rfl
@[simp] theorem Base.updMg_flt (f : Mgmt → Mgmt) : (b.updMg f).flt = b.flt := rfl
@[simp] theorem Base.updMg_mg (f : Mgmt → Mgmt) : (b.updMg f).mg = f b.mg := rfl
@[simp] theorem Base.updMg_links (f : Mgmt → Mgmt) : (b.updMg f).links = b.links := rfl
@[simp] theorem Base.updMg_hosts (f : Mgmt → Mgmt) : (b.updMg f).hosts = b.hosts := rfl
@[simp] theorem Base.updMg_lay (f : Mgmt → Mgmt) : (b.updMg f).lay = b.lay := rfl
@[simp] theorem Base.updMg_dram (f : Mgmt → Mgmt) : (b.updMg f).dram = b.dram := rfl
@[simp] theorem Base.updMg_coh (f : Mgmt → Mgmt) : (b.updMg f).coh = b.coh := rfl
@[simp] theorem Base.updMg_mov (f : Mgmt → Mgmt) : (b.updMg f).mov = b.mov := rfl
@[simp] theorem Base.updMg_qos (f : Mgmt → Mgmt) : (b.updMg f).qos = b.qos := rfl
@[simp] theorem Base.updMg_si (f : Mgmt → Mgmt) : (b.updMg f).si = b.si := rfl
@[simp] theorem Base.updMg_pw (f : Mgmt → Mgmt) : (b.updMg f).pw = b.pw := rfl
@[simp] theorem Base.updMg_boot (f : Mgmt → Mgmt) : (b.updMg f).boot = b.boot := rfl
@[simp] theorem Base.updMg_dict (f : Mgmt → Mgmt) : (b.updMg f).dict = b.dict := rfl
@[simp] theorem Base.updMg_pack (f : Mgmt → Mgmt) : (b.updMg f).pack = b.pack := rfl
@[simp] theorem Base.updMg_out (f : Mgmt → Mgmt) : (b.updMg f).out = b.out := rfl
@[simp] theorem Base.updMg_free (f : Mgmt → Mgmt) : (b.updMg f).free = b.free := rfl

/-! updQos -/
@[simp] theorem Base.updQos_pl (f : Qos → Qos) : (b.updQos f).pl = b.pl := rfl
@[simp] theorem Base.updQos_regs (f : Qos → Qos) : (b.updQos f).regs = b.regs := rfl
@[simp] theorem Base.updQos_shadow (f : Qos → Qos) : (b.updQos f).shadow = b.shadow := rfl
@[simp] theorem Base.updQos_incs (f : Qos → Qos) : (b.updQos f).incs = b.incs := rfl
@[simp] theorem Base.updQos_incAt (f : Qos → Qos) : (b.updQos f).incAt = b.incAt := rfl
@[simp] theorem Base.updQos_flt (f : Qos → Qos) : (b.updQos f).flt = b.flt := rfl
@[simp] theorem Base.updQos_mg (f : Qos → Qos) : (b.updQos f).mg = b.mg := rfl
@[simp] theorem Base.updQos_links (f : Qos → Qos) : (b.updQos f).links = b.links := rfl
@[simp] theorem Base.updQos_hosts (f : Qos → Qos) : (b.updQos f).hosts = b.hosts := rfl
@[simp] theorem Base.updQos_lay (f : Qos → Qos) : (b.updQos f).lay = b.lay := rfl
@[simp] theorem Base.updQos_dram (f : Qos → Qos) : (b.updQos f).dram = b.dram := rfl
@[simp] theorem Base.updQos_coh (f : Qos → Qos) : (b.updQos f).coh = b.coh := rfl
@[simp] theorem Base.updQos_mov (f : Qos → Qos) : (b.updQos f).mov = b.mov := rfl
@[simp] theorem Base.updQos_qos (f : Qos → Qos) : (b.updQos f).qos = f b.qos := rfl
@[simp] theorem Base.updQos_si (f : Qos → Qos) : (b.updQos f).si = b.si := rfl
@[simp] theorem Base.updQos_pw (f : Qos → Qos) : (b.updQos f).pw = b.pw := rfl
@[simp] theorem Base.updQos_boot (f : Qos → Qos) : (b.updQos f).boot = b.boot := rfl
@[simp] theorem Base.updQos_dict (f : Qos → Qos) : (b.updQos f).dict = b.dict := rfl
@[simp] theorem Base.updQos_pack (f : Qos → Qos) : (b.updQos f).pack = b.pack := rfl
@[simp] theorem Base.updQos_out (f : Qos → Qos) : (b.updQos f).out = b.out := rfl
@[simp] theorem Base.updQos_free (f : Qos → Qos) : (b.updQos f).free = b.free := rfl

/-! updPw -/
@[simp] theorem Base.updPw_pl (f : Power → Power) : (b.updPw f).pl = b.pl := rfl
@[simp] theorem Base.updPw_regs (f : Power → Power) : (b.updPw f).regs = b.regs := rfl
@[simp] theorem Base.updPw_shadow (f : Power → Power) : (b.updPw f).shadow = b.shadow := rfl
@[simp] theorem Base.updPw_incs (f : Power → Power) : (b.updPw f).incs = b.incs := rfl
@[simp] theorem Base.updPw_incAt (f : Power → Power) : (b.updPw f).incAt = b.incAt := rfl
@[simp] theorem Base.updPw_flt (f : Power → Power) : (b.updPw f).flt = b.flt := rfl
@[simp] theorem Base.updPw_mg (f : Power → Power) : (b.updPw f).mg = b.mg := rfl
@[simp] theorem Base.updPw_links (f : Power → Power) : (b.updPw f).links = b.links := rfl
@[simp] theorem Base.updPw_hosts (f : Power → Power) : (b.updPw f).hosts = b.hosts := rfl
@[simp] theorem Base.updPw_lay (f : Power → Power) : (b.updPw f).lay = b.lay := rfl
@[simp] theorem Base.updPw_dram (f : Power → Power) : (b.updPw f).dram = b.dram := rfl
@[simp] theorem Base.updPw_coh (f : Power → Power) : (b.updPw f).coh = b.coh := rfl
@[simp] theorem Base.updPw_mov (f : Power → Power) : (b.updPw f).mov = b.mov := rfl
@[simp] theorem Base.updPw_qos (f : Power → Power) : (b.updPw f).qos = b.qos := rfl
@[simp] theorem Base.updPw_si (f : Power → Power) : (b.updPw f).si = b.si := rfl
@[simp] theorem Base.updPw_pw (f : Power → Power) : (b.updPw f).pw = f b.pw := rfl
@[simp] theorem Base.updPw_boot (f : Power → Power) : (b.updPw f).boot = b.boot := rfl
@[simp] theorem Base.updPw_dict (f : Power → Power) : (b.updPw f).dict = b.dict := rfl
@[simp] theorem Base.updPw_pack (f : Power → Power) : (b.updPw f).pack = b.pack := rfl
@[simp] theorem Base.updPw_out (f : Power → Power) : (b.updPw f).out = b.out := rfl
@[simp] theorem Base.updPw_free (f : Power → Power) : (b.updPw f).free = b.free := rfl

/-! updFlt -/
@[simp] theorem Base.updFlt_pl (f : Faults → Faults) : (b.updFlt f).pl = b.pl := rfl
@[simp] theorem Base.updFlt_regs (f : Faults → Faults) : (b.updFlt f).regs = b.regs := rfl
@[simp] theorem Base.updFlt_shadow (f : Faults → Faults) : (b.updFlt f).shadow = b.shadow := rfl
@[simp] theorem Base.updFlt_incs (f : Faults → Faults) : (b.updFlt f).incs = b.incs := rfl
@[simp] theorem Base.updFlt_incAt (f : Faults → Faults) : (b.updFlt f).incAt = b.incAt := rfl
@[simp] theorem Base.updFlt_flt (f : Faults → Faults) : (b.updFlt f).flt = f b.flt := rfl
@[simp] theorem Base.updFlt_mg (f : Faults → Faults) : (b.updFlt f).mg = b.mg := rfl
@[simp] theorem Base.updFlt_links (f : Faults → Faults) : (b.updFlt f).links = b.links := rfl
@[simp] theorem Base.updFlt_hosts (f : Faults → Faults) : (b.updFlt f).hosts = b.hosts := rfl
@[simp] theorem Base.updFlt_lay (f : Faults → Faults) : (b.updFlt f).lay = b.lay := rfl
@[simp] theorem Base.updFlt_dram (f : Faults → Faults) : (b.updFlt f).dram = b.dram := rfl
@[simp] theorem Base.updFlt_coh (f : Faults → Faults) : (b.updFlt f).coh = b.coh := rfl
@[simp] theorem Base.updFlt_mov (f : Faults → Faults) : (b.updFlt f).mov = b.mov := rfl
@[simp] theorem Base.updFlt_qos (f : Faults → Faults) : (b.updFlt f).qos = b.qos := rfl
@[simp] theorem Base.updFlt_si (f : Faults → Faults) : (b.updFlt f).si = b.si := rfl
@[simp] theorem Base.updFlt_pw (f : Faults → Faults) : (b.updFlt f).pw = b.pw := rfl
@[simp] theorem Base.updFlt_boot (f : Faults → Faults) : (b.updFlt f).boot = b.boot := rfl
@[simp] theorem Base.updFlt_dict (f : Faults → Faults) : (b.updFlt f).dict = b.dict := rfl
@[simp] theorem Base.updFlt_pack (f : Faults → Faults) : (b.updFlt f).pack = b.pack := rfl
@[simp] theorem Base.updFlt_out (f : Faults → Faults) : (b.updFlt f).out = b.out := rfl
@[simp] theorem Base.updFlt_free (f : Faults → Faults) : (b.updFlt f).free = b.free := rfl

/-! updMov -/
@[simp] theorem Base.updMov_pl (f : Mover → Mover) : (b.updMov f).pl = b.pl := rfl
@[simp] theorem Base.updMov_regs (f : Mover → Mover) : (b.updMov f).regs = b.regs := rfl
@[simp] theorem Base.updMov_shadow (f : Mover → Mover) : (b.updMov f).shadow = b.shadow := rfl
@[simp] theorem Base.updMov_incs (f : Mover → Mover) : (b.updMov f).incs = b.incs := rfl
@[simp] theorem Base.updMov_incAt (f : Mover → Mover) : (b.updMov f).incAt = b.incAt := rfl
@[simp] theorem Base.updMov_flt (f : Mover → Mover) : (b.updMov f).flt = b.flt := rfl
@[simp] theorem Base.updMov_mg (f : Mover → Mover) : (b.updMov f).mg = b.mg := rfl
@[simp] theorem Base.updMov_links (f : Mover → Mover) : (b.updMov f).links = b.links := rfl
@[simp] theorem Base.updMov_hosts (f : Mover → Mover) : (b.updMov f).hosts = b.hosts := rfl
@[simp] theorem Base.updMov_lay (f : Mover → Mover) : (b.updMov f).lay = b.lay := rfl
@[simp] theorem Base.updMov_dram (f : Mover → Mover) : (b.updMov f).dram = b.dram := rfl
@[simp] theorem Base.updMov_coh (f : Mover → Mover) : (b.updMov f).coh = b.coh := rfl
@[simp] theorem Base.updMov_mov (f : Mover → Mover) : (b.updMov f).mov = f b.mov := rfl
@[simp] theorem Base.updMov_qos (f : Mover → Mover) : (b.updMov f).qos = b.qos := rfl
@[simp] theorem Base.updMov_si (f : Mover → Mover) : (b.updMov f).si = b.si := rfl
@[simp] theorem Base.updMov_pw (f : Mover → Mover) : (b.updMov f).pw = b.pw := rfl
@[simp] theorem Base.updMov_boot (f : Mover → Mover) : (b.updMov f).boot = b.boot := rfl
@[simp] theorem Base.updMov_dict (f : Mover → Mover) : (b.updMov f).dict = b.dict := rfl
@[simp] theorem Base.updMov_pack (f : Mover → Mover) : (b.updMov f).pack = b.pack := rfl
@[simp] theorem Base.updMov_out (f : Mover → Mover) : (b.updMov f).out = b.out := rfl
@[simp] theorem Base.updMov_free (f : Mover → Mover) : (b.updMov f).free = b.free := rfl

/-! updSi -/
@[simp] theorem Base.updSi_pl (f : Integrity → Integrity) : (b.updSi f).pl = b.pl := rfl
@[simp] theorem Base.updSi_regs (f : Integrity → Integrity) : (b.updSi f).regs = b.regs := rfl
@[simp] theorem Base.updSi_shadow (f : Integrity → Integrity) : (b.updSi f).shadow = b.shadow := rfl
@[simp] theorem Base.updSi_incs (f : Integrity → Integrity) : (b.updSi f).incs = b.incs := rfl
@[simp] theorem Base.updSi_incAt (f : Integrity → Integrity) : (b.updSi f).incAt = b.incAt := rfl
@[simp] theorem Base.updSi_flt (f : Integrity → Integrity) : (b.updSi f).flt = b.flt := rfl
@[simp] theorem Base.updSi_mg (f : Integrity → Integrity) : (b.updSi f).mg = b.mg := rfl
@[simp] theorem Base.updSi_links (f : Integrity → Integrity) : (b.updSi f).links = b.links := rfl
@[simp] theorem Base.updSi_hosts (f : Integrity → Integrity) : (b.updSi f).hosts = b.hosts := rfl
@[simp] theorem Base.updSi_lay (f : Integrity → Integrity) : (b.updSi f).lay = b.lay := rfl
@[simp] theorem Base.updSi_dram (f : Integrity → Integrity) : (b.updSi f).dram = b.dram := rfl
@[simp] theorem Base.updSi_coh (f : Integrity → Integrity) : (b.updSi f).coh = b.coh := rfl
@[simp] theorem Base.updSi_mov (f : Integrity → Integrity) : (b.updSi f).mov = b.mov := rfl
@[simp] theorem Base.updSi_qos (f : Integrity → Integrity) : (b.updSi f).qos = b.qos := rfl
@[simp] theorem Base.updSi_si (f : Integrity → Integrity) : (b.updSi f).si = f b.si := rfl
@[simp] theorem Base.updSi_pw (f : Integrity → Integrity) : (b.updSi f).pw = b.pw := rfl
@[simp] theorem Base.updSi_boot (f : Integrity → Integrity) : (b.updSi f).boot = b.boot := rfl
@[simp] theorem Base.updSi_dict (f : Integrity → Integrity) : (b.updSi f).dict = b.dict := rfl
@[simp] theorem Base.updSi_pack (f : Integrity → Integrity) : (b.updSi f).pack = b.pack := rfl
@[simp] theorem Base.updSi_out (f : Integrity → Integrity) : (b.updSi f).out = b.out := rfl
@[simp] theorem Base.updSi_free (f : Integrity → Integrity) : (b.updSi f).free = b.free := rfl

/-! updCoh -/
@[simp] theorem Base.updCoh_pl (f : Coherence → Coherence) : (b.updCoh f).pl = b.pl := rfl
@[simp] theorem Base.updCoh_regs (f : Coherence → Coherence) : (b.updCoh f).regs = b.regs := rfl
@[simp] theorem Base.updCoh_shadow (f : Coherence → Coherence) : (b.updCoh f).shadow = b.shadow := rfl
@[simp] theorem Base.updCoh_incs (f : Coherence → Coherence) : (b.updCoh f).incs = b.incs := rfl
@[simp] theorem Base.updCoh_incAt (f : Coherence → Coherence) : (b.updCoh f).incAt = b.incAt := rfl
@[simp] theorem Base.updCoh_flt (f : Coherence → Coherence) : (b.updCoh f).flt = b.flt := rfl
@[simp] theorem Base.updCoh_mg (f : Coherence → Coherence) : (b.updCoh f).mg = b.mg := rfl
@[simp] theorem Base.updCoh_links (f : Coherence → Coherence) : (b.updCoh f).links = b.links := rfl
@[simp] theorem Base.updCoh_hosts (f : Coherence → Coherence) : (b.updCoh f).hosts = b.hosts := rfl
@[simp] theorem Base.updCoh_lay (f : Coherence → Coherence) : (b.updCoh f).lay = b.lay := rfl
@[simp] theorem Base.updCoh_dram (f : Coherence → Coherence) : (b.updCoh f).dram = b.dram := rfl
@[simp] theorem Base.updCoh_coh (f : Coherence → Coherence) : (b.updCoh f).coh = f b.coh := rfl
@[simp] theorem Base.updCoh_mov (f : Coherence → Coherence) : (b.updCoh f).mov = b.mov := rfl
@[simp] theorem Base.updCoh_qos (f : Coherence → Coherence) : (b.updCoh f).qos = b.qos := rfl
@[simp] theorem Base.updCoh_si (f : Coherence → Coherence) : (b.updCoh f).si = b.si := rfl
@[simp] theorem Base.updCoh_pw (f : Coherence → Coherence) : (b.updCoh f).pw = b.pw := rfl
@[simp] theorem Base.updCoh_boot (f : Coherence → Coherence) : (b.updCoh f).boot = b.boot := rfl
@[simp] theorem Base.updCoh_dict (f : Coherence → Coherence) : (b.updCoh f).dict = b.dict := rfl
@[simp] theorem Base.updCoh_pack (f : Coherence → Coherence) : (b.updCoh f).pack = b.pack := rfl
@[simp] theorem Base.updCoh_out (f : Coherence → Coherence) : (b.updCoh f).out = b.out := rfl
@[simp] theorem Base.updCoh_free (f : Coherence → Coherence) : (b.updCoh f).free = b.free := rfl

/-! updLay -/
@[simp] theorem Base.updLay_pl (f : Layout → Layout) : (b.updLay f).pl = b.pl := rfl
@[simp] theorem Base.updLay_regs (f : Layout → Layout) : (b.updLay f).regs = b.regs := rfl
@[simp] theorem Base.updLay_shadow (f : Layout → Layout) : (b.updLay f).shadow = b.shadow := rfl
@[simp] theorem Base.updLay_incs (f : Layout → Layout) : (b.updLay f).incs = b.incs := rfl
@[simp] theorem Base.updLay_incAt (f : Layout → Layout) : (b.updLay f).incAt = b.incAt := rfl
@[simp] theorem Base.updLay_flt (f : Layout → Layout) : (b.updLay f).flt = b.flt := rfl
@[simp] theorem Base.updLay_mg (f : Layout → Layout) : (b.updLay f).mg = b.mg := rfl
@[simp] theorem Base.updLay_links (f : Layout → Layout) : (b.updLay f).links = b.links := rfl
@[simp] theorem Base.updLay_hosts (f : Layout → Layout) : (b.updLay f).hosts = b.hosts := rfl
@[simp] theorem Base.updLay_lay (f : Layout → Layout) : (b.updLay f).lay = f b.lay := rfl
@[simp] theorem Base.updLay_dram (f : Layout → Layout) : (b.updLay f).dram = b.dram := rfl
@[simp] theorem Base.updLay_coh (f : Layout → Layout) : (b.updLay f).coh = b.coh := rfl
@[simp] theorem Base.updLay_mov (f : Layout → Layout) : (b.updLay f).mov = b.mov := rfl
@[simp] theorem Base.updLay_qos (f : Layout → Layout) : (b.updLay f).qos = b.qos := rfl
@[simp] theorem Base.updLay_si (f : Layout → Layout) : (b.updLay f).si = b.si := rfl
@[simp] theorem Base.updLay_pw (f : Layout → Layout) : (b.updLay f).pw = b.pw := rfl
@[simp] theorem Base.updLay_boot (f : Layout → Layout) : (b.updLay f).boot = b.boot := rfl
@[simp] theorem Base.updLay_dict (f : Layout → Layout) : (b.updLay f).dict = b.dict := rfl
@[simp] theorem Base.updLay_pack (f : Layout → Layout) : (b.updLay f).pack = b.pack := rfl
@[simp] theorem Base.updLay_out (f : Layout → Layout) : (b.updLay f).out = b.out := rfl
@[simp] theorem Base.updLay_free (f : Layout → Layout) : (b.updLay f).free = b.free := rfl

/-! updDram -/
@[simp] theorem Base.updDram_pl (f : Dram → Dram) : (b.updDram f).pl = b.pl := rfl
@[simp] theorem Base.updDram_regs (f : Dram → Dram) : (b.updDram f).regs = b.regs := rfl
@[simp] theorem Base.updDram_shadow (f : Dram → Dram) : (b.updDram f).shadow = b.shadow := rfl
@[simp] theorem Base.updDram_incs (f : Dram → Dram) : (b.updDram f).incs = b.incs := rfl
@[simp] theorem Base.updDram_incAt (f : Dram → Dram) : (b.updDram f).incAt = b.incAt := rfl
@[simp] theorem Base.updDram_flt (f : Dram → Dram) : (b.updDram f).flt = b.flt := rfl
@[simp] theorem Base.updDram_mg (f : Dram → Dram) : (b.updDram f).mg = b.mg := rfl
@[simp] theorem Base.updDram_links (f : Dram → Dram) : (b.updDram f).links = b.links := rfl
@[simp] theorem Base.updDram_hosts (f : Dram → Dram) : (b.updDram f).hosts = b.hosts := rfl
@[simp] theorem Base.updDram_lay (f : Dram → Dram) : (b.updDram f).lay = b.lay := rfl
@[simp] theorem Base.updDram_dram (f : Dram → Dram) : (b.updDram f).dram = f b.dram := rfl
@[simp] theorem Base.updDram_coh (f : Dram → Dram) : (b.updDram f).coh = b.coh := rfl
@[simp] theorem Base.updDram_mov (f : Dram → Dram) : (b.updDram f).mov = b.mov := rfl
@[simp] theorem Base.updDram_qos (f : Dram → Dram) : (b.updDram f).qos = b.qos := rfl
@[simp] theorem Base.updDram_si (f : Dram → Dram) : (b.updDram f).si = b.si := rfl
@[simp] theorem Base.updDram_pw (f : Dram → Dram) : (b.updDram f).pw = b.pw := rfl
@[simp] theorem Base.updDram_boot (f : Dram → Dram) : (b.updDram f).boot = b.boot := rfl
@[simp] theorem Base.updDram_dict (f : Dram → Dram) : (b.updDram f).dict = b.dict := rfl
@[simp] theorem Base.updDram_pack (f : Dram → Dram) : (b.updDram f).pack = b.pack := rfl
@[simp] theorem Base.updDram_out (f : Dram → Dram) : (b.updDram f).out = b.out := rfl
@[simp] theorem Base.updDram_free (f : Dram → Dram) : (b.updDram f).free = b.free := rfl

/-! updPl -/
@[simp] theorem Base.updPl_pl (f : Planner → Planner) : (b.updPl f).pl = f b.pl := rfl
@[simp] theorem Base.updPl_regs (f : Planner → Planner) : (b.updPl f).regs = b.regs := rfl
@[simp] theorem Base.updPl_shadow (f : Planner → Planner) : (b.updPl f).shadow = b.shadow := rfl
@[simp] theorem Base.updPl_incs (f : Planner → Planner) : (b.updPl f).incs = b.incs := rfl
@[simp] theorem Base.updPl_incAt (f : Planner → Planner) : (b.updPl f).incAt = b.incAt := rfl
@[simp] theorem Base.updPl_flt (f : Planner → Planner) : (b.updPl f).flt = b.flt := rfl
@[simp] theorem Base.updPl_mg (f : Planner → Planner) : (b.updPl f).mg = b.mg := rfl
@[simp] theorem Base.updPl_links (f : Planner → Planner) : (b.updPl f).links = b.links := rfl
@[simp] theorem Base.updPl_hosts (f : Planner → Planner) : (b.updPl f).hosts = b.hosts := rfl
@[simp] theorem Base.updPl_lay (f : Planner → Planner) : (b.updPl f).lay = b.lay := rfl
@[simp] theorem Base.updPl_dram (f : Planner → Planner) : (b.updPl f).dram = b.dram := rfl
@[simp] theorem Base.updPl_coh (f : Planner → Planner) : (b.updPl f).coh = b.coh := rfl
@[simp] theorem Base.updPl_mov (f : Planner → Planner) : (b.updPl f).mov = b.mov := rfl
@[simp] theorem Base.updPl_qos (f : Planner → Planner) : (b.updPl f).qos = b.qos := rfl
@[simp] theorem Base.updPl_si (f : Planner → Planner) : (b.updPl f).si = b.si := rfl
@[simp] theorem Base.updPl_pw (f : Planner → Planner) : (b.updPl f).pw = b.pw := rfl
@[simp] theorem Base.updPl_boot (f : Planner → Planner) : (b.updPl f).boot = b.boot := rfl
@[simp] theorem Base.updPl_dict (f : Planner → Planner) : (b.updPl f).dict = b.dict := rfl
@[simp] theorem Base.updPl_pack (f : Planner → Planner) : (b.updPl f).pack = b.pack := rfl
@[simp] theorem Base.updPl_out (f : Planner → Planner) : (b.updPl f).out = b.out := rfl
@[simp] theorem Base.updPl_free (f : Planner → Planner) : (b.updPl f).free = b.free := rfl

/-! updPack -/
@[simp] theorem Base.updPack_pl (f : Pack → Pack) : (b.updPack f).pl = b.pl := rfl
@[simp] theorem Base.updPack_regs (f : Pack → Pack) : (b.updPack f).regs = b.regs := rfl
@[simp] theorem Base.updPack_shadow (f : Pack → Pack) : (b.updPack f).shadow = b.shadow := rfl
@[simp] theorem Base.updPack_incs (f : Pack → Pack) : (b.updPack f).incs = b.incs := rfl
@[simp] theorem Base.updPack_incAt (f : Pack → Pack) : (b.updPack f).incAt = b.incAt := rfl
@[simp] theorem Base.updPack_flt (f : Pack → Pack) : (b.updPack f).flt = b.flt := rfl
@[simp] theorem Base.updPack_mg (f : Pack → Pack) : (b.updPack f).mg = b.mg := rfl
@[simp] theorem Base.updPack_links (f : Pack → Pack) : (b.updPack f).links = b.links := rfl
@[simp] theorem Base.updPack_hosts (f : Pack → Pack) : (b.updPack f).hosts = b.hosts := rfl
@[simp] theorem Base.updPack_lay (f : Pack → Pack) : (b.updPack f).lay = b.lay := rfl
@[simp] theorem Base.updPack_dram (f : Pack → Pack) : (b.updPack f).dram = b.dram := rfl
@[simp] theorem Base.updPack_coh (f : Pack → Pack) : (b.updPack f).coh = b.coh := rfl
@[simp] theorem Base.updPack_mov (f : Pack → Pack) : (b.updPack f).mov = b.mov := rfl
@[simp] theorem Base.updPack_qos (f : Pack → Pack) : (b.updPack f).qos = b.qos := rfl
@[simp] theorem Base.updPack_si (f : Pack → Pack) : (b.updPack f).si = b.si := rfl
@[simp] theorem Base.updPack_pw (f : Pack → Pack) : (b.updPack f).pw = b.pw := rfl
@[simp] theorem Base.updPack_boot (f : Pack → Pack) : (b.updPack f).boot = b.boot := rfl
@[simp] theorem Base.updPack_dict (f : Pack → Pack) : (b.updPack f).dict = b.dict := rfl
@[simp] theorem Base.updPack_pack (f : Pack → Pack) : (b.updPack f).pack = f b.pack := rfl
@[simp] theorem Base.updPack_out (f : Pack → Pack) : (b.updPack f).out = b.out := rfl
@[simp] theorem Base.updPack_free (f : Pack → Pack) : (b.updPack f).free = b.free := rfl

/-! emit -/
@[simp] theorem Base.emit_pl (e : Emit) : (b.emit e).pl = b.pl := rfl
@[simp] theorem Base.emit_regs (e : Emit) : (b.emit e).regs = b.regs := rfl
@[simp] theorem Base.emit_shadow (e : Emit) : (b.emit e).shadow = b.shadow := rfl
@[simp] theorem Base.emit_incs (e : Emit) : (b.emit e).incs = b.incs := rfl
@[simp] theorem Base.emit_incAt (e : Emit) : (b.emit e).incAt = b.incAt := rfl
@[simp] theorem Base.emit_flt (e : Emit) : (b.emit e).flt = b.flt := rfl
@[simp] theorem Base.emit_mg (e : Emit) : (b.emit e).mg = b.mg := rfl
@[simp] theorem Base.emit_links (e : Emit) : (b.emit e).links = b.links := rfl
@[simp] theorem Base.emit_hosts (e : Emit) : (b.emit e).hosts = b.hosts := rfl
@[simp] theorem Base.emit_lay (e : Emit) : (b.emit e).lay = b.lay := rfl
@[simp] theorem Base.emit_dram (e : Emit) : (b.emit e).dram = b.dram := rfl
@[simp] theorem Base.emit_coh (e : Emit) : (b.emit e).coh = b.coh := rfl
@[simp] theorem Base.emit_mov (e : Emit) : (b.emit e).mov = b.mov := rfl
@[simp] theorem Base.emit_qos (e : Emit) : (b.emit e).qos = b.qos := rfl
@[simp] theorem Base.emit_si (e : Emit) : (b.emit e).si = b.si := rfl
@[simp] theorem Base.emit_pw (e : Emit) : (b.emit e).pw = b.pw := rfl
@[simp] theorem Base.emit_boot (e : Emit) : (b.emit e).boot = b.boot := rfl
@[simp] theorem Base.emit_dict (e : Emit) : (b.emit e).dict = b.dict := rfl
@[simp] theorem Base.emit_pack (e : Emit) : (b.emit e).pack = b.pack := rfl
@[simp] theorem Base.emit_out (e : Emit) : (b.emit e).out = e :: b.out := rfl
@[simp] theorem Base.emit_free (e : Emit) : (b.emit e).free = b.free := rfl

/-! onBase -/
@[simp] theorem State.onBase_pending (s : State) (f : Base → Base) : (s.onBase f).pending = s.pending := rfl
@[simp] theorem State.onBase_mem (s : State) (f : Base → Base) : (s.onBase f).mem = s.mem := rfl
@[simp] theorem State.onBase_otp (s : State) (f : Base → Base) : (s.onBase f).otp = s.otp := rfl
@[simp] theorem State.onBase_rind (s : State) (f : Base → Base) : (s.onBase f).rind = s.rind := rfl
@[simp] theorem State.onBase_base (s : State) (f : Base → Base) : (s.onBase f).base = f s.base := rfl

end Sys2Proof.Machine
end

