-- ==== Sys2Proof/Laws/Memory.lean ====
section
/-! SUPPORT. Laws/Memory.lean: the canonical form of the DRAM arrays, and that every operation that writes them keeps it. -/

namespace Sys2Proof.Machine

variable {α : Type}

/-- The canonical form, said with the library's words: the keys rise and no entry is the default. -/
theorem Tab.wf_iff [DecidableEq α] (d : α) (t : Tab α) :
    Tab.wf d t = true ↔ t.Pairwise (fun x y => x.1 < y.1) ∧ ∀ e ∈ t, e.2 ≠ d := by
  induction t with
  | nil => simp [Tab.wf]
  | cons e t ih =>
    obtain ⟨j, v⟩ := e
    cases t with
    | nil => simp [Tab.wf]
    | cons f t =>
      obtain ⟨k, w⟩ := f
      simp only [Tab.wf, Bool.and_eq_true, decide_eq_true_eq, bne_iff_ne, ih, List.pairwise_cons (a := (j, v)),
        List.forall_mem_cons (a := (j, v))]
      constructor
      · rintro ⟨⟨hjk, hv⟩, hp, hd⟩
        refine ⟨⟨fun x hx => ?_, hp⟩, hv, hd⟩
        rcases List.mem_cons.mp hx with rfl | hx
        · exact hjk
        · exact Nat.lt_trans hjk ((List.pairwise_cons.mp hp).1 x hx)
      · rintro ⟨⟨hj, hp⟩, hv, hd⟩
        exact ⟨⟨hj (k, w) (List.mem_cons_self ..), hv⟩, hp, hd⟩

/-- What bytesFrom lists lies in its range and is not 0. -/
theorem bytesFrom_mem {a v n : Nat} {e : Host.Cell} (h : e ∈ bytesFrom a v n) : a ≤ e.1 ∧ e.1 < a + n ∧ e.2 ≠ 0 := by
  induction n generalizing a v with
  | zero => simp [bytesFrom] at h
  | succ n ih =>
    rw [bytesFrom] at h
    split at h
    · obtain ⟨h1, h2, h3⟩ := ih h; exact ⟨by omega, by omega, h3⟩
    · next hv =>
      rcases List.mem_cons.mp h with rfl | h
      · refine ⟨Nat.le_refl _, by dsimp only; omega, fun h0 => hv ?_⟩
        have := congrArg BitVec.toNat h0
        simpa using this
      · obtain ⟨h1, h2, h3⟩ := ih h; exact ⟨by omega, by omega, h3⟩

/-- The addresses that bytesFrom lists rise. -/
theorem bytesFrom_pairwise (a v n : Nat) : (bytesFrom a v n).Pairwise fun x y => x.1 < y.1 := by
  induction n generalizing a v with
  | zero => simp [bytesFrom]
  | succ n ih =>
    rw [bytesFrom]
    split
    · exact ih ..
    · exact List.pairwise_cons.mpr ⟨fun e he => (bytesFrom_mem he).1, ih ..⟩

/-- A store keeps the canonical form. -/
theorem Memory.store_wf {m : List Host.Cell} (a v n : Nat) (h : Memory.wf m = true) : Memory.wf (Memory.store m a v n) = true := by
  obtain ⟨hp, hd⟩ := (Tab.wf_iff _ m).mp h
  refine (Tab.wf_iff _ _).mpr ⟨?_, ?_⟩
  · simp only [Memory.store, List.pairwise_append, List.mem_append, List.mem_filter, decide_eq_true_eq]
    refine ⟨⟨hp.filter _, bytesFrom_pairwise .., ?_⟩, hp.filter _, ?_⟩
    · intro x hx y hy; have := bytesFrom_mem hy; omega
    · rintro x (hx | hx) y hy
      · omega
      · have := bytesFrom_mem hx; omega
  · intro e he
    simp only [Memory.store, List.mem_append, List.mem_filter] at he
    rcases he with (he | he) | he
    · exact hd e he.1
    · exact (bytesFrom_mem he).2.2
    · exact hd e he.1

/-- Storing a line keeps the canonical form. -/
theorem State.storeLine_wf {s : State} (p : Place) (w : BitVec 640) (h : Memory.wf s.mem = true) :
    Memory.wf (s.storeLine p w).mem = true := Memory.store_wf _ _ _ h

/-- Writing a codeword, into its remap entry or the array, keeps the canonical form. -/
theorem State.putWord_wf {s : State} (p : Place) (w : BitVec 640) (h : Memory.wf s.mem = true) :
    Memory.wf (s.putWord p w).mem = true := by
  unfold State.putWord
  split
  · exact h
  · exact State.storeLine_wf p w h

/-- Writing a whole row keeps the canonical form. -/
theorem State.writeRow_wf {s : State} (ch t : Nat) (e : RowEntry) (words : List (BitVec 640))
    (h : Memory.wf s.mem = true) : Memory.wf (s.writeRow ch t e words).mem = true := by
  simp only [State.writeRow, State.onBase_mem]
  refine List.foldlRecOn (motive := fun s : State => Memory.wf s.mem = true) _ _ h fun s hs e _ => ?_
  have stored : ∀ (q : Bool) (p : Place) (w : BitVec 640), Memory.wf (if q then s else s.storeLine p w).mem = true := by
    intro q p w
    split
    · exact hs
    · exact State.storeLine_wf _ _ hs
  split
  · exact State.putWord_wf _ _ (stored ..)
  · exact stored ..

end Sys2Proof.Machine
end

