-- ==== Sys2Proof/Laws/Shared.lean ====
section
/-! SUPPORT. Laws/Shared.lean: what the operations that every meaning shares leave as it is, and what registers read after
a write, a count or a clear. -/

namespace Sys2Proof.Machine

variable (b : Base)

/-! ### Registers -/

@[simp] theorem Base.reg_setReg_same (off : Nat) (v : Word) : (b.setReg off v).reg off = v := by simp [Base.reg]

theorem Base.reg_setReg_other {off o : Nat} (v : Word) (h : o ≠ off) : (b.setReg off v).reg o = b.reg o :=
  Tab.get_set_other 0 b.regs v h

/-- Every register after one is written. -/
theorem Base.reg_setReg (off o : Nat) (v : Word) : (b.setReg off v).reg o = if o = off then v else b.reg o :=
  Tab.get_set 0 b.regs off o v

/-- A base whose registers are those of another reads the same registers. -/
theorem Base.reg_congr {b c : Base} (h : b.regs = c.regs) (o : Nat) : b.reg o = c.reg o := by simp [Base.reg, h]

/-- A counter held at its limit. -/
theorem bumpWord_toNat (w : Word) (n : Nat) : (bumpWord w n).toNat = min 0xFFFFFFFF (w.toNat + n) := by
  simp only [bumpWord, satAdd, BitVec.toNat_ofNat]
  exact Nat.mod_eq_of_lt (by omega)

/-! ### Folds -/

/-- A fold keeps what each of its steps keeps. -/
theorem foldl_keeps {α β γ : Type} (g : β → γ) (f : β → α → β) (h : ∀ b a, g (f b a) = g b) (l : List α) (b : β) :
    g (l.foldl f b) = g b := by
  induction l generalizing b with
  | nil => rfl
  | cons a l ih => simp [List.foldl_cons, ih, h]

/-- A fold over numbers keeps what each of its steps keeps. -/
theorem forN_keeps {β γ : Type} (g : β → γ) (n : Nat) (f : Nat → β → β) (h : ∀ i b, g (f i b) = g b) (b : β) : g (forN n f b) = g b :=
  foldl_keeps g (fun b i => f i b) (fun b i => h i b) _ b

/-- A fold keeps a property that each of its steps keeps. -/
theorem foldl_inv {α β : Type} (P : β → Prop) (f : β → α → β) (h : ∀ b a, P b → P (f b a)) (l : List α) (b : β) (hb : P b) :
    P (l.foldl f b) := by
  induction l generalizing b with
  | nil => exact hb
  | cons a l ih => exact ih _ (h b a hb)

/-- A fold over numbers keeps a property that each of its steps keeps. -/
theorem forN_inv {β : Type} (P : β → Prop) (n : Nat) (f : Nat → β → β) (h : ∀ i b, P b → P (f i b)) (b : β) (hb : P b) : P (forN n f b) :=
  foldl_inv P (fun b i => f i b) (fun b i => h i b) _ b hb

theorem forN_succ {β : Type} (n : Nat) (f : Nat → β → β) (b : β) : forN (n + 1) f b = f n (forN n f b) := by
  simp [forN, List.range_succ]

@[simp] theorem forN_zero {β : Type} (f : Nat → β → β) (b : β) : forN 0 f b = b := rfl

/-! ### Clears -/

/-- What one clear leaves of every register: the counter keeps what it gained in the cycle of the clear (R46). -/
theorem Base.reg_clearCounter (off o : Nat) :
    (b.clearCounter off).reg o = if o = off then bumpWord 0 (Tab.get 0 b.incsNow off) else b.reg o := Base.reg_setReg ..

@[simp] theorem Base.clearCounter_incsNow (off : Nat) : (b.clearCounter off).incsNow = b.incsNow := rfl

/-- Clears keep what the counters have gained in the present cycle. -/
@[simp] theorem Base.clearCounters_incsNow (base n : Nat) (v : Word) : (b.clearCounters base n v).incsNow = b.incsNow := by
  unfold Base.clearCounters
  exact forN_keeps Base.incsNow n _ (fun k b => by split <;> simp) b

/-- A counter clear changes registers alone. -/
theorem Base.clearCounters_frame (base n : Nat) (v : Word) :
    b.clearCounters base n v = { b with regs := (b.clearCounters base n v).regs } := by
  unfold Base.clearCounters
  induction n with
  | zero => rfl
  | succ n ih =>
    rw [forN_succ]
    split
    · rw [ih]; rfl
    · exact ih

/-- Every register after a clear: a counter named keeps what it gained in the cycle of the clear (R46). -/
theorem Base.reg_clearCounters (base n off : Nat) (v : Word) :
    (b.clearCounters base n v).reg off =
      if (∃ k, k < n ∧ v.getLsbD k = true ∧ off = base + 4 * k) then bumpWord 0 (Tab.get 0 b.incsNow off) else b.reg off := by
  induction n with
  | zero => simp [Base.clearCounters]
  | succ n ih =>
    have hs : b.clearCounters base (n + 1) v =
        if tb v n = true then (b.clearCounters base n v).clearCounter (base + 4 * n) else b.clearCounters base n v := forN_succ ..
    have here : ∀ x : Prop, ((∃ k, k < n + 1 ∧ v.getLsbD k = true ∧ off = base + 4 * k) ↔
        (∃ k, k < n ∧ v.getLsbD k = true ∧ off = base + 4 * k) ∨ (v.getLsbD n = true ∧ off = base + 4 * n)) := fun _ => by
      constructor
      · rintro ⟨k, hk, hv, e⟩
        rcases Nat.lt_succ_iff_lt_or_eq.mp hk with hk | rfl
        · exact .inl ⟨k, hk, hv, e⟩
        · exact .inr ⟨hv, e⟩
      · rintro (⟨k, hk, hv, e⟩ | ⟨hv, e⟩)
        · exact ⟨k, by omega, hv, e⟩
        · exact ⟨n, by omega, hv, e⟩
    simp only [here True, hs]
    by_cases h : tb v n = true
    · simp only [h, if_true, Base.reg_clearCounter, Base.clearCounters_incsNow, ih]
      have h' : v.getLsbD n = true := h
      by_cases ho : off = base + 4 * n <;> simp [ho, h']
    · have h' : ¬ v.getLsbD n = true := h
      simp [h, h', ih]

/-! ### Messages change registers and the fault collector alone -/

@[simp] theorem Base.enqueue_pl (m : Msg) : (b.enqueue m).pl = b.pl := by
  simp only [Base.enqueue]; split <;> rfl
@[simp] theorem Base.enqueue_shadow (m : Msg) : (b.enqueue m).shadow = b.shadow := by
  simp only [Base.enqueue]; split <;> rfl
@[simp] theorem Base.enqueue_mg (m : Msg) : (b.enqueue m).mg = b.mg := by
  simp only [Base.enqueue]; split <;> rfl
@[simp] theorem Base.enqueue_links (m : Msg) : (b.enqueue m).links = b.links := by
  simp only [Base.enqueue]; split <;> rfl
@[simp] theorem Base.enqueue_hosts (m : Msg) : (b.enqueue m).hosts = b.hosts := by
  simp only [Base.enqueue]; split <;> rfl
@[simp] theorem Base.enqueue_lay (m : Msg) : (b.enqueue m).lay = b.lay := by
  simp only [Base.enqueue]; split <;> rfl
@[simp] theorem Base.enqueue_dram (m : Msg) : (b.enqueue m).dram = b.dram := by
  simp only [Base.enqueue]; split <;> rfl
@[simp] theorem Base.enqueue_coh (m : Msg) : (b.enqueue m).coh = b.coh := by
  simp only [Base.enqueue]; split <;> rfl
@[simp] theorem Base.enqueue_mov (m : Msg) : (b.enqueue m).mov = b.mov := by
  simp only [Base.enqueue]; split <;> rfl
@[simp] theorem Base.enqueue_qos (m : Msg) : (b.enqueue m).qos = b.qos := by
  simp only [Base.enqueue]; split <;> rfl
@[simp] theorem Base.enqueue_si (m : Msg) : (b.enqueue m).si = b.si := by
  simp only [Base.enqueue]; split <;> rfl
@[simp] theorem Base.enqueue_pw (m : Msg) : (b.enqueue m).pw = b.pw := by
  simp only [Base.enqueue]; split <;> rfl
@[simp] theorem Base.enqueue_boot (m : Msg) : (b.enqueue m).boot = b.boot := by
  simp only [Base.enqueue]; split <;> rfl
@[simp] theorem Base.enqueue_dict (m : Msg) : (b.enqueue m).dict = b.dict := by
  simp only [Base.enqueue]; split <;> rfl
@[simp] theorem Base.enqueue_pack (m : Msg) : (b.enqueue m).pack = b.pack := by
  simp only [Base.enqueue]; split <;> rfl
@[simp] theorem Base.enqueue_out (m : Msg) : (b.enqueue m).out = b.out := by
  simp only [Base.enqueue]; split <;> rfl
@[simp] theorem Base.enqueue_free (m : Msg) : (b.enqueue m).free = b.free := by
  simp only [Base.enqueue]; split <;> rfl

/-! ### Sending outside a shadow -/

@[simp] theorem Base.sendMsg_pl (m : Msg) : (b.sendMsg m).pl = b.pl := by
  unfold Base.sendMsg; split <;> simp
@[simp] theorem Base.sendMsg_shadow (m : Msg) : (b.sendMsg m).shadow = b.shadow := by
  unfold Base.sendMsg; split <;> simp
@[simp] theorem Base.sendMsg_mg (m : Msg) : (b.sendMsg m).mg = b.mg := by
  unfold Base.sendMsg; split <;> simp
@[simp] theorem Base.sendMsg_links (m : Msg) : (b.sendMsg m).links = b.links := by
  unfold Base.sendMsg; split <;> simp
@[simp] theorem Base.sendMsg_hosts (m : Msg) : (b.sendMsg m).hosts = b.hosts := by
  unfold Base.sendMsg; split <;> simp
@[simp] theorem Base.sendMsg_lay (m : Msg) : (b.sendMsg m).lay = b.lay := by
  unfold Base.sendMsg; split <;> simp
@[simp] theorem Base.sendMsg_dram (m : Msg) : (b.sendMsg m).dram = b.dram := by
  unfold Base.sendMsg; split <;> simp
@[simp] theorem Base.sendMsg_coh (m : Msg) : (b.sendMsg m).coh = b.coh := by
  unfold Base.sendMsg; split <;> simp
@[simp] theorem Base.sendMsg_mov (m : Msg) : (b.sendMsg m).mov = b.mov := by
  unfold Base.sendMsg; split <;> simp
@[simp] theorem Base.sendMsg_qos (m : Msg) : (b.sendMsg m).qos = b.qos := by
  unfold Base.sendMsg; split <;> simp
@[simp] theorem Base.sendMsg_si (m : Msg) : (b.sendMsg m).si = b.si := by
  unfold Base.sendMsg; split <;> simp
@[simp] theorem Base.sendMsg_pw (m : Msg) : (b.sendMsg m).pw = b.pw := by
  unfold Base.sendMsg; split <;> simp
@[simp] theorem Base.sendMsg_boot (m : Msg) : (b.sendMsg m).boot = b.boot := by
  unfold Base.sendMsg; split <;> simp
@[simp] theorem Base.sendMsg_dict (m : Msg) : (b.sendMsg m).dict = b.dict := by
  unfold Base.sendMsg; split <;> simp
@[simp] theorem Base.sendMsg_pack (m : Msg) : (b.sendMsg m).pack = b.pack := by
  unfold Base.sendMsg; split <;> simp
@[simp] theorem Base.sendMsg_out (m : Msg) : (b.sendMsg m).out = b.out := by
  unfold Base.sendMsg; split <;> simp
@[simp] theorem Base.sendMsg_free (m : Msg) : (b.sendMsg m).free = b.free := by
  unfold Base.sendMsg; split <;> simp

/-! ### Sending -/

@[simp] theorem Base.send_pl (k : Kind) (src addr : Nat) (host : Option HostId) (inj : Bool) : (b.send k src addr host inj).pl = b.pl := by
  unfold Base.send; simp only []; split <;> simp
@[simp] theorem Base.send_shadow (k : Kind) (src addr : Nat) (host : Option HostId) (inj : Bool) : (b.send k src addr host inj).shadow = b.shadow := by
  unfold Base.send; simp only []; split <;> simp
@[simp] theorem Base.send_mg (k : Kind) (src addr : Nat) (host : Option HostId) (inj : Bool) : (b.send k src addr host inj).mg = b.mg := by
  unfold Base.send; simp only []; split <;> simp
@[simp] theorem Base.send_links (k : Kind) (src addr : Nat) (host : Option HostId) (inj : Bool) : (b.send k src addr host inj).links = b.links := by
  unfold Base.send; simp only []; split <;> simp
@[simp] theorem Base.send_hosts (k : Kind) (src addr : Nat) (host : Option HostId) (inj : Bool) : (b.send k src addr host inj).hosts = b.hosts := by
  unfold Base.send; simp only []; split <;> simp
@[simp] theorem Base.send_lay (k : Kind) (src addr : Nat) (host : Option HostId) (inj : Bool) : (b.send k src addr host inj).lay = b.lay := by
  unfold Base.send; simp only []; split <;> simp
@[simp] theorem Base.send_dram (k : Kind) (src addr : Nat) (host : Option HostId) (inj : Bool) : (b.send k src addr host inj).dram = b.dram := by
  unfold Base.send; simp only []; split <;> simp
@[simp] theorem Base.send_coh (k : Kind) (src addr : Nat) (host : Option HostId) (inj : Bool) : (b.send k src addr host inj).coh = b.coh := by
  unfold Base.send; simp only []; split <;> simp
@[simp] theorem Base.send_mov (k : Kind) (src addr : Nat) (host : Option HostId) (inj : Bool) : (b.send k src addr host inj).mov = b.mov := by
  unfold Base.send; simp only []; split <;> simp
@[simp] theorem Base.send_qos (k : Kind) (src addr : Nat) (host : Option HostId) (inj : Bool) : (b.send k src addr host inj).qos = b.qos := by
  unfold Base.send; simp only []; split <;> simp
@[simp] theorem Base.send_si (k : Kind) (src addr : Nat) (host : Option HostId) (inj : Bool) : (b.send k src addr host inj).si = b.si := by
  unfold Base.send; simp only []; split <;> simp
@[simp] theorem Base.send_pw (k : Kind) (src addr : Nat) (host : Option HostId) (inj : Bool) : (b.send k src addr host inj).pw = b.pw := by
  unfold Base.send; simp only []; split <;> simp
@[simp] theorem Base.send_boot (k : Kind) (src addr : Nat) (host : Option HostId) (inj : Bool) : (b.send k src addr host inj).boot = b.boot := by
  unfold Base.send; simp only []; split <;> simp
@[simp] theorem Base.send_dict (k : Kind) (src addr : Nat) (host : Option HostId) (inj : Bool) : (b.send k src addr host inj).dict = b.dict := by
  unfold Base.send; simp only []; split <;> simp
@[simp] theorem Base.send_pack (k : Kind) (src addr : Nat) (host : Option HostId) (inj : Bool) : (b.send k src addr host inj).pack = b.pack := by
  unfold Base.send; simp only []; split <;> simp
@[simp] theorem Base.send_out (k : Kind) (src addr : Nat) (host : Option HostId) (inj : Bool) : (b.send k src addr host inj).out = b.out := by
  unfold Base.send; simp only []; split <;> simp
@[simp] theorem Base.send_free (k : Kind) (src addr : Nat) (host : Option HostId) (inj : Bool) : (b.send k src addr host inj).free = b.free := by
  unfold Base.send; simp only []; split <;> simp

/-! ### Sending a report of a reset -/

@[simp] theorem Base.sendOutside_pl (k : Kind) (src addr : Nat) (host : Option HostId) : (b.sendOutside k src addr host).pl = b.pl := by
  simp [Base.sendOutside]
@[simp] theorem Base.sendOutside_shadow (k : Kind) (src addr : Nat) (host : Option HostId) : (b.sendOutside k src addr host).shadow = b.shadow := by
  simp [Base.sendOutside]
@[simp] theorem Base.sendOutside_mg (k : Kind) (src addr : Nat) (host : Option HostId) : (b.sendOutside k src addr host).mg = b.mg := by
  simp [Base.sendOutside]
@[simp] theorem Base.sendOutside_links (k : Kind) (src addr : Nat) (host : Option HostId) : (b.sendOutside k src addr host).links = b.links := by
  simp [Base.sendOutside]
@[simp] theorem Base.sendOutside_hosts (k : Kind) (src addr : Nat) (host : Option HostId) : (b.sendOutside k src addr host).hosts = b.hosts := by
  simp [Base.sendOutside]
@[simp] theorem Base.sendOutside_lay (k : Kind) (src addr : Nat) (host : Option HostId) : (b.sendOutside k src addr host).lay = b.lay := by
  simp [Base.sendOutside]
@[simp] theorem Base.sendOutside_dram (k : Kind) (src addr : Nat) (host : Option HostId) : (b.sendOutside k src addr host).dram = b.dram := by
  simp [Base.sendOutside]
@[simp] theorem Base.sendOutside_coh (k : Kind) (src addr : Nat) (host : Option HostId) : (b.sendOutside k src addr host).coh = b.coh := by
  simp [Base.sendOutside]
@[simp] theorem Base.sendOutside_mov (k : Kind) (src addr : Nat) (host : Option HostId) : (b.sendOutside k src addr host).mov = b.mov := by
  simp [Base.sendOutside]
@[simp] theorem Base.sendOutside_qos (k : Kind) (src addr : Nat) (host : Option HostId) : (b.sendOutside k src addr host).qos = b.qos := by
  simp [Base.sendOutside]
@[simp] theorem Base.sendOutside_si (k : Kind) (src addr : Nat) (host : Option HostId) : (b.sendOutside k src addr host).si = b.si := by
  simp [Base.sendOutside]
@[simp] theorem Base.sendOutside_pw (k : Kind) (src addr : Nat) (host : Option HostId) : (b.sendOutside k src addr host).pw = b.pw := by
  simp [Base.sendOutside]
@[simp] theorem Base.sendOutside_boot (k : Kind) (src addr : Nat) (host : Option HostId) : (b.sendOutside k src addr host).boot = b.boot := by
  simp [Base.sendOutside]
@[simp] theorem Base.sendOutside_dict (k : Kind) (src addr : Nat) (host : Option HostId) : (b.sendOutside k src addr host).dict = b.dict := by
  simp [Base.sendOutside]
@[simp] theorem Base.sendOutside_pack (k : Kind) (src addr : Nat) (host : Option HostId) : (b.sendOutside k src addr host).pack = b.pack := by
  simp [Base.sendOutside]
@[simp] theorem Base.sendOutside_out (k : Kind) (src addr : Nat) (host : Option HostId) : (b.sendOutside k src addr host).out = b.out := by
  simp [Base.sendOutside]
@[simp] theorem Base.sendOutside_free (k : Kind) (src addr : Nat) (host : Option HostId) : (b.sendOutside k src addr host).free = b.free := by
  simp [Base.sendOutside]

/-! ### Opening a shadow -/

@[simp] theorem Base.openShadow_pl (block n : Nat) : (b.openShadow block n).pl = b.pl := by
  rfl
@[simp] theorem Base.openShadow_regs (block n : Nat) : (b.openShadow block n).regs = b.regs := by
  rfl
@[simp] theorem Base.openShadow_shadow (block n : Nat) : (b.openShadow block n).shadow = b.shadow := by
  rfl
@[simp] theorem Base.openShadow_mg (block n : Nat) : (b.openShadow block n).mg = b.mg := by
  rfl
@[simp] theorem Base.openShadow_links (block n : Nat) : (b.openShadow block n).links = b.links := by
  rfl
@[simp] theorem Base.openShadow_hosts (block n : Nat) : (b.openShadow block n).hosts = b.hosts := by
  rfl
@[simp] theorem Base.openShadow_lay (block n : Nat) : (b.openShadow block n).lay = b.lay := by
  rfl
@[simp] theorem Base.openShadow_dram (block n : Nat) : (b.openShadow block n).dram = b.dram := by
  rfl
@[simp] theorem Base.openShadow_coh (block n : Nat) : (b.openShadow block n).coh = b.coh := by
  rfl
@[simp] theorem Base.openShadow_mov (block n : Nat) : (b.openShadow block n).mov = b.mov := by
  rfl
@[simp] theorem Base.openShadow_qos (block n : Nat) : (b.openShadow block n).qos = b.qos := by
  rfl
@[simp] theorem Base.openShadow_si (block n : Nat) : (b.openShadow block n).si = b.si := by
  rfl
@[simp] theorem Base.openShadow_pw (block n : Nat) : (b.openShadow block n).pw = b.pw := by
  rfl
@[simp] theorem Base.openShadow_boot (block n : Nat) : (b.openShadow block n).boot = b.boot := by
  rfl
@[simp] theorem Base.openShadow_dict (block n : Nat) : (b.openShadow block n).dict = b.dict := by
  rfl
@[simp] theorem Base.openShadow_pack (block n : Nat) : (b.openShadow block n).pack = b.pack := by
  rfl
@[simp] theorem Base.openShadow_out (block n : Nat) : (b.openShadow block n).out = b.out := by
  rfl
@[simp] theorem Base.openShadow_free (block n : Nat) : (b.openShadow block n).free = b.free := by
  rfl

/-! ### A block that is ready -/

@[simp] theorem Base.blockReady_pl (block : Nat) : (b.blockReady block).pl = b.pl := by
  rfl
@[simp] theorem Base.blockReady_regs (block : Nat) : (b.blockReady block).regs = b.regs := by
  rfl
@[simp] theorem Base.blockReady_shadow (block : Nat) : (b.blockReady block).shadow = b.shadow := by
  rfl
@[simp] theorem Base.blockReady_mg (block : Nat) : (b.blockReady block).mg = b.mg := by
  rfl
@[simp] theorem Base.blockReady_links (block : Nat) : (b.blockReady block).links = b.links := by
  rfl
@[simp] theorem Base.blockReady_hosts (block : Nat) : (b.blockReady block).hosts = b.hosts := by
  rfl
@[simp] theorem Base.blockReady_lay (block : Nat) : (b.blockReady block).lay = b.lay := by
  rfl
@[simp] theorem Base.blockReady_dram (block : Nat) : (b.blockReady block).dram = b.dram := by
  rfl
@[simp] theorem Base.blockReady_coh (block : Nat) : (b.blockReady block).coh = b.coh := by
  rfl
@[simp] theorem Base.blockReady_mov (block : Nat) : (b.blockReady block).mov = b.mov := by
  rfl
@[simp] theorem Base.blockReady_qos (block : Nat) : (b.blockReady block).qos = b.qos := by
  rfl
@[simp] theorem Base.blockReady_si (block : Nat) : (b.blockReady block).si = b.si := by
  rfl
@[simp] theorem Base.blockReady_pw (block : Nat) : (b.blockReady block).pw = b.pw := by
  rfl
@[simp] theorem Base.blockReady_boot (block : Nat) : (b.blockReady block).boot = b.boot := by
  rfl
@[simp] theorem Base.blockReady_dict (block : Nat) : (b.blockReady block).dict = b.dict := by
  rfl
@[simp] theorem Base.blockReady_pack (block : Nat) : (b.blockReady block).pack = b.pack := by
  rfl
@[simp] theorem Base.blockReady_out (block : Nat) : (b.blockReady block).out = b.out := by
  rfl
@[simp] theorem Base.blockReady_free (block : Nat) : (b.blockReady block).free = b.free := by
  rfl

/-! ### A vector of a logical device -/

@[simp] theorem Base.msixHost_pl (h v : Nat) : (b.msixHost h v).pl = b.pl := by
  unfold Base.msixHost; simp only []; split <;> [rfl; (split <;> simp)]
@[simp] theorem Base.msixHost_regs (h v : Nat) : (b.msixHost h v).regs = b.regs := by
  unfold Base.msixHost; simp only []; split <;> [rfl; (split <;> simp)]
@[simp] theorem Base.msixHost_shadow (h v : Nat) : (b.msixHost h v).shadow = b.shadow := by
  unfold Base.msixHost; simp only []; split <;> [rfl; (split <;> simp)]
@[simp] theorem Base.msixHost_flt (h v : Nat) : (b.msixHost h v).flt = b.flt := by
  unfold Base.msixHost; simp only []; split <;> [rfl; (split <;> simp)]
@[simp] theorem Base.msixHost_mg (h v : Nat) : (b.msixHost h v).mg = b.mg := by
  unfold Base.msixHost; simp only []; split <;> [rfl; (split <;> simp)]
@[simp] theorem Base.msixHost_links (h v : Nat) : (b.msixHost h v).links = b.links := by
  unfold Base.msixHost; simp only []; split <;> [rfl; (split <;> simp)]
@[simp] theorem Base.msixHost_lay (h v : Nat) : (b.msixHost h v).lay = b.lay := by
  unfold Base.msixHost; simp only []; split <;> [rfl; (split <;> simp)]
@[simp] theorem Base.msixHost_dram (h v : Nat) : (b.msixHost h v).dram = b.dram := by
  unfold Base.msixHost; simp only []; split <;> [rfl; (split <;> simp)]
@[simp] theorem Base.msixHost_coh (h v : Nat) : (b.msixHost h v).coh = b.coh := by
  unfold Base.msixHost; simp only []; split <;> [rfl; (split <;> simp)]
@[simp] theorem Base.msixHost_mov (h v : Nat) : (b.msixHost h v).mov = b.mov := by
  unfold Base.msixHost; simp only []; split <;> [rfl; (split <;> simp)]
@[simp] theorem Base.msixHost_qos (h v : Nat) : (b.msixHost h v).qos = b.qos := by
  unfold Base.msixHost; simp only []; split <;> [rfl; (split <;> simp)]
@[simp] theorem Base.msixHost_si (h v : Nat) : (b.msixHost h v).si = b.si := by
  unfold Base.msixHost; simp only []; split <;> [rfl; (split <;> simp)]
@[simp] theorem Base.msixHost_pw (h v : Nat) : (b.msixHost h v).pw = b.pw := by
  unfold Base.msixHost; simp only []; split <;> [rfl; (split <;> simp)]
@[simp] theorem Base.msixHost_boot (h v : Nat) : (b.msixHost h v).boot = b.boot := by
  unfold Base.msixHost; simp only []; split <;> [rfl; (split <;> simp)]
@[simp] theorem Base.msixHost_dict (h v : Nat) : (b.msixHost h v).dict = b.dict := by
  unfold Base.msixHost; simp only []; split <;> [rfl; (split <;> simp)]
@[simp] theorem Base.msixHost_pack (h v : Nat) : (b.msixHost h v).pack = b.pack := by
  unfold Base.msixHost; simp only []; split <;> [rfl; (split <;> simp)]
@[simp] theorem Base.msixHost_free (h v : Nat) : (b.msixHost h v).free = b.free := by
  unfold Base.msixHost; simp only []; split <;> [rfl; (split <;> simp)]

/-! ### A vector of the management endpoint -/

@[simp] theorem Base.msixMgmt_pl (v : Nat) : (b.msixMgmt v).pl = b.pl := by
  unfold Base.msixMgmt; split <;> simp
@[simp] theorem Base.msixMgmt_regs (v : Nat) : (b.msixMgmt v).regs = b.regs := by
  unfold Base.msixMgmt; split <;> simp
@[simp] theorem Base.msixMgmt_shadow (v : Nat) : (b.msixMgmt v).shadow = b.shadow := by
  unfold Base.msixMgmt; split <;> simp
@[simp] theorem Base.msixMgmt_flt (v : Nat) : (b.msixMgmt v).flt = b.flt := by
  unfold Base.msixMgmt; split <;> simp
@[simp] theorem Base.msixMgmt_links (v : Nat) : (b.msixMgmt v).links = b.links := by
  unfold Base.msixMgmt; split <;> simp
@[simp] theorem Base.msixMgmt_hosts (v : Nat) : (b.msixMgmt v).hosts = b.hosts := by
  unfold Base.msixMgmt; split <;> simp
@[simp] theorem Base.msixMgmt_lay (v : Nat) : (b.msixMgmt v).lay = b.lay := by
  unfold Base.msixMgmt; split <;> simp
@[simp] theorem Base.msixMgmt_dram (v : Nat) : (b.msixMgmt v).dram = b.dram := by
  unfold Base.msixMgmt; split <;> simp
@[simp] theorem Base.msixMgmt_coh (v : Nat) : (b.msixMgmt v).coh = b.coh := by
  unfold Base.msixMgmt; split <;> simp
@[simp] theorem Base.msixMgmt_mov (v : Nat) : (b.msixMgmt v).mov = b.mov := by
  unfold Base.msixMgmt; split <;> simp
@[simp] theorem Base.msixMgmt_qos (v : Nat) : (b.msixMgmt v).qos = b.qos := by
  unfold Base.msixMgmt; split <;> simp
@[simp] theorem Base.msixMgmt_si (v : Nat) : (b.msixMgmt v).si = b.si := by
  unfold Base.msixMgmt; split <;> simp
@[simp] theorem Base.msixMgmt_pw (v : Nat) : (b.msixMgmt v).pw = b.pw := by
  unfold Base.msixMgmt; split <;> simp
@[simp] theorem Base.msixMgmt_boot (v : Nat) : (b.msixMgmt v).boot = b.boot := by
  unfold Base.msixMgmt; split <;> simp
@[simp] theorem Base.msixMgmt_dict (v : Nat) : (b.msixMgmt v).dict = b.dict := by
  unfold Base.msixMgmt; split <;> simp
@[simp] theorem Base.msixMgmt_pack (v : Nat) : (b.msixMgmt v).pack = b.pack := by
  unfold Base.msixMgmt; split <;> simp
@[simp] theorem Base.msixMgmt_free (v : Nat) : (b.msixMgmt v).free = b.free := by
  unfold Base.msixMgmt; split <;> simp

/-! ### An answer to host software -/

@[simp] theorem Base.reply_pl (h : HostId) (r : Reply) : (b.reply h r).pl = b.pl := by
  simp [Base.reply]
@[simp] theorem Base.reply_regs (h : HostId) (r : Reply) : (b.reply h r).regs = b.regs := by
  simp [Base.reply]
@[simp] theorem Base.reply_shadow (h : HostId) (r : Reply) : (b.reply h r).shadow = b.shadow := by
  simp [Base.reply]
@[simp] theorem Base.reply_flt (h : HostId) (r : Reply) : (b.reply h r).flt = b.flt := by
  simp [Base.reply]
@[simp] theorem Base.reply_mg (h : HostId) (r : Reply) : (b.reply h r).mg = b.mg := by
  simp [Base.reply]
@[simp] theorem Base.reply_links (h : HostId) (r : Reply) : (b.reply h r).links = b.links := by
  simp [Base.reply]
@[simp] theorem Base.reply_lay (h : HostId) (r : Reply) : (b.reply h r).lay = b.lay := by
  simp [Base.reply]
@[simp] theorem Base.reply_dram (h : HostId) (r : Reply) : (b.reply h r).dram = b.dram := by
  simp [Base.reply]
@[simp] theorem Base.reply_coh (h : HostId) (r : Reply) : (b.reply h r).coh = b.coh := by
  simp [Base.reply]
@[simp] theorem Base.reply_mov (h : HostId) (r : Reply) : (b.reply h r).mov = b.mov := by
  simp [Base.reply]
@[simp] theorem Base.reply_qos (h : HostId) (r : Reply) : (b.reply h r).qos = b.qos := by
  simp [Base.reply]
@[simp] theorem Base.reply_si (h : HostId) (r : Reply) : (b.reply h r).si = b.si := by
  simp [Base.reply]
@[simp] theorem Base.reply_pw (h : HostId) (r : Reply) : (b.reply h r).pw = b.pw := by
  simp [Base.reply]
@[simp] theorem Base.reply_boot (h : HostId) (r : Reply) : (b.reply h r).boot = b.boot := by
  simp [Base.reply]
@[simp] theorem Base.reply_dict (h : HostId) (r : Reply) : (b.reply h r).dict = b.dict := by
  simp [Base.reply]
@[simp] theorem Base.reply_pack (h : HostId) (r : Reply) : (b.reply h r).pack = b.pack := by
  simp [Base.reply]
@[simp] theorem Base.reply_free (h : HostId) (r : Reply) : (b.reply h r).free = b.free := by
  simp [Base.reply]

/-! ### An event record -/

@[simp] theorem Base.addRecord_pl (h : Nat) (log : EvLog) (form : EvForm) (msg : Option Msg) (n : Nat) : (b.addRecord h log form msg n).pl = b.pl := by
  unfold Base.addRecord; simp only []; split <;> simp
@[simp] theorem Base.addRecord_regs (h : Nat) (log : EvLog) (form : EvForm) (msg : Option Msg) (n : Nat) : (b.addRecord h log form msg n).regs = b.regs := by
  unfold Base.addRecord; simp only []; split <;> simp
@[simp] theorem Base.addRecord_shadow (h : Nat) (log : EvLog) (form : EvForm) (msg : Option Msg) (n : Nat) : (b.addRecord h log form msg n).shadow = b.shadow := by
  unfold Base.addRecord; simp only []; split <;> simp
@[simp] theorem Base.addRecord_mg (h : Nat) (log : EvLog) (form : EvForm) (msg : Option Msg) (n : Nat) : (b.addRecord h log form msg n).mg = b.mg := by
  unfold Base.addRecord; simp only []; split <;> simp
@[simp] theorem Base.addRecord_links (h : Nat) (log : EvLog) (form : EvForm) (msg : Option Msg) (n : Nat) : (b.addRecord h log form msg n).links = b.links := by
  unfold Base.addRecord; simp only []; split <;> simp
@[simp] theorem Base.addRecord_lay (h : Nat) (log : EvLog) (form : EvForm) (msg : Option Msg) (n : Nat) : (b.addRecord h log form msg n).lay = b.lay := by
  unfold Base.addRecord; simp only []; split <;> simp
@[simp] theorem Base.addRecord_dram (h : Nat) (log : EvLog) (form : EvForm) (msg : Option Msg) (n : Nat) : (b.addRecord h log form msg n).dram = b.dram := by
  unfold Base.addRecord; simp only []; split <;> simp
@[simp] theorem Base.addRecord_coh (h : Nat) (log : EvLog) (form : EvForm) (msg : Option Msg) (n : Nat) : (b.addRecord h log form msg n).coh = b.coh := by
  unfold Base.addRecord; simp only []; split <;> simp
@[simp] theorem Base.addRecord_mov (h : Nat) (log : EvLog) (form : EvForm) (msg : Option Msg) (n : Nat) : (b.addRecord h log form msg n).mov = b.mov := by
  unfold Base.addRecord; simp only []; split <;> simp
@[simp] theorem Base.addRecord_qos (h : Nat) (log : EvLog) (form : EvForm) (msg : Option Msg) (n : Nat) : (b.addRecord h log form msg n).qos = b.qos := by
  unfold Base.addRecord; simp only []; split <;> simp
@[simp] theorem Base.addRecord_si (h : Nat) (log : EvLog) (form : EvForm) (msg : Option Msg) (n : Nat) : (b.addRecord h log form msg n).si = b.si := by
  unfold Base.addRecord; simp only []; split <;> simp
@[simp] theorem Base.addRecord_pw (h : Nat) (log : EvLog) (form : EvForm) (msg : Option Msg) (n : Nat) : (b.addRecord h log form msg n).pw = b.pw := by
  unfold Base.addRecord; simp only []; split <;> simp
@[simp] theorem Base.addRecord_boot (h : Nat) (log : EvLog) (form : EvForm) (msg : Option Msg) (n : Nat) : (b.addRecord h log form msg n).boot = b.boot := by
  unfold Base.addRecord; simp only []; split <;> simp
@[simp] theorem Base.addRecord_dict (h : Nat) (log : EvLog) (form : EvForm) (msg : Option Msg) (n : Nat) : (b.addRecord h log form msg n).dict = b.dict := by
  unfold Base.addRecord; simp only []; split <;> simp
@[simp] theorem Base.addRecord_pack (h : Nat) (log : EvLog) (form : EvForm) (msg : Option Msg) (n : Nat) : (b.addRecord h log form msg n).pack = b.pack := by
  unfold Base.addRecord; simp only []; split <;> simp
@[simp] theorem Base.addRecord_free (h : Nat) (log : EvLog) (form : EvForm) (msg : Option Msg) (n : Nat) : (b.addRecord h log form msg n).free = b.free := by
  unfold Base.addRecord; simp only []; split <;> simp

/-! ### Results of meanings -/

/-- A command that the part can act on changes the base as its meaning says, and nothing else. -/
theorem State.whenBase_pos {s : State} {p : Base → Bool} {f : Base → Base} {x : Base} (h : p s.base = true) (e : f s.base = x) :
    s.whenBase p f = .next { s with base := x } := by
  subst e; simp [State.whenBase, State.then_, State.onBase, h]

/-- A command that the part cannot act on changes nothing. -/
theorem State.whenBase_neg {s : State} {p : Base → Bool} {f : Base → Base} (h : p s.base = false) : s.whenBase p f = .next s := by
  simp [State.whenBase, State.then_, State.onBase, h]

theorem State.then_eq {s : State} {f : Base → Base} {x : Base} (e : f s.base = x) : s.then_ f = .next { s with base := x } := by
  subst e; rfl

/-- A command of a link that can train and is in a state the command acts in. -/
theorem State.training_pos {s : State} {k : Nat} {st : LinkState → Bool} {f : Base → Base} {x : Base} (hc : s.base.canTrain k = true)
    (hs : st (s.base.port k).link = true) (e : f s.base = x) : s.training k st f = .next { s with base := x } :=
  State.whenBase_pos (by simp [hc, hs]) e

/-- A command of a link that cannot train, or is in another state. -/
theorem State.training_neg {s : State} {k : Nat} {st : LinkState → Bool} {f : Base → Base}
    (h : s.base.canTrain k = false ∨ st (s.base.port k).link = false) : s.training k st f = .next s :=
  State.whenBase_neg (by rcases h with h | h <;> simp [h])

/-- The endpoint answers when it offers every register. -/
theorem Base.mgmtUp_of_full {b : Base} (h : b.mgmtFull = true) : b.mgmtUp = true := by
  simp only [Base.mgmtFull, Bool.and_eq_true] at h; exact h.1.1

/-- The part is alive when its firmware runs. -/
theorem Base.alive_of_fw {b : Base} (h : b.fwRuns = true) : b.alive = true := by
  simp only [Base.fwRuns, Bool.and_eq_true] at h; exact h.1.1.1

/-- The part is alive when its endpoint answers. -/
theorem Base.alive_of_mgmt {b : Base} (h : b.mgmtUp = true) : b.alive = true := by
  simp only [Base.mgmtUp, Bool.and_eq_true] at h; exact h.1.1

end Sys2Proof.Machine
end

