-- ==== Sys2Proof/Machine/HostSpace.lean ====
section
/-! DEFINITION. Machine/HostSpace.lean: what host software reads of a logical device over CXL.io: its identity (R6), the label-extension
DVSEC (R116), the Memory_Active bit (R109), and BAR0 with its areas (R111 to R113). Where the manual names a register and gives it
no layout, the value is a structure and not a word. -/

namespace Sys2Proof.Machine

/-! ### Identity -/

/-- Gletex's PCI-SIG vendor ID (R6). -/
def vendorId : Nat := 0x1F3A

/-- The device ID of logical devices 0 to 15 and of the FM-owned logical device (R6). -/
def ldDeviceId : Nat := 0x0129

/-- Word 0 of a logical device's configuration space: vendor ID and device ID. -/
def ldIdWord : Word := packed [(0, vendorId), (16, ldDeviceId)]

/-- Memory_Active of the CXL device DVSEC (R109). -/
def Base.memoryActiveBit (b : Base) : Bool := b.boot.memActive

/-! ### The label-extension DVSEC (R116) -/

/-- A word of the DVSEC by its offset. The header's next-capability pointer is set by boot code and not stated (entry 128). -/
def Base.dvsecWord (b : Base) (h off : Nat) : Word :=
  let d := b.ld h
  match off with
  | 0x00 => packed [(0, 0x0023), (16, 1), (20, Config.dvsecNext % 4096)]
  | 0x04 => packed [(0, vendorId), (16, 1), (20, 0x20)]
  | 0x08 => 0x00000001
  | 0x0C => packed [(0, 1), (1, 1), (16, 0x010)]
  | 0x10 => packed [(0, flag d.lblEnable), (8, d.slotCode.toNat)]
  | 0x14 => packed [(0, flag d.lblActive), (1, flag (decide (2 ≤ (b.port (b.portOf h)).flitFormat) && b.carried h)), (16, d.substCount)]
  | 0x18 => b.reg (Reg.HOST_LABEL_RANGE h)
  | 0x1C => b.reg (Reg.HOST_DEFAULT_LABEL h) &&& 0xFFFF
  | _ => 0

/-! ### BAR0 (R111) -/

/-- The areas of a logical device's BAR0. -/
inductive LdArea where
  | component | device | gletex | msix
deriving DecidableEq, Repr

/-- The area of an offset of BAR0, 256 KiB in all. -/
def ldArea (off : Nat) : Option LdArea :=
  if off < 0x10000 then some .component else if off < 0x20000 then some .device else if off < 0x30000 then some .gletex
  else if off < 0x40000 then some .msix else none

/-- The areas that the register locator DVSEC points to, with their offsets. -/
def registerLocator : List (LdArea × Nat) := [(.component, 0), (.device, 0x10000), (.gletex, 0x20000)]

/-- The IDE capability and state of a port's stream (R92, R114): containment mode with AES-GCM-256; 0 not established, 1 secure, 2 insecure. -/
structure IdeCap where
  containment : Bool := true
  skid : Bool := false
  aesGcm256 : Bool := true
  status : Nat
deriving DecidableEq, Repr

/-- The CXL component registers: the HDM decoder capability, RAS and IDE. -/
structure LdComponent where
  decoders : List Decoder
  ras : List Word
  ide : IdeCap
deriving DecidableEq, Repr

def Base.ldComponent (b : Base) (h : Nat) : LdComponent :=
  { decoders := (b.ld h).decoders, ras := (b.ld h).ras, ide := { status := (b.port (b.portOf h)).ide } }

/-- The CXL device registers beside the primary mailbox, whose commands complete at once: which event logs hold records (R390, R391), and
the state of the media and of the firmware. -/
structure LdDevice where
  events : List EvLog
  fatal : Bool
  mediaReady : Bool
  mailboxReady : Bool
deriving DecidableEq, Repr

def Base.ldDevice (b : Base) (h : Nat) : LdDevice :=
  let held := fun l : EvLog => b.flt.records.any fun r => r.ld.toNat == h && decide (r.log = l)
  { events := [EvLog.informational, .warning, .failure, .fatal, .dynamicCapacity].filter held
    fatal := b.flt.fatal, mediaReady := b.boot.memActive, mailboxReady := b.fwRuns }

/-- A word of the Gletex area (R112): HEAD and QSTATUS of mover queue 4n + q; the doorbell is write-only. -/
def Base.gletexWord (b : Base) (h off : Nat) : Word :=
  let d := off - 0x20000
  let q := b.queue (4 * h + d / 0x20)
  if off < 0x20000 ∨ 4 ≤ d / 0x20 then 0
  else match d % 0x20 with
    | 4 => BitVec.ofNat 32 (q.head % 4096)
    | 8 => BitVec.ofNat 32 q.state
    | _ => 0

/-- A word of the MSI-X table and of the pending-bit array behind it (R111, R113): four dwords for each of the 8 vectors. -/
def Base.ldMsixWord (b : Base) (h i : Nat) : Word :=
  let d := b.ld h
  if i < 32 then (if i % 4 = 3 then BitVec.ofNat 32 (flag (d.msixMask.getLsbD (i / 4))) else Tab.get 0 d.msixTable (3 * (i / 4) + i % 4))
  else if i = 32 then d.msixPending.setWidth 32 else 0

end Sys2Proof.Machine
end

