-- ==== Sys2Proof/WellFormed.lean ====
section
/-! DEFINITION. WellFormed.lean: which operands a command can have, beyond what their types say: numbers of canes, symbols, scopes,
blocks and identities that exist, addresses of whole lines, and ranges that do not run backwards. -/

namespace Sys2Proof

/-- Link widths (R59): none, x1, x2, x4 and x8. -/
def widthWf (n : Nat) : Bool := n == 0 || n == 1 || n == 2 || n == 4 || n == 8

/-- The link partner offers a width. -/
def LinkOffer.wf (o : LinkOffer) : Bool := widthWf o.width.val

/-- Each lane is measured once. -/
def eyesWf (l : List LaneEye) : Bool := decide (l.map fun e => e.lane).Nodup

/-- The device physical address of a line (R16). -/
def lineWf (a : Dpa) : Bool := a.toNat % 64 == 0

/-- The request names a line. -/
def MemReq.wf (r : MemReq) : Bool :=
  r.hpa.toNat % 64 == 0 && match r.upset with | .mapPattern flips _ => flips != 0 | _ => true

/-- A decoder's position lies among its ways (R96). -/
def DecoderCfg.wf (d : DecoderCfg) : Bool := decide (d.pos.toNat < d.ways.toNat)

/-- A line has 80 symbols (R138), and each is disturbed once. -/
def noiseWf (l : Noise) : Bool := (l.all fun e => decide (e.1.toNat < 80)) && decide (l.map fun e => e.1).Nodup

/-- A row has 16 lines (R7). -/
def rowNoiseWf (l : List Noise) : Bool := decide (l.length ≤ 16) && l.all noiseWf

/-- A row bus has 1,328 segments of 8 canes (R329). -/
def CaneUnit.wf : CaneUnit → Bool
  | .seg _ n => decide (n.toNat < 1328)
  | .pos _ _ => true
  | .heartbeat _ => true

/-- A row bus has 10,624 canes. -/
def busCaneWf (c : BitVec 14) : Bool := decide (c.toNat < 10624)

/-- The identities of R465. -/
def identityWf (who : BitVec 5) : Bool := decide (who.toNat ≤ 22)

/-- The mailbox banks of R466. -/
def bankWf (b : BitVec 5) : Bool := decide (b.toNat ≤ 21)

/-- A plan has one retraining item for a channel, samples a diode once, and names a segment that exists (R36). -/
def Plan.wf (p : Plan) : Bool :=
  decide (p.pauses.map fun e => e.1).Nodup && decide p.sensors.Nodup &&
    match p.segment with
    | some e => decide (e.2.toNat < 1328)
    | none => true

/-- The operands of a command exist. -/
def Instr.wf : Instr → Bool
  | .planComplete plan => plan.wf
  | .configurationComplete _ offer => offer.wf
  | .eqPhase2End _ _ eyes => eyesWf eyes
  | .eyeCheck _ eyes => eyesWf eyes
  | .l0pEntry _ width => widthWf width.val
  | .memRd r => r.wf
  | .memRdData r => r.wf
  | .memInv r _ => r.wf
  | .memSpecRd r => r.wf
  | .memRdFwd r _ => r.wf
  | .memWr r _ _ => r.wf
  | .memWrPtl r _ _ => r.wf
  | .biConflict _ _ _ dpa => lineWf dpa
  | .biRsp _ _ dpa _ => lineWf dpa
  | .decoderCommit _ _ d => d.wf
  | .dcAddRequest _ base limit => decide (base ≤ limit)
  | .dcExtentAccept _ base limit => decide (base ≤ limit)
  | .dcExtentRelease _ base limit => decide (base ≤ limit)
  | .dcForcedRelease _ base limit => decide (base ≤ limit)
  | .rangeHoldEnd _ base limit => decide (base ≤ limit)
  | .getPoisonList _ base limit => decide (base ≤ limit)
  | .scanMedia _ base limit => decide (base ≤ limit)
  | .channelSelect _ noise _ => noiseWf noise
  | .lineDecode _ noise => noiseWf noise
  | .spareMoveRowInStage _ noise => rowNoiseWf noise
  | .scrubRowDecoded _ noise => rowNoiseWf noise
  | .scrubVerifyDone _ noise => rowNoiseWf noise
  | .descFetch _ noise => noiseWf noise
  | .rowBusCycle _ _ noise => rowNoiseWf noise
  | .injArmNextWrite v => v.getLsbD 0
  | .injRewriteNow v => v.getLsbD 1
  | .injClearAll v => v.getLsbD 2
  | .lblStagePush v => v.getLsbD 0
  | .lblStageDiscard v => v.getLsbD 1
  | .caneTestShift u => u.wf
  | .caneTestResult u _ => u.wf
  | .caneTestShiftBack u => u.wf
  | .fullwidthTestDone _ failed _ weakest _ => failed.all busCaneWf && busCaneWf weakest && decide failed.Nodup
  | .reactionTimerExpire scope => decide (scope.toNat ≤ 48)
  | .escalateTimerExpire scope => decide (scope.toNat ≤ 48)
  | .shadowClose block => decide (block.toNat ≤ 18)
  | .bootExit who => identityWf who
  | .wdogKick who _ => identityWf who
  | .diagWindowRead _ bytes => decide (0 < bytes.toNat) && decide (bytes.toNat ≤ 512)
  | .mbxPost who _ _ => identityWf who
  | .mbxPop who _ => identityWf who
  | .mbxCrossedClear who _ => identityWf who
  | .mbxLockRead who _ => identityWf who
  | .mbxLockRelease who _ _ => identityWf who
  | .mbxWake who b => identityWf who && bankWf b
  | .mbxWakeDone b => bankWf b
  | .domainPowerOff b => bankWf b
  | .epochBoundary | .firmwareWatchdog | .commit _ _ | .registerWrite _ _ _ _ | .deferClear _ | .countClear _ _ | .hostCountClear _ _
  | .layoutCountClear _ | .dramCountClear _ | .eccCountClear _ | .chEccClear _ _ | .cohCountClear _ | .moverCountClear _
  | .qosCountClear _ | .qosHistClear | .siCountClear _ | .ptCountClear _ | .faultCountClear _ | .mgmtCountClear _ | .perstAssert _
  | .perstRelease _ | .refclkLost _ | .refclkRestored _ | .detectRetry _ | .receiverDetected _ _ | .pollingComplete _ _
  | .pollingTimeout _ _ | .symbolLockDone _ _ | .configurationTimeout _ | .rateStepComplete _ _ _ _ | .eqFailed _ _
  | .phase3PresetRequest _ _ | .flitReceived _ _ | .flitAlignment _ | .alignmentLost _ | .lockLost _ | .adaptFreeze _
  | .hostRecoveryRequest _ _ | .recoveryComplete _ _ _ | .l0pExit _ | .l1Entry _ | .l12Entry _ | .electricalIdleExit _
  | .partLinkExit _ | .wakeTimeout _ | .hostLinkReset _ _ | .marginSessionStart _ | .marginSessionEnd _ | .portHoldDetect _
  | .portRetrain _ | .portReeq _ | .eyeCheckDisable _ | .laneReadmit _ | .laneForceExclude _ | .pllUnlock _ | .serdesRailBrownout
  | .serdesRailRestored | .labelSlot _ _ _ _ | .labelExtensionEnable _ _ _ | .ideKeySet _ _ _ | .setOctantTolerance _ _ _ _
  | .getOctantTolerance _ _ | .clearEventRecords _ _ | .msixEnable _ _ _ _ | .ldConventionalReset _ | .sanitize _ | .fillComplete _
  | .fillFallback _ _ | .fillTableFull | .xlateDpaHi _ | .initmapQuery _ | .refreshTick _ _ | .starvation _ | .trfComplete _ _
  | .throttleExpire _ _ _ | .driftVisit _ _ | .retrainSlice _ _ | .trainCtrlStart _ | .channelTraining _ _
  | .storedTrainingLoad _ | .healClosed _ _ _ _ | .historyExpire _ | .bucketTick | .spareRowAssigned _ | .scrubRow _
  | .scrubCycleLate _ | .snoopTimeout _ _ | .sweepDone | .trackersFull
  | .hostIsolateClear _ | .moverDoorbell _ _ _ | .descStart _ | .descComplete _ | .claimSlow _ | .moverStallReset | .moverRecovery
  | .lblViewSel _ | .sweepLate | .fullwidthTestStart _ | .siTestChannel _ | .siFullwidthNow _
  | .droopWarn _ _ _ | .droopFault _ _ _ | .droopHoldEnd _ | .heartbeatLoss _ | .guardExit _ | .guardStatusRead _ _
  | .heartbeatRecovery _ | .powerStateEntry _ _ | .sreIssue _ | .chSetPowerOff _ | .setExitComplete _ | .octantDrop _
  | .sensorSample _ _ _ _ | .thermalTrip _ _ _ _ | .faultMessageAccept | .faultAck _ | .faultNPulseEnd | .releaseFaultN
  | .fenceClear _ | .resetCtrl _ | .flogSel _ | .flogRd _ | .mramLogPersist | .internalColdResetRelease _ _ _ _ | .imageLoaded _ _
  | .memoryActive | .resetCmdWarm _ | .resetCmdCold _ | .fmResetCommand | .watchdogExpire | .bootTimerExpire | .fuseRead _ _ _
  | .fuseProgram _ _ _ | .fuseProgramDone _ | .fuseLock _ | .marginScan _ | .graftAppend _ _ _ | .voidWords _ _ | .lifecycleReturn _
  | .lifecycleVoid _ | .jtagUnlock _ | .lifecycleAdvance _ _ | .raiseSvnFloor _ _ | .firmwareSlotWrite _ _ | .rcvGo _ _
  | .rcvChunkDone _ | .rcvFinish _ _ | .spdmGetVersion _ | .spdmGetCapabilities _ | .spdmNegotiateAlgorithms _ _ | .spdmGetDigests _
  | .spdmGetCertificate _ _ | .spdmChallenge _ _ | .spdmGetMeasurements _ _ _ | .spdmKeyExchange _ _ _ | .spdmFinish _ _ _
  | .spdmEndSession _ _ | .spdmHeartbeat _ _ | .mgmtPerst | .mgmtPerstRelease | .barUnmapped _ _ | .diagWindowWrite _ _
  | .appliedAddr _ | .locksWrite _ | .snapSel _ | .mctpSetEndpointId _ _ | .mctpGetEndpointId _ | .mctpGetEndpointUuid _
  | .mctpGetVersionSupport _ | .mctpGetMessageTypeSupport _ | .mctpGetVendorMsgSupport _ | .fmApiCommand _ | .i3cEntdaa _
  | .i3cSetdasa _ _ | .odRead _ _ _ _ | .odWrite _ _ _ _ | .versionOpen _ | .versionDiscard _ | .versionCommit _ | .versionStored _
  | .versionConfirm _ | .versionRollback _ | .confirmWindowExpire | .calendarSet _ _ _ | .lifetimePersist | .rindTapFrame _
  | .rindMsTick | .rindCheckpoint | .rindPeriodRecord | .rindPowerUp .. | .rindSealDelivery | .rindGetInfo _ | .rindGetRecord _ _
  | .rindCloseInterval _ | .rindChallenge _ _ | .rindVoltageExcursion | .rindClockFault | .vddAuxBrownout | .coreRailBrownout _
  | .vddRindLoss | .jtagInstruction _ | .tapReset => true

end Sys2Proof
end

