-- ==== Sys2Proof/Tests/Slice0.lean ====
section
/-! SUPPORT. Tests/Slice0.lean: the model's own tests: states that meet the hypotheses of the statements, ill-formed commands, and the
manual's worked examples. -/

namespace Sys2Proof.Tests

open Sys2Proof Sys2Proof.Machine

/-- The core after a boot: firmware runs and memory is active. -/
def live : Base := { State.reset.base with boot := { coldHeld := false, run := true, memActive := true } }

/-- A state whose core is `b`. -/
def St (b : Base) : State := { base := b }

/-- The core at another time: epochs since the cold reset, and the cycle of the epoch. -/
def at_ (b : Base) (epochs phase : Nat) : Base := { b with pl := { b.pl with epochs := epochs, phase := phase } }

/-- A link in L0 at 64 GT/s with CXL. -/
def up : Port := { enabled := true, link := .l0, rate := 5, width := 8, activeWidth := 8, detected := 255, cxl := true }

/-- Port block 0 with a link of eight lanes in use. -/
def linked (p : Port) : Base :=
  { live with links := { ports := [(0, p)], lanes := (List.range 8).map fun l => (l, ({ bitLock := true, symLock := true, blockLock := true, logical := l } : Lane)) } }

/-- Host 0 on port block 0: bound, with block 0 to 15 its own and a decoder over them. -/
def hosted : Base :=
  let b := linked up
  let b := (((((b.setReg (Reg.HOST_BIND 0) 1).setReg (Reg.HOST_PORT_MASK 0) 0xFFFF).setReg (Reg.PORT_LD_MODE 0) 1).setReg (Reg.ALLOC_BASE 0 0) 0x80000000).setReg
    (Reg.ALLOC_BASE 0 0 + 4) 15).setReg (Reg.FW_BOUND_BASE 0 0) 0x80000000
  let d : Decoder := { size := 4294967296, committed := true }
  (b.setReg (Reg.FW_BOUND_BASE 0 0 + 4) 15).setLd 0 { decoders := [d, {}, {}, {}] }

/-- Every channel trained. -/
def trained (b : Base) : Base := { b with dram := { b.dram with chans := (List.range 64).map fun k => (k, { train := .trained }) } }

/-- The command answers a next state with the property. -/
def took (c : Instr) (s : State) (p : State → Bool) : Bool :=
  match exec c s with
  | .next t => p t
  | _ => false

/-! ### Hypotheses that a state meets, by statement; each line of a theorem is one clause -/


theorem test_hyps_step : ({ State.reset with pending := [.epochBoundary] } : State).pending = [Instr.epochBoundary] ∧ State.reset.pending = [] := by decide

theorem test_hyps_register_write :
    live.mgmtFull = true ∧ ((regRow? 0x44).any fun r => r.access == .rws && r.group == some 0) = true ∧ ownRow 0x44 = false ∧ live.absent 0x44 = false ∧
    ((regRow? 0xE0034).any fun r => r.access == .rws && r.group == some 12) = true ∧ ownRow 0xE0034 = false ∧ live.absent 0xE0034 = false ∧
    live.mg.locks.getLsbD 28 = false ∧ live.dict.commitStep < 5 ∧ 5 ≤ ({ live with dict := { live.dict with commitStep := 5 } } : Base).dict.commitStep ∧
    ({ live with mg := { live.mg with locks := 0x10000000 } } : Base).mg.locks.getLsbD 28 = true ∧ (0 : BitVec 4) ≠ 15 := by decide

theorem test_hyps_commit : live.mgmtFull = true ∧ live.fwRuns = true ∧ (0x1001 : BitVec 16) ≠ 0 ∧ live.dict.commitStep < 5 ∧
    (0x1001 : BitVec 16).getLsbD 12 = true ∧ (0x1001 : BitVec 16).getLsbD 1 = false ∧ groupOf 0x44 = some 0 ∧ groupOf 0xE0034 = some 12 ∧
    5 ≤ ({ live with dict := { live.dict with commitStep := 5 } } : Base).dict.commitStep ∧ (at_ live 1 0).mg.undoAt ≠ (at_ live 1 0).now := by decide

theorem test_hyps_counter_clears : live.mgmtFull = true ∧ live.present_ 14 = true ∧ fld 0xFFFF 15 0 ≠ 3 ∧ fld 3 15 0 = 3 ∧
    ({ live with pl := { live.pl with newest := some { epoch := 0, seq := 1, interval := 1, counts := {} } } } : Base).pl.newest.isSome = true := by decide

theorem test_hyps_epoch_and_plan : live.alive = true ∧ live.fwRuns = true ∧ live.pl.epoch + 1 ≠ 0 ∧
    ({ live with pl := { live.pl with epoch := 0xFFFFFFFFFFFF } } : Base).pl.epoch + 1 = 0 ∧
    live.snapshotDue = false ∧ (at_ (live.setReg Reg.SNAPSHOT_CFG 0x1FFFF) 65535 0).snapshotDue = true ∧
    ({ live with pl := { live.pl with inactiveDone := true } } : Base).pl.inactiveDone = true ∧ live.pl.inactiveDone = false ∧
    (16 ≤ ({ live with pl := { live.pl with missed := 16 } } : Base).pl.missed ∧ (live.recentResets 17).length < 3) ∧ live.pl.missed < 16 ∧
    ((live.openShadow 16 1).flt.shadows.any fun x => x.block != 17) = true ∧ ((live.openShadow 17 1).flt.shadows.any fun x => x.block == 17) = true := by decide

theorem test_hyps_resets_refused :
    3 ≤ (({ live with flt := { live.flt with history := [(17, [1, 1, 1])] } } : Base).recentResets 17).length := by
  simp [Base.recentResets, Tab.get, live, State.reset]

theorem test_hyps_messages : live.boot.run = true ∧ live.shadowsOf 0x3F0 = [] ∧ Kind.cls .dirEccRecovered ≠ .fatal ∧
    (live.flt.outbox.filter fun x => x.source == 0x3F0).length < 2 ∧
    (live.openShadow 3 100000).shadowsOf (0x80 + 3) ≠ [] ∧ Kind.cls .fillFallback ≠ .fatal ∧ Kind.cls .resetRateExceeded = .fatal ∧
    ((live.openShadow 3 1).flt.shadows.any fun x => dependent x.block (0x80 + 3)) = true ∧ ((live.openShadow 4 1).flt.shadows.any fun x => !dependent x.block (0x80 + 3)) = true ∧
    (live.flt.outbox.filter fun x => x.source == 0x5FF).length ≤ 2 := by decide

theorem test_hyps_training :
    (∀ l ∈ [LinkState.detect, .hotReset, .disabled], (linked { up with link := l }).canTrain 0 = true ∧ ((linked { up with link := l }).port 0).link = l) ∧
    (∀ l ∈ [LinkState.polling, .symbolLock],
     let b := linked { up with link := l }
     let kept := (b.lanesOf 0).filter fun l => (b.port 0).detected.getLsbD (l - b.laneBase 0) && !(b.lane l).excluded
     (b.port 0).link = l ∧ b.canTrain 0 = true ∧ kept ≠ [] ∧ (∀ l ∈ kept, (0xFF : BitVec 8).getLsbD (l - b.laneBase 0) = true) ∧
     (∀ l ∈ kept, (0 : BitVec 8).getLsbD (l - b.laneBase 0) = false) ∧ ∃ l ∈ kept, (0x80 : BitVec 8).getLsbD (l - b.laneBase 0) = true) ∧
    (let b := linked { up with link := .configuration }
     b.canTrain 0 = true ∧ (b.port 0).link = .configuration ∧ bestWidth (b.laneUsable 0) (b.laneBase 0) (b.laneCount 0) 8 false = some (8, false)) ∧
    (let b := linked { up with link := .configuration, detected := 0 }
     b.canTrain 0 = true ∧ bestWidth (b.laneUsable 0) (b.laneBase 0) (b.laneCount 0) 8 false = none) := by decide

theorem test_hyps_best_width : widthFits (fun l => l == 4) 4 4 1 false = true ∧
    bestWidth (fun l => l == 4) 4 4 8 true = some (1, false) := by decide

/-- Stage 5 from 2.5 GT/s, with what phase 2 measured at 64 GT/s. -/
def stepping (link : LinkState) : Base :=
  linked { up with link := link, rate := 0, stepping := true, phase2Rate := 5, phase2 := [{ lane := 7, height := 200, width := 200 }] }

theorem test_hyps_rates :
    (∀ l ∈ [LinkState.l0, .rateStep],
     let b := stepping l
     b.canTrain 0 = true ∧ (b.port 0).link = l ∧ (b.port 0).stepping = true ∧ (b.port 0).rate ≤ 5 ∧ (b.port 0).rate < 5 ∧
     ((b.lanesOf 0).filter fun l => decide ((b.lane l).logical < (b.port 0).width) && (0 : BitVec 8).getLsbD (l - b.laneBase 0)) = [] ∧
     ((b.lanesOf 0).filter fun l => decide ((b.lane l).logical < (b.port 0).width) && (0xFF : BitVec 8).getLsbD (l - b.laneBase 0)).length = (b.port 0).width ∧
     ((b.lanesOf 0).filter fun l => decide ((b.lane l).logical < (b.port 0).width) && (0x80 : BitVec 8).getLsbD (l - b.laneBase 0)) = [7] ∧
     (b.port 0).phase2Rate = 5 ∧ ((b.port 0).phase2.map fun e => e.lane).Nodup ∧ ∀ e ∈ (b.port 0).phase2, (b.lane (b.laneBase 0 + e.lane.toNat)).logical < (b.port 0).width) ∧
    (let back := (stepping .rateStep).setPort 0 { (stepping .rateStep).port 0 with link := .l0, phase2 := [] }
     let c := [7].foldl Base.excludeLane back
     bestWidth (c.laneUsable 0) (c.laneBase 0) (c.laneCount 0) (c.port 0).offered (c.port 0).reversed = some (4, (c.port 0).reversed)) ∧
    (let b := linked { up with link := .recoveryEq, phase2Rate := 5 }
     b.canTrain 0 = true ∧ (b.port 0).link = .recoveryEq ∧ (b.port 0).rate = 5 ∧ 2 ≤ (b.port 0).phase2Rate ∧
     (let e : LaneEye := { lane := 7, height := 255, width := 255 }
      (b.links.eqStart.find? fun x => x.1 == 8 * 7 + 5) = none ∧ e.lane.toNat < b.laneCount 0 ∧ (b.lane 7).logical < (b.port 0).width) ∧
     (let c := { b with links := { b.links with eqStart := [(8 * 7 + 5, 1)] } }
      ((c.links.eqStart.find? fun x => x.1 == 8 * 7 + 5).map (·.2)) ≠ none ∧ 0 < c.eyeFloor 0 5 ∧ c.eyeFloor 0 5 ≤ 255)) ∧
    txAccepted 5 (.preset 10) = true := by decide

/-- A port in a secure stream of CXL.mem. -/
def secure (n : Nat) : Base := linked { up with ide := 1, ideAgg := 4, ideFlits := n }

theorem test_hyps_flits :
    (linked up).canTrain 0 = true ∧ ((linked up).port 0).link = .l0 ∧ ((linked up).port 0).ide ≠ 1 ∧ ((linked up).port 0).flitFormat ≠ 0 ∧ ((linked up).port 0).rate = 5 ∧
    ((linked { up with link := .l0p }).port 0).link = .l0p ∧
    (((secure 2).port 0).ide = 1 ∧ ((secure 2).port 0).ideFlits + 1 < 4 ∧ 4 ≤ ((secure 3).port 0).ideFlits + 1 ∧ ((secure 3).port 0).flitFormat ≠ 1) ∧
    (((linked { up with rate := 4 }).port 0).flitFormat ≠ 0 ∧ ((linked { up with rate := 4 }).port 0).rate ≠ 5) ∧
    4 ≤ ((linked { up with goodRun := 4 }).port 0).goodRun ∧ 1024 ≤ ((linked { up with idleRun := 1024 }).port 0).idleRun := by decide

theorem test_hyps_recovery :
    (let b := linked { up with aligned := true, badRun := 8 }
     b.canTrain 0 = true ∧ (b.port 0).link = .l0 ∧ (b.port 0).rate = 5 ∧ (b.port 0).aligned = true ∧ 8 ≤ (b.port 0).badRun) ∧
    (∀ r ∈ [2, 4], ∀ l ∈ [LinkState.l0, .l0p, .recovery, .recoveryEq],
     let b := linked { up with link := l, rate := r }
     b.blockOfLane 7 = 0 ∧ b.canTrain 0 = true ∧ (b.port 0).link = l ∧ (b.lane 7).logical < (b.port 0).activeWidth ∧ (b.lane 7).blockLock = true) ∧
    (linked up).mgmtFull = true ∧ (linked up).present_ 0 = true ∧
    (((linked { up with link := .recovery }).port 0).recoveries.head? ≠ some live.now) ∧
    (((linked { up with link := .recovery, recoveries := [0] }).port 0).recoveries.head? = some live.now ∧ ((linked { up with link := .recovery, recoveries := [0] }).port 0).exiting = false) ∧
    ((linked { up with link := .l1 }).port 0).link ≠ .l0 ∧
    (∀ l ∈ [LinkState.recovery, .recoveryEq],
     let b := linked { up with link := l }
     b.canTrain 0 = true ∧ ((b.lanesOf 0).filter fun l => decide ((b.lane l).logical < (b.port 0).width) && (0xFF : BitVec 8).getLsbD (l - b.laneBase 0)).length = (b.port 0).width ∧
     ((b.lanesOf 0).filter fun l => decide ((b.lane l).logical < (b.port 0).width) && (0 : BitVec 8).getLsbD (l - b.laneBase 0)) = [] ∧
     (b.port 0).linked = true ∧ (b.port 0).reeqOwed = false ∧ ((linked { up with link := l, reeqOwed := true }).port 0).reeqOwed = true) := by decide

/-- A Recovery that loses all lanes but one in use leaves no width the lanes have. -/
theorem test_hyps_recovery_without_width :
    (((linked { up with link := .recovery, offered := 8, detected := 0x80 }).narrow 0 [7] true).port 0).linked = false := by decide +kernel

theorem test_hyps_eye_checks :
    (let b := linked up
     let eyes : List LaneEye := [{ lane := 7, height := 255, width := 255 }]
     b.canTrain 0 = true ∧ (b.reg (Reg.PORT_CTRL 0)).getLsbD 3 = false ∧
     7 ∈ b.activeLanes 0 ∧ (b.lane 7).margining = false ∧ eyes.find? (fun e => b.laneBase 0 + e.lane.toNat == 7) = some { lane := 7, height := 255, width := 255 }) ∧
    ((linked up).setLane 7 { (linked up).lane 7 with margining := true }).lane 7 = { (linked up).lane 7 with margining := true } ∧
    (let x : Lane := { baseHeight := 200, baseWidth := 200 }
     (¬(100 * 200 < 80 * x.baseHeight.toNat ∨ 100 * 200 < 80 * x.baseWidth.toNat) ∧ 100 * 1 < 80 * x.baseHeight.toNat ∧ x.recheck = false ∧ 1 ≤ x.below + 1 ∧ x.below + 1 < 2) ∧
     2 ≤ (({ x with recheck := true, caused := [0, 0] } : Lane).caused.filter fun t => 0 < t + 1000000000).length) ∧
    (linked up).mgmtFull = true ∧ (linked up).blockOfLane 7 = 0 ∧ 3 ≤ ((linked up).port 0).rate ∧ ((linked up).lane 7).logical < 8 ∧
    ((linked up).reg (Reg.LANE_CTRL 7)).getLsbD 1 = false ∧ (((linked up).setReg (Reg.LANE_CTRL 7) 2).reg (Reg.LANE_CTRL 7)).getLsbD 1 = true ∧
    ((linked up).reg (Reg.LANE_CTRL 7)).getLsbD 0 = false := by decide

theorem test_hyps_link_power :
    (linked up).canTrain 0 = true ∧ 2 ≤ ((linked up).port 0).flitFormat ∧ (linked { up with link := .l0p }).canTrain 0 = true ∧ (linked { up with link := .l1 }).canTrain 0 = true ∧
    ((linked { up with link := .l1, txq := [.replay 0] }).port 0).txq ≠ [] ∧
    ((linked { up with link := .l12, txq := [.replay 0] }).port 0).wakeAt = none ∧
    (let b := at_ (linked { up with link := .l12, wakeAt := some 0 }) 1000 0
     b.canTrain 0 = true ∧ 0 + 1000000 ≤ b.now ∧ (b.port 0).wakeLate = false) ∧
    ((linked { up with link := .l12, wakeAt := some 0, wakeLate := true }).port 0).wakeLate = true := by decide

theorem test_hyps_port_resets :
    (let b := linked up
     b.alive = true ∧ (b.port 0).refclk = true ∧ b.present_ 0 = true ∧ (b.port 0).linked = true ∧
     b.mgmtFull = true ∧ (b.reg (Reg.PORT_CTRL 0)).getLsbD 0 = false) ∧
    ((linked { up with refclk := false }).port 0).refclk = false := by decide

/-- A request of host 0 at the last line it has. -/
def lastReq : MemReq := { port := 0, ld := 0, tag := 1, hpa := 4294967232 }

theorem test_hyps_requests :
    let b := hosted
    let q : Req := { who := .host 0 0 1, op := .inv, line := 67108863, metaField := .meta0 0 }
    b.alive = true ∧ (∀ rwd, b.credits 0 rwd = true) ∧ b.carriesLd 0 0 = true ∧ b.flt.fatal = false ∧ b.coh.isolated.getLsbD 0 = false ∧ ((b.port 0).ide ≠ 1) ∧
    b.ldOf 0 0 = 0 ∧ b.hdm 0 lastReq.hpa.toNat = some 4294967232 ∧ b.inEff 0 15 = true ∧ b.heldForOther 0 15 = false ∧
    b.fencedOct (b.octantOf 67108863) = false ∧ b.retired (b.place 67108863).ch = false ∧ b.idleReq q = false ∧
    b.idleReq { q with op := .rdData } = false ∧ b.idleReq { q with op := .ptl 0 1 } = false ∧
    b.carriesLd 1 0 = false := by decide

/-- Host 0 with its link in a secure stream, and insecure. -/
def keyed (ide n : Nat) : Base := hosted.updPort 0 fun p => { p with ide := ide, ideAgg := 4, ideFlits := n }

theorem test_hyps_requests_ide : ((keyed 1 0).port 0).ideFlits = 0 ∧ (keyed 1 0).credits 0 false = true ∧ (keyed 1 0).credits 0 true = true ∧
    (((keyed 1 3).port 0).ide = 1 ∧ ((keyed 1 3).port 0).ideFlits ≠ 0 ∧ (keyed 1 3).credits 0 false = true ∧ (keyed 1 3).credits 0 true = true) ∧ ((keyed 2 0).port 0).ide = 2 := by decide

theorem test_hyps_firewall :
    (∀ rwd, hosted.credits 0 rwd = true) ∧ hosted.carriesLd 0 0 = true ∧ hosted.hdm 0 4294967296 = none ∧
    (let b := hosted.setReg (Reg.FW_BOUND_BASE 0 0 + 4) 14
     b.hdm 0 lastReq.hpa.toNat = some 4294967232 ∧ 4294967232 < 2 ^ 37 ∧ b.inEff 0 15 = false ∧ b.credits 0 false = true) ∧
    ({ hosted with coh := { hosted.coh with isolated := 1 } } : Base).coh.isolated.getLsbD 0 = true := by decide

/-- Host 0 with its label extension on since an earlier flit. -/
def extended : Base := (hosted.updLd 0 fun d => { d with lblEnable := true, slotCode := 3 }).updPort 0 fun p => { p with flitsRx := 1 }

theorem test_hyps_other_messages :
    hosted.alive = true ∧ (hosted.port 0).carries = true ∧ (hosted.port 0).ide = 0 ∧ ((keyed 1 0).port 0).ide = 1 ∧ hosted.carriesLd 0 0 = true ∧ hosted.hostUp 0 = true ∧
    extended.slotCode 0 = 3 ∧ extended.extActive 0 = true ∧ extended.carriesLd 0 0 = true ∧ (extended.ld 0).lblFrom < (extended.port 0).flitsRx ∧
    (0 : BitVec 4) ≠ extended.slotCode 0 := by decide

/-- Host 0 owes an answer to a snoop of the last line. -/
def snooped (kind : SnoopKind) (again : Bool) : Base :=
  let sent : Snoop := { host := 0, kind := kind, sent := true, resent := again }
  let t : Tracker := { line := 67108863, req := { who := .directory, op := .inv, line := 67108863 }, snoops := [sent] }
  { hosted with coh := { hosted.coh with trackers := [t] } }

theorem test_hyps_snoops :
    (∀ kind ∈ [SnoopKind.inv, .data, .cur], ∀ again ∈ [false, true],
      let b := snooped kind again
      ((b.coh.trackers.find? fun x => x.line == 67108863 && x.snoops.any fun y => y.host.toNat == 0 && y.sent).any fun t =>
        (t.snoops.find? fun y => y.host.toNat == 0) == some { host := 0, kind := kind, sent := true, resent := again }) = true ∧
      b.carriesLd 0 0 = true ∧ (b.port 0).carries = true ∧ (b.port 0).ide = 0 ∧ b.alive = true ∧
      ∀ t ∈ b.coh.trackers, (t.respond 0 kind .i).isSome = true ∧ t.respond 0 kind .other = none) := by decide +kernel

/-- A decoder over the last block of host 0, and one that its ranges do not hold. -/
def lastBlock : DecoderCfg := { base := 0, size := 1, ways := 1, pos := 0, granLog2 := 14, dpaBase := 15 }

theorem test_hyps_logical_devices :
    hosted.hostUp 0 = true ∧ cfgSupported lastBlock = true ∧ hosted.spanOk 0 lastBlock = true ∧
    hosted.spanOk 0 { lastBlock with dpaBase := 16 } = false ∧ cfgSupported { lastBlock with granLog2 := 15 } = false ∧ hosted.alive = true ∧
    (let d : LogicalDev := { hosted.ld 0 with msixPending := 0xFF }
     ((hosted.setLd 0 d).ld 0).msixPending.getLsbD 7 = true ∧ (0x7F : BitVec 8).getLsbD 7 = false) ∧
    (let b := hosted.addRecord 0 .dynamicCapacity (.capacity 0 1 15 15) none 4
     b.hostUp 0 = true ∧ (∀ n ∈ (b.flt.records.map fun x => x.handle), ∃ x ∈ b.flt.records, x.ld = 0 ∧ x.handle = n) ∧ b.flt.records ≠ [] ∧
     ∃ n ∈ [77], ∀ x ∈ b.flt.records, x.ld = 0 → x.handle ≠ n) ∧
    (let b := { hosted with boot := { hosted.boot with sessions := [{ path := .doeFm, id := 1, finished := true }] } }
     ∃ x ∈ b.boot.sessions, b.alive = true ∧ (b.port 0).linked = true ∧ x.finished = true ∧
       x.path = (if tb (b.reg (Reg.PORT_LD_MODE 0)) 0 then .doeFm else .doe (BitVec.ofNat 4 (b.rf (Reg.PORT_LD_MODE 0) 4 1)))) := by decide

/-- An extent of host 0 at its last block. -/
def extentAt (stage : ExtentStage) : Base :=
  let b := { hosted with hosts := { hosted.hosts with extents := [{ host := 0, base := 15, limit := 15, tag := 1, stage := stage }] } }
  (b.setReg (Reg.DC_REGION_BASE 0) 0x8000000F).setReg (Reg.DC_REGION_BASE 0 + 4) 15

theorem test_hyps_dynamic_capacity :
    hosted.fwRuns = true ∧ hosted.extentReason 0 15 15 0 ≠ 0 ∧ hosted.extentReason 0 15 14 0 ≠ 0 ∧ (extentAt .offered).extentReason 0 15 15 1 = 0 ∧
    (extentAt .offered).hostUp 0 = true ∧
    ((extentAt .offered).hosts.extents.any fun e => e.host == 0 && e.base == 15 && e.limit == 15 && e.stage == .offered) = true ∧
    ((extentAt .inForce).hosts.extents.any fun e => e.host == 0 && e.base == 15 && e.limit == 15 && e.stage == .offered) = false ∧
    (∀ st ∈ [ExtentStage.inForce, .accepted], ((extentAt st).hosts.extents.find? fun e => e.host == 0 && e.base == 15 && e.limit == 15 && e.stage != .releasing).isSome = true) ∧
    (hosted.hosts.extents.find? fun e => e.host == 0 && e.base == 15 && e.limit == 15 && e.stage != .releasing) = none ∧
    (∀ c ∈ [false, true], let b := { hosted with hosts := { hosted.hosts with held := [{ host := 0, base := 15, limit := 15, clears := c, since := 0 }] } }
     (b.hosts.held.find? fun r => r.host == 0 && r.base == 15 && r.limit == 15 && !b.holdRuns r) = some { host := 0, base := 15, limit := 15, clears := c, since := 0 }) ∧
    (hosted.hosts.held.find? fun r => r.host == 0 && r.base == 15 && r.limit == 15 && !hosted.holdRuns r) = none := by decide

/-- A fill of the last stripe, with the rows in `done` dispatched and those of the quadrants in `slow` on the line path. -/
def filling (done : BitVec 64) (slow : BitVec 4) (start : Nat) : Base :=
  { live with lay := { live.lay with fills := [{ stripe := 2097151, held := [], dispatched := done, linePath := slow, at_ := start }] } }

theorem test_hyps_fills :
    (∀ f ∈ (filling (BitVec.allOnes 64) 0 0).lay.fills, (filling (BitVec.allOnes 64) 0 0).fillReady f = true ∧ f.stripe = 2097151 ∧ f.released = false ∧ f.claim = none) ∧
    (∀ f ∈ (filling 0 0 0).lay.fills, (filling 0 0 0).fillReady f = false) ∧
    (live.lay.fills.find? fun f => f.stripe == 2097151 && !f.released && f.claim.isNone) = none ∧
    (let b := at_ (filling 0 0 0) 0 200
     ∀ f ∈ b.lay.fills, (((List.range 4).filter fun q => (8 : BitVec 4).getLsbD q && !f.linePath.getLsbD q && (decide (f.at_ + 200 ≤ b.now) && !f.begun b q || !b.busServes q)).filter
       fun q => ((stripeRows b.lay.n f.stripe).zipIdx.filter fun e => f.rowDue b e.2 e.1).any fun e => quadOf e.1.ch == q) = [3]) ∧
    (let b := { at_ live 11 0 with lay := { live.lay with fillWait := [({ who := .directory, op := .inv, line := 0 }, 999)] } }
     (b.lay.fillWait.find? fun w => decide (w.2 + 10000 < b.now)).isSome = true) ∧ live.lay.fillWait = [] ∧ live.mov.slots = [] := by decide +kernel

/-- Channel 63 as `c`. -/
def chan63 (c : Chan) : Base := live.setChan 63 c

/-- A read or a write of the last line of channel 63. -/
def lineEntry (wr : Option LineWrite) : Entry := { req := { who := .scrub, op := .rdData, line := 0 }, bank := 31, row := 65535, col := 15, wr := wr }

theorem test_hyps_channel_select :
    ((chan63 { train := .trained }).pick 63 0).1 = none ∧
    ((chan63 { train := .trained, debt := [(31, 8)], slots := 1 }).pick 63 0).1 = some (.refresh 31 true) ∧
    ((chan63 { train := .trained, trfDue := [(31, 2047)] }).pick 63 0).1 = some (.trf 31 2047) ∧
    ((chan63 { train := .trained, readQ := [lineEntry none] }).pick 63 0).1 = some (.line (lineEntry none)) ∧
    ((chan63 { train := .trained, writeQ := [lineEntry (some {})] }).pick 63 0).1 = some (.line (lineEntry (some {}))) ∧
    (let e : RowEntry := { src := .scrub, bank := 31, row := 65535, read := true }
     ((chan63 { train := .trained, rowQ := [e] }).pick 63 0).1 = some (.row e)) ∧
    ((chan63 { train := .trained, debt := [(31, 8)], slots := 1 }).tier0 63 0) = some (.refresh 31 true) ∧
    (let b := (chan63 { train := .trained, moves := [{ bank := 31, row := 65535, spare := 3 }] }).updBus 3 fun x => { x with retired := true }
     b.tier0 63 0 = none ∧ b.moveDue 63 0 = true) := by decide +kernel

theorem test_hyps_refresh_and_throttle :
    (let b := chan63 { train := .trained, debt := [(31, 7)], tickBank := 31 }
     b.boot.memActive = true ∧ b.retired 63 = false ∧ (b.droppedIn (b.setOf 63)).length ≠ 8 ∧ (b.set_ (b.setOf 63)).state < 2 ∧ Tab.get 0 (b.chan 63).debt 31 < 8 ∧
     (b.chan 63).tickBank = 31 ∧ (b.chan 63).tickDue ≤ 224 * b.now ∧ (b.chan 63).tickBank ≠ 30) ∧
    224 * live.now < ((chan63 { tickDue := 1 }).chan 63).tickDue ∧
    8 ≤ Tab.get 0 ((chan63 { train := .trained, debt := [(31, 8)] }).chan 63).debt 31 ∧
    (((chan63 { train := .trained, trfRunning := [(31, 2047, 0)] }).chan 63).trfRunning.find? fun y => y.1 == 31 && decide (y.2.2 ≤ live.now)).isSome = true ∧
    (((chan63 { train := .trained, throttles := [{ label := 1, bank := 31, until_ := 0 }] }).chan 63).throttles.any
      fun t => t.label == 1 && t.bank == 31 && decide (t.until_ ≤ live.pl.epochs)) = true ∧ (live.chan 63).throttles = [] := by decide

theorem test_hyps_training_of_a_channel :
    (let b := { live with boot := { live.boot with memActive := false }, dram := { live.dram with trainGroup := 3 } }
     b.alive = true ∧ b.boot.memActive = false ∧ b.dram.trainGroup = (3 : Fin 4).val ∧ b.dram.trainGroup ≠ (2 : Fin 4).val) ∧
    live.mgmtFull = true ∧ ((chan63 { train := .trained }).chan 63).train = .trained ∧ live.dram.retraining = none ∧ (live.chan 63).train ≠ .trained ∧
    (∀ w ∈ [[], [63]], let b := { chan63 { train := .trained } with dram := { (chan63 { train := .trained }).dram with retraining := some 0, retrainWait := w } }
     (b.chan 63).train = .trained ∧ b.dram.retraining ≠ none ∧ b.dram.retrainWait.contains 63 = decide (w = [63])) ∧
    (live.retired 63 = false ∧ ((chan63 { record := some { values := {}, temp := 100 } }).chan 63).record = some { values := {}, temp := 100 } ∧
     ((100 : Int) - 80 ≤ 20 ∧ (80 : Int) - 100 ≤ 20) ∧ (20 : Int) < 100 - 79 ∧ (20 : Int) < 121 - 100) := by decide

/-- Every channel of the group has a result. -/
theorem test_hyps_training_group :
    ∀ i ∈ ((List.range 16).map fun i => 16 * 3 + i), ∃ r ∈ ((List.range 16).map fun i => ({ ch := BitVec.ofNat 6 (48 + i), temp := 0 } : TrainResult)), r.ch.toNat = i := by decide

/-- The plan gives channel 63 the item. -/
def paused (c : Chan) (k : PauseItem) : Base := { chan63 c with pl := { live.pl with due := [{ ch := 63, item := k }] } }

theorem test_hyps_drift_and_slices :
    (paused { train := .trained } .drift).visitable 63 = true ∧ ((paused { train := .trained } .drift).takePause 63 .drift).isSome = true ∧
    (let m : DriftMeasure := { centres := [100], widths := [100] }
     (∃ x ∈ m.centres, live.rf Reg.TRAIN_CFG 3 0 < x.natAbs) ∧ ¬∃ w ∈ m.widths, w < live.rf Reg.TRAIN_CFG 15 8) ∧ 0 < live.rf Reg.TRAIN_CFG 15 8 ∧
    (∀ n ∈ [1, 2], let b := paused { train := .sliced, slicesLeft := n } .slice
      b.visitable 63 = true ∧ (b.chan 63).train = .sliced ∧ (b.chan 63).lastSlice = 0 ∧ ((b.takePause 63 .slice).map fun c => (c.chan 63).slicesLeft) = some n) ∧
    ([1, -1] : List Int)[1]? = some (-1) := by decide

theorem test_hyps_line_decode :
    (let i : Inflight := { entry := lineEntry none, act := 0, raw := guardBurst }
     (chan63 { inflight := [i] }).alive = true ∧ ((chan63 { inflight := [i] }).chan 63).inflight = [i] ∧ i.forwarded = none ∧ i.raw = guardBurst) ∧ (0 : BitVec 640) ≠ guardBurst ∧
    (let a : DecodeAt := { line := 2147483647, place := { ch := 63, bank := 31, row := 65535, col := 15 }, src := 0x1FF }
     a.place.ch < 64 ∧ a.stamps = true ∧ a.overtaken = false ∧ a.silent = false ∧ (live.chan 63).stampPending 31 65535 15 = false ∧ a.beforeHeal = false) := by decide +kernel

theorem test_hyps_heals :
    (((chan63 { healing := [(31, 65535, 15, 0)] }).chan 63).healing.any fun h => h.1 == 31 && h.2.1 == 65535 && h.2.2.1 == 15 && decide (h.2.2.2 ≤ live.now)) = true ∧
    ((live.chan 63).healing.any fun h => h.1 == 31 && h.2.1 == 65535 && h.2.2.1 == 15 && decide (h.2.2.2 ≤ live.now)) = false ∧
    (let b := { live with pl := { live.pl with epochs := 10000000, epoch := 10000000 } }
     b.pl.epoch.toNat % 10000000 = 0 ∧ b.dram.bucketAt < b.pl.epochs) := by decide +kernel

/-- A move of the last row of channel 63, by the line path where `out`. -/
def moving (m : SpareMove) (out : Bool) (t : Nat) : Base :=
  at_ ((chan63 { train := .trained, moves := [m] }).updBus 3 fun x => { x with retired := out }) 0 t

theorem test_hyps_spare_row_move :
    let m : SpareMove := { bank := 31, row := 65535, spare := 3 }
    let w : SpareMove := { m with lines := List.replicate 16 0, programmedAt := some 65 }
    (let b := moving m true 0
     b.alive = true ∧ (b.chan 63).move = some m ∧ b.moveByLine 63 m = true ∧ b.moveDue 63 b.now = true ∧ b.tier0 63 b.now = none ∧ (moving m true 1001).moveByLine 63 m = true) ∧
    ¬(({ moving m true 0 with boot := { live.boot with memActive := false } } : Base).moveDue 63 0 = true) ∧
    (let b := moving m false 0
     let c := b.offerRow 63 (m.offer true)
     b.moveByLine 63 m = false ∧ b.drains 3 = false ∧ b.stageHeld 3 < 8 ∧ (c.rowAccepted 63 (m.offer true)).isSome = true ∧ (State.rowWords (St c) 63 31 65535 []).isSome = true ∧
     ((moving m false 1).offerRow 63 (m.offer true)).rowAccepted 63 (m.offer true) = none) ∧
    ((c : Base) → (c.ignores 63 = true → State.rowWords (St c) 63 31 65535 [] = none)) ∧
    (let b := moving w true 66
     w.programmedAt = some 65 ∧ 65 ≤ b.now ∧ w.written ≠ 16 ∧ b.moveByLine 63 w = true ∧ b.moveDue 63 b.now = true ∧ b.tier0 63 b.now = none ∧ w.lines.length = 16 ∧ w.written ≤ 16) ∧
    (let b := moving w false 66
     b.moveByLine 63 w = false ∧ ((b.offerRow 63 (w.offer false)).rowAccepted 63 (w.offer false)).isSome = true ∧
     ((moving w false 65).offerRow 63 (w.offer false)).rowAccepted 63 (w.offer false) = none) ∧
    (let d : SpareMove := { w with written := 16, confirmAt := some 131 }
     (moving d false 131).now = 131 ∧ d.programmedAt = some 65 ∧ d.confirmAt = some 131) := by
  refine ⟨by decide +kernel, by decide +kernel, by decide +kernel, ?_, by decide +kernel, by decide +kernel, by decide +kernel⟩
  intro c h
  simp [State.rowWords, St, h]

/-- The active plan gives channel 63 a row of scrub quota. -/
def quota (c : Chan) (b : Base) : Base := { (b.setReg Reg.ECC_CFG 0x101).setChan 63 c with pl := { live.pl with active := { scrub := [63] } } }

/-- The last stripe is marked. -/
def marking (b : Base) : Base := { b with lay := { b.lay with marked := [(2097151, true)] } }

theorem test_hyps_scrub :
    (let b := quota { train := .trained } live
     b.alive = true ∧ b.scrubOk 63 = true ∧ (b.takeQuota 63).isSome = true ∧ (b.chan 63).scrubJob = none ∧ nextScrub 0 (b.scrubRows 63) = none ∧ (b.chan 63).scrubLate = false) ∧
    (let b := marking (quota { train := .trained } live)
     b.scrubOk 63 = true ∧ (b.takeQuota 63).isSome = true ∧ (nextScrub 0 (b.scrubRows 63)).isSome = true) ∧
    live.takeQuota 63 = none ∧
    (let j : ScrubJob := { bank := 31, row := 65535, attempt := 1 }
     let b := quota { train := .trained, scrubJob := some j } live
     let c := b.offerRow 63 (b.scrubOffer 31 65535 true 0)
     (b.chan 63).scrubJob = some j ∧ j.lines = none ∧ j.verifying = false ∧ b.busServes 3 = true ∧ b.drains 3 = false ∧ b.stageHeld 3 < 8 ∧
     (c.scrubTransfer 63 (c.scrubOffer 31 65535 true 0)).isSome = true ∧ (State.rowWords (St c) 63 31 65535 []).isSome = true ∧
     (let d := at_ b 0 1
      (d.offerRow 63 (d.scrubOffer 31 65535 true 0)).scrubTransfer 63 (d.scrubOffer 31 65535 true 0) = none) ∧
     (b.updBus 3 fun x => { x with retired := true }).busServes 3 = false) ∧
    (let j : ScrubJob := { bank := 31, row := 65535, attempt := 1, lines := some [0] }
     let b := at_ (quota { train := .trained, scrubJob := some j } live) 0 32
     let c := b.offerRow 63 (b.scrubOffer 31 65535 false 32)
     (b.chan 63).scrubJob = some j ∧ j.lines = some [0] ∧ j.attempt < 2 ∧ j.overtaken = false ∧ (c.scrubTransfer 63 (c.scrubOffer 31 65535 false 32)).isSome = true ∧
     (let d := at_ b 0 30
      (d.offerRow 63 (d.scrubOffer 31 65535 false 32)).scrubTransfer 63 (d.scrubOffer 31 65535 false 32) = none)) ∧
    (let j : ScrubJob := { bank := 31, row := 65535, verifying := true }
     let b := quota { train := .trained, scrubJob := some j } live
     let c := b.offerRow 63 (b.scrubOffer 31 65535 true 0)
     (b.chan 63).scrubJob = some j ∧ (c.scrubTransfer 63 (c.scrubOffer 31 65535 true 0)).isSome = true) ∧
    (let b := at_ (quota {} live) 4500000001 0
     4500000000 * b.rf Reg.ECC_CFG 7 0 < b.pl.epochs - (b.chan 63).scrubFrom ∧ b.retired 63 = false ∧ tb (b.reg Reg.ECC_CFG) 8 = true) ∧
    ((chan63 { scrubLate := true }).chan 63).scrubLate = true := by decide +kernel

/-- The plan gives bus 3 the full-width test: the bus drains. -/
theorem test_hyps_drains : (let b := { live.setReg Reg.SI_CFG 0x0300001E with pl := { live.pl with active := { fullWidth := some 3 } } }; b.drains 3 = true ∧ b.busServes 3 = true) := by
  decide +kernel

/-- A row of zeros decodes clean, and another does not. -/
theorem test_hyps_scrub_decodes :
    (∀ d ∈ live.decodeRow 63 [0], d.out = .clean) ∧ ¬(∀ d ∈ live.decodeRow 63 [1], d.out = .clean ∨ d.out = .cleanErased) := by decide +kernel

theorem test_hyps_injection :
    live.mgmtFull = true ∧ live.injReason live.injTarget = 1 ∧
    (let b := ((live.setReg Reg.INJ_ENABLE 1).setReg Reg.INJ_MASK2 0x8000).setReg Reg.INJ_PATTERN 0x80
     b.mgmtFull = true ∧ b.injReason b.injTarget = 0) ∧
    (let b := live.setReg Reg.INJ_ENABLE 1
     b.injReason b.injTarget = 4) ∧
    (4 : BitVec 3).getLsbD 2 = true ∧ ((2 : BitVec 3).getLsbD 2 = false ∧ (2 : BitVec 3).getLsbD 1 = true) ∧ ((1 : BitVec 3).getLsbD 1 = false ∧ (1 : BitVec 3).getLsbD 0 = true) := by decide

/-- A core whose home agent is as given. -/
def coh (c : Coherence) : Base := { live with coh := c }

theorem test_hyps_coherence :
    (let t : Tracker := { line := 2147483647, req := { who := .directory, op := .inv, line := 2147483647 }, snoops := [{ host := 15, kind := .inv, sentAt := some 0 }] }
     let late := fun b : Base => b.coh.trackers.any fun t => t.line == 2147483647 && t.snoops.any (fun x => x.host == 15 && (match x.sentAt with
       | some t => decide (t + 1000 * b.rf Reg.COH_CFG 13 0 ≤ b.now)
       | none => false)) && !(b.coh.isolated.getLsbD 15)
     live.alive = true ∧ late (at_ (coh { trackers := [t] }) 17000 0) = true ∧ late (coh { trackers := [t] }) = false) ∧
    (let w : Sweep := { host := 15, blocks := [(511, 511)], release := true, cacheDone := true }
     (coh { sweeps := [w] }).coh.sweeps = [w] ∧ (∀ st ∈ (coh { sweeps := [w] }).sweepStripes w, 64 * st + 64 ≤ w.at_) ∧
     ∃ st ∈ (marking (coh { sweeps := [w] })).sweepStripes w, w.at_ < 64 * st + 64) ∧
    (let b := at_ (coh { waiting := [{ req := { who := .directory, op := .inv, line := 0 }, since := 999, need := .tracker }] }) 11 0
     (b.coh.waiting.find? fun w => decide (w.need = .tracker) && decide (w.since + 10000 < b.now)).isSome = true) ∧ live.coh.waiting = [] ∧
    (let b := coh { isolated := 0x8000, swept := 0x8000, ldReset := 0x8000 }
     b.mgmtFull = true ∧ b.coh.isolated.getLsbD 15 = true ∧ b.coh.swept.getLsbD 15 = true ∧ b.coh.ldReset.getLsbD 15 = true) ∧
    live.coh.isolated.getLsbD 15 = false := by decide +kernel

theorem test_hyps_label_staging :
    let staged := fun l : List Staged => ({ live with qos := { live.qos with staging := l } } : Base)
    let mine := fun x : Staged => x.label == (live.reg Reg.LBL_STAGE_INDEX).extractLsb' 0 16 && x.strobe.isNone
    live.mgmtFull = true ∧ live.versionBusy = false ∧ ((1 : BitVec 2).getLsbD 1 = false ∧ (1 : BitVec 2).getLsbD 0 = true) ∧ (2 : BitVec 2).getLsbD 1 = true ∧
    (staged [{ label := 0, w0 := 1, w1 := 2 }]).qos.staging.any mine = true ∧ (staged []).qos.staging.any mine = false ∧
    (staged (List.replicate 256 { label := 1, w0 := 1, w1 := 2 })).qos.staging.any mine = false ∧
    256 ≤ (staged (List.replicate 256 { label := 1, w0 := 1, w1 := 2 })).qos.staging.length ∧
    ({ live with dict := { live.dict with commitStep := 5 } } : Base).versionBusy = true := by decide +kernel

/-- Queue 3 of host 0 as `x`, its ring of 2^SIZE entries. -/
def ringed (x : MoverQ) : Base :=
  { ((hosted.setReg (Reg.MQ_CFG 3) 0x100A).setReg (Reg.MQ_RING 3) 0) with mov := { queues := [(3, x)] } }

theorem test_hyps_doorbells :
    (let b := ringed { state := 0 }
     b.hostUp 0 = true ∧ (b.queue 3).state ≠ 3 ∧ 1023 < b.ringSize 3 ∧ b.ringSize 3 ≤ 1024) ∧ (live.queue 3).state = 3 := by decide

/-- The line of the first descriptor of queue 3, marked or not. -/
def fetching (marked asked : Bool) : Base :=
  let b := trained (ringed { state := 1, tail := 1, asked := asked })
  { b with lay := { b.lay with marked := if marked then [(0, true)] else [] } }

theorem test_hyps_desc_fetch :
    (∀ asked ∈ [false, true],
     let b := fetching false asked
     b.moverRuns = true ∧ ((List.range 16).find? fun i => (b.slot i).isNone) = some 0 ∧ b.nextQueue = some 3 ∧
     b.effHolds 0 (b.ringBase 3) (b.ringBase 3 + b.ringBytes 3 - 1) = true ∧ b.moverQuiet 17 = true ∧ (b.queue 3).asked = asked ∧ b.noHolders 0 = true ∧ b.isMarked 0 = false) ∧
    (let b := (ringed { state := 1, tail := 1 }).setReg (Reg.MQ_RING 3) 0xFFFFFFFF
     b.nextQueue = some 3 ∧ b.effHolds 0 (b.ringBase 3) (b.ringBase 3 + b.ringBytes 3 - 1) = false) ∧
    ({ live with mov := { live.mov with domain := .off } } : Base).moverRuns = false := by decide +kernel

/-- The fetch of a marked line: it may wait, be answered by a queued write, be read from its remap entry, or not be ready. -/
theorem test_hyps_desc_fetch_read :
    let b := fetching true false
    let p := b.place 0
    let r := b.internal (.mover 17 0) .rdData 0 (b.queueLabel 3)
    let e := r.2.entryOf r.1 none
    let w : Entry := { req := { who := .scrub, op := .rdData, line := 0 }, bank := p.bank, row := p.row, col := p.col, wr := some {} }
    b.isMarked 0 = true ∧ b.noAccess 0 = false ∧
    (((b.chan p.ch).feed ++ (b.chan p.ch).xbar ++ (b.chan p.ch).upstream).any fun y => y.at_ p.bank p.row p.col) = false ∧
    (b.chan p.ch).forward e = none ∧ b.fetchReady e p.ch = true ∧
    (({ b.chan p.ch with remap := [{ bank := p.bank, row := p.row, col := p.col, word := 0 }] } : Chan).remapOf p.bank p.row p.col).isSome = true ∧
    ({ b with boot := { b.boot with memActive := false } } : Base).fetchReady e p.ch = false ∧
    (({ b.chan p.ch with writeQ := [w] } : Chan).forward e).any (fun w => w.full) = true := by decide +kernel

/-- The line in a shared window, its record not read: its holders are asked first. -/
theorem test_hyps_desc_fetch_held :
    let b := (fetching true false).setReg (Reg.SW_BASE 0) 0x80000000
    b.nextQueue = some 3 ∧ (b.queue 3).asked = false ∧ b.noHolders 0 = false := by decide +kernel

/-- A descriptor that zeroes the first stripe. -/
def zeroDesc : Desc := Desc.parse 4

/-- Two slots of queue 3. -/
def slotted (x y : Slot) : Base := { live with mov := { slots := [(0, x), (15, y)] } }

theorem test_hyps_desc_start :
    (let x : Slot := { queue := 3, index := 0, desc := zeroDesc, started := true }
     let y : Slot := { queue := 3, index := 1, desc := zeroDesc }
     let b := slotted x y
     b.moverRuns = true ∧ b.slot 15 = some y ∧ y.started = false ∧ y.desc.fence = false ∧ (∀ e ∈ (b.slotsOf 3).takeWhile (fun e => e.1 != 15), e.2.started = true) ∧
     ({ y with desc := { zeroDesc with fence := true } } : Slot).desc.fence = true ∧ (b.slotsOf 3).takeWhile (fun e => e.1 != 15) ≠ []) ∧
    (let x : Slot := { queue := 3, index := 0, desc := zeroDesc }
     let y : Slot := { queue := 3, index := 1, desc := zeroDesc }
     ∃ e ∈ ((slotted x y).slotsOf 3).takeWhile (fun e => e.1 != 15), e.2.started = false) ∧
    (let x : Slot := { queue := 3, index := 0, desc := zeroDesc, status := some 0, recSent := true }
     let b := slotted x { x with queue := 2 }
     b.slot 0 = some x ∧ x.status ≠ none ∧ ((b.slotsOf 3).head?.map fun e => e.1) = some 0 ∧ b.moverQuiet 0 = true ∧ b.ringHeld 3 = false ∧
     ({ x with recSent := false } : Slot).recSent = false ∧ ({ x with status := none } : Slot).status = none) := by decide +kernel

/-- The record's ring of queue 3 is the host's own: after it is sent nothing of a dark channel's line waits, and else the write does. -/
theorem test_hyps_desc_complete :
    let x : Slot := { queue := 3, index := 0, desc := zeroDesc, status := some 0 }
    let b := { fetching true false with mov := { (fetching true false).mov with slots := [(0, x)] } }
    let sent := ((b.updSlot 0 fun y => { y with recSent := true }).sendRecord (.mover 0 0) x (b.bytesDone 0 x)).pump
    b.slot 0 = some x ∧ x.recSent = false ∧ b.ringHeld 3 = true ∧ (sent.moverQuiet 0 = true ∨ sent.moverQuiet 0 = false) := by decide +kernel

theorem test_hyps_row_bus :
    live.moverRuns = true ∧ live.pl.phase % 2 = 0 ∧ (live.bus 3).offeredAt ≠ some live.now ∧ (at_ live 0 1).pl.phase % 2 ≠ 0 ∧
    ((live.updBus 3 fun x => { x with offeredAt := some live.now }).bus 3).offeredAt = some live.now ∧
    (live.updBus 3 fun x => { x with retired := true }).busServes 3 = false ∧ live.busServes 3 = true ∧ live.sweeping = none ∧ live.transferNow 3 (live.rowJobs 3) = none ∧
    (let w : Sweep := { host := 0, blocks := [(511, 511)], release := true, cacheDone := true }
     let b := marking (coh { sweeps := [w] })
     b.sweeping.any (fun e => decide (quadOf e.2.2.ch < 4)) = true) := by decide +kernel

/-- A fill of the last stripe begins: after the offer the bus carries its row. -/
theorem test_hyps_row_bus_fill :
    let b := trained (filling 0 0 0)
    let jobs := b.rowJobs 3
    b.busServes 3 = true ∧ (((b.withdraw 3 jobs).offerNext 3 jobs).transferNow 3 jobs).isSome = true := by decide +kernel

theorem test_hyps_mover_supervision :
    (let b := { at_ (slotted { queue := 3, index := 5, desc := zeroDesc } { queue := 2, index := 0, desc := zeroDesc }) 10000 0 with
       lay := { live.lay with fills := [{ stripe := 0, held := [], claim := some 0 }] } }
     b.alive = true ∧ (b.lay.fills.find? fun f => decide (f.claim = some 0) && decide (f.at_ + 10000 < b.now)).isSome = true ∧ (b.slot 0).isSome = true ∧
     b.fwRuns = true ∧ b.moverPending = true ∧ b.mov.lastProgress + 10000000 ≤ b.now) ∧
    live.lay.fills = [] ∧ live.moverPending = false ∧ live.now < live.mov.lastProgress + 10000000 ∧ live.boot.memActive = true := by decide +kernel

/-- A plan of the epoch, and cane tests and full-width tests switched on. -/
def planned (p : Plan) (b : Base) : Base := { b.setReg Reg.SI_CFG (b.reg Reg.SI_CFG ||| 0x03000000) with pl := { b.pl with active := p } }

/-- Channel 63, trained, at full width, with a pause of the plan for the shift of a cane. -/
def shifting (f : ChanCanes → ChanCanes) : Base :=
  let b := planned {} ((chan63 { train := .trained }).updCanes 63 f)
  { b with pl := { b.pl with due := [{ ch := 63, item := .caneShift }] } }

theorem test_hyps_stack_tests :
    (let b := shifting id
     b.alive = true ∧ (b.chan 63).train = .trained ∧ (b.set_ (b.setOf 63)).state = 0 ∧ (b.canes 63).testOut = none ∧ tb (b.reg Reg.SI_CFG) 24 = true ∧
     (b.chan 63).erased.contains 59 = false ∧ b.idleSpare 63 = some 0 ∧ (b.takePause 63 .caneShift).isSome = true ∧ (b.canes 63).useOf (63 - 60) = 0x3C ∧
     (b.canes 63).targets.contains 39 = false ∧ (b.chan 63).erased.length ≤ 1) ∧
    (shifting fun x => { x with use := [(0, 0x3F), (1, 0x3F), (2, 0x3F), (3, 0x3F)] }).idleSpare 63 = none ∧
    (let b := shifting fun x => { x with testOut := some 59, testSpare := some 0 }
     (b.canes 63).testOut = some 59 ∧ b.pl.epochs < (b.canes 63).testFrom + 3 ∧
     (let c := at_ b 3 0
      (c.canes 63).testFrom + 3 ≤ c.pl.epochs ∧ (c.canes 63).testSpare = some 0 ∧ (c.takePause 63 .caneShift).isSome = true)) ∧
    ((shifting fun x => { x with testOut := some 39 }).canes 63).testSpare = none ∧
    ((0 : Byte).toNat < (shifting id).rf Reg.SI_CFG 13 8 ∧ ¬((255 : Byte).toNat < (shifting id).rf Reg.SI_CFG 13 8) ∧ ¬((255 : Byte).toNat < (shifting id).rf Reg.SI_CFG 21 16)) ∧
    (let b := planned { segment := some (3, 1327) } live
     b.pl.active.segment = some (3, 1327) ∧ b.si.segOut = none ∧ b.si.heartbeatOut = none ∧ (b.bus 3).retired = false ∧ (∀ i, i < 4 → (b.bus i).testing = false) ∧ 8 ≤ (b.busFree 3).length) ∧
    (live.canes 63).testOut ≠ some 59 ∧ live.pl.active.segment ≠ some (3, 1327) ∧
    (let b := planned {} (live.setUse 60 3 0x3D)
     b.si.heartbeatOut = none ∧ tb (b.reg Reg.SI_CFG) 24 = true ∧ (b.guard 15).state = 0 ∧ b.backupReady 15 = true ∧ (planned {} live).backupReady 15 = false) ∧
    (¬((shifting id).rf Reg.SI_CFG 21 16 - 1 < (shifting id).rf Reg.SI_CFG 13 8) ∧ (shifting id).rf Reg.SI_CFG 21 16 - 1 < (shifting id).rf Reg.SI_CFG 21 16) ∧
    (let b := at_ live (30 * 4500000000 + 1) 0
     b.si.late = false ∧ 4500000000 * (b.setReg Reg.SI_CFG 30).rf Reg.SI_CFG 7 0 < b.pl.epochs - b.si.sweepFrom) ∧
    ({ live with si := { live.si with late := true } } : Base).si.late = true := by decide +kernel

theorem test_hyps_fullwidth :
    (let b := planned { fullWidth := some 3 } live
     b.alive = true ∧ b.drains 3 = true ∧ b.stageEmpty 3 = true) ∧
    live.drains 3 = false ∧ (planned { fullWidth := some 3 } (chan63 { scrubJob := some { bank := 0, row := 0, lines := some [] } })).stageEmpty 3 = false ∧
    ({ live with si := { live.si with fwActive := some 3 } } : Base).si.fwActive = some 3 ∧ live.si.fwActive ≠ some 3 ∧
    live.mgmtFull = true ∧ live.retired 63 = false ∧ (chan63 { train := .retired }).retired 63 = true ∧ (live.bus 3).retired = false ∧
    ((live.updBus 3 fun x => { x with retired := true }).bus 3).retired = true := by decide +kernel

theorem test_hyps_droop :
    let since := fun (b : Base) (l : List Nat) => l.filter fun t => decide (b.pl.epochs < t + 1000)
    live.alive = true ∧ ((79 : Byte).toNat < 84 ∧ (0 : Byte).toNat + 2 * (live.setReg Reg.SI_CFG2 0).rf Reg.SI_CFG2 23 16 < 80) ∧
    ¬((255 : Byte).toNat + 2 * live.rf Reg.SI_CFG2 23 16 < 80 ∨ (255 : Byte).toNat < 84) ∧ (59 : Byte).toNat < 60 ∧
    ¬((255 : Byte).toNat + 2 * live.rf Reg.SI_CFG2 31 24 < 80 ∨ (255 : Byte).toNat < 60) ∧
    (since live (live.guard 15).holds).length < 16 ∧
    (let b := live.setGuard 15 { holds := List.replicate 16 0 }
     16 ≤ (since b (b.guard 15).holds).length ∧ (b.guard 15).unstableAt = none) ∧
    ((live.setGuard 15 { holds := List.replicate 16 0, unstableAt := some 0 }).guard 15).unstableAt = some 0 ∧ live.pl.epochs < 0 + 1000 ∧ 0 + 1000 ≤ (at_ live 1000 0).pl.epochs := by
  decide +kernel

theorem test_hyps_guards :
    (live.guard 15).state = 0 ∧ ((live.setGuard 15 { state := 2 }).guard 15).state = 2 ∧ ((live.setGuard 15 { state := 2 }).guard 15).failed = false ∧
    live.flt.fatal = false ∧ ((live.setGuard 15 { state := 2, failed := true }).guard 15).failed = true ∧
    live.boot.memActive = true ∧ live.statusChannel 60 = true ∧ live.statusChannel 61 = false ∧ (live.set_ (live.setOf 60)).state = 0 ∧
    (let b := live.setGuard 15 { state := 2, failed := true, detected := true }
     (b.guard 15).detected = true ∧ (b.guard 15).failed = true ∧ b.backupReady 15 = false ∧ (b.setUse 60 3 0x3D).backupReady 15 = true) ∧
    (live.guard 15).detected = false := by decide

theorem test_hyps_octants :
    hosted.hostUp 0 = true ∧ hosted.fwRuns = true ∧ (0 < hosted.octants ∧ hosted.effMeets 0 (hosted.blocksOfOctant 0) = true) ∧
    (31 < hosted.octants ∧ hosted.effMeets 0 (hosted.blocksOfOctant 31) = false) ∧ hosted.octants ≤ 32 := by decide +kernel

theorem test_hyps_drops_and_sensors :
    (let b := { live.setReg Reg.POWER_CFG 0x03000000 with pl := { live.pl with active := { drops := [31] } } }
     b.alive = true ∧ b.pl.active.drops.contains 31 = true ∧ 31 < b.octants ∧ tb (b.reg Reg.POWER_CFG) 25 = true ∧ b.neededOf 31 = false ∧
     b.pw.dropped.getLsbD 31 = false ∧ (b.set_ (setOfOctant 31)).state < 2 ∧ Tab.get 0 b.pw.lastWrite 31 + 1000 * b.rf Reg.POWER_CFG 23 16 ≤ b.pl.epochs ∧
     tb ((b.setReg Reg.POWER_CFG 0).reg Reg.POWER_CFG) 25 = false) ∧
    live.pl.active.drops.contains 31 = false ∧ (live.set_ (live.setOfDie 15)).state < 2 ∧ 2 ≤ ((live.setSet 3 { state := 2 }).set_ (live.setOfDie 15)).state := by decide +kernel

theorem test_hyps_power_states :
    (let b := { live.setReg Reg.POWER_CFG 0x02000000 with pl := { live.pl with active := { power := [(3, 1)] } } }
     b.alive = true ∧ 3 < b.sets ∧ b.pl.active.power.contains (3, 1) = true ∧ (b.set_ 3).state ≤ 1 ∧
     ({ b with pl := { b.pl with active := { b.pl.active with power := b.pl.active.power.filter (fun i => i != (3, 1)) } } } : Base).mayEnter 3 1 = true ∧
     ({ b.setSet 3 { testHold := true } with pl := live.pl } : Base).mayEnter 3 1 = false) ∧
    (∀ sre ∈ [false, true], let b := { live.setSet 3 { state := 2, sre := sre } with pl := { live.pl with active := { power := [(3, 0)] } } }
     b.pl.active.power.contains (3, 0) = true ∧ 0 < (b.set_ 3).state ∧ 2 ≤ (b.set_ 3).state ∧ (b.set_ 3).exiting = false ∧ (b.set_ 3).sre = sre) ∧
    live.pl.active.power.contains (3, 1) = false ∧
    (let b := live.setSet 3 { state := 3 }
     2 ≤ (b.set_ 3).state ∧ (b.set_ 3).sre = false ∧ ∀ c ∈ b.chansOfSet 3, b.chanQuiet c = true) ∧
    (let b := (List.range 16).foldl (fun (b : Base) (k : Nat) => b.setChan (48 + k) { bankFree := [(0, 100)] }) (live.setSet 3 { state := 3 })
     ∀ c ∈ b.chansOfSet 3, b.chanQuiet c = false) ∧
    (let b := at_ (live.setSet 3 { state := 3, sre := true }) 0 30
     (b.set_ 3).sre = true ∧ (b.set_ 3).exiting = false ∧ (b.set_ 3).off = false ∧ (b.set_ 3).sreAt + 30 ≤ b.now ∧ (at_ b 0 0).now < (b.set_ 3).sreAt + 30) ∧
    (∀ e ∈ [(1, 20, 20), (2, 515, 515)], let b := at_ (live.setSet 3 { state := e.1, exiting := true, exitBound := e.2.1 }) 0 e.2.2
     (b.set_ 3).exiting = true ∧ (b.set_ 3).exitEnds ≤ b.now ∧ b.now ≤ (b.set_ 3).exitFrom + (b.set_ 3).exitBound) ∧
    (let b := live.setSet 3 { state := 1, exiting := true, exitFrom := 1, exitBound := 20 }
     b.now < (b.set_ 3).exitEnds) ∧ (live.set_ 3).exiting = false := by decide +kernel

/-- The collector with one message. -/
def queued (k : Kind) (windows : List (Nat × Kind × Nat)) : Base :=
  { live with flt := { live.flt with outbox := [{ source := 0x3F0, kind := k }], windows := windows } }

theorem test_hyps_acceptance :
    live.alive = true ∧ nextMsg live.flt.rr live.flt.outbox = none ∧ ({ live with flt := { live.flt with acceptedAt := some live.now } } : Base).flt.acceptedAt = some live.now ∧
    (∀ k ∈ [Kind.fillFallback, .droopFault, .resetRateExceeded], nextMsg 0 (queued k []).flt.outbox = some { source := 0x3F0, kind := k } ∧ (queued k []).flt.acceptedAt ≠ some (queued k []).now) ∧
    (Kind.cls .lineCorrected = .corrected ∧ Kind.lineCorrected ≠ .bucketOverflow) ∧ Kind.cls .linkDown = .contained ∧ Kind.cls .resetRateExceeded = .fatal ∧
    (∀ k ∈ [Kind.firewallViolation, .lineCorrected, .slotMalformed], k.limited = true ∧ ∃ w ∈ (queued k [(0x3F0, k, 0)]).flt.windows, w.1 = 0x3F0 ∧ w.2.1 = k ∧ live.pl.epochs < w.2.2 + 1000) ∧
    Kind.limited .linkDown = false ∧ live.flt.fatal = false := by decide

theorem test_hyps_reactions :
    (∀ second ∈ [false, true],
      let b := at_ { live with flt := { live.flt with timers := [{ scope := 48, second := second, due := 1 }] } } 1 1
      b.alive = true ∧ ∃ t ∈ b.flt.timers, t.scope = 48 ∧ t.second = second ∧ 1000 * t.due < b.now) ∧ live.flt.timers = [] ∧
    live.mgmtFull = true ∧ (tb 0x80000030 31 = true ∧ fld 0x80000030 5 0 = 48) ∧ tb 0x30 31 = false ∧ 48 < fld 0x80000031 5 0 ∧
    (({ live with flt := { live.flt with fenced := 0x80000000 } } : Base).flt.fenced.getLsbD (fld 0x8000001F 4 0) = true) ∧
    live.flt.fenced.getLsbD (fld 0x8000001F 4 0) = false ∧
    (let b := { live with flt := { live.flt with faultNLow := true, pulseEnd := 1, releasePending := true } }
     b.flt.faultNLow = true ∧ b.flt.releasePending = true ∧ b.now < b.flt.pulseEnd ∧ b.flt.pulseEnd ≤ (at_ b 0 1).now) ∧ live.flt.faultNLow = false ∧
    (let l : List LogEntry := [{ seq := 1, msg := { source := 0x3F0, kind := .linkDown } }]
     (∀ e ∈ l, e.msg.kind.cls = .contained → live.scopeOf e.msg = 48 → e.acked = true ∨ e.seq ≤ 1) ∧ ∃ e ∈ l, e.msg.kind.cls = .contained ∧ e.acked = false) := by decide

theorem test_hyps_reset_ctrl :
    live.mgmtFull = true ∧ tb 0x8000000F 31 = true ∧ fld 0x8000000F 4 0 < 16 ∧ fld 0x80000010 4 0 = 16 ∧
    fld 0x80000011 4 0 = 17 ∧ tb 0x11 31 = false ∧ 17 < fld 0x80000012 4 0 ∧
    (((Tab.get [] live.flt.history 17).filter fun t => decide (live.pl.epochs < t + Config.aonMinute)).length < 3) := by decide

theorem test_hyps_reset_ctrl_refused :
    3 ≤ ((Tab.get [] ({ live with flt := { live.flt with history := [(17, [1, 1, 1])] } } : Base).flt.history 17).filter fun t => decide (live.pl.epochs < t + Config.aonMinute)).length := by
  simp [Tab.get, live, State.reset]

theorem test_hyps_shadows_and_log :
    (let b := at_ (live.openShadow 18 100000) 100 0
     (b.flt.shadows.find? fun x => x.block == 18 && decide (x.closeAt ≤ b.now)).isSome = true ∧ b.alive = true) ∧ live.flt.shadows = [] ∧
    (let b := { live with flt := { live.flt with log := [{ seq := 4294967295, msg := { source := 0, kind := .linkDown } }] } }
     b.mgmtFull = true ∧ (b.flt.log.find? fun e => e.seq == (0xFFFFFFFF : Word).toNat).isSome = true ∧ ∀ e ∈ b.flt.log, e.seq ≠ (0xFFFFFFFE : Word).toNat) ∧
    live.fwRuns = true := by
  refine ⟨by decide +kernel, by decide, by decide +kernel, by decide⟩

theorem test_hyps_resets :
    live.mgmtUp = true ∧ fld 0x7A5D0001 31 16 ≠ 0x7A5E ∧ (fld 0x7A5E0001 31 16 = 0x7A5E ∧ fld 0x7A5E0001 1 0 = 1) ∧ fld 0x7A5E0002 1 0 = 2 ∧ fld 0x7A5E0003 1 0 = 3 ∧ live.fwRuns = true ∧
    (let b := at_ live 65535000 0
     b.alive = true ∧ b.boot.run = true ∧ b.boot.kickedAt + 1000000 * b.rf Reg.WDOG_CFG 15 0 ≤ b.now) ∧
    live.now < live.boot.kickedAt + 1000000 * live.rf Reg.WDOG_CFG 15 0 ∧
    (let b := at_ { live with boot := { live.boot with run := false } } 500000 0
     b.alive = true ∧ b.boot.run = false ∧ b.boot.bootAt + 500000000 ≤ b.now) ∧ live.now < live.boot.bootAt + 500000000 ∧
    (State.reset.base.pw.tripped = false ∧ State.reset.base.pack.serdesOff = false ∧ State.reset.base.boot.coldHeld = true) ∧
    ({ live with pw := { live.pw with tripped := true } } : Base).pw.tripped = true ∧ (live.boot.coldHeld = false ∧ live.boot.coldDue = none) ∧
    (let b := { live with boot := { live.boot with coldDue := some 0 } }
     b.pw.tripped = false ∧ b.pack.serdesOff = false ∧ b.boot.coldHeld = false ∧ b.boot.coldDue = some 0 ∧ 0 ≤ b.now ∧ b.alive = true) := by decide

/-- A boot with all three records lost, and one with all of them: version 3 was ACTIVE. -/
theorem test_hyps_boot_records :
    ({ bootRecord := .lost, directory := .lost, active := .lost } : BootRecords).bootRecord = .lost ∧
    ({ bootRecord := .lost, directory := .lost, active := .lost } : BootRecords).directory = .lost ∧
    ({} : BootRecords).bootRecord = .sound ∧ ({} : BootRecords).directory = .sound ∧
    ({ live with dict := { live.dict with active := 3, previous := 2 } } : Base).dict.active ≠ 0 := by decide

/-- An image that verifies against the key hash 1 of the fuses. -/
def goodImage : Image :=
  { magic := 0x5746524F, headerVersion := 1, version := 7, svn := 65535, length := 0x100000, keyHash := 1, digest := 9, sigOk := true, payloadOk := true }

/-- A part in the field whose KEYHASH holds 1, with the core `b`. -/
def fused (b : Base) : State := { otp := [(0x4D0, threeCopies 1)], base := { b with boot := { b.boot with lifecycle := 3 } } }

theorem test_hyps_boot :
    (let s := fused { live with boot := { live.boot with run := false, memActive := false } }
     s.base.alive = true ∧ s.base.boot.run = false ∧ s.base.boot.loaded = false ∧ s.base.boot.nextSlot = some false ∧ s.imageCode goodImage = 0 ∧
     s.imageCode { goodImage with sigOk := false } ≠ 0 ∧ s.base.boot.nextSlot ≠ some true) ∧
    (let b := { live with boot := { live.boot with run := false, loaded := true } }
     b.alive = true ∧ b.boot.run = false ∧ b.boot.loaded = true) ∧ (16 : BitVec 5).toNat ≠ 17 ∧ live.boot.run = true ∧
    (let b := { trained live with boot := { live.boot with memActive := false } }
     b.fwRuns = true ∧ b.boot.memActive = false ∧ b.flt.hold = false ∧ b.flt.fatal = false ∧ b.memoryReady = true ∧ b.dict.onTrial = false) ∧
    live.memoryReady = false ∧ tb 1 0 = true ∧ tb 2 0 = false := by decide +kernel

/-- A seal of REPAIR over no entries. -/
def sealedRepair (lock : Word) : Tab (BitVec 96) := [(0x23C, threeCopies 0x00500000), (0x23D, threeCopies (crc32 [])), (0x23E, threeCopies lock)]

theorem test_hyps_fuses :
    (live.mgmtUp = true ∧ tb 0x5FF 16 = false ∧ fld 0x5FF 10 0 < 0x600 ∧ copiesAgree (Tab.get 0 (St live).otp 0x5FF) = true ∧ copiesAgree 1 = false) ∧
    (let s : State := fused live
     s.base.alive = true ∧ s.programReason .firmware 0x600 1 = some 1 ∧ s.programReason .firmware 0x5FF 1 = none ∧
     ({ s with base := { s.base with boot := { s.base.boot with fuseOp := some .program } } } : State).programReason .firmware 0x5FF 1 = some 5) ∧
    (otpRaw (fused live).otp 0x40).getLsbD 4 = false ∧ (0x10 : Word) = BitVec.ofNat 32 (2 ^ 4) ∧
    (∀ op ∈ [FuseOp.program, .advance], let b := { live with boot := { live.boot with fuseOp := some op, fuseQueue := [(0x5FF, 1)] } }
     b.alive = true ∧ b.boot.fuseOp = some op ∧ b.boot.fuseQueue = [(0x5FF, 1)]) ∧ live.boot.fuseOp = none := by decide

theorem test_hyps_seals :
    (sealWord 2 = some 0x23C ∧ lockWord 2 = some 0x23E ∧ sealVerifies (otpRaw (sealedRepair 0)) 2 0x23C = true ∧ regionOpen 1 2 .firmware = true ∧
     regionLocked (sealedRepair 0) 2 = false) ∧ sealVerifies (otpRaw []) 2 0x23C = false ∧ sealWord 6 = none ∧
    ({ live with boot := { live.boot with fuseOp := some .lock } } : Base).boot.fuseOp = some .lock := by decide +kernel

/-- A command that verifies against the key hash 1. -/
def goodCommand : AuthCmd := { serialOk := true, nonce := 1, keyHash := 1, sigOk := true }

theorem test_hyps_grafts :
    let s := fused live
    let g : GraftLine := { line := 16383, w1 := 1, w2 := 2, w3 := 3, w4 := 4 }
    s.base.fwRuns = true ∧ s.base.boot.fuseOp = none ∧ s.authOk goodCommand = true ∧ 0 + [g].length ≤ 128 ∧ 128 < 127 + [g, g].length ∧
    s.authOk { goodCommand with sigOk := false } = false ∧
    ((List.range 8).find? fun k => otpRaw s.otp (0x4C0 + 2 * k) == 0 && otpRaw s.otp (0x4C1 + 2 * k) == 0) = some 0 ∧
    ∀ e ∈ graftBatch (otpRaw s.otp) 0 [g] 0, s.programReason (.command goodCommand) e.1 e.2 = none := by decide +kernel

theorem test_hyps_void_words :
    let j : JournalEntry := { word := 0x10, value := 1, state := .failed }
    let b := { live with boot := { live.boot with lifecycle := 1, journal := [j] } }
    b.alive = true ∧ b.boot.fuseOp = none ∧ (∃ w : BitVec 11, w = 0x10 ∧ voidable b.boot.journal w.toNat = true) ∧
    (∃ w : BitVec 11, w = 0x244 ∧ ¬(regionOpen b.boot.lifecycle (regionOf w.toNat) .firmware = true ∧ voidable b.boot.journal w.toNat = true)) ∧
    (∃ w ∈ ([0x10, 0x23D, 0x140, 0x200, 0x4C0, 0x540, 0x5FF] : List Nat), regionOpen 1 (regionOf w) .firmware = true) := by
  refine ⟨by decide, by decide, ⟨0x10, rfl, by decide⟩, ⟨0x244, rfl, by decide⟩, by decide⟩

theorem test_hyps_lifecycle :
    (fused live).base.fwRuns = true ∧ (fused live).authOk goodCommand = true ∧ (fused live).base.boot.lifecycle ≠ 4 ∧
    ({ live with boot := { live.boot with lifecycle := 4 } } : Base).boot.lifecycle = 4 ∧
    (St live).advanceOk 0 .jtag = true ∧ (St live).advanceOk 2 .jtag = false ∧ live.boot.fuseOp = none ∧ (fused live).authOk { goodCommand with sigOk := false } = false ∧
    (live.odUp (.firmware 3) 2 0x1000 5 [1] = true ∧ tb (accessRow live.dict.access 0).2 (odWho (.firmware 3)) = true) ∧
    State.reset.base.odUp (.firmware 3) 2 0x1000 5 [1] = false := by decide +kernel

theorem test_hyps_slots_and_recovery :
    ((fused live).base.fwRuns = true ∧ true ≠ (fused live).base.boot.slotB ∧ (fused live).imageCode goodImage = 0) ∧ false = live.boot.slotB ∧
    (live.mgmtUp = true ∧ live.boot.recovery = false) ∧
    (∀ busy ∈ [false, true], let b := { live with boot := { live.boot with recovery := true }, mg := { live.mg with rcvBusy := busy } }
      b.mgmtUp = true ∧ b.alive = true ∧ b.boot.recovery = true ∧ b.mg.rcvBusy = busy) := by decide +kernel

/-- A core whose SPDM algorithms are agreed, with sessions. -/
def agreed (l : List Session) : Base := { live with boot := { live.boot with algsAgreed := [.i3c], sessions := l } }

theorem test_hyps_spdm :
    live.spdmUp .i3c = true ∧ live.boot.algsAgreed.contains .i3c = false ∧ (agreed []).spdmUp .i3c = true ∧ (agreed []).boot.algsAgreed.contains .i3c = true ∧
    State.reset.base.spdmUp .i3c = false ∧ (15 : BitVec 4) ≠ 0 ∧ (6 : Byte).toNat ≤ 6 ∧ (6 < (7 : Byte).toNat ∧ (254 : Byte).toNat < 255) ∧
    (∀ done ∈ [false, true], let b := agreed [{ path := .i3c, id := 0xFFFF, finished := done }]
      b.boot.sessions.any (fun x => decide (x.path = .i3c) && x.id == 0xFFFF) = true ∧
      b.boot.sessions.any (fun x => (decide (x.path = .i3c) && x.id == 0xFFFF) && x.finished) = done ∧
      b.boot.sessions.any (fun x => (decide (x.path = .i3c) && x.id == 0xFFFF) && !x.finished) = !done) ∧
    (agreed []).boot.sessions.any (fun x => decide (x.path = .i3c) && x.id == 0xFFFF) = false := by decide

theorem test_hyps_endpoint :
    live.alive = true ∧ State.reset.base.alive = false ∧ live.mgmtUp = true ∧ regRow? 0xFFFFFC = none ∧ (live.offers 0x44 = true ∧ regRow? 0x44 ≠ none) ∧ live.mgmtFull = true ∧
    live.windowOpen = false ∧
    (let b := ((live.setReg Reg.DIAG_CFG 0x800001FF).setReg Reg.DIAG_FW_BASE 0).setReg Reg.DIAG_FW_LIMIT 511
     b.mgmtFull = true ∧ b.windowOpen = true) := by decide

/-- Channel 63 of the mailboxes from management software to core P1, with the notices given. -/
def mailed (l : List Notice) : Base :=
  { live.setReg (Reg.MBX_TABLE 63) 0x80001210 with mg := { live.mg with mbx := [(63, { fifo := l })] } }

theorem test_hyps_mailboxes :
    let n : Notice := { ptr := 0, len := 0, seq := 0 }
    (mailed []).reaches 16 = true ∧ (mailed []).mbxSender 63 = some 16 ∧ (mailed []).mbxReceiver 63 = some 18 ∧ (mailed []).bankOn ((mailed []).mbxBank 63) = true ∧
    4 ≤ ((mailed [n, n, n, n]).mbx 63).fifo.length ∧ ((mailed [n, n, n]).mbx 63).fifo.length < 4 ∧ (mailed []).ptrOk 16 0 0 = true ∧ (mailed []).mbxParty 63 16 = true ∧
    ((mailed []).setReg (Reg.MBX_TABLE 63) 0x80001200).ptrOk 0 0 0xFFFF = false ∧
    live.mbxSender 63 ≠ some 16 ∧ live.mbxReceiver 63 ≠ some 16 ∧ live.mbxParty 63 16 = false ∧ (mailed []).reaches 18 = true ∧
    (((mailed []).mbx 63).crossedAt ≠ some live.now) ∧ (((mailed []).setMbx 63 { crossedAt := some 0 }).mbx 63).crossedAt = some live.now ∧
    (∀ own ∈ [0, 17, 19], (((mailed []).setMbx 63 { lock := own }).mbx 63).lock = own) ∧ fld 0xFFFFFFE0 4 0 = 0 ∧ fld 31 4 0 ≠ 0 := by decide

/-- A host posts to core P1, past its own ranges. -/
theorem test_hyps_post_refused :
    let b := hosted.setReg (Reg.MBX_TABLE 63) 0x80001200
    b.reaches 0 = true ∧ b.mbxSender 63 = some 0 ∧ b.coh.isolated.getLsbD 0 = false ∧ b.bankOn (b.mbxBank 63) = true ∧ b.ptrOk 0 0xFFFFFFFFFF 64 = false := by decide

/-- Two channels between management software and core P1, one each way; the one back holds a notice. -/
def crossing (back : List Notice) : Base :=
  let b := (live.setReg (Reg.MBX_TABLE 63) 0x80001210).setReg (Reg.MBX_TABLE 7) 0x80001012
  { b with mg := { live.mg with mbx := if back = [] then [] else [(7, { fifo := back })] } }

theorem test_hyps_crossed_posts :
    let n : Notice := { ptr := 0, len := 0, seq := 0 }
    (∀ b ∈ [crossing [n], crossing []], b.reaches 16 = true ∧ b.mbxSender 63 = some 16 ∧ b.mbxBank 63 = 18 ∧ b.bankOn 18 = true ∧
      (b.mbx 63).fifo.length < 4 ∧ b.ptrOk 16 0 0 = true ∧ b.mbxSender 7 = some 18 ∧ b.mbxReceiver 7 = some 16) ∧
    ((crossing [n]).mbx 7).fifo ≠ [] ∧ (∀ j, j < 64 → ((crossing []).mbx j).fifo = []) := by decide

theorem test_hyps_domains :
    live.reaches 16 = true ∧ (∀ k ∈ [20, 21], live.domainOf k = .on) ∧
    (∀ d ∈ [DomState.off, .goingOff, .waking], ({ live with mov := { live.mov with domain := d } } : Base).domainOf 21 = d) ∧
    (let b := { live with mov := { live.mov with domain := .waking }, mg := { live.mg with wakeDue := [(21, 1)] } }
     b.alive = true ∧ b.domainOf 21 = .waking ∧ b.now < Tab.get 0 b.mg.wakeDue 21 ∧ Tab.get 0 b.mg.wakeDue 21 ≤ (at_ b 0 1).now) ∧
    (live.fwRuns = true ∧ (∀ k ∈ [20, 21], (∀ c ∈ live.bankChans k, (live.mbx c).fifo = []) ∧ Tab.get 0 live.mg.stayOn k ≤ live.now) ∧ live.mov.slots = [] ∧
     (∀ q, q < 64 → (live.queue q).head = (live.queue q).tail) ∧ live.noRowWork = true) ∧
    live.now < Tab.get 0 ({ live with mg := { live.mg with stayOn := [(20, 1)] } } : Base).mg.stayOn 20 ∧
    (chan63 { scrubJob := some { bank := 0, row := 0 } }).noRowWork = false := by decide +kernel

theorem test_hyps_mctp :
    (∀ t ∈ [Transport.pcie, .i3c], live.transportUp t = true) ∧ live.eid .pcie = 0 ∧
    (({ live with mg := { live.mg with eidPcie := 0xFE } } : Base).eid .pcie ≠ 0) ∧ (0xFE : Byte) ≠ 0 ∧ (0xFE : Byte) ≠ 0xFF ∧
    (live.fwRuns = true ∧ (hosted.port 0).carries = true ∧ tb (hosted.reg (Reg.PORT_LD_MODE 0)) 0 = true ∧ tb ((hosted.setReg (Reg.PORT_LD_MODE 0) 0).reg (Reg.PORT_LD_MODE 0)) 0 = false) ∧
    State.reset.base.transportUp .pcie = false ∧ live.mg.i3cAddr = 0 ∧ ({ live with mg := { live.mg with i3cAddr := 9 } } : Base).mg.i3cAddr ≠ 0 := by decide

/-- A pending version. -/
def draft (b : Base) : Base := { b with dict := { b.dict with pending := some { number := 1, role := 2 } } }

theorem test_hyps_dictionary :
    (let b := draft live
     let p : OdPath := .firmware 3
     let x := odIndex 0 0xF002
     b.odUp p 2 0xF002 1 (le 2 30) = true ∧ b.odUp p 2 0xF002 1 [0] = true ∧
     x.any (fun x => decide (odEntry x 0xF002 1 = some (.u16, .rwv)) && decide (x.rows = none) && b.odAllowed x (odWho p) 0xF002 1 (b.cursor (odWho p) 0xF002) true) = true ∧
     OdType.bytes .u16 = (le 2 30).length ∧ odInRange 0xF002 1 0 .u16 30 = true ∧ b.dict.commitStep = 0 ∧ live.dict.pending = none ∧
     ({ b with dict := { b.dict with commitStep := 5 } } : Base).dict.pending = some { number := 1, role := 2 }) := by decide +kernel

theorem test_hyps_dictionary_range : ∃ v : Nat, odInRange 0xF002 1 0 .u16 v = false := ⟨0, by decide +kernel⟩

theorem test_hyps_dictionary_reads :
    (let p : OdPath := .firmware 3
     live.odUp p 1 0x1000 1 [] = true ∧ (odIndex 0 0x1000).any (fun x => decide (x.rows = none) && (odEntry x 0x1000 1).any (fun e => decide (e.2 = .ro)) &&
       live.odAllowed x (odWho p) 0x1000 1 0 false) = true) ∧
    State.reset.base.odUp (.firmware 3) 1 0x1000 1 [] = false ∧ State.reset.base.odUp (.firmware 3) 2 0x1000 1 [0] = false ∧
    ((at_ { live with dict := { live.dict with lifeFrom := 0 } } 360000000 0).dict.lifeFrom + 360000000 ≤ 360000000) ∧ live.fwRuns = true ∧
    live.pl.epochs < live.dict.lifeFrom + 360000000 := by decide +kernel

/-- A core whose endpoint has an identity on PCIe. -/
def addressed : Base := { live with mg := { live.mg with eidPcie := 0xFE } }

theorem test_hyps_calendar :
    live.odUp (.mctp .pcie) 2 0x1110 4 (le 8 0 ++ le 4 0) = false ∧ addressed.odUp (.mctp .pcie) 2 0x1110 4 (le 8 0 ++ le 4 0) = true ∧ odWho (.mctp .pcie) = 16 ∧
    tb (accessRow addressed.dict.access 1).2 16 = true ∧ (999999999 : Word).toNat < 1000000000 ∧
    live.odUp (.firmware 3) 2 0x1110 4 (le 8 0 ++ le 4 0) = true ∧ odWho (.firmware 3) ≠ 16 := by decide

theorem test_hyps_versions :
    (addressed.odUp (.mctp .pcie) 2 0xF001 1 (le 1 5) = true ∧ odWho (.mctp .pcie) = 16 ∧ tb (accessRow addressed.dict.access 15).2 16 = true ∧ addressed.dict.commitStep = 0) ∧
    (let b := { addressed with dict := { addressed.dict with commitStep := 5 } }
     b.odUp (.mctp .pcie) 2 0xF001 1 (le 1 5) = true ∧ b.dict.commitStep = 5) ∧
    live.dict.pending = none ∧ live.dict.onTrial = false ∧ (draft live).dict.pending = some { number := 1, role := 2 } ∧ live.dict.previous = 0 ∧
    (({ live with dict := { live.dict with previous := 1 } } : Base).dict.previous ≠ 0) ∧
    (let b := { live with dict := { (draft live).dict with commitStep := 3 } }
     b.fwRuns = true ∧ b.dict.commitStep = 3 ∧ b.dict.pending = some { number := 1, role := 2 }) ∧
    (let b := { live with dict := { live.dict with onTrial := true, windowEnd := some 0 } }
     b.fwRuns = true ∧ b.dict.onTrial = true ∧ b.dict.commitStep = 0 ∧ b.dict.windowEnd = some 0 ∧ 0 ≤ b.pl.epochs) ∧
    live.pl.epochs < 1 := by decide

/-- The draft is refused for its confirm window and, with a window of 3,600 s and otherwise the built-in configuration, passes. -/
theorem test_hyps_validate : live.validate { number := 1, role := 2, windowS := 4 } = 1 ∧ live.validate { number := 1, role := 2, windowS := 3600 } = 0 := by decide +kernel

/-- Rind on its supply, after genesis. -/
def counting : Rind := { power := true, up := true, genesis := true }

theorem test_hyps_rind :
    State.reset.rind.power = false ∧ State.reset.rind.genesis = false ∧ counting.power = true ∧ counting.tamperDue = false ∧
    ({ counting with power := false } : Rind).genesis = true ∧
    (let t := ({ ({ counting with tamperDue := true } : Rind).capacityTick with time := 1 } : Rind)
     t.tamperDue = true ∧ t.tamperAllowed = true ∧ t.periodDue = false) ∧
    ({ counting with time := 3600000 } : Rind).periodDue = true ∧ counting.periodDue = false ∧ frameOk [] = false ∧
    (∀ c : Word, c = crc32 (tapHalves 0x1000000000000000) → frameOk [0x1000000000000000, BitVec.ofNat 64 (0x6000000000000000 + c.toNat)] = true) ∧
    (let b := { live with boot := { live.boot with run := false } }; b.alive = true ∧ b.boot.run = false) ∧ sealVerifies (otpRaw []) 5 0x54C = false := by
  refine ⟨by decide, by decide, by decide, by decide, by decide, by decide +kernel, by decide, by decide, by decide, ?_, by decide, by decide +kernel⟩
  intro c h
  subst h
  decide +kernel

/-- A TAMPER record is not allowed again within the interval. -/
theorem test_hyps_tamper : ∃ r : Rind, r.power = true ∧ r.genesis = true ∧ r.tamperDue = true ∧ ({ r.capacityTick with time := r.time + 1 } : Rind).tamperAllowed = false :=
  ⟨{ counting with tamperDue := true, tamperRecAt := some 0 }, by decide +kernel⟩

/-- A seal delivered, the region locked, and Rind's copy of it. -/
theorem test_hyps_seal :
    let otp : Tab (BitVec 96) := [(0x54C, threeCopies 0x05100000), (0x54D, threeCopies (crc32 [])), (0x54E, threeCopies 1)]
    sealVerifies (otpRaw otp) 5 0x54C = true ∧ regionLocked otp 5 = true ∧ regionLocked [] 5 = false ∧ sealWords (otpRaw otp) ≠ counting.sealCopy := by decide +kernel

theorem test_hyps_inspector :
    counting.up = true ∧ State.reset.rind.up = false ∧ (∀ x ∈ counting.records, x.seq ≠ 0) ∧ State.reset.rind.genesis = false ∧
    ((counting.close 2 0).records.find? fun x => x.seq == counting.nextSeq).isSome = true ∧
    (let r := { counting with onDemandAt := some 0, time := 59999 }
     r.onDemandAt = some 0 ∧ r.time < 0 + 60000) ∧ counting.onDemandAt = none ∧ counting.periodDue = false ∧
    (let r := { counting with onDemandAt := some 0, time := 60000 }
     (∀ t, t = 0 → t + 60000 ≤ r.time) ∧ r.up = true ∧ r.genesis = true ∧ r.periodDue = false) ∧
    (let r := { counting with onDemandAt := some 0, time := 3600000 }
     (∀ t, t = 0 → t + 60000 ≤ r.time) ∧ r.up = true ∧ r.genesis = true ∧ r.periodDue = true) := by
  refine ⟨by decide, by decide, by decide, by decide, ?_, by decide, by decide, by decide, ⟨?_, by decide⟩, ⟨?_, by decide⟩⟩
  · simp [Rind.close, counting]
  all_goals (intro t h; subst h; decide)

theorem test_hyps_rails :
    live.pack.serdesOff = false ∧ live.alive = true ∧ ({ live with pack := { live.pack with serdesOff := true } } : Base).pack.serdesOff = true ∧
    State.reset.base.instrOpen = false ∧ ({ live with boot := { live.boot with jtagOpen := true, lifecycle := 4 } } : Base).instrOpen = true := by decide

theorem test_hyps_arrays :
    Memory.wf [(0, 1), (79, 255)] = true ∧ (2 ^ 16 - 1) < 2 ^ (8 * 2) ∧ State.reset.base.alive = false ∧ actsWithoutCore .epochBoundary = false ∧
    rindCommand .rindMsTick = true ∧ rindCommand .epochBoundary = false ∧ arrayCommand .epochBoundary = false ∧ Instr.rindMsTick ≠ .rindSealDelivery ∧
    ({ State.reset with base := { State.reset.base with pw := { State.reset.base.pw with tripped := true } } } : State).base.pw.tripped = true := by decide

theorem test_hyps_redundant : ({ x := some 1, y := some 1, a := some (1, false, true), b := some (1, false, true) } : MramRec Nat).read = some (1, false) := by decide

theorem test_hyps_zero_row : Memory.wf State.reset.mem = true ∧ State.reset.base.ignores 63 = false := by decide

theorem test_hyps_address_map : (∀ n ∈ [4, 5, 6], placeOf n 0x1FFFFFFFC0 = { ch := 63, bank := 0, row := 0xFF00, col := 15 }) ∧
    (0x1FFFFFFFC0 < 2 ^ 37 ∧ 0x1FFFFFFFC0 % 64 = 0) ∧ (slotsOf 0 31 true true).length = 2 := by decide

/-! ### Ill-formed commands -/

theorem test_wf_plan : (Instr.planComplete { pauses := [(1, .drift), (1, .slice)] }).wf = false ∧ (Instr.planComplete { segment := some (0, 1328) }).wf = false ∧
    (Instr.planComplete { sensors := [19, 19] }).wf = false ∧ (Instr.planComplete { segment := some (0, 1327) }).wf = true := by decide

theorem test_wf_links : (Instr.configurationComplete 0 { width := 3, cxl := true, reversed := false }).wf = false ∧ (Instr.l0pEntry 0 3).wf = false ∧
    (Instr.configurationComplete 0 { width := 8, cxl := true, reversed := false }).wf = true ∧
    (Instr.eqPhase2End 0 3 [{ lane := 0, height := 1, width := 1 }, { lane := 0, height := 2, width := 2 }]).wf = false ∧
    (Instr.eyeCheck 0 [{ lane := 7, height := 1, width := 1 }, { lane := 7, height := 1, width := 1 }]).wf = false := by decide

theorem test_wf_requests :
    let r : MemReq := { port := 0, ld := 0, tag := 0, hpa := 65 }
    (Instr.memRd r).wf = false ∧ (Instr.memRdData r).wf = false ∧ (Instr.memInv r false).wf = false ∧ (Instr.memSpecRd r).wf = false ∧ (Instr.memRdFwd r 0).wf = false ∧
    (Instr.memWr r 0 false).wf = false ∧ (Instr.memWrPtl r 0 0).wf = false ∧ (Instr.biConflict 0 0 0 1).wf = false ∧ (Instr.biRsp 0 0 63 .i).wf = false ∧
    (Instr.memRd { r with hpa := 64 }).wf = true := by decide

theorem test_wf_ranges : (Instr.decoderCommit 0 0 { base := 0, size := 1, ways := 2, pos := 2, granLog2 := 8, dpaBase := 0 }).wf = false ∧
    (Instr.dcAddRequest 0 2 1).wf = false ∧ (Instr.dcExtentAccept 0 2 1).wf = false ∧ (Instr.dcExtentRelease 0 2 1).wf = false ∧ (Instr.dcForcedRelease 0 2 1).wf = false ∧
    (Instr.rangeHoldEnd 0 2 1).wf = false ∧ (Instr.getPoisonList 0 2 1).wf = false ∧ (Instr.scanMedia 0 2 1).wf = false ∧ (Instr.dcAddRequest 0 1 1).wf = true := by decide

theorem test_wf_noise : (Instr.channelSelect 0 [(80, 1)] none).wf = false ∧ (Instr.lineDecode 0 [(1, 1), (1, 2)]).wf = false ∧ (Instr.descFetch 0 [(127, 1)]).wf = false ∧
    (Instr.rowBusCycle 0 true (List.replicate 17 [])).wf = false ∧ (Instr.scrubRowDecoded 0 [[(80, 1)]]).wf = false ∧ (Instr.scrubVerifyDone 0 (List.replicate 17 [])).wf = false ∧
    (Instr.spareMoveRowInStage 0 [[(79, 1), (79, 1)]]).wf = false ∧ (Instr.lineDecode 0 [(79, 1)]).wf = true := by decide

theorem test_wf_stack : (Instr.caneTestShift (.seg 0 1328)).wf = false ∧ (Instr.caneTestResult (.seg 3 2047) []).wf = false ∧ (Instr.caneTestShiftBack (.seg 0 1328)).wf = false ∧
    (Instr.fullwidthTestDone 0 [10624] 0 0 0).wf = false ∧ (Instr.fullwidthTestDone 0 [1, 1] 0 0 0).wf = false ∧ (Instr.fullwidthTestDone 0 [] 0 10624 0).wf = false ∧
    (Instr.caneTestShift (.seg 3 1327)).wf = true := by decide

theorem test_wf_numbers : (Instr.reactionTimerExpire 49).wf = false ∧ (Instr.escalateTimerExpire 49).wf = false ∧ (Instr.shadowClose 19).wf = false ∧
    (Instr.bootExit 23).wf = false ∧ (Instr.wdogKick 23 1).wf = false ∧ (Instr.diagWindowRead 0 513).wf = false ∧ (Instr.diagWindowRead 0 0).wf = false ∧
    (Instr.shadowClose 18).wf = true := by decide

theorem test_wf_bits : (Instr.injArmNextWrite 6).wf = false ∧ (Instr.injRewriteNow 5).wf = false ∧ (Instr.injClearAll 3).wf = false ∧ (Instr.lblStagePush 2).wf = false ∧
    (Instr.lblStageDiscard 1).wf = false ∧ (Instr.injClearAll 7).wf = true := by decide

theorem test_wf_mbx : (Instr.mbxPost 23 0 0).wf = false ∧ (Instr.mbxPop 23 0).wf = false ∧ (Instr.mbxCrossedClear 31 0).wf = false ∧ (Instr.mbxLockRead 23 0).wf = false ∧
    (Instr.mbxLockRelease 23 0 0).wf = false ∧ (Instr.mbxWake 16 22).wf = false ∧ (Instr.mbxWake 23 0).wf = false ∧ (Instr.mbxWakeDone 22).wf = false ∧
    (Instr.domainPowerOff 22).wf = false ∧ (Instr.mbxPop 22 63).wf = true := by decide

/-! ### The manual's worked examples -/

/-- The example under R133 with 16 channels to a set, and with 64. -/
theorem test_address_map : placeOf 4 0x1234567A40 = { ch := 42, bank := 22, row := 0x46CC, col := 13 } ∧
    (placeOf 6 0x1234567A40).ch = 58 ∧ (placeOf 6 0x1234567A40).col = 5 ∧ dpaOf 4 { ch := 42, bank := 22, row := 0x46CC, col := 13 } = 0x1234567A40 := by decide

/-- The example under R100: a host's decoder of two ways. -/
theorem test_decoder :
    let d : Decoder := { base := 0x4000000000, size := 2 ^ 34, ways := 2, pos := 1, gran := 1024, dpaBase := 0x800000000, committed := true }
    d.hit 0x4000001C40 = some 0x800000C40 ∧ d.hit 0x4000001840 = none := by decide

/-- The example under R79: x4 on physical lanes 15 to 12 when lane 8 fails. -/
theorem test_width_reversal : bestWidth (fun l => l != 8) 8 8 8 false = some (4, true) ∧ widthLanes 8 8 4 true = [15, 14, 13, 12] := by decide

/-- The example under R39: 8 slots at 8.2 a boundary, and 320 in 39. -/
theorem test_refresh_slots :
    (((live.setChan 21 { train := .trained }).allotRefresh 21).chan 21).slots = 8 ∧
    ((forN 39 (fun (_ : Nat) (b : Base) => b.allotRefresh 21) (live.setChan 21 { train := .trained })).chan 21).slots = 320 := by decide +kernel

/-- The example under R308: an average of 260 ns pulls 150 ns up by a sixteenth of the difference. -/
theorem test_fold : foldM (150 * 256) (260 * 4) 4 = 40160 := by decide

/-- R191: six symbols in error are corrected, and data and metadata come back. -/
theorem test_code :
    let m : Meta := { sharers := 0x8001, st := 1 }
    let w := encodeLine 0x123456789 m
    let d := decodeWord [] (addNoise w [(0, 1), (9, 0x5A), (20, 4), (67, 0xFF), (70, 0x5A), (79, 0x80)])
    (decodeWord [] w).out = .clean ∧ d.out = .corrected ∧ d.data = 0x123456789 ∧ d.mt = m := by decide +kernel

/-- R434: a lost copy does not show. -/
theorem test_majority : majority (0xDEADBEEF#32 ++ 0#32 ++ 0xDEADBEEF#32) = 0xDEADBEEF := by decide

/-- R417: a reset command without its key is refused and reported. -/
theorem test_reset_cmd : took (.resetCmdCold 0x7A5D0002) (St live) (fun t => t.base == live.send .resetCmdRefused 0x5C5 0) = true := by decide +kernel

/-- R537: a brown-out of a core rail loses the arrays and holds the part. -/
theorem test_brownout : took (.coreRailBrownout .vddCore) { St live with mem := [(0, 1)] } (fun t => t.mem == [] && t.base.boot.coldHeld && t.base.flt.faultNLow) = true := by
  decide +kernel

/-- R544: IDCODE of the part. -/
theorem test_idcode : took (.jtagInstruction .idcode) State.reset (fun t => t.base.out == [.jtag (.word 0x10128C9D)]) = true := by decide +kernel

/-- R99: a read outside the host's ranges is answered with zeros and poison. -/
theorem test_firewall : took (.memRd { lastReq with hpa := 0x100000000 }) (St hosted) (fun t => t.base.out.head? == some (.rsp 0 0 1 (.data 0 true 0))) = true := by
  decide +kernel

/-- R28: the boundary advances the epoch counter; R44: without a plan the fallback plan runs. -/
theorem test_boundary : took .epochBoundary (St live) (fun t => t.base.pl.epoch == 1 && t.base.pl.fallback) = true := by decide +kernel

/-- R474: a post against a waiting notice is accepted and crosses. -/
theorem test_crossed_post :
    let n : Notice := { ptr := 0, len := 0, seq := 0 }
    took (Instr.mbxPost 16 63 0) (St (crossing [n])) (fun (t : State) => (t.base.mbx 63).crossed && (t.base.mbx 7).crossed && !(t.base.mbx 6).crossed && (t.base.mbx 63).fifo.length == 1) = true := by decide +kernel

/-- R10, R46: a counter cleared in the cycle in which it counts keeps that count. -/
theorem test_clear_and_count : (((live.bump Reg.DEFER_REFRESH 2).clearCounter Reg.DEFER_REFRESH).reg Reg.DEFER_REFRESH = 2) := by decide +kernel

end Sys2Proof.Tests
end

section
/-! SUPPORT. The address map of R131 and its reverse: the hash undoes itself, and the fields of a DPA are those of its place. -/

namespace Sys2Proof.Machine

/-- The row hash of R131, a XOR with its own upper byte, is its own inverse on 16 bits. -/
theorem xorHigh_xorHigh {r : Nat} (h : r < 65536) : (r ^^^ (r >>> 8)) ^^^ ((r ^^^ (r >>> 8)) >>> 8) = r := by
  have high : r >>> 8 >>> 8 = 0 := by simp only [Nat.shiftRight_eq_div_pow]; omega
  rw [Nat.shiftRight_xor_distrib, high, Nat.xor_zero, Nat.xor_xor_cancel_right]

theorem xorHigh_lt {r : Nat} (h : r < 65536) : r ^^^ (r >>> 8) < 65536 :=
  Nat.xor_lt_two_pow (n := 16) h (by simp only [Nat.shiftRight_eq_div_pow]; omega)

/-- The bank hash of R131 is its own inverse for one row. -/
theorem bankHash_bankHash (x r : Nat) : bankHash (bankHash x r) r = x := by
  simp only [bankHash]
  rw [Nat.xor_assoc x, Nat.xor_assoc x, Nat.xor_assoc (x ^^^ _), Nat.xor_assoc (x ^^^ _), Nat.xor_xor_cancel_right]

theorem bankHash_lt {x : Nat} (r : Nat) (h : x < 32) : bankHash x r < 32 := by
  have piece : ∀ k, k % 32 < 2 ^ 5 := fun k => Nat.mod_lt _ (by decide)
  exact Nat.xor_lt_two_pow (Nat.xor_lt_two_pow (Nat.xor_lt_two_pow (n := 5) h (piece _)) (piece _)) (piece _)

/-- The bank hash with the bit fields of the row written as masks. -/
theorem bankHash_eq_masks (x r : Nat) :
    bankHash x r = x ^^^ (r &&& 0x1F) ^^^ ((r >>> 5) &&& 0x1F) ^^^ ((r >>> 10) &&& 0x1F) := by
  simp only [bankHash, Nat.and_two_pow_sub_one_eq_mod _ 5, Nat.shiftRight_eq_div_pow, Nat.reducePow]

/-- A number below `2 ^ k` put under a multiple of `2 ^ k`: the sum sets the bits of both. -/
theorem add_eq_or_of_dvd {a b k : Nat} (ha : 2 ^ k ∣ a) (hb : b < 2 ^ k) : a + b = a ||| b := by
  obtain ⟨c, rfl⟩ := ha
  exact Nat.two_pow_add_eq_or_of_lt hb c

/-- The set widths of R129: 16, 32 and 64 channels. -/
def SetWidth (n : Nat) : Prop := n = 4 ∨ n = 5 ∨ n = 6

theorem placeOf_eq_masks (n dpa : Nat) :
    let r := (dpa >>> (15 + n)) &&& 0xFFFF
    placeOf n dpa =
      { ch := ((dpa >>> (31 + n)) <<< n) ||| ((dpa >>> 8) &&& (2 ^ n - 1))
        bank := ((dpa >>> (10 + n)) &&& 0x1F) ^^^ (r &&& 0x1F) ^^^ ((r >>> 5) &&& 0x1F) ^^^ ((r >>> 10) &&& 0x1F)
        row := r ^^^ (r >>> 8)
        col := ((dpa >>> 6) &&& 3) ||| (((dpa >>> (8 + n)) &&& 3) <<< 2) } := by
  have cis : (dpa >>> 8) % 2 ^ n < 2 ^ n := Nat.mod_lt _ (Nat.two_pow_pos n)
  have col : (dpa >>> 6) % 4 < 2 ^ 2 := Nat.mod_lt _ (by decide)
  simp only [placeOf, bankHash_eq_masks, Nat.and_two_pow_sub_one_eq_mod _ n, Nat.and_two_pow_sub_one_eq_mod _ 2,
    Nat.and_two_pow_sub_one_eq_mod _ 5, Nat.and_two_pow_sub_one_eq_mod _ 16, Place.mk.injEq, Nat.reducePow, true_and]
  refine ⟨?_, ?_⟩
  · rw [Nat.shiftLeft_eq, add_eq_or_of_dvd (Nat.dvd_mul_left _ _) cis]
  · rw [Nat.or_comm, Nat.shiftLeft_eq, ← add_eq_or_of_dvd (Nat.dvd_mul_left _ _) col]
    omega

/-- A DPA of 37 bits has a place within the part. -/
theorem placeOf_lt {n dpa : Nat} (hn : SetWidth n) (h : dpa < 2 ^ 37) :
    (placeOf n dpa).ch < 64 ∧ (placeOf n dpa).bank < 32 ∧ (placeOf n dpa).row < 65536 ∧ (placeOf n dpa).col < 16 := by
  refine ⟨?_, bankHash_lt _ (Nat.mod_lt _ (by decide)), xorHigh_lt (Nat.mod_lt _ (by decide)), ?_⟩
  · rcases hn with rfl | rfl | rfl <;> simp only [placeOf, Nat.shiftRight_eq_div_pow] <;> omega
  · simp only [placeOf]; omega

/-- The reverse map takes the place of a line back to its DPA. -/
theorem dpaOf_placeOf {n dpa : Nat} (hn : SetWidth n) (h : dpa < 2 ^ 37) (line : dpa % 64 = 0) : dpaOf n (placeOf n dpa) = dpa := by
  have hr : (dpa >>> (15 + n)) % 65536 < 65536 := Nat.mod_lt _ (by decide)
  simp only [dpaOf, placeOf, xorHigh_xorHigh hr, bankHash_bankHash]
  rcases hn with rfl | rfl | rfl <;> simp only [Nat.shiftRight_eq_div_pow] <;> omega

/-- The place lies in the part: 64 channels of 32 banks, 65,536 rows of 16 columns (R130). -/
def Place.InPart (p : Place) : Prop := p.ch < 64 ∧ p.bank < 32 ∧ p.row < 65536 ∧ p.col < 16

/-- The fields of a place's DPA: set, raw row, raw bank, upper column bits, channel in the set, lower column bits. -/
theorem dpaOf_fields {n : Nat} {p : Place} (hn : SetWidth n) (hp : p.InPart) :
    let d := dpaOf n p
    d < 2 ^ 37 ∧ d >>> (31 + n) = p.ch >>> n ∧ (d >>> (15 + n)) % 65536 = p.row ^^^ (p.row >>> 8) ∧
      (d >>> (10 + n)) % 32 = bankHash p.bank (p.row ^^^ (p.row >>> 8)) ∧ (d >>> (8 + n)) % 4 = p.col / 4 ∧
      (d >>> 8) % 2 ^ n = p.ch % 2 ^ n ∧ (d >>> 6) % 4 = p.col % 4 := by
  obtain ⟨hc, hb, hr, hcol⟩ := hp
  have hrow := xorHigh_lt hr
  have hbank := bankHash_lt (p.row ^^^ (p.row >>> 8)) hb
  simp only [dpaOf]
  generalize p.row ^^^ (p.row >>> 8) = r at *
  generalize bankHash p.bank r = b at *
  generalize hd : _ + p.col % 4 * 64 = d
  have raw : d >>> (15 + n) = (p.ch >>> n) * 65536 + r := by
    rcases hn with rfl | rfl | rfl <;> simp only [Nat.shiftRight_eq_div_pow] at hd ⊢ <;> omega
  have bank : d >>> (10 + n) = ((p.ch >>> n) * 65536 + r) * 32 + b := by
    rcases hn with rfl | rfl | rfl <;> simp only [Nat.shiftRight_eq_div_pow] at hd ⊢ <;> omega
  refine ⟨?_, ?_, by omega, by omega, ?_⟩
  all_goals rcases hn with rfl | rfl | rfl <;> simp only [Nat.shiftRight_eq_div_pow] at hd ⊢ <;> omega

/-- The address map takes the DPA of a place back to the place. -/
theorem placeOf_dpaOf {n : Nat} {p : Place} (hn : SetWidth n) (hp : p.InPart) : placeOf n (dpaOf n p) = p := by
  obtain ⟨-, set, row, bank, colHigh, cis, colLow⟩ := dpaOf_fields hn hp
  obtain ⟨-, -, hr, -⟩ := hp
  simp only [placeOf, set, row, bank, colHigh, cis, colLow, bankHash_bankHash, xorHigh_xorHigh hr, Nat.mod_add_div]
  rw [Nat.shiftRight_eq_div_pow, Nat.div_add_mod']

/-- The reverse map with shifts and masks: no two fields overlap. -/
theorem dpaOf_eq_masks {n : Nat} {p : Place} (hn : SetWidth n) (hp : p.InPart) :
    let r := p.row ^^^ (p.row >>> 8)
    dpaOf n p = ((p.ch >>> n) <<< (31 + n)) ||| (r <<< (15 + n)) |||
      ((p.bank ^^^ (r &&& 0x1F) ^^^ ((r >>> 5) &&& 0x1F) ^^^ ((r >>> 10) &&& 0x1F)) <<< (10 + n)) |||
      ((p.col >>> 2) <<< (8 + n)) ||| ((p.ch &&& (2 ^ n - 1)) <<< 8) ||| ((p.col &&& 3) <<< 6) := by
  obtain ⟨hc, hb, hr, hcol⟩ := hp
  have hrow := xorHigh_lt hr
  have hbank := bankHash_lt (p.row ^^^ (p.row >>> 8)) hb
  simp only [dpaOf, ← bankHash_eq_masks, Nat.and_two_pow_sub_one_eq_mod _ n, Nat.and_two_pow_sub_one_eq_mod _ 2, Nat.shiftLeft_eq,
    Nat.shiftRight_eq_div_pow _ 2, Nat.reducePow]
  generalize p.row ^^^ (p.row >>> 8) = r at *
  generalize bankHash p.bank r = b at *
  rw [add_eq_or_of_dvd (k := 8) (b := p.col % 4 * 64), add_eq_or_of_dvd (k := 8 + n) (b := p.ch % 2 ^ n * 256),
    add_eq_or_of_dvd (k := 10 + n) (b := p.col / 4 * 2 ^ (8 + n)), add_eq_or_of_dvd (k := 15 + n) (b := b * 2 ^ (10 + n)),
    add_eq_or_of_dvd (k := 31 + n) (b := r * 2 ^ (15 + n))]
  all_goals rcases hn with rfl | rfl | rfl <;> omega

/-- The low three bits of the bank are the bank group of every column slot of an access. -/
theorem slotsOf_group {t bank : Nat} {read merge : Bool} {x : ColSlot} (h : x ∈ slotsOf t bank read merge) : x.group = bank &&& 7 := by
  rw [Nat.and_two_pow_sub_one_eq_mod bank 3]
  cases merge <;> simp only [slotsOf, if_true, Bool.false_eq_true, if_false, List.mem_cons, List.not_mem_nil, or_false] at h
  · rw [h]
  · rcases h with rfl | rfl <;> rfl

/-- Settles O53: both hashes of R131 undo themselves, and the fields of a DPA do not overlap. -/
theorem addressMapIsABijection : Obligations.address_map_is_a_bijection := by
  refine ⟨fun n hn => ⟨fun dpa h => ?_, fun p hc hb hr hcol => ?_⟩, fun t bank read merge _ x => slotsOf_group, fun ch => ?_⟩
  · obtain ⟨ch, bank, row, col⟩ := placeOf_lt hn h
    exact ⟨placeOf_eq_masks n dpa, ch, bank, row, col, dpaOf_placeOf hn h⟩
  · have hp : p.InPart := ⟨hc, hb, hr, hcol⟩
    exact ⟨dpaOf_eq_masks hn hp, (dpaOf_fields hn hp).1, placeOf_dpaOf hn hp⟩
  · exact ⟨by rw [dieOf, Nat.shiftRight_eq_div_pow], by rw [quadOf, Nat.and_two_pow_sub_one_eq_mod ch 2]⟩

end Sys2Proof.Machine
end

section
/-! SUPPORT. The line code is linear (R138, R141): multiplication in the field, the divider by g(x) and the codeword all commute
with XOR. -/

namespace Sys2Proof.Machine

/-! ### The field -/

theorem gfDouble_eq {a : Nat} (h : a < 256) : gfDouble a = (a <<< 1) ^^^ (if a.testBit 7 then 0x11D else 0) := by
  have top : a.testBit 7 = decide (¬ a < 128) := by
    rw [Nat.testBit_eq_decide_div_mod_eq]
    exact decide_eq_decide.mpr (by omega)
  by_cases low : a < 128 <;> simp [gfDouble, top, low, Nat.shiftLeft_eq, Nat.mul_comm]

/-- Doubling is linear on bytes: whether it reduces by 0x11D is decided by one bit. -/
theorem gfDouble_xor {a b : Nat} (ha : a < 256) (hb : b < 256) : gfDouble (a ^^^ b) = gfDouble a ^^^ gfDouble b := by
  rw [gfDouble_eq ha, gfDouble_eq hb, gfDouble_eq (Nat.xor_lt_two_pow (n := 8) ha hb), Nat.shiftLeft_xor_distrib, Nat.testBit_xor]
  cases a.testBit 7 <;> cases b.testBit 7 <;> simp [Nat.xor_assoc, Nat.xor_comm, Nat.xor_left_comm]

theorem gfDouble_lt {a : Nat} (h : a < 256) : gfDouble a < 256 := by
  by_cases low : a < 128
  · simp only [gfDouble, low, if_true]; omega
  · have top : (2 * a) / 2 ^ 8 = 1 := by omega
    have clear : (2 * a ^^^ 0x11D) / 2 ^ 8 = 0 := by rw [Nat.xor_div_two_pow, top]; rfl
    simpa [gfDouble, low] using clear

/-- One step of gfMul, for bit `i` of the right factor: the sum so far and the left factor doubled. -/
def gfStep (b : Nat) (p : Nat × Nat) (i : Nat) : Nat × Nat :=
  ((if b.testBit i then p.1 ^^^ p.2 else p.1), gfDouble p.2)

theorem gfMul_eq (a b : Nat) : gfMul a b = ((List.range 8).foldl (gfStep b) (0, a)).1 := rfl

theorem foldl_gfStep_xor (b : Nat) (l : List Nat) {x y u v : Nat} (hu : u < 256) (hv : v < 256) :
    (l.foldl (gfStep b) (x ^^^ y, u ^^^ v)).1 = (l.foldl (gfStep b) (x, u)).1 ^^^ (l.foldl (gfStep b) (y, v)).1 := by
  induction l generalizing x y u v with
  | nil => rfl
  | cons i l ih =>
    have sum : gfStep b (x ^^^ y, u ^^^ v) i = ((gfStep b (x, u) i).1 ^^^ (gfStep b (y, v) i).1, gfDouble u ^^^ gfDouble v) := by
      cases hb : b.testBit i <;> simp [gfStep, hb, gfDouble_xor hu hv, Nat.xor_assoc, Nat.xor_left_comm]
    rw [List.foldl_cons, List.foldl_cons, List.foldl_cons, sum]
    exact ih (gfDouble_lt hu) (gfDouble_lt hv)

theorem foldl_gfStep_lt (b : Nat) (l : List Nat) {x u : Nat} (hx : x < 256) (hu : u < 256) :
    (l.foldl (gfStep b) (x, u)).1 < 256 := by
  induction l generalizing x u with
  | nil => exact hx
  | cons i l ih =>
    refine ih ?_ (gfDouble_lt hu)
    split
    · exact Nat.xor_lt_two_pow (n := 8) hx hu
    · exact hx

/-- The product distributes over XOR of bytes on the left. -/
theorem gfMul_xor {a c : Nat} (b : Nat) (ha : a < 256) (hc : c < 256) : gfMul (a ^^^ c) b = gfMul a b ^^^ gfMul c b :=
  foldl_gfStep_xor b (List.range 8) (x := 0) (y := 0) ha hc

theorem gfMul_lt {a : Nat} (b : Nat) (ha : a < 256) : gfMul a b < 256 :=
  foldl_gfStep_lt b (List.range 8) (by decide) ha

@[simp] theorem gfMul_zero_left (b : Nat) : gfMul 0 b = 0 := by
  simpa using gfMul_xor (a := 0) (c := 0) b (by decide) (by decide)

@[simp] theorem gfMul_zero_right (a : Nat) : gfMul a 0 = 0 := by simp [gfMul_eq, List.range_succ, gfStep]

/-! ### The divider -/

@[simp] theorem polyAdd_getD (p q : Poly) (i : Nat) : (polyAdd p q).getD i 0 = p.getD i 0 ^^^ q.getD i 0 := by
  induction p generalizing q i with
  | nil => simp [polyAdd]
  | cons a p ih =>
    cases q with
    | nil => simp [polyAdd]
    | cons b q => cases i with
      | zero => simp [polyAdd]
      | succ i => simpa [polyAdd] using ih q i

@[simp] theorem polyScale_getD (c : Nat) (p : Poly) (i : Nat) : (polyScale c p).getD i 0 = gfMul c (p.getD i 0) := by
  simpa [polyScale] using List.getD_map (l := p) (d := 0) (n := i) (gfMul c)

/-- A state of the divider: its symbols are bytes, and there is one. -/
def Divider (r : List Nat) : Prop := r ≠ [] ∧ ∀ i, r.getD i 0 < 256

/-- The divider as a shift register: what comes in, with the head symbol, is fed back times g(x). -/
theorem divStep_getD {r : List Nat} (h : r ≠ []) (c i : Nat) :
    (divStep r c).getD i 0 = r.getD (i + 1) 0 ^^^ gfMul (c ^^^ r.getD 0 0) (genTail.getD i 0) := by
  obtain ⟨a, t, rfl⟩ := List.exists_cons_of_ne_nil h
  have shifted : (t ++ [0]).getD i 0 = t.getD i 0 := by
    rcases Nat.lt_or_ge i t.length with hi | hi
    · rw [List.getD_append _ _ _ _ hi]
    · rw [List.getD_append_right _ _ _ _ hi, List.getD_eq_default _ _ hi]
      cases i - t.length <;> rfl
  simp only [divStep, polyAdd_getD, shifted, List.getD_cons_succ, List.getD_cons_zero]
  split
  · next h0 => simp [h0]
  · rw [polyScale_getD]

theorem polyAdd_ne_nil {p : Poly} (q : Poly) (h : p ≠ []) : polyAdd p q ≠ [] := by
  obtain ⟨a, p, rfl⟩ := List.exists_cons_of_ne_nil h
  cases q <;> simp [polyAdd]

theorem divStep_ne_nil {r : List Nat} (h : r ≠ []) (c : Nat) : divStep r c ≠ [] := by
  obtain ⟨a, t, rfl⟩ := List.exists_cons_of_ne_nil h
  exact polyAdd_ne_nil _ (by simp)

theorem divStep_divider {r : List Nat} {c : Nat} (h : Divider r) (hc : c < 256) : Divider (divStep r c) := by
  obtain ⟨ne, bytes⟩ := h
  refine ⟨divStep_ne_nil ne c, fun i => ?_⟩
  rw [divStep_getD ne]
  exact Nat.xor_lt_two_pow (n := 8) (bytes _) (gfMul_lt _ (Nat.xor_lt_two_pow (n := 8) hc (bytes 0)))

/-- The symbols of `t` are the sums of those of `r` and `s`. -/
def SymbolSum (t r s : List Nat) : Prop := ∀ i, t.getD i 0 = r.getD i 0 ^^^ s.getD i 0

theorem SymbolSum.zipWith_xor {l k : List Nat} (len : l.length = k.length) : SymbolSum (l.zipWith (· ^^^ ·) k) l k := by
  intro i
  rcases Nat.lt_or_ge i l.length with hi | hi <;> simp [List.getD_eq_getElem?_getD, hi, len ▸ hi]

/-- Sums of lists of one length, one after the other. -/
theorem SymbolSum.append {t r s t' r' s' : List Nat} (hr : r.length = t.length) (hs : s.length = t.length) (head : SymbolSum t r s)
    (tail : SymbolSum t' r' s') : SymbolSum (t ++ t') (r ++ r') (s ++ s') := by
  intro i
  rcases Nat.lt_or_ge i t.length with hi | hi
  · rw [List.getD_append _ _ _ _ hi, List.getD_append _ _ _ _ (hr ▸ hi), List.getD_append _ _ _ _ (hs ▸ hi), head i]
  · rw [List.getD_append_right _ _ _ _ hi, List.getD_append_right _ _ _ _ (hr ▸ hi), List.getD_append_right _ _ _ _ (hs ▸ hi), hr, hs,
      tail]

theorem divStep_sum {t r s : List Nat} {c e : Nat} (ht : t ≠ []) (hr : Divider r) (hs : Divider s) (hc : c < 256) (he : e < 256)
    (sum : SymbolSum t r s) : SymbolSum (divStep t (c ^^^ e)) (divStep r c) (divStep s e) := by
  intro i
  have feed : (c ^^^ e) ^^^ t.getD 0 0 = (c ^^^ r.getD 0 0) ^^^ (e ^^^ s.getD 0 0) := by
    rw [sum 0]; ac_rfl
  rw [divStep_getD ht, divStep_getD hr.1, divStep_getD hs.1, feed, sum (i + 1),
    gfMul_xor _ (Nat.xor_lt_two_pow (n := 8) hc (hr.2 0)) (Nat.xor_lt_two_pow (n := 8) he (hs.2 0))]
  ac_rfl

/-- The divider is linear over messages of one length. -/
theorem foldl_divStep_sum {l k : List Nat} (len : l.length = k.length) (hl : ∀ c ∈ l, c < 256) (hk : ∀ c ∈ k, c < 256)
    {t r s : List Nat} (ht : t ≠ []) (hr : Divider r) (hs : Divider s) (sum : SymbolSum t r s) :
    SymbolSum ((l.zipWith (· ^^^ ·) k).foldl divStep t) (l.foldl divStep r) (k.foldl divStep s) := by
  induction l generalizing k t r s with
  | nil => obtain rfl := List.length_eq_zero_iff.mp len.symm; exact sum
  | cons c l ih =>
    cases k with
    | nil => simp at len
    | cons e k =>
      obtain ⟨hc, hl⟩ := List.forall_mem_cons.mp hl
      obtain ⟨he, hk⟩ := List.forall_mem_cons.mp hk
      exact ih (Nat.succ.inj len) hl hk (divStep_ne_nil ht _) (divStep_divider hr hc) (divStep_divider hs he)
        (divStep_sum ht hr hs hc he sum)

/-- The check symbols of a sum of messages are the sums of their check symbols. -/
theorem checkSymbols_sum {l k : List Nat} (len : l.length = k.length) (hl : ∀ c ∈ l, c < 256) (hk : ∀ c ∈ k, c < 256) :
    SymbolSum (checkSymbols (l.zipWith (· ^^^ ·) k)) (checkSymbols l) (checkSymbols k) := by
  have zeros : ∀ i, (List.replicate 12 0).getD i 0 = 0 := by
    intro i
    rcases Nat.lt_or_ge i 12 with hi | hi
    · exact List.getD_replicate _ hi
    · exact List.getD_eq_default _ _ (by simpa using hi)
  have start : Divider (List.replicate 12 0) := ⟨by simp, fun i => by rw [zeros]; decide⟩
  exact foldl_divStep_sum len hl hk start.1 start start fun i => by simp only [zeros, Nat.xor_self]

/-! ### The codeword -/

/-- The XOR of two lines' metadata, field by field. -/
def Meta.xor (m k : Meta) : Meta :=
  { sharers := m.sharers ^^^ k.sharers, st := m.st ^^^ k.st, poison := m.poison ^^ k.poison, healed := m.healed ^^ k.healed }

@[simp] theorem Meta.xor_self (m : Meta) : m.xor m = {} := by simp [Meta.xor]

/-- The stored metadata as one vector: HEALED, POISON, state, sharers from the top (R136). -/
theorem Meta.bits_eq (m : Meta) : m.bits = (BitVec.ofBool m.healed ++ BitVec.ofBool m.poison ++ m.st ++ m.sharers).toNat := by
  have sharers := m.sharers.isLt
  have st := m.st.isLt
  have append : ∀ {v w : Nat} (x : BitVec v) (y : BitVec w), (x ++ y).toNat = x.toNat * 2 ^ w + y.toNat := fun x y => by
    rw [BitVec.toNat_append, ← Nat.shiftLeft_add_eq_or_of_lt y.isLt, Nat.shiftLeft_eq]
  simp only [append, Meta.bits, BitVec.toNat_ofBool]
  cases m.poison <;> cases m.healed <;> simp <;> omega

theorem Meta.bits_xor (m k : Meta) : (m.xor k).bits = m.bits ^^^ k.bits := by
  simp only [Meta.bits_eq, Meta.xor, ← BitVec.toNat_xor, BitVec.xor_append, BitVec.ofBool_xor_ofBool]

theorem Meta.bits_lt (m : Meta) : m.bits < 2 ^ 32 :=
  m.bits_eq ▸ Nat.lt_trans (BitVec.isLt _) (by decide)

/-- Byte `i` of a number. -/
def byteOf (n i : Nat) : Nat := (n >>> (8 * i)) % 256

theorem byteOf_lt (n i : Nat) : byteOf n i < 256 := Nat.mod_lt _ (by decide)

theorem byteOf_xor (n k i : Nat) : byteOf (n ^^^ k) i = byteOf n i ^^^ byteOf k i := by
  simp only [byteOf, Nat.shiftRight_xor_distrib]
  exact Nat.xor_mod_two_pow (n := 8)

theorem byteOf_testBit (n k : Nat) : (byteOf n (k / 8)).testBit (k % 8) = n.testBit k := by
  rw [byteOf, Nat.testBit_mod_two_pow (j := 8), Nat.testBit_shiftRight, Nat.div_add_mod]
  simp [Nat.mod_lt]

/-- The symbols c0 to c67 of a line: its data and its metadata. -/
def lineBody (d : Data) (m : Meta) : List Nat := (List.range 64).map (byteOf d.toNat) ++ (List.range 4).map (byteOf m.bits)

/-- The eighty symbols of a line. -/
def lineSymbols (d : Data) (m : Meta) : List Nat := lineBody d m ++ checkSymbols (lineBody d m)

@[simp] theorem lineBody_length (d : Data) (m : Meta) : (lineBody d m).length = 68 := by simp [lineBody]

theorem lineBody_lt {d : Data} {m : Meta} : ∀ c ∈ lineBody d m, c < 256 := by
  simp only [lineBody, List.mem_append, List.mem_map]
  rintro _ (⟨i, -, rfl⟩ | ⟨i, -, rfl⟩) <;> exact byteOf_lt ..

theorem lineBody_xor (d e : Data) (m k : Meta) :
    lineBody (d ^^^ e) (m.xor k) = (lineBody d m).zipWith (· ^^^ ·) (lineBody e k) := by
  rw [lineBody, lineBody, lineBody, List.zipWith_append (by simp), List.zipWith_map, List.zipWith_map, List.zipWith_self,
    List.zipWith_self, BitVec.toNat_xor, Meta.bits_xor]
  simp only [← byteOf_xor]

/-- The eighty symbols of a sum of lines are the sums of theirs. -/
theorem lineSymbols_sum (d e : Data) (m k : Meta) :
    SymbolSum (lineSymbols (d ^^^ e) (m.xor k)) (lineSymbols d m) (lineSymbols e k) := by
  have len : (lineBody d m).length = (lineBody e k).length := by simp
  rw [lineSymbols, lineBody_xor]
  exact .append (by simp) (by simp) (.zipWith_xor len) (checkSymbols_sum len lineBody_lt lineBody_lt)

/-- Every symbol of the zero line is zero, for it is the sum of any line with itself. -/
theorem lineSymbols_zero (i : Nat) : (lineSymbols 0 {}).getD i 0 = 0 := by
  simpa using lineSymbols_sum 0 0 {} {} i

/-- Bit `k` of a codeword is bit `k % 8` of symbol `k / 8` (R138). -/
theorem fromSymbols_getLsbD (l : List Nat) {k : Nat} (hk : k < 640) :
    (fromSymbols l).getLsbD k = (l.getD (k / 8) 0).testBit (k % 8) := by
  rw [fromSymbols, BitVec.getLsbD_ofNat, decide_eq_true hk, Bool.true_and]
  clear hk
  induction l generalizing k with
  | nil => simp
  | cons c l ih =>
    rw [List.foldr_cons, Nat.add_comm, Nat.testBit_two_pow_mul_add (i := 8) _ (Nat.mod_lt _ (by decide))]
    split
    · next low => rw [Nat.div_eq_of_lt low, Nat.mod_eq_of_lt low, Nat.testBit_mod_two_pow c 8]; simp [low]
    · next high =>
      have next : k / 8 = (k - 8) / 8 + 1 := by omega
      have same : k % 8 = (k - 8) % 8 := by omega
      rw [ih, next, same, List.getD_cons_succ]

/-- The zero line is no special case of the encoder: its symbols are zero anyway. -/
theorem encodeLine_eq (d : Data) (m : Meta) : encodeLine d m = fromSymbols (lineSymbols d m) := by
  by_cases zero : d = 0 ∧ m = {}
  · obtain ⟨rfl, rfl⟩ := zero
    refine BitVec.eq_of_getLsbD_eq fun k hk => ?_
    rw [fromSymbols_getLsbD _ hk, lineSymbols_zero]
    simp [encodeLine]
  · exact if_neg zero

theorem encodeLine_getLsbD (d : Data) (m : Meta) {k : Nat} (hk : k < 640) :
    (encodeLine d m).getLsbD k = ((lineSymbols d m).getD (k / 8) 0).testBit (k % 8) := by
  rw [encodeLine_eq, fromSymbols_getLsbD _ hk]

/-- The code is linear. -/
theorem encodeLine_xor (d e : Data) (m k : Meta) : encodeLine (d ^^^ e) (m.xor k) = encodeLine d m ^^^ encodeLine e k := by
  refine BitVec.eq_of_getLsbD_eq fun i hi => ?_
  rw [BitVec.getLsbD_xor, encodeLine_getLsbD _ _ hi, encodeLine_getLsbD _ _ hi, encodeLine_getLsbD _ _ hi, lineSymbols_sum,
    Nat.testBit_xor]

/-- The zero line encodes as zero bits: it is the sum of any line with itself (R141). -/
theorem encodeLine_zero : encodeLine 0 {} = 0 := by
  simpa using encodeLine_xor 0 0 {} {}

theorem lineSymbols_data (d : Data) (m : Meta) {i : Nat} (hi : i < 64) : (lineSymbols d m).getD i 0 = byteOf d.toNat i := by
  simp [lineSymbols, lineBody, List.getD_eq_getElem?_getD, hi, Nat.lt_trans hi]

theorem lineSymbols_meta (d : Data) (m : Meta) {i : Nat} (hi : i < 4) : (lineSymbols d m).getD (64 + i) 0 = byteOf m.bits i := by
  simp [lineSymbols, lineBody, List.getD_eq_getElem?_getD, List.getElem?_append, hi]

/-- Data stand in the codeword as they are. -/
theorem wordData_encodeLine (d : Data) (m : Meta) : wordData (encodeLine d m) = d := by
  refine BitVec.eq_of_getLsbD_eq fun k hk => ?_
  rw [wordData, BitVec.getLsbD_extractLsb', decide_eq_true hk, Bool.true_and, Nat.zero_add, encodeLine_getLsbD _ _ (by omega),
    lineSymbols_data _ _ (by omega), byteOf_testBit, BitVec.testBit_toNat]

/-- Metadata stand in the codeword as they are. -/
theorem encodeLine_meta (d : Data) (m : Meta) : ((encodeLine d m).extractLsb' 512 32).toNat = m.bits := by
  have stored : (encodeLine d m).extractLsb' 512 32 = BitVec.ofNat 32 m.bits := by
    refine BitVec.eq_of_getLsbD_eq fun k hk => ?_
    have symbol : (512 + k) / 8 = 64 + k / 8 := by omega
    have bit : (512 + k) % 8 = k % 8 := by omega
    rw [BitVec.getLsbD_extractLsb', BitVec.getLsbD_ofNat, encodeLine_getLsbD _ _ (by omega), symbol, bit,
      lineSymbols_meta _ _ (by omega), byteOf_testBit]
  rw [stored, BitVec.toNat_ofNat, Nat.mod_eq_of_lt m.bits_lt]

end Sys2Proof.Machine
end

section
/-! SUPPORT. A zero row of a fill (R141, R144) leaves the zero codeword in every line of its row. -/

namespace Sys2Proof.Machine

/-! ### A zero line -/

/-- The array holds no cell in the n bytes from a. -/
def Memory.Clear (m : List Host.Cell) (a n : Nat) : Prop := ∀ c ∈ m, c.1 < a ∨ a + n ≤ c.1

/-- The line reads zero, from the remap table and from the array alike. -/
def State.ZeroAt (s : State) (p : Place) : Prop :=
  (∀ r, (s.base.chan p.ch).remapOf p.bank p.row p.col = some r → r.word = 0) ∧
  Memory.Clear s.mem (rawAddr p.ch p.bank ((s.base.chan p.ch).rawRow p.bank p.row) p.col) 80

theorem Memory.load_of_clear {m : List Host.Cell} {a n : Nat} (h : Memory.Clear m a n) : Memory.load m a n = 0 := by
  refine List.foldlRecOn (motive := fun acc => acc = 0) m _ rfl fun acc zero c hc => ?_
  rw [if_neg (by have := h c hc; omega), zero]

theorem bytesFrom_zero (a n : Nat) : bytesFrom a 0 n = [] := by
  induction n generalizing a with
  | zero => rfl
  | succ n ih => simpa [bytesFrom] using ih (a + 1)

/-- Storing zeros only takes cells away. -/
theorem Memory.mem_store_zero {m : List Host.Cell} {a n : Nat} {c : Host.Cell} :
    c ∈ Memory.store m a 0 n ↔ c ∈ m ∧ (c.1 < a ∨ a + n ≤ c.1) := by
  simp only [Memory.store, bytesFrom_zero, List.append_nil, List.mem_append, List.mem_filter, decide_eq_true_eq, and_or_left]

theorem Memory.clear_store_zero (m : List Host.Cell) (a n : Nat) : Memory.Clear (Memory.store m a 0 n) a n :=
  fun _ hc => (Memory.mem_store_zero.mp hc).2

theorem Memory.Clear.store_zero {m : List Host.Cell} {a n : Nat} (h : Memory.Clear m a n) (b k : Nat) :
    Memory.Clear (Memory.store m b 0 k) a n :=
  fun c hc => h c (Memory.mem_store_zero.mp hc).1

theorem State.lineWord_of_zeroAt {s : State} {p : Place} (h : s.ZeroAt p) : s.lineWord p = 0 := by
  obtain ⟨remapped, clear⟩ := h
  unfold State.lineWord
  split
  · next r hr => exact remapped r hr
  · rw [State.rawLine, Memory.load_of_clear clear]; rfl

/-- An update of the state without the arrays that leaves the channel leaves its zero lines zero. -/
theorem State.ZeroAt.onBase {s : State} {p : Place} (h : s.ZeroAt p) {f : Base → Base} (chan : (f s.base).chan p.ch = s.base.chan p.ch) :
    (s.onBase f).ZeroAt p := by
  simpa only [State.ZeroAt, State.onBase_base, State.onBase_mem, chan] using h

/-! ### Writing zeros -/

theorem find?_updFirst_same {α : Type} {p : α → Bool} {f : α → α} (keeps : ∀ x, p (f x) = p x) (l : List α) :
    (updFirst p f l).find? p = (l.find? p).map f := by
  induction l with
  | nil => rfl
  | cons x l ih => cases h : p x <;> simp [updFirst, h, keeps, ih]

/-- What a search finds after an update of one element stood there before, or is an element as updated. -/
theorem find?_updFirst {α : Type} {p q : α → Bool} {f : α → α} (keeps : ∀ x, q (f x) = q x) {l : List α} {y : α}
    (h : (updFirst p f l).find? q = some y) : l.find? q = some y ∨ ∃ x, y = f x := by
  induction l with
  | nil => exact .inl h
  | cons x l ih =>
    rw [updFirst] at h
    cases hp : p x <;> cases hq : q x <;> simp_all
    exact .inr ⟨x, h.symm⟩

theorem Base.chan_updChan (b : Base) (i k : Nat) (f : Chan → Chan) :
    (b.updChan i f).chan k = if k = i then f (b.chan i) else b.chan k :=
  Tab.get_set ({} : Chan) b.dram.chans i k (f (b.chan i))

/-- The channel with the zero codeword in the remap entry of a line. -/
def Chan.zeroRemap (c : Chan) (bank row col : Nat) : Chan :=
  { c with remap := updFirst (fun r => r.bank == bank && r.row == row && r.col == col) (fun r => { r with word := 0 }) c.remap }

theorem Chan.remapOf_zeroRemap {c : Chan} {bank row col bank' row' col' : Nat} {r : Remap}
    (h : (c.zeroRemap bank row col).remapOf bank' row' col' = some r) : c.remapOf bank' row' col' = some r ∨ r.word = 0 := by
  refine (find?_updFirst (f := fun r : Remap => { r with word := 0 }) (fun _ => rfl) h).imp_right ?_
  rintro ⟨x, rfl⟩
  rfl

theorem Chan.remapOf_zeroRemap_same {c : Chan} {bank row col : Nat} {r : Remap}
    (h : (c.zeroRemap bank row col).remapOf bank row col = some r) : r.word = 0 := by
  have found : (c.remapOf bank row col).map (fun r => { r with word := 0 }) = some r :=
    (find?_updFirst_same (f := fun r : Remap => { r with word := 0 }) (fun _ => rfl) c.remap).symm.trans h
  obtain ⟨x, -, rfl⟩ := Option.map_eq_some_iff.mp found
  rfl

theorem State.putWord_zero_of_remapped {s : State} {q : Place} {r : Remap}
    (h : (s.base.chan q.ch).remapOf q.bank q.row q.col = some r) :
    s.putWord q 0 = s.onBase fun b => b.updChan q.ch fun c => c.zeroRemap q.bank q.row q.col := by
  rw [State.putWord, h]
  rfl

theorem State.storeLine_zero (s : State) (q : Place) :
    s.storeLine q 0 = { s with mem := Memory.store s.mem (rawAddr q.ch q.bank ((s.base.chan q.ch).rawRow q.bank q.row) q.col) 0 80 } := by
  have zero : (0 : BitVec 640).toNat = 0 := BitVec.toNat_zero
  rw [State.storeLine, zero]

theorem State.ZeroAt.storeLine {s : State} {p : Place} (h : s.ZeroAt p) (q : Place) : (s.storeLine q 0).ZeroAt p := by
  rw [State.storeLine_zero]
  exact ⟨h.1, h.2.store_zero _ _⟩

/-- Zeroing a remap entry leaves every zero line zero. -/
theorem State.ZeroAt.zeroRemap {s : State} {p : Place} (h : s.ZeroAt p) (ch bank row col : Nat) :
    (s.onBase fun b => b.updChan ch fun c => c.zeroRemap bank row col).ZeroAt p := by
  obtain ⟨remapped, clear⟩ := h
  simp only [State.ZeroAt, State.onBase_base, State.onBase_mem, Base.chan_updChan]
  split
  · next same => exact ⟨fun r hr => (Chan.remapOf_zeroRemap hr).elim (same ▸ remapped r) id, same ▸ clear⟩
  · exact ⟨remapped, clear⟩

/-- One line of the row write of a channel that takes commands (State.writeRow): into the array, and into its remap entry. -/
def State.putRowLine (ch bank row : Nat) (s : State) (e : BitVec 640 × Nat) : State :=
  let p : Place := { ch := ch, bank := bank, row := row, col := e.2 }
  let s := s.storeLine p (s.base.busDrive (quadOf ch) e.2 e.1)
  match (s.base.chan ch).remapOf bank row e.2 with
  | some _ => s.putWord p e.1
  | none => s

/-- A row write is the write of each of its lines, between updates of the state without the arrays. -/
theorem State.writeRow_eq_foldl {s : State} {ch : Nat} (h : s.base.ignores ch = false) (t : Nat) (e : RowEntry) (words : List (BitVec 640)) :
    s.writeRow ch t e words =
      (words.zipIdx.foldl (State.putRowLine ch e.bank e.row)
        (s.onBase fun b => ((b.activateRow ch t e).overtakeRow ch e.bank e.row).logWrite ch e.bank e.row 16 true)).onBase
        fun b => (b.rowLines ch e.bank e.row).foldl (fun b l => b.injectWrite l {}) b := by
  simp only [State.writeRow, h, Bool.not_false, Bool.false_eq_true, if_false]
  rfl

@[simp] theorem Base.busDrive_zero (b : Base) (bus col : Nat) : b.busDrive bus col 0 = 0 := by
  refine List.foldlRecOn (motive := fun w => w = 0) _ _ rfl fun w zero c _ => ?_
  rw [zero]
  exact BitVec.zero_and

/-- A zero line written reads zero. -/
theorem State.zeroAt_putRowLine (s : State) (ch bank row col : Nat) :
    (s.putRowLine ch bank row (0, col)).ZeroAt { ch := ch, bank := bank, row := row, col := col } := by
  simp only [State.putRowLine, Base.busDrive_zero, State.storeLine_zero]
  have clear := Memory.clear_store_zero s.mem (rawAddr ch bank ((s.base.chan ch).rawRow bank row) col) 80
  cases h : (s.base.chan ch).remapOf bank row col with
  | none => exact ⟨fun r hr => absurd (h.symm.trans hr) (by simp), clear⟩
  | some r =>
    rw [State.putWord_zero_of_remapped h]
    simp only [State.ZeroAt, State.onBase_base, State.onBase_mem, Base.chan_updChan, if_true]
    exact ⟨fun r hr => Chan.remapOf_zeroRemap_same hr, clear⟩

/-- A zero line written leaves every zero line zero. -/
theorem State.ZeroAt.putRowLine {s : State} {p : Place} (hp : s.ZeroAt p) (ch bank row col : Nat) :
    (s.putRowLine ch bank row (0, col)).ZeroAt p := by
  have stored := hp.storeLine { ch := ch, bank := bank, row := row, col := col }
  simp only [State.putRowLine, Base.busDrive_zero]
  split
  · next hr =>
    rw [State.putWord_zero_of_remapped hr]
    exact stored.zeroRemap ..
  · exact stored

/-- Zero lines written in turn: each of them reads zero at the end. -/
theorem State.zeroAt_foldl_putRowLine {l : List (BitVec 640 × Nat)} (zeros : ∀ w ∈ l, w.1 = 0) {col : Nat} (h : (0, col) ∈ l)
    (s : State) (ch bank row : Nat) :
    (l.foldl (State.putRowLine ch bank row) s).ZeroAt { ch := ch, bank := bank, row := row, col := col } := by
  obtain ⟨before, after, rfl⟩ := List.mem_iff_append.mp h
  rw [List.foldl_append, List.foldl_cons]
  refine List.foldlRecOn (motive := fun s : State => s.ZeroAt _) after _ (State.zeroAt_putRowLine ..) fun s hs w hw => ?_
  obtain ⟨word, k⟩ := w
  obtain rfl : word = 0 := zeros (word, k) (by simp [hw])
  exact hs.putRowLine ch bank row k

/-! ### The row of a fill -/

theorem Base.foldl_injectWrite_chan (b : Base) (lines : List Nat) (w : LineWrite) (ch : Nat) :
    (lines.foldl (fun b l => b.injectWrite l w) b).chan ch = b.chan ch := by
  refine foldl_keeps (fun b : Base => b.chan ch) _ (fun b l => ?_) lines b
  unfold Base.injectWrite
  split <;> rfl

theorem mem_zipIdx_replicate {α : Type} {x : α} {n : Nat} {w : α × Nat} :
    w ∈ (List.replicate n x).zipIdx ↔ w.2 < n ∧ w.1 = x := by
  rw [List.mem_zipIdx_iff_getElem?, List.getElem?_replicate, Option.ite_none_right_eq_some, Option.some.injEq, eq_comm (a := x)]

/-- A row of zeros written to a channel that takes commands reads zero in each of its sixteen lines. -/
theorem State.zeroAt_writeRow {s : State} {ch : Nat} (h : s.base.ignores ch = false) (t : Nat) (e : RowEntry) {col : Nat} (hcol : col < 16) :
    (s.writeRow ch t e (List.replicate 16 0)).ZeroAt { ch := ch, bank := e.bank, row := e.row, col := col } := by
  have zeros : ∀ w ∈ (List.replicate 16 (0 : BitVec 640)).zipIdx, w.1 = 0 := fun w hw => (mem_zipIdx_replicate.mp hw).2
  have line : ((0 : BitVec 640), col) ∈ (List.replicate 16 0).zipIdx := mem_zipIdx_replicate.mpr ⟨hcol, rfl⟩
  rw [State.writeRow_eq_foldl h]
  exact (State.zeroAt_foldl_putRowLine zeros line ..).onBase (Base.foldl_injectWrite_chan ..)

/-- Taking a row out of its queue leaves the guards of the dies. -/
theorem Base.dropRow_si (b : Base) (ch n : Nat) (e : RowEntry) : (b.dropRow ch n e).si = b.si := by
  unfold Base.dropRow
  split
  · unfold Base.overIssued
    split <;> rfl
  · rfl

/-- A fill's zero row leaves the zero codeword in every line of its row. -/
theorem State.fillCycle_lineWord {s : State} {p : Place} {e : RowEntry} (takes : s.base.ignores p.ch = false) (bank : e.bank = p.bank)
    (row : e.row = p.row) (bus i : Nat) (f : Fill) {col : Nat} (hcol : col < 16) :
    (s.fillCycle bus true f i p e).lineWord { ch := p.ch, bank := p.bank, row := p.row, col := col } = 0 := by
  have guards : ((s.base.dropRow p.ch 0 e).noteWrite (1024 * f.stripe)).ignores p.ch = false := by
    rw [← takes]
    exact congrArg (fun si : Integrity => (Tab.get ({} : DieGuard) si.guards (dieOf p.ch)).state != 0) (Base.dropRow_si s.base p.ch 0 e)
  have written := State.zeroAt_writeRow (s := s.onBase fun b => (b.dropRow p.ch 0 e).noteWrite (1024 * f.stripe)) guards s.base.now e hcol
  have counted : ∀ b : Base, ((b.fillTaken f i (s.base.now + 45)).transferDone bus false).chan p.ch = b.chan p.ch := fun _ => rfl
  refine State.lineWord_of_zeroAt ?_
  rw [State.fillCycle, if_pos rfl, ← bank, ← row]
  exact written.onBase (counted _)

/-- Settles O54: every part of the encoder is linear, and a fill writes zeros to the array and to the remap entries of its row. -/
theorem zeroLineIsTheZeroCodeword : Obligations.zero_line_is_the_zero_codeword := by
  refine ⟨fun d m => ⟨wordData_encodeLine d m, encodeLine_meta d m⟩, encodeLine_xor, encodeLine_zero, ?_⟩
  intro s bus i f p e _ takes bank row col hcol
  exact State.fillCycle_lineWord takes bank row bus i f hcol

end Sys2Proof.Machine
end

section
/-! SUPPORT. Mailbox posts (R469, R470, R474): what a post leaves of the channels and of the messages that wait, and which channels it crosses. -/

namespace Sys2Proof.Machine

/-! ### The channels of a state -/

theorem Base.mbx_updMbx (b : Base) (i j : Nat) (f : MbxChan → MbxChan) :
    (b.updMbx i f).mbx j = if j = i then f (b.mbx i) else b.mbx j :=
  Tab.get_set ({} : MbxChan) b.mg.mbx i j (f (b.mbx i))

@[simp] theorem Base.mbx_send (b : Base) (k : Kind) (src addr : Nat) (host : Option HostId) (inj : Bool) (j : Nat) :
    (b.send k src addr host inj).mbx j = b.mbx j :=
  congrArg (fun m : Mgmt => Tab.get ({} : MbxChan) m.mbx j) (Base.send_mg b k src addr host inj)

/-- A channel runs back from the receiver to the sender and holds a notice (R474). -/
theorem Base.mem_reverseFull {b : Base} {sender receiver j : Nat} :
    j ∈ b.reverseFull sender receiver ↔
      j < 64 ∧ b.mbxSender j = some receiver ∧ b.mbxReceiver j = some sender ∧ (b.mbx j).fifo ≠ [] := by
  simp only [Base.reverseFull, List.mem_filter, List.mem_range, Bool.and_eq_true, beq_iff_eq, Bool.not_eq_true', List.isEmpty_eq_false_iff,
    and_assoc]

/-! ### CROSSED -/

/-- CROSSED set now in one channel. -/
def MbxChan.setCrossed (m : MbxChan) (now : Nat) : MbxChan := { m with crossed := true, crossedAt := some now }

/-- CROSSED set in each channel of a list, as a crossing post does (Base.mbxAccept). -/
def Base.markCrossed (b : Base) (l : List Nat) : Base := l.foldl (fun b k => b.updMbx k fun m => m.setCrossed b.now) b

theorem Base.mbx_markCrossed (l : List Nat) (b : Base) (j : Nat) :
    (b.markCrossed l).mbx j = if j ∈ l then (b.mbx j).setCrossed b.now else b.mbx j := by
  induction l generalizing b with
  | nil => rfl
  | cons k l ih =>
    have first : (b.markCrossed (k :: l)).mbx j = ((b.updMbx k fun m => m.setCrossed b.now).markCrossed l).mbx j := rfl
    have sameNow : (b.updMbx k fun m => m.setCrossed b.now).now = b.now := rfl
    rw [first, ih, Base.mbx_updMbx, sameNow]
    by_cases same : j = k
    · subst same
      simp [MbxChan.setCrossed]
    · simp [same]

theorem Base.markCrossed_fifo (l : List Nat) (b : Base) (j : Nat) : ((b.markCrossed l).mbx j).fifo = (b.mbx j).fifo := by
  rw [Base.mbx_markCrossed]
  split <;> rfl

/-! ### A notice that joins its channel -/

/-- The parts of the state that a post's crossing is judged by: the registers, the channels and the messages that wait. -/
structure Mail where
  regs : Tab Word
  mbx : Tab MbxChan
  outbox : List Msg
  waiting : List Msg
  bootHeld : List Msg

def Base.mail (b : Base) : Mail :=
  { regs := b.regs, mbx := b.mg.mbx, outbox := b.flt.outbox, waiting := b.flt.waiting, bootHeld := b.flt.bootHeld }

/-- The domain behind a bank that was going off stays on (R472). -/
def Base.holdDomain (b : Base) (receiver : Nat) : Base :=
  let b := if 18 ≤ receiver ∧ receiver ≤ 20 ∧ Tab.get DomState.on b.mg.pith (receiver - 17) = .goingOff
    then b.updMg fun m => { m with pith := Tab.set DomState.on m.pith (receiver - 17) .on } else b
  if receiver = 21 ∧ b.mov.domain = .goingOff then b.updMov fun v => { v with domain := .on } else b

/-- The notice at the end of its channel. -/
def Base.appendNotice (b : Base) (c : Nat) (n : Notice) : Base := b.updMbx c fun m => { m with fifo := m.fifo ++ [n], lastPost := 0 }

/-- A notice has joined its channel, before a crossing is looked for (the first part of Base.mbxAccept). -/
def Base.mbxJoined (b : Base) (c sender receiver : Nat) (n : Notice) : Base :=
  let joined := (b.appendNotice c n).holdDomain receiver
  if (b.mbx c).fifo.isEmpty then joined.mbxNotify receiver c sender n.seq else joined

theorem Base.holdDomain_mail (b : Base) (receiver : Nat) : (b.holdDomain receiver).mail = b.mail := by
  unfold Base.holdDomain
  simp only []
  split <;> split <;> rfl

theorem Base.msixMgmt_mail (b : Base) (v : Nat) : (b.msixMgmt v).mail = b.mail := by
  unfold Base.msixMgmt
  split <;> rfl

theorem Base.addRecord_mail (b : Base) (h : Nat) (log : EvLog) (form : EvForm) (msg : Option Msg) (n : Nat) :
    (b.addRecord h log form msg n).mail = b.mail := by
  unfold Base.addRecord
  simp only []
  split
  · rfl
  · simp [Base.mail]

/-- A notification raises an interrupt or leaves a record; it sends no message. -/
theorem Base.mbxNotify_mail (b : Base) (receiver c sender : Nat) (seq : BitVec 16) : (b.mbxNotify receiver c sender seq).mail = b.mail := by
  unfold Base.mbxNotify
  split
  · exact Base.msixMgmt_mail b 6
  · split
    · exact Base.addRecord_mail ..
    · rfl

theorem Base.mbxJoined_mail (b : Base) (c sender receiver : Nat) (n : Notice) :
    (b.mbxJoined c sender receiver n).mail = (b.appendNotice c n).mail := by
  unfold Base.mbxJoined
  simp only []
  split
  · exact (Base.mbxNotify_mail ..).trans (Base.holdDomain_mail ..)
  · exact Base.holdDomain_mail ..

section
variable (b : Base) (c sender receiver : Nat) (n : Notice)

theorem Base.mbxJoined_mbx (j : Nat) :
    (b.mbxJoined c sender receiver n).mbx j = if j = c then { b.mbx c with fifo := (b.mbx c).fifo ++ [n], lastPost := 0 } else b.mbx j :=
  have kept := congrArg (fun m : Mail => Tab.get ({} : MbxChan) m.mbx j) (b.mbxJoined_mail c sender receiver n)
  kept.trans (b.mbx_updMbx c j fun m => { m with fifo := m.fifo ++ [n], lastPost := 0 })

theorem Base.mbxJoined_reg (off : Nat) : (b.mbxJoined c sender receiver n).reg off = b.reg off :=
  congrArg (fun m : Mail => Tab.get 0 m.regs off) (b.mbxJoined_mail c sender receiver n)

theorem Base.mbxJoined_mbxSender (j : Nat) : (b.mbxJoined c sender receiver n).mbxSender j = b.mbxSender j := by
  unfold Base.mbxSender
  rw [Base.mbxJoined_reg]

theorem Base.mbxJoined_mbxReceiver (j : Nat) : (b.mbxJoined c sender receiver n).mbxReceiver j = b.mbxReceiver j := by
  unfold Base.mbxReceiver
  rw [Base.mbxJoined_reg]

/-- CROSSED stands as it stood: a notice that joins touches no flag. -/
theorem Base.mbxJoined_crossed (j : Nat) : ((b.mbxJoined c sender receiver n).mbx j).crossed = (b.mbx j).crossed := by
  rw [Base.mbxJoined_mbx]
  split
  · next same => rw [same]
  · rfl

/-- The channels that a post crosses: those that hold a notice back, with the posted notice in place. -/
def Base.crossedBy : List Nat := (b.mbxJoined c sender receiver n).reverseFull sender receiver

/-- CROSSED set on both sides of a post that crosses. -/
def Base.mbxCrossing : Base := (b.mbxJoined c sender receiver n).markCrossed (c :: b.crossedBy c sender receiver n)

theorem Base.mbxAccept_eq :
    b.mbxAccept c sender receiver n =
      if b.crossedBy c sender receiver n = [] then b.mbxJoined c sender receiver n
      else (b.mbxCrossing c sender receiver n).send .mbxCrossed (0x588 + receiver) (c + 256 * sender) := by
  have shape : b.mbxAccept c sender receiver n =
    match b.crossedBy c sender receiver n with
    | [] => b.mbxJoined c sender receiver n
    | l => ((b.mbxJoined c sender receiver n).markCrossed (c :: l)).send .mbxCrossed (0x588 + receiver) (c + 256 * sender) := rfl
  rw [shape, Base.mbxCrossing]
  cases b.crossedBy c sender receiver n <;> rfl

theorem Base.mem_crossedBy {j : Nat} :
    j ∈ b.crossedBy c sender receiver n ↔
      j < 64 ∧ b.mbxSender j = some receiver ∧ b.mbxReceiver j = some sender ∧ ((b.mbxJoined c sender receiver n).mbx j).fifo ≠ [] := by
  rw [Base.crossedBy, Base.mem_reverseFull, Base.mbxJoined_mbxSender, Base.mbxJoined_mbxReceiver]

variable {b c sender receiver n}

theorem Base.mbxAccept_of_uncrossed (h : b.crossedBy c sender receiver n = []) :
    b.mbxAccept c sender receiver n = b.mbxJoined c sender receiver n := by
  rw [Base.mbxAccept_eq, if_pos h]

theorem Base.mbxAccept_of_crossed (h : b.crossedBy c sender receiver n ≠ []) :
    b.mbxAccept c sender receiver n =
      (b.mbxCrossing c sender receiver n).send .mbxCrossed (0x588 + receiver) (c + 256 * sender) := by
  rw [Base.mbxAccept_eq, if_neg h]

end

/-! ### A post that is accepted -/

section
variable (b : Base) (c sender receiver : Nat) (n : Notice)

theorem Base.mbxAccept_fifo_joined (j : Nat) :
    ((b.mbxAccept c sender receiver n).mbx j).fifo = ((b.mbxJoined c sender receiver n).mbx j).fifo := by
  rw [Base.mbxAccept_eq]
  split
  · rfl
  · rw [Base.mbx_send, Base.mbxCrossing, Base.markCrossed_fifo]

theorem Base.mbxAccept_fifo (j : Nat) :
    ((b.mbxAccept c sender receiver n).mbx j).fifo = if j = c then (b.mbx c).fifo ++ [n] else (b.mbx j).fifo := by
  rw [Base.mbxAccept_fifo_joined, Base.mbxJoined_mbx, apply_ite MbxChan.fifo]

/-- A channel is crossed when it runs back and holds a notice once the post has joined. -/
theorem Base.mem_crossedBy_iff_accepted {j : Nat} :
    j ∈ b.crossedBy c sender receiver n ↔
      j < 64 ∧ b.mbxSender j = some receiver ∧ b.mbxReceiver j = some sender ∧ ((b.mbxAccept c sender receiver n).mbx j).fifo ≠ [] := by
  rw [Base.mem_crossedBy, Base.mbxAccept_fifo_joined]

/-- CROSSED after a post: set in the posted channel when it crosses any, and in each channel it crosses. -/
theorem Base.mbxAccept_crossed (j : Nat) :
    ((b.mbxAccept c sender receiver n).mbx j).crossed =
      if b.crossedBy c sender receiver n ≠ [] ∧ j ∈ c :: b.crossedBy c sender receiver n then true else (b.mbx j).crossed := by
  by_cases h : b.crossedBy c sender receiver n = []
  · rw [Base.mbxAccept_of_uncrossed h, Base.mbxJoined_crossed, if_neg fun both => both.1 h]
  · simp only [Base.mbxAccept_of_crossed h, Base.mbx_send, Base.mbxCrossing, Base.mbx_markCrossed, ne_eq, h, not_false_eq_true, true_and,
      apply_ite MbxChan.crossed, Base.mbxJoined_crossed, MbxChan.setCrossed]

end

/-- A post by the sender of a channel, to a bank that is on with room for it, whose pointer passes (R469). -/
theorem Base.mbxPost_accepted {b : Base} {who c : Nat} {v : Word} (sender : b.mbxSender c = some who)
    (served : 16 ≤ who ∨ b.coh.isolated.getLsbD who = false) (on : b.bankOn (b.mbxBank c) = true) (notRind : who ≠ 22)
    (room : (b.mbx c).fifo.length < 4) (ptr : b.ptrOk who (b.mbx c).ptr (v.extractLsb' 0 16).toNat = true) :
    b.mbxPost who c v =
      b.mbxAccept c who (b.mbxBank c) { ptr := (b.mbx c).ptr, len := v.extractLsb' 0 16, seq := v.extractLsb' 16 16 } := by
  have allowed : ¬ (b.mbxSender c ≠ some who ∨ (who < 16 ∧ b.coh.isolated.getLsbD who)) := by
    rintro (other | ⟨host, isolated⟩)
    · exact other sender
    · rcases served with device | served
      · omega
      · exact absurd (served.symm.trans isolated) Bool.false_ne_true
  simp only [Base.mbxPost, if_neg allowed, on, if_neg notRind, if_neg (Nat.not_le.mpr room), ptr, Bool.not_true, Bool.false_eq_true, if_false]

/-- Settles O46: the posted notice joins first; the channels that then hold a notice back are those that are marked. -/
theorem postsThatCross : Obligations.posts_that_cross := by
  intro s who c v b w k y n reaches sender served on notRind room ptr
  have post : b.mbxPost w k v = b.mbxAccept k w y n := Base.mbxPost_accepted sender served on notRind room ptr
  have uncrossed : (∀ j, j ∉ b.crossedBy k w y n) → b.crossedBy k w y n = [] := List.eq_nil_iff_forall_not_mem.mpr
  refine ⟨b.mbxAccept k w y n, b.mbxCrossing k w y n, State.whenBase_pos reaches post, ?_, ?_, ?_⟩
  · rw [Base.mbxAccept_fifo, if_pos rfl]
  · intro j other
    rw [Base.mbxAccept_fifo, if_neg other]
  simp only [← Base.mem_crossedBy_iff_accepted]
  refine ⟨fun j back => ?_, fun j other notBack => ?_, fun noneBack => ?_⟩
  · have crossed : b.crossedBy k w y n ≠ [] := List.ne_nil_of_mem back
    exact ⟨by rw [Base.mbxAccept_crossed, if_pos ⟨crossed, List.mem_cons_of_mem k back⟩],
      by rw [Base.mbxAccept_crossed, if_pos ⟨crossed, List.mem_cons_self⟩], Base.mbxAccept_of_crossed crossed⟩
  · rw [Base.mbxAccept_crossed, if_neg fun both => (List.mem_cons.mp both.2).elim other notBack]
  · have joined := Base.mbxAccept_of_uncrossed (uncrossed noneBack)
    have mail : (b.mbxAccept k w y n).mail = (b.appendNotice k n).mail := joined ▸ Base.mbxJoined_mail ..
    refine ⟨?_, congrArg Mail.outbox mail, congrArg Mail.waiting mail, congrArg Mail.bootHeld mail⟩
    rw [joined, Base.mbxJoined_crossed]

end Sys2Proof.Machine
end

section
/-! SUPPORT. What a command leaves of the state beside the base: the queue, the arrays, the fuses and Rind (chapters 04, 13, 16). -/

namespace Sys2Proof.Machine

/-! ### The frame of a command -/

/-- Every fuse bit set in `old` is set in `new`: fuses only burn. -/
def FusesGrow (old new : Tab (BitVec 96)) : Prop := ∀ w, Tab.get 0 old w &&& ~~~(Tab.get 0 new w) = 0

theorem FusesGrow.refl (otp : Tab (BitVec 96)) : FusesGrow otp otp := fun _ => BitVec.and_not_self _

theorem fuseBits_sub_iff {x y : BitVec 96} : x &&& ~~~y = 0 ↔ ∀ i, x.getLsbD i = true → y.getLsbD i = true := by
  constructor
  · intro h i hx
    have bit : (x &&& ~~~y).getLsbD i = false := by rw [h]; exact BitVec.getLsbD_zero
    have inside : i < 96 := BitVec.lt_of_getLsbD hx
    simpa [hx, inside] using bit
  · intro h
    refine BitVec.eq_of_getLsbD_eq fun i hi => ?_
    cases hx : x.getLsbD i
    · simp [hx]
    · simp [hx, h i hx]

theorem FusesGrow.trans {a b c : Tab (BitVec 96)} (hab : FusesGrow a b) (hbc : FusesGrow b c) : FusesGrow a c := fun w =>
  fuseBits_sub_iff.mpr fun i hi => fuseBits_sub_iff.mp (hbc w) i (fuseBits_sub_iff.mp (hab w) i hi)

/-- A pulse adds bits to one word and leaves every other word. -/
theorem FusesGrow.burn (otp : Tab (BitVec 96)) (w : Nat) (bits : BitVec 96) : FusesGrow otp (Tab.set 0 otp w (Tab.get 0 otp w ||| bits)) := by
  intro v
  rw [Tab.get_set]
  split
  · next same => subst same; exact fuseBits_sub_iff.mpr fun i hi => by rw [BitVec.getLsbD_or, hi, Bool.true_or]
  · exact BitVec.and_not_self _

/-- What stands between the states before and after a command: the queue waits as it did; the arrays change only where `arrays` allows it and
stay canonical; the fuses change only where `fuses` allows it and only grow; Rind changes only where `island` allows it and its ledger stays whole. -/
structure Frame (arrays fuses island : Bool) (s t : State) : Prop where
  pending : t.pending = s.pending
  mem : arrays = false → t.mem = s.mem
  canonical : Memory.wf s.mem = true → Memory.wf t.mem = true
  otp : fuses = false → t.otp = s.otp
  grows : FusesGrow s.otp t.otp
  rind : island = false → t.rind = s.rind
  ledger : Ledger s.rind → Ledger t.rind

section
variable {a f r : Bool} {s t u : State}

/-- A change of the base alone. -/
theorem Frame.base (b : Base) : Frame a f r s { s with base := b } :=
  ⟨rfl, fun _ => rfl, id, fun _ => rfl, .refl _, fun _ => rfl, id⟩

theorem Frame.refl (s : State) : Frame a f r s s := .base s.base

theorem Frame.onBase (g : Base → Base) : Frame a f r s (s.onBase g) := .base (g s.base)

theorem Frame.trans (hst : Frame a f r s t) (htu : Frame a f r t u) : Frame a f r s u where
  pending := htu.pending.trans hst.pending
  mem h := (htu.mem h).trans (hst.mem h)
  canonical h := htu.canonical (hst.canonical h)
  otp h := (htu.otp h).trans (hst.otp h)
  grows := hst.grows.trans htu.grows
  rind h := (htu.rind h).trans (hst.rind h)
  ledger h := htu.ledger (hst.ledger h)

theorem Frame.thenBase (h : Frame a f r s t) (g : Base → Base) : Frame a f r s (t.onBase g) := h.trans (.onBase g)

/-- A change of the base before. -/
theorem Frame.afterBase {g : Base → Base} (h : Frame a f r (s.onBase g) t) : Frame a f r s t := Frame.trans (.onBase g) h

/-- The arrays take new content in canonical form. -/
theorem Frame.arrays {mem : List Host.Cell} (h : Memory.wf s.mem = true → Memory.wf mem = true) : Frame true f r s { s with mem := mem } :=
  ⟨rfl, fun no => absurd no (by decide), h, fun _ => rfl, .refl _, fun _ => rfl, id⟩

/-- Some fuses burn. -/
theorem Frame.fuses {otp : Tab (BitVec 96)} (h : FusesGrow s.otp otp) (b : Base) : Frame a true r s { s with otp := otp, base := b } :=
  ⟨rfl, fun _ => rfl, id, fun no => absurd no (by decide), h, fun _ => rfl, id⟩

/-- Rind goes on, its ledger whole. -/
theorem Frame.island {x : Rind} (h : Ledger s.rind → Ledger x) (b : Base) : Frame a f true s { s with rind := x, base := b } :=
  ⟨rfl, fun _ => rfl, id, fun _ => rfl, .refl _, fun no => absurd no (by decide), h⟩

/-- The outcome is a next state within the frame. -/
def Within (a f r : Bool) (s : State) (o : Host.Outcome State Fault Refusal) : Prop := ∃ t, o = .next t ∧ Frame a f r s t

theorem Frame.within (h : Frame a f r s t) : Within a f r s (.next t) := ⟨t, rfl, h⟩

/-- What follows a change of the base. -/
theorem Within.after {o : Host.Outcome State Fault Refusal} (g : Base → Base) (h : Within a f r (s.onBase g) o) : Within a f r s o := by
  obtain ⟨t, rfl, h⟩ := h
  exact (Frame.afterBase h).within

/-- A command that answers with another base and nothing else. -/
theorem Within.ofBase {o : Host.Outcome State Fault Refusal} (h : ∃ b, o = .next { s with base := b }) : Within a f r s o := by
  obtain ⟨b, rfl⟩ := h
  exact (Frame.base b).within

end

/-! ### The arrays -/

theorem Frame.storeLine {f r : Bool} (s : State) (p : Place) (w : BitVec 640) : Frame true f r s (s.storeLine p w) :=
  Frame.arrays (State.storeLine_wf p w)

theorem Frame.putWord {f r : Bool} (s : State) (p : Place) (w : BitVec 640) : Frame true f r s (s.putWord p w) := by
  unfold State.putWord
  split
  · exact .onBase _
  · exact .storeLine s p w

theorem Frame.writeRow {f r : Bool} (s : State) (ch t : Nat) (e : RowEntry) (words : List (BitVec 640)) :
    Frame true f r s (s.writeRow ch t e words) := by
  unfold State.writeRow
  refine Frame.thenBase (List.foldlRecOn (motive := Frame true f r s) _ _ (.onBase _) fun t line x _ => ?_) _
  have stored : ∀ (ignored : Bool) (p : Place) (w : BitVec 640), Frame true f r s (if ignored then t else t.storeLine p w) := by
    intro ignored p w
    split
    · exact line
    · exact line.trans (.storeLine t p w)
  dsimp only
  split
  · exact (stored ..).trans (.putWord ..)
  · exact stored ..

section
variable {a f r : Bool} (s : State)

/-- A change of the base alone, found by following the branches. -/
theorem Frame.ofBase {t : State} (h : ∃ b, t = { s with base := b }) : Frame a f r s t := by
  obtain ⟨b, rfl⟩ := h
  exact .base b

theorem Frame.mergeLine (ch : Nat) (e : Entry) (w : LineWrite) (noise : Noise) : Frame a f r s (s.mergeLine ch e w noise).2.2 := by
  refine .ofBase s ?_
  simp only [State.mergeLine]
  split <;> exact ⟨_, rfl⟩

/-- Only the codeword itself goes to the arrays. -/
theorem Frame.issueWrite (ch t : Nat) (e : Entry) (noise : Noise) : Frame true f r s (s.issueWrite ch t e noise) := by
  unfold State.issueWrite
  split
  · exact .refl s
  · next w _ =>
    extract_lets p remapped ignored s1 s2 r_1
    have queued : Frame true f r s s2 := by
      simp only [s2]
      split
      · exact .onBase _
      · exact (Frame.onBase _).thenBase _
    have merged : Frame true f r s (if w.full = true then (r_1.1, r_1.2, s2) else s2.mergeLine ch e w noise).2.2 := by
      split
      · exact queued
      · exact queued.trans (.mergeLine ..)
    generalize (if w.full = true then (r_1.1, r_1.2, s2) else s2.mergeLine ch e w noise) = x at merged ⊢
    obtain ⟨d, m, s3⟩ := x
    refine Frame.thenBase ?_ _
    split
    · exact merged
    · exact merged.trans (.putWord ..)

theorem Frame.issueRead (ch t : Nat) (e : Entry) : Frame a f r s (s.issueRead ch t e) := by
  unfold State.issueRead
  exact .onBase _

theorem Frame.select (ch : Nat) (noise : Noise) : Frame true f r s (s.select ch noise) := by
  unfold State.select
  extract_lets t
  generalize s.base.pick ch t = x
  obtain ⟨p, drain⟩ := x
  refine Frame.afterBase (g := fun b => b.updChan ch fun c => { c with drain := drain }) ?_
  dsimp only
  split
  · exact .refl _
  · exact .onBase _
  · exact .onBase _
  · exact .refl _
  · exact .refl _
  · next e => 
    refine Frame.thenBase (.afterBase (g := fun b => b.release e.req) ?_) _
    split
    · exact .issueWrite ..
    · exact .issueRead ..

/-! ### Rows -/

theorem Frame.fillCycle (bus : Nat) (ok : Bool) (fill : Fill) (i : Nat) (p : Place) (e : RowEntry) :
    Frame true f r s (s.fillCycle bus ok fill i p e) := by
  simp only [State.fillCycle]
  split
  · exact .thenBase (.afterBase (.writeRow ..)) _
  · exact .onBase _

theorem Frame.pieceCycle (bus : Nat) (ok : Bool) (noise : List Noise) (c : Piece) (e : RowEntry) :
    Frame true f r s (s.pieceCycle bus ok noise c e) := by
  simp only [State.pieceCycle]
  split
  · exact .onBase _
  · split
    · split <;> exact .onBase _
    · exact .thenBase (.afterBase (.writeRow ..)) _

theorem Frame.sweepCycle (bus : Nat) (ok : Bool) (noise : List Noise) (w : Sweep) (at_ : Nat) (p : Place) (e : RowEntry) :
    Frame true f r s (s.sweepCycle bus ok noise w at_ p e) := by
  simp only [State.sweepCycle]
  split
  · exact .onBase _
  · split
    · split <;> exact .onBase _
    · exact .thenBase (.afterBase (.writeRow ..)) _

theorem Frame.scrubRead (ch : Nat) (j : ScrubJob) (quota : Base → Base) : Frame a f r s (s.scrubRead ch j quota) := by
  refine .ofBase s ?_
  simp only [State.scrubRead]
  split
  · exact ⟨_, rfl⟩
  · split
    · exact ⟨_, rfl⟩
    · split
      · exact ⟨_, rfl⟩
      · split <;> exact ⟨_, rfl⟩

theorem Frame.scrubCancel (ch : Nat) (j : ScrubJob) (raw : List (BitVec 640)) (ds : List Decoded) :
    Frame a f r s (s.scrubCancel ch j raw ds) := by
  simp only [State.scrubCancel, State.scrubExhausted]
  split
  · exact .afterBase (.onBase _)
  · exact .afterBase (.onBase _)

theorem Frame.scrubWrite (ch : Nat) (j : ScrubJob) (ds : List Decoded) (e : RowEntry) : Frame true f r s (s.scrubWrite ch j ds e) := by
  unfold State.scrubWrite
  exact .thenBase (.trans (.base _) (.writeRow ..)) _

theorem Frame.moveLineRead (ch : Nat) (m : SpareMove) (noise : Noise) : Frame a f r s (s.moveLineRead ch m noise) := by
  simp only [State.moveLineRead]
  split <;> exact .onBase _

theorem Frame.moveLineWrite (ch : Nat) (m : SpareMove) : Frame true f r s (s.moveLineWrite ch m) := by
  unfold State.moveLineWrite
  extract_lets t p ignored s1 s2
  have counted : Frame true f r s s1 := .onBase _
  refine .thenBase (t := s2) ?_ _
  simp only [s2]
  split
  · exact counted
  · exact counted.trans (.storeLine ..)

end

/-! ### The commands that may store into the arrays -/

section
variable {f r : Bool} (s : State)

theorem execChannelSelect_within (ch : ChanId) (noise : Noise) (parity : Option (BitVec 5 × BitVec 11)) :
    Within true f r s (execChannelSelect ch noise parity s) := by
  unfold execChannelSelect
  split
  · refine (Frame.thenBase ?_ _).within
    split
    · exact .afterBase (.select ..)
    · exact .select ..
  · exact (Frame.refl s).within

theorem execRowBusCycle_within (bus : BusId) (ok : Bool) (noise : List Noise) : Within true f r s (execRowBusCycle bus ok noise s) := by
  unfold execRowBusCycle
  extract_lets q s1 s2 s3 b jobs s4
  split
  · exact (Frame.refl s).within
  · have offered : Frame true f r s s3 := .thenBase (.thenBase (.onBase _) _) _
    clear_value s3
    split
    · split
      · split
        · exact (offered.thenBase _).within
        · exact offered.within
      · exact offered.within
    · have chosen : Frame true f r s s4 := offered.thenBase _
      split
      · exact chosen.within
      · next j e _ =>
        extract_lets s5
        have used : Frame true f r s s5 := chosen.thenBase _
        clear_value s5
        split
        · exact (used.trans (.fillCycle ..)).within
        · exact (used.trans (.pieceCycle ..)).within
        · exact (used.trans (.sweepCycle ..)).within

theorem execScrubRowDecoded_within (ch : ChanId) (noise : List Noise) : Within true f r s (execScrubRowDecoded ch noise s) := by
  simp only [execScrubRowDecoded]
  split
  · exact (Frame.refl s).within
  · split
    · exact (Frame.refl s).within
    · split
      · exact (Frame.refl s).within
      · split
        · exact (Frame.onBase _).within
        · split
          · exact (Frame.afterBase (.scrubCancel ..)).within
          · split
            · exact (Frame.onBase _).within
            · exact (Frame.afterBase (.afterBase (.scrubWrite ..))).within

theorem execSpareRowAssigned_within (ch : ChanId) : Within true f r s (execSpareRowAssigned ch s) := by
  unfold execSpareRowAssigned
  extract_lets k
  split
  · exact (Frame.refl s).within
  · split
    · exact (Frame.refl s).within
    · split
      · split
        · exact (Frame.onBase _).within
        · exact (Frame.refl s).within
      · split
        · split
          · exact (Frame.moveLineWrite ..).within
          · exact (Frame.refl s).within
        · extract_lets s1
          have offered : Frame true f r s s1 := .onBase _
          clear_value s1
          split
          · exact offered.within
          · exact ((offered.trans (.afterBase (.writeRow ..))).thenBase _).within
end

/-! ### Fuses -/

section
variable {a r : Bool} (s : State)

theorem Frame.abortFuse : Frame a true r s s.abortFuse := by
  unfold State.abortFuse
  split
  · exact .fuses (.burn _ _ _) _
  · exact .refl s

theorem Frame.trip (d : Nat) (reading : Int) (mramCut coreFails : Bool) : Frame a true r s (s.trip d reading mramCut coreFails) := by
  unfold State.trip
  exact .thenBase (.abortFuse s) _

theorem Frame.bootStart {f : Bool} (cold : Bool) (m : BootRecords) : Frame a f r s (s.bootStart cold m) := by
  unfold State.bootStart
  exact .thenBase (.onBase _) _

theorem Frame.warmBoot (kind : Nat) : Frame a true r s (s.warmBoot kind) := by
  unfold State.warmBoot State.warmReset
  exact ((Frame.abortFuse s).thenBase _).trans (.bootStart ..)

theorem Frame.resetCmd (v : Word) : Frame a true r s (s.resetCmd v) := by
  unfold State.resetCmd
  split
  · exact .onBase _
  · split
    · exact .warmBoot s 2
    · exact .onBase _
    · exact .refl s

/-- A cold reset loses the arrays: none of their bytes is listed. -/
theorem Frame.coldReset (kind : Nat) (held : Bool) : Frame true true r s (s.coldReset kind held) := by
  unfold State.coldReset
  exact (Frame.abortFuse s).trans ((Frame.arrays (mem := []) fun _ => rfl).trans (.base _))

theorem Frame.holdCold : Frame true true r s s.holdCold := by
  unfold State.holdCold
  exact .thenBase (.coldReset ..) _

theorem Frame.authCommand {cmd : AuthCmd} {allowed : Bool} {g : State → State} (h : ∀ t, Frame a true r t (g t)) :
    Frame a true r s (s.authCommand cmd allowed g) := by
  unfold State.authCommand
  split
  · exact .refl s
  · split
    · exact .base _
    · split
      · exact .base _
      · exact (Frame.base _).trans (h _)

theorem Frame.voidThem (by_ : FuseBy) (ws : List Nat) : Frame a true r s (s.voidThem by_ ws) := by
  unfold State.voidThem
  split <;> exact .base _

theorem execFuseProgramDone_within (ok : Bool) : Within a true r s (execFuseProgramDone ok s) := by
  unfold execFuseProgramDone
  extract_lets b
  split
  · split
    · exact (Frame.refl s).within
    · split
      · exact (Frame.fuses (.burn _ _ _) _).within
      · exact (Frame.fuses (.burn _ _ _) _).within
  · exact (Frame.refl s).within

theorem execInternalColdResetRelease_within (straps : Byte) (strapError gradeE : Bool) (m : BootRecords) :
    Within true true r s (execInternalColdResetRelease straps strapError gradeE m s) := by
  unfold execInternalColdResetRelease
  extract_lets b due held s1 s2
  split
  · exact (Frame.refl s).within
  · have reset : Frame true true r s s1 := by
      simp only [s1]
      split
      · exact .refl s
      · exact .coldReset ..
    exact ((reset.thenBase _).trans (.bootStart ..)).within

end
end Sys2Proof.Machine
end

section
/-! SUPPORT. The frame of every command: Rind's ledger, the commands one by one, and a step (chapters 13 and 16). -/

namespace Sys2Proof.Machine


/-! ### Rind's ledger -/

/-- The records stand under consecutive numbers, each under its place counted from `first`. -/
def NumberedFrom (first : Nat) (l : List RindRecord) : Prop := ∀ i x, l[i]? = some x → x.seq = i + first

theorem numberedFrom_iff (first : Nat) (l : List RindRecord) :
    (l.map fun x => x.seq) = (List.range l.length).map (· + first) ↔ NumberedFrom first l := by
  constructor
  · intro h i x hx
    have inside : i < l.length := (List.getElem?_eq_some_iff.mp hx).1
    have here := congrArg (·[i]?) h
    simpa [(List.getElem?_eq_some_iff.mp hx).2, inside] using here
  · intro h
    refine List.ext_getElem? fun i => ?_
    rcases Nat.lt_or_ge i l.length with hi | hi
    · simp [hi, h i l[i] (List.getElem?_eq_getElem hi)]
    · simp [hi]

/-- A record that is appended stands behind the ones before it. -/
theorem getElem?_append_singleton {α : Type} {l : List α} {x y : α} {i : Nat} (h : (l ++ [x])[i]? = some y) :
    l[i]? = some y ∧ i < l.length ∨ y = x ∧ i = l.length := by
  rcases Nat.lt_trichotomy i l.length with hi | rfl | hi
  · exact .inl ⟨by rwa [List.getElem?_append_left hi] at h, hi⟩
  · exact .inr ⟨by simpa using h.symm, rfl⟩
  · rw [List.getElem?_eq_none (by simp; omega)] at h
    cases h

/-- The record that closes now. -/
def Rind.closing (r : Rind) (kind start : Nat) : RindRecord :=
  let x : RindRecord := {
    kind := kind, gap := r.gap, error := r.error, unheard := r.unheard, seq := r.nextSeq, timeStart := start,
    timeEnd := r.time, epochEnd := r.lastEpoch.getD 0, tamperCount := r.tamper, causes := r.causes,
    rotated := r.rotated + (if 64 ≤ r.records.length then 1 else 0), prevHash := r.head, tenants := r.tenants, signature := 0 }
  { x with signature := Config.sign rindKey (Config.sha384 x.body) }

/-- How many records give way to the next: the oldest of 64. -/
def Rind.giveWay (r : Rind) : Nat := if 64 ≤ r.records.length then 1 else 0

theorem Rind.close_records (r : Rind) (kind start : Nat) : (r.close kind start).records = r.records.drop r.giveWay ++ [r.closing kind start] := by
  unfold Rind.giveWay
  by_cases full : 64 ≤ r.records.length <;> simp [Rind.close, Rind.closing, Rind.checkpoint, full]

theorem Rind.close_head (r : Rind) (kind start : Nat) : (r.close kind start).head = Config.sha384 (r.closing kind start).all := rfl

@[simp] theorem Rind.close_nextSeq (r : Rind) (kind start : Nat) : (r.close kind start).nextSeq = r.nextSeq + 1 := rfl

@[simp] theorem Rind.close_genesis (r : Rind) (kind start : Nat) : (r.close kind start).genesis = r.genesis := rfl

/-- A record closed after genesis keeps the ledger: it takes the next number and the hash of the newest. -/
theorem ledger_close {r : Rind} (h : Ledger r) (born : r.genesis = true) (kind start : Nat) : Ledger (r.close kind start) := by
  obtain ⟨atMost, given, seqs, chain, head, -⟩ := h
  rw [numberedFrom_iff] at seqs
  have gone : r.giveWay ≤ r.records.length ∧ r.records.length - r.giveWay < 64 ∧ r.giveWay ≤ 1 := by
    unfold Rind.giveWay
    split <;> omega
  obtain ⟨dropped, room, one⟩ := gone
  have len : (r.close kind start).records.length = r.records.length - r.giveWay + 1 := by simp [Rind.close_records]
  refine ⟨by omega, by simp only [Rind.close_nextSeq]; omega, ?_, ?_, ?_, fun unborn => ?_⟩
  · rw [numberedFrom_iff, len, Rind.close_nextSeq, Rind.close_records]
    intro i x hx
    rcases getElem?_append_singleton hx with ⟨old, hi⟩ | ⟨rfl, rfl⟩
    · rw [List.getElem?_drop] at old
      have number := seqs _ _ old
      simp only [List.length_drop] at hi
      omega
    · simp only [List.length_drop]
      show r.nextSeq = _
      omega
  · rw [Rind.close_records]
    intro i x y hx hy
    rcases getElem?_append_singleton hx with ⟨oldX, hi⟩ | ⟨rfl, rfl⟩
    · rcases getElem?_append_singleton hy with ⟨oldY, -⟩ | ⟨rfl, last⟩
      · rw [List.getElem?_drop] at oldX oldY
        exact chain _ _ _ oldX (by rwa [← Nat.add_assoc] at oldY)
      · refine head x ?_
        rw [List.getElem?_drop] at oldX
        rw [List.getLast?_eq_getElem?, ← oldX]
        simp only [List.length_drop] at last
        congr 1
        omega
    · rcases getElem?_append_singleton hy with ⟨-, hi⟩ | ⟨-, hi⟩ <;> omega
  · intro x hx
    rw [Rind.close_records, List.getLast?_append, List.getLast?_singleton] at hx
    rw [Rind.close_head]
    cases hx
    rfl
  · exact absurd (born.symm.trans unborn) (by decide)

/-- The fields of Rind that its ledger is said of. -/
structure LedgerPart where
  records : List RindRecord
  nextSeq : Nat
  head : BitVec 384
  genesis : Bool

def Rind.ledgerPart (r : Rind) : LedgerPart := ⟨r.records, r.nextSeq, r.head, r.genesis⟩

theorem Rind.ledgerPart_time (r : Rind) (t : Nat) : ({ r with time := t } : Rind).ledgerPart = r.ledgerPart := rfl

theorem ledger_of_part {r q : Rind} (h : Ledger r) (same : q.ledgerPart = r.ledgerPart) : Ledger q := by
  simp only [Rind.ledgerPart, LedgerPart.mk.injEq] at same
  obtain ⟨records, nextSeq, head, genesis⟩ := same
  unfold Ledger
  rw [records, nextSeq, head, genesis]
  exact h

theorem Rind.tapWord_part (r : Rind) (w : BitVec 64) : (r.tapWord w).ledgerPart = r.ledgerPart := by
  unfold Rind.tapWord
  split <;> rfl

theorem Rind.frame_part (r : Rind) (ws : List (BitVec 64)) : (r.frame ws).ledgerPart = r.ledgerPart := by
  unfold Rind.frame
  split
  · rfl
  · split
    · rfl
    · exact foldl_keeps Rind.ledgerPart Rind.tapWord Rind.tapWord_part ws r

theorem Rind.capacityTick_part (r : Rind) : r.capacityTick.ledgerPart = r.ledgerPart := by
  refine forN_keeps Rind.ledgerPart 16 _ (fun h r => ?_) r
  dsimp only
  split <;> rfl

theorem Rind.countCause_part (r : Rind) (c : Nat) : (r.countCause c).1.ledgerPart = r.ledgerPart := by
  unfold Rind.countCause
  split <;> rfl

/-- A cause is counted after genesis alone. -/
theorem Rind.genesis_of_counted {r : Rind} {c : Nat} (h : (r.countCause c).2 = true) : (r.countCause c).1.genesis = true := by
  unfold Rind.countCause at h ⊢
  split
  · next none => simp [none] at h
  · next some => simp only [Bool.or_eq_true, not_or, Bool.not_eq_true', Bool.not_eq_false] at some; exact some.1

theorem ledger_closeTamper {r : Rind} (h : Ledger r) (born : r.genesis = true) : Ledger r.closeTamper := by
  unfold Rind.closeTamper
  split
  · exact ledger_close h born _ _
  · exact h

theorem ledger_tamperCause {r : Rind} (h : Ledger r) (c : Nat) : Ledger (r.tamperCause c).1 := by
  have counted : Ledger (r.countCause c).1 := ledger_of_part h (r.countCause_part c)
  simp only [Rind.tamperCause]
  split
  · next yes => exact ledger_closeTamper counted (Rind.genesis_of_counted yes)
  · exact counted

theorem Rind.genesis_of_periodDue {r : Rind} (h : r.periodDue = true) : r.genesis = true := by
  simp only [Rind.periodDue, Bool.and_eq_true] at h
  exact h.1

theorem ledger_before_genesis {r : Rind} (h : Ledger r) (unborn : r.genesis = false) : r.records = [] ∧ r.nextSeq = 0 := by
  obtain ⟨-, -, -, -, -, none⟩ := h
  exact none unborn

theorem ledger_of_empty {r : Rind} (records : r.records = []) (nextSeq : r.nextSeq = 0) : Ledger r := by
  simp [Ledger, records, nextSeq]

/-! ### Rind's commands -/

section
variable {a f : Bool} {s : State}

theorem Frame.withRind {x : Rind} (h : Ledger s.rind → Ledger x) (tamper : Bool) : Frame a f true s (s.withRind x tamper) := by
  unfold State.withRind
  exact .island h _

theorem Within.rindAsk {busy : Bool} {g : State → State} (h : Frame a f true s (g s)) : Within a f true s (s.rindAsk busy g) := by
  unfold State.rindAsk
  split
  · exact (Frame.refl s).within
  · split
    · exact (Frame.base _).within
    · exact h.within

variable (s)

theorem execRindMsTick_within : Within a f true s (execRindMsTick s) := by
  unfold execRindMsTick
  split
  · exact (Frame.refl s).within
  · next on =>
    simp only [Bool.or_eq_true, not_or, Bool.not_eq_true', Bool.not_eq_false] at on
    have part : ({ s.rind.capacityTick with time := s.rind.time + 1 } : Rind).ledgerPart = s.rind.ledgerPart :=
      (Rind.ledgerPart_time s.rind.capacityTick (s.rind.time + 1)).trans s.rind.capacityTick_part
    generalize s.rind.capacityTick = r at part ⊢
    exact (Frame.withRind (fun h => ledger_closeTamper (ledger_of_part h part) ((congrArg LedgerPart.genesis part).trans on.2)) false).within

theorem execRindPeriodRecord_within : Within a f true s (execRindPeriodRecord s) := by
  unfold execRindPeriodRecord
  split
  · next due =>
    simp only [Bool.and_eq_true] at due
    exact (Frame.withRind (fun h => ledger_close h (Rind.genesis_of_periodDue due.2) _ _) false).within
  · exact (Frame.refl s).within

/-- The record of a power-up is closed after genesis; the causes found lost are counted before it. -/
theorem execRindPowerUp_within (lostRecord lostCounter chainBreak : Bool) :
    Within a f true s (execRindPowerUp lostRecord lostCounter chainBreak s) := by
  unfold execRindPowerUp
  extract_lets s1 r0 r1 r2
  have plugged : Frame a f true s s1 := .base _
  have started : r1.ledgerPart = s1.rind.ledgerPart := rfl
  have restored : r2.ledgerPart = r1.ledgerPart := by
    simp only [r2]
    split <;> rfl
  clear_value s1 r1 r2
  split
  · exact plugged.within
  · split
    · exact (plugged.trans (.island (fun h => ledger_of_part h ((Rind.ledgerPart_time r1 0).trans started)) s1.base)).within
    · next old =>
      have broken : (if chainBreak = true then r2.countCause 2 else (r2, false)).1.ledgerPart = r2.ledgerPart := by
        split
        · exact Rind.countCause_part ..
        · rfl
      generalize (if chainBreak = true then r2.countCause 2 else (r2, false)) = x at broken ⊢
      obtain ⟨r3, t⟩ := x
      have lost : (if (lostRecord || lostCounter) = true then ((r3.countCause 3).1, (r3.countCause 3).2 || t) else (r3, t)).1.ledgerPart =
          r3.ledgerPart := by
        split
        · exact Rind.countCause_part ..
        · rfl
      dsimp only
      generalize (if (lostRecord || lostCounter) = true then ((r3.countCause 3).1, (r3.countCause 3).2 || t) else (r3, t)) = y at lost ⊢
      obtain ⟨r4, t⟩ := y
      have same := lost.trans (broken.trans restored)
      have born : r4.genesis = true := (congrArg LedgerPart.genesis same).trans (by simpa [Rind.ledgerPart] using old)
      exact (plugged.trans (.withRind (fun h => ledger_close (ledger_of_part h (same.trans started)) born _ _) _)).within

theorem execRindSealDelivery_within : Within a f true s (execRindSealDelivery s) := by
  unfold execRindSealDelivery
  extract_lets rd good
  split
  · exact (Frame.refl s).within
  · split
    · next unborn =>
      split
      · refine (Frame.withRind (fun h => ledger_close ?_ rfl _ _) false).within
        obtain ⟨empty, noneGiven⟩ := ledger_before_genesis h (by simpa using unborn)
        exact ledger_of_empty empty noneGiven
      · exact (Frame.refl s).within
    · split
      · exact (Frame.refl s).within
      · exact (Frame.withRind (fun h => ledger_tamperCause h 4) _).within

theorem execRindCloseInterval_within (busy : Bool) : Within a f true s (execRindCloseInterval busy s) := by
  refine .rindAsk ?_
  extract_lets rind early renewed closed
  split
  · exact .base _
  · next open_ =>
    have born : s.rind.genesis = true := by
      simp only [Bool.or_eq_true, not_or, Bool.not_eq_true', Bool.not_eq_false] at open_
      exact open_.1
    refine Frame.trans (.withRind (fun h => ?_) false) (.base _)
    simp only [closed]
    split
    · exact ledger_close h born _ _
    · exact ledger_of_part (ledger_close h born 3 _) rfl

theorem execRindGetRecord_within (seq : BitVec 64) (busy : Bool) : Within a f true s (execRindGetRecord seq busy s) := by
  refine .rindAsk ?_
  split <;> exact .base _

end

/-! ### Every command -/

section
variable {a f r : Bool} (s : State)

theorem execDescFetch_within (q : BitVec 6) (noise : Noise) : Within a f r s (execDescFetch q noise s) := by
  unfold execDescFetch
  extract_lets b n x k line p c waits
  clear_value k
  split
  · exact (Frame.refl s).within
  · split
    · exact (Frame.refl s).within
    · split
      · exact (Frame.onBase _).within
      · extract_lets take
        clear_value take
        split
        · exact (Frame.refl s).within
        · split
          · exact (Frame.onBase _).within
          · split
            · exact (Frame.onBase _).within
            · split
              · exact (Frame.onBase _).within
              · generalize b.internal (.mover 17 0) .rdData line (b.queueLabel n) = asked
                obtain ⟨req, b'⟩ := asked
                dsimp only
                split
                · split
                  · exact (Frame.base _).within
                  · exact (Frame.refl s).within
                · split
                  · exact (Frame.refl s).within
                  · split
                    · exact (Frame.base _).within
                    · exact (Frame.onBase _).within

theorem execSpareMoveRowInStage_within (ch : ChanId) (noise : List Noise) : Within a f r s (execSpareMoveRowInStage ch noise s) := by
  unfold execSpareMoveRowInStage
  extract_lets k
  split
  · exact (Frame.refl s).within
  · split
    · exact (Frame.refl s).within
    · split
      · split
        · exact (Frame.moveLineRead ..).within
        · exact (Frame.refl s).within
      · split
        · exact (Frame.refl s).within
        · refine .ofBase ?_
          simp only []
          split
          · exact ⟨_, rfl⟩
          · split <;> exact ⟨_, rfl⟩

theorem execScrubRow_within (ch : ChanId) : Within a f r s (execScrubRow ch s) := by
  unfold execScrubRow
  extract_lets k c idle quota
  split
  · exact (Frame.refl s).within
  · split
    · exact (Frame.refl s).within
    · split
      · exact (Frame.scrubRead ..).within
      · split
        · exact (Frame.onBase _).within
        · exact (Frame.scrubRead ..).within

theorem execScrubVerifyDone_within (ch : ChanId) (noise : List Noise) : Within a f r s (execScrubVerifyDone ch noise s) := by
  refine .ofBase ?_
  simp only [execScrubVerifyDone]
  repeat' split
  all_goals exact ⟨_, rfl⟩

theorem execFuseProgram_within (by_ : FuseBy) (word : BitVec 11) (value : Word) : Within a f r s (execFuseProgram by_ word value s) := by
  refine .ofBase ?_
  simp only [execFuseProgram]
  repeat' split
  all_goals exact ⟨_, rfl⟩

theorem execGraftAppend_within (cmd : AuthCmd) (entry : BitVec 7) (lines : List GraftLine) :
    Within a true r s (execGraftAppend cmd entry lines s) := by
  refine (Frame.authCommand s fun t => .ofBase t ?_).within
  split
  · exact ⟨_, rfl⟩
  · dsimp only
    split <;> exact ⟨_, rfl⟩

theorem execVoidWords_within (by_ : FuseBy) (words : List (BitVec 11)) : Within a true r s (execVoidWords by_ words s) := by
  unfold execVoidWords
  split
  · exact (Frame.authCommand s fun t => .voidThem ..).within
  · split
    · exact (Frame.refl s).within
    · split
      · exact (Frame.base _).within
      · exact (Frame.voidThem ..).within

theorem execLifecycleVoid_within (by_ : FuseBy) : Within a true r s (execLifecycleVoid by_ s) := by
  unfold execLifecycleVoid
  split
  · exact (Frame.authCommand s fun t => .base _).within
  · split
    · exact (Frame.base _).within
    · exact (Frame.refl s).within

theorem Frame.odWriteOn (p : OdPath) (i sub : Nat) (data : List Byte) : Frame a f r s (s.odWriteOn p i sub data) := by
  unfold State.odWriteOn
  split
  · exact .base _
  · exact .refl s

theorem Frame.odReadOn (p : OdPath) (op i sub : Nat) : Frame a f r s (s.odReadOn p op i sub) := by
  unfold State.odReadOn
  split
  · exact .base _
  · exact .refl s

theorem execOdRead_within (p : OdPath) (op : Byte) (index : BitVec 16) (sub : Byte) : Within a f r s (execOdRead p op index sub s) := by
  unfold execOdRead
  refine Frame.within ?_
  split
  · exact .odWriteOn ..
  · exact .odReadOn ..

theorem execSensorSample_within (d : Fin 20) (reading : Int) (trip loadChanged : Bool) :
    Within a true r s (execSensorSample d reading trip loadChanged s) := by
  unfold execSensorSample
  split
  · extract_lets s1
    have sampled : Frame a true r s s1 := .onBase _
    refine Frame.within ?_
    split
    · exact sampled.trans (.trip ..)
    · exact sampled
  · exact (Frame.refl s).within

theorem execGuardStatusRead_within (ch : ChanId) (trip : Bool) : Within a true r s (execGuardStatusRead ch trip s) := by
  unfold execGuardStatusRead
  extract_lets b s1
  split
  · have seen : Frame a true r s s1 := .onBase _
    refine Frame.within ?_
    split
    · exact seen.trans (.trip ..)
    · exact seen
  · exact (Frame.refl s).within

/-- A command that does its one thing to the state or, in another condition, nothing. -/
theorem Within.ite {c : Prop} [Decidable c] {t : State} (h : Frame a f r s t) : Within a f r s (if c then .next t else .next s) := by
  split
  · exact h.within
  · exact (Frame.refl s).within

end

theorem execRindGetInfo_within {a f : Bool} (s : State) (busy : Bool) : Within a f true s (execRindGetInfo busy s) := by
  refine .rindAsk ?_
  exact .base _

theorem execRindChallenge_within {a f : Bool} (s : State) (nonce : BitVec 256) (busy : Bool) :
    Within a f true s (execRindChallenge nonce busy s) := by
  refine .rindAsk ?_
  exact .base _

theorem execVddAuxBrownout_within {r : Bool} (s : State) : Within true true r s (execVddAuxBrownout s) := by
  unfold execVddAuxBrownout
  exact ((Frame.holdCold s).thenBase _).within

/-- Every command answers a next state, and keeps within its frame: only the commands of the arrays store into them, only those of Rind
change it, and they touch no fuse. -/
theorem exec_within (c : Instr) (s : State) : Within (arrayCommand c) (!rindCommand c) (rindCommand c) s (exec c s) := by
  cases c
  case channelSelect ch noise parity => exact execChannelSelect_within s ch noise parity
  case rowBusCycle bus ok noise => exact execRowBusCycle_within s bus ok noise
  case scrubRowDecoded ch noise => exact execScrubRowDecoded_within s ch noise
  case spareRowAssigned ch => exact execSpareRowAssigned_within s ch
  case internalColdResetRelease straps strapError gradeE m => exact execInternalColdResetRelease_within s straps strapError gradeE m
  case vddAuxBrownout => exact execVddAuxBrownout_within s
  case coreRailBrownout => exact (Frame.holdCold s).within
  case descFetch q noise => exact execDescFetch_within s q noise
  case spareMoveRowInStage ch noise => exact execSpareMoveRowInStage_within s ch noise
  case scrubRow ch => exact execScrubRow_within s ch
  case scrubVerifyDone ch noise => exact execScrubVerifyDone_within s ch noise
  case fuseProgram by_ word value => exact execFuseProgram_within s by_ word value
  case fuseProgramDone ok => exact execFuseProgramDone_within s ok
  case graftAppend cmd entry lines => exact execGraftAppend_within s cmd entry lines
  case voidWords by_ words => exact execVoidWords_within s by_ words
  case lifecycleReturn => exact (Frame.authCommand s fun t => .base _).within
  case lifecycleVoid by_ => exact execLifecycleVoid_within s by_
  case jtagUnlock => exact (Frame.authCommand s fun t => .onBase _).within
  case lifecycleAdvance => exact .ite s (.base _)
  case sensorSample d reading trip loadChanged => exact execSensorSample_within s d reading trip loadChanged
  case thermalTrip => exact .ite s (.trip ..)
  case guardStatusRead ch trip => exact execGuardStatusRead_within s ch trip
  case resetCmdWarm => exact .ite s (.resetCmd ..)
  case resetCmdCold => exact .ite s (.resetCmd ..)
  case fmResetCommand => exact .ite s (.warmBoot ..)
  case watchdogExpire => exact .ite s (.warmBoot ..)
  case bootTimerExpire => exact .ite s (.warmBoot ..)
  case odRead p op index sub => exact execOdRead_within s p op index sub
  case odWrite | calendarSet | raiseSvnFloor => exact (Frame.odWriteOn ..).within
  case versionOpen | versionDiscard | versionCommit | versionConfirm | versionRollback => exact (Frame.odWriteOn ..).within
  case rindTapFrame => exact (Frame.island (fun h => ledger_of_part h (Rind.frame_part ..)) _).within
  case rindMsTick => exact execRindMsTick_within s
  case rindCheckpoint => exact .ite s (.island (x := s.rind.checkpoint) (fun h => ledger_of_part h rfl) s.base)
  case rindPeriodRecord => exact execRindPeriodRecord_within s
  case rindPowerUp lostRecord lostCounter chainBreak => exact execRindPowerUp_within s lostRecord lostCounter chainBreak
  case rindSealDelivery => exact execRindSealDelivery_within s
  case rindGetInfo busy => exact execRindGetInfo_within s busy
  case rindChallenge nonce busy => exact execRindChallenge_within s nonce busy
  case rindGetRecord seq busy => exact execRindGetRecord_within s seq busy
  case rindCloseInterval busy => exact execRindCloseInterval_within s busy
  case rindVoltageExcursion => exact .ite s (.withRind (fun h => ledger_tamperCause h 0) _)
  case rindClockFault => exact .ite s (.withRind (fun h => ledger_tamperCause h 1) _)
  case vddRindLoss => exact (Frame.island (x := s.rind.lose) (fun h => ledger_of_part h rfl) _).within
  all_goals exact .ofBase ⟨_, rfl⟩

/-! ### A step -/

theorem Frame.weaken {a f r : Bool} {s t : State} (h : Frame a f r s t) : Frame true true true s t :=
  { h with
    mem := fun no => absurd no (by decide)
    otp := fun no => absurd no (by decide)
    rind := fun no => absurd no (by decide) }

/-- A step is a command's or a cycle's: it keeps the arrays canonical, the fuses burnt and the ledger whole. -/
theorem step_frame {s t : State} (h : step s = .next t) : ∃ rest, Frame true true true { s with pending := rest } t := by
  unfold step at h
  split at h
  · cases h
    exact ⟨_, .base _⟩
  · next c rest _ =>
    obtain ⟨u, hu, frame⟩ := exec_within c { s with pending := rest }
    cases hu.symm.trans h
    exact ⟨rest, frame.weaken⟩

/-! ### The lifecycle -/

theorem majority_getLsbD (x : BitVec 96) {i : Nat} (hi : i < 32) :
    (majority x).getLsbD i =
      (x.getLsbD i && x.getLsbD (32 + i) || x.getLsbD i && x.getLsbD (64 + i) || x.getLsbD (32 + i) && x.getLsbD (64 + i)) := by
  simp [majority, hi]

/-- A word whose copies keep every bit keeps every bit. -/
theorem majority_getLsbD_mono {x y : BitVec 96} (h : ∀ i, x.getLsbD i = true → y.getLsbD i = true) {i : Nat} (hi : i < 32)
    (hx : (majority x).getLsbD i = true) : (majority y).getLsbD i = true := by
  rw [majority_getLsbD _ hi] at hx ⊢
  simp only [Bool.or_eq_true, Bool.and_eq_true] at hx ⊢
  exact hx.imp (.imp (.imp (h _) (h _)) (.imp (h _) (h _))) (.imp (h _) (h _))

theorem lt_lifecycleOf {w : Word} {i : Nat} (hi : i < 5) (h : w.getLsbD i = true) : i < lifecycleOf w := by
  unfold lifecycleOf
  interval_cases i <;> simp only [h, if_true] <;> repeat' split
  all_goals omega

/-- The lifecycle's number is one above its highest bit that is set. -/
theorem lifecycleOf_eq (w : Word) : lifecycleOf w = 0 ∨ ∃ i, i < 5 ∧ w.getLsbD i = true ∧ lifecycleOf w = i + 1 := by
  unfold lifecycleOf
  split
  · next h => exact .inr ⟨4, by decide, h, rfl⟩
  · split
    · next h => exact .inr ⟨3, by decide, h, rfl⟩
    · split
      · next h => exact .inr ⟨2, by decide, h, rfl⟩
      · split
        · next h => exact .inr ⟨1, by decide, h, rfl⟩
        · split
          · next h => exact .inr ⟨0, by decide, h, rfl⟩
          · exact .inl rfl

theorem FusesGrow.lifecycleOf_le {old new : Tab (BitVec 96)} (h : FusesGrow old new) (w : Nat) :
    lifecycleOf (otpRaw old w) ≤ lifecycleOf (otpRaw new w) := by
  rcases lifecycleOf_eq (otpRaw old w) with none | ⟨i, hi, bit, top⟩
  · omega
  · have kept := lt_lifecycleOf hi (majority_getLsbD_mono (fuseBits_sub_iff.mp (h w)) (by omega) bit)
    exact top ▸ kept

/-! ### Rind apart -/

/-- Rind in the state that a command answers. -/
def rindAfter : Host.Outcome State Fault Refusal → Option Rind
  | .next t => some t.rind
  | _ => none

theorem rindAfter_rindAsk {s s' : State} {busy : Bool} {g : State → State} (same : s.rind = s'.rind) (h : (g s).rind = (g s').rind) :
    rindAfter (s.rindAsk busy g) = rindAfter (s'.rindAsk busy g) := by
  unfold State.rindAsk
  rw [same]
  split
  · exact congrArg some same
  · split
    · exact congrArg some same
    · exact congrArg some h

theorem arrayCommand_of_rindCommand {c : Instr} (h : rindCommand c = true) : arrayCommand c = false := by
  cases c
  case channelSelect | rowBusCycle | scrubRowDecoded | spareRowAssigned | internalColdResetRelease | vddAuxBrownout | coreRailBrownout => cases h
  all_goals rfl

theorem rindAfter_ite {c : Prop} [Decidable c] (o p : Host.Outcome State Fault Refusal) :
    rindAfter (if c then o else p) = if c then rindAfter o else rindAfter p := apply_ite ..

theorem rindAfter_next (t : State) : rindAfter (.next t) = some t.rind := rfl

theorem State.rindSay_rind (s : State) (status : Nat) (r : Reply) : (s.rindSay status r).rind = s.rind := rfl

theorem State.withRind_rind (s : State) (r : Rind) (tamper : Bool) : (s.withRind r tamper).rind = r := rfl

/-- What Rind makes of one of its own commands is a function of Rind, but for the seal that is delivered to it. -/
theorem rindAfter_exec {c : Instr} {s s' : State} (island : rindCommand c = true) (noSeal : c ≠ .rindSealDelivery) (same : s.rind = s'.rind) :
    rindAfter (exec c s) = rindAfter (exec c s') := by
  cases c
  case rindSealDelivery => exact absurd rfl noSeal
  case rindTapFrame ws => exact congrArg (fun r : Rind => some (r.frame ws)) same
  case vddRindLoss => exact congrArg (fun r : Rind => some r.lose) same
  case rindMsTick =>
    show rindAfter (execRindMsTick s) = rindAfter (execRindMsTick s')
    simp only [execRindMsTick, rindAfter_ite, rindAfter_next, State.withRind_rind, same]
  case rindCheckpoint =>
    show rindAfter (execRindCheckpoint s) = rindAfter (execRindCheckpoint s')
    simp only [execRindCheckpoint, rindAfter_ite, rindAfter_next, same]
  case rindPeriodRecord =>
    show rindAfter (execRindPeriodRecord s) = rindAfter (execRindPeriodRecord s')
    simp only [execRindPeriodRecord, rindAfter_ite, rindAfter_next, State.withRind_rind, same]
  case rindVoltageExcursion =>
    show rindAfter (execRindVoltageExcursion s) = rindAfter (execRindVoltageExcursion s')
    simp only [execRindVoltageExcursion, rindAfter_ite, rindAfter_next, State.withRind_rind, same]
  case rindClockFault =>
    show rindAfter (execRindClockFault s) = rindAfter (execRindClockFault s')
    simp only [execRindClockFault, rindAfter_ite, rindAfter_next, State.withRind_rind, same]
  case rindPowerUp lostRecord lostCounter chainBreak =>
    show rindAfter (execRindPowerUp lostRecord lostCounter chainBreak s) = rindAfter (execRindPowerUp lostRecord lostCounter chainBreak s')
    simp only [execRindPowerUp, rindAfter_ite, rindAfter_next, State.withRind_rind, same]
  case rindGetInfo busy =>
    show rindAfter (execRindGetInfo busy s) = rindAfter (execRindGetInfo busy s')
    unfold execRindGetInfo
    refine rindAfter_rindAsk same ?_
    exact same
  case rindChallenge nonce busy =>
    show rindAfter (execRindChallenge nonce busy s) = rindAfter (execRindChallenge nonce busy s')
    unfold execRindChallenge
    refine rindAfter_rindAsk same ?_
    exact same
  case rindGetRecord seq busy =>
    show rindAfter (execRindGetRecord seq busy s) = rindAfter (execRindGetRecord seq busy s')
    unfold execRindGetRecord
    refine rindAfter_rindAsk same ?_
    rw [same]
    split <;> exact same
  case rindCloseInterval busy =>
    show rindAfter (execRindCloseInterval busy s) = rindAfter (execRindCloseInterval busy s')
    unfold execRindCloseInterval
    refine rindAfter_rindAsk same ?_
    simp only [apply_ite State.rind, State.rindSay_rind, State.withRind_rind, same]
  all_goals cases island

end Sys2Proof.Machine
end

section
/-! SUPPORT. The obligations about every step: what each command keeps, taken from its frame. -/

namespace Sys2Proof.Machine

/-- Settles O3. -/
theorem everyCommandCompletes : Obligations.every_command_completes := by
  intro c s
  obtain ⟨t, next, frame⟩ := exec_within c s
  exact ⟨t, next, frame.pending⟩

/-- Settles O58: only a store changes the arrays, and a store keeps the canonical form. -/
theorem everyStepKeepsTheArraysCanonical : Obligations.every_step_keeps_the_arrays_canonical := by
  intro s t canonical next
  obtain ⟨rest, frame⟩ := step_frame next
  exact frame.canonical canonical

/-- Settles O59: every change of a fuse word is a pulse that adds bits to it. -/
theorem fusesAreNeverCleared : Obligations.fuses_are_never_cleared := by
  intro s t next
  obtain ⟨rest, frame⟩ := step_frame next
  exact ⟨frame.grows, frame.grows.lifecycleOf_le 0x40⟩

/-- Settles O60: only a record that closes changes the ledger, and it takes the next number and the newest hash. -/
theorem everyStepKeepsTheLedger : Obligations.every_step_keeps_the_ledger := by
  intro s t whole next
  obtain ⟨rest, frame⟩ := step_frame next
  exact frame.ledger whole

/-- Settles O57. -/
theorem rindAndTheArraysAreKeptApart : Obligations.rind_and_the_arrays_are_kept_apart := by
  intro c s s' t t' next next'
  obtain ⟨u, hu, frame⟩ := exec_within c s
  cases hu.symm.trans next
  refine ⟨frame.rind, fun island noSeal same => ?_, fun island => ⟨frame.mem ?_, frame.otp (by rw [island]; rfl)⟩, frame.mem⟩
  · have after := rindAfter_exec island noSeal same
    rw [next, next'] at after
    exact Option.some.inj after
  · exact arrayCommand_of_rindCommand island

end Sys2Proof.Machine
end

section
/-! SUPPORT. A part that is held in cold reset or has tripped (R361, R535): every gate that its commands pass is shut. -/

namespace Sys2Proof.Machine

section
variable {b : Base} (h : b.alive = false)
include h

theorem Base.fwRuns_of_held : b.fwRuns = false := by simp [Base.fwRuns, h]
theorem Base.mgmtUp_of_held : b.mgmtUp = false := by simp [Base.mgmtUp, h]
theorem Base.mgmtFull_of_held : b.mgmtFull = false := by simp [Base.mgmtFull, Base.mgmtUp_of_held h]
theorem Base.canTrain_of_held (k : Nat) : b.canTrain k = false := by simp [Base.canTrain, h]
theorem Base.hostUp_of_held (k : Nat) : b.hostUp k = false := by simp [Base.hostUp, h]
theorem Base.moverRuns_of_held : b.moverRuns = false := by simp [Base.moverRuns, h]
theorem Base.visitable_of_held (ch : Nat) : b.visitable ch = false := by simp [Base.visitable, h]
theorem Base.scrubOk_of_held (ch : Nat) : b.scrubOk ch = false := by simp [Base.scrubOk, h]

theorem Base.reaches_of_held (who : Nat) : b.reaches who = false := by
  simp [Base.reaches, Base.mgmtUp_of_held h, Base.hostUp_of_held h, Base.fwRuns_of_held h]

theorem Base.transportUp_of_held (t : Transport) : b.transportUp t = false := by
  cases t <;> simp [Base.transportUp, Base.fwRuns_of_held h]

theorem Base.spdmUp_of_held (p : SpdmPath) : b.spdmUp p = false := by
  cases p <;> simp [Base.spdmUp, Base.fwRuns_of_held h, Base.transportUp_of_held h]

theorem Base.odUp_of_held (p : OdPath) (op i sub : Nat) (data : List Byte) : b.odUp p op i sub data = false := by
  simp [Base.odUp, Base.fwRuns_of_held h]

theorem Base.mctpControl_of_held (r : MctpReq) (f : Base → Base) : b.mctpControl r f = b := by
  simp [Base.mctpControl, Base.transportUp_of_held h]

end

/-! ### Commands with a gate -/

/-- A meaning that leaves the base leaves the state. -/
theorem State.then_self {s : State} {f : Base → Base} (h : f s.base = s.base) : s.then_ f = .next s := State.then_eq h

section
variable {s : State} (h : s.base.alive = false)
include h

theorem State.odWriteOn_held (p : OdPath) (i sub : Nat) (data : List Byte) : s.odWriteOn p i sub data = s := by
  simp [State.odWriteOn, Base.odUp_of_held h]

theorem State.odReadOn_held (p : OdPath) (op i sub : Nat) : s.odReadOn p op i sub = s := by
  simp [State.odReadOn, Base.odUp_of_held h]

theorem State.authCommand_held (a : AuthCmd) (allowed : Bool) (f : State → State) : s.authCommand a allowed f = s := by
  simp [State.authCommand, Base.fwRuns_of_held h]

end

/-! ### Commands that look at the part themselves -/

section
variable {s : State} (h : s.base.alive = false)
include h

theorem execDriftVisit_held (ch : ChanId) (m : DriftMeasure) : execDriftVisit ch m s = .next s :=
  State.then_self (by simp [Base.visitable_of_held h])

theorem execRetrainSlice_held (ch : ChanId) (values : TrainValues) : execRetrainSlice ch values s = .next s :=
  State.then_self (by simp [Base.visitable_of_held h])

theorem execDescStart_held (slot : BitVec 4) : execDescStart slot s = .next s :=
  State.then_self (by rw [Base.moverRuns_of_held h]; split <;> rfl)

theorem execCaneTestShift_held (u : CaneUnit) : execCaneTestShift u s = .next s := by
  refine State.then_self ?_
  cases u
  case pos ch p => simp [Base.shiftPos, h]
  case seg q n => simp [Base.shiftSeg, h]
  case heartbeat d => simp [Base.shiftHeartbeat, h]

theorem execFmApiCommand_held (p : FmPath) : execFmApiCommand p s = .next s := by
  refine State.then_self ?_
  cases p
  case tunnel k => simp [Base.fwRuns_of_held h]
  case mctp r => simp [Base.transportUp_of_held h]

theorem execSpareMoveRowInStage_held (ch : ChanId) (noise : List Noise) : execSpareMoveRowInStage ch noise s = .next s := by
  simp only [execSpareMoveRowInStage, h]
  split <;> simp

theorem execSpareRowAssigned_held (ch : ChanId) : execSpareRowAssigned ch s = .next s := by
  simp only [execSpareRowAssigned, h]
  split <;> simp

theorem execScrubRowDecoded_held (ch : ChanId) (noise : List Noise) : execScrubRowDecoded ch noise s = .next s := by
  simp only [execScrubRowDecoded, h]
  split
  · rfl
  · split <;> simp

theorem execScrubVerifyDone_held (ch : ChanId) (noise : List Noise) : execScrubVerifyDone ch noise s = .next s := by
  simp only [execScrubVerifyDone, h]
  split <;> simp

theorem execDescFetch_held (q : BitVec 6) (noise : Noise) : execDescFetch q noise s = .next s := by
  simp only [execDescFetch, Base.moverRuns_of_held h]
  split <;> simp

theorem execFuseProgramDone_held (ok : Bool) : execFuseProgramDone ok s = .next s := by
  simp only [execFuseProgramDone, h]
  split <;> simp

theorem execVoidWords_held (by_ : FuseBy) (words : List (BitVec 11)) : execVoidWords by_ words s = .next s := by
  simp only [execVoidWords]
  split
  · rw [State.authCommand_held h]
  · simp [h]

theorem execLifecycleVoid_held (by_ : FuseBy) : execLifecycleVoid by_ s = .next s := by
  unfold execLifecycleVoid
  split
  · rw [State.authCommand_held h]
  · simp [h]

theorem execOdRead_held (p : OdPath) (op : Byte) (index : BitVec 16) (sub : Byte) : execOdRead p op index sub s = .next s := by
  simp [execOdRead, State.odWriteOn_held h, State.odReadOn_held h]

theorem execCommit_held (src : Src) (mask : BitVec 16) : execCommit src mask s = .next s :=
  State.whenBase_neg (by simp [Base.mgmtFull_of_held h, Base.fwRuns_of_held h])

end

/-! ### Every command -/

theorem exec_held {c : Instr} {s : State} (h : s.base.alive = false) (core : actsWithoutCore c = false) : exec c s = .next s := by
  have fw := Base.fwRuns_of_held h
  have up := Base.mgmtUp_of_held h
  have full := Base.mgmtFull_of_held h
  have train := Base.canTrain_of_held h
  cases c
  case lineDecode ch noise => exact State.then_self (by simp [h])
  case driftVisit ch m => exact execDriftVisit_held h ch m
  case retrainSlice ch values => exact execRetrainSlice_held h ch values
  case descStart slot => exact execDescStart_held h slot
  case caneTestShift u => exact execCaneTestShift_held h u
  case fmApiCommand p => exact execFmApiCommand_held h p
  case spareMoveRowInStage ch noise => exact execSpareMoveRowInStage_held h ch noise
  case spareRowAssigned ch => exact execSpareRowAssigned_held h ch
  case scrubRowDecoded ch noise => exact execScrubRowDecoded_held h ch noise
  case scrubVerifyDone ch noise => exact execScrubVerifyDone_held h ch noise
  case descFetch q noise => exact execDescFetch_held h q noise
  case fuseProgramDone ok => exact execFuseProgramDone_held h ok
  case voidWords by_ words => exact execVoidWords_held h by_ words
  case lifecycleVoid by_ => exact execLifecycleVoid_held h by_
  case odRead p op index sub => exact execOdRead_held h p op index sub
  case commit src mask => exact execCommit_held h src mask
  case channelSelect => exact if_neg (by simp [h])
  case scrubRow ch => exact if_pos (by simp [Base.scrubOk_of_held h])
  case rowBusCycle bus ok noise => exact if_pos (by simp [Base.moverRuns_of_held h])
  case guardStatusRead | sensorSample | thermalTrip | watchdogExpire | bootTimerExpire => exact if_neg (by simp [h])
  case lifecycleAdvance => exact if_neg (by simp [h])
  case resetCmdWarm | resetCmdCold => exact if_neg (by simp [up])
  case fmResetCommand => exact if_neg (by simp [fw])
  case fuseProgram => exact if_pos (by simp [h])
  case rindSealDelivery => exact if_pos (by simp [h])
  case graftAppend | lifecycleReturn | jtagUnlock => exact congrArg _ (State.authCommand_held h ..)
  case odWrite | raiseSvnFloor | calendarSet => exact congrArg _ (State.odWriteOn_held h ..)
  case versionOpen | versionDiscard | versionCommit | versionConfirm | versionRollback => exact congrArg _ (State.odWriteOn_held h ..)
  case mctpSetEndpointId | mctpGetEndpointId | mctpGetEndpointUuid => exact State.then_self (Base.mctpControl_of_held h ..)
  case mctpGetVersionSupport | mctpGetMessageTypeSupport | mctpGetVendorMsgSupport => exact State.then_self (Base.mctpControl_of_held h ..)
  case descComplete => exact State.whenBase_neg (Base.moverRuns_of_held h)
  case scanMedia => exact State.whenBase_neg (by simp [h])
  case planComplete | dcAddRequest | dcForcedRelease | mramLogPersist | marginScan => exact State.whenBase_neg fw
  case firmwareSlotWrite | domainPowerOff | confirmWindowExpire => exact State.whenBase_neg fw
  case firmwareWatchdog | moverStallReset | moverRecovery => exact State.whenBase_neg (by simp [fw])
  case memoryActive | versionStored | lifetimePersist => exact State.whenBase_neg (by simp [fw])
  case registerWrite | mbxPost | mbxPop | mbxCrossedClear => exact State.whenBase_neg (Base.reaches_of_held h _)
  case mbxLockRead | mbxLockRelease => exact State.whenBase_neg (Base.reaches_of_held h _)
  case mbxWake => exact State.whenBase_neg (by simp [Base.reaches_of_held h])
  case fuseRead | rcvGo | rcvFinish | barUnmapped => exact State.whenBase_neg up
  case deferClear | hostCountClear | layoutCountClear | dramCountClear | eccCountClear => exact State.whenBase_neg full
  case chEccClear | cohCountClear | moverCountClear | qosCountClear | qosHistClear | siCountClear => exact State.whenBase_neg full
  case ptCountClear | faultCountClear | mgmtCountClear | laneReadmit | laneForceExclude => exact State.whenBase_neg full
  case xlateDpaHi | initmapQuery | trainCtrlStart | injArmNextWrite | injRewriteNow => exact State.whenBase_neg full
  case injClearAll | hostIsolateClear | lblStagePush | lblStageDiscard | lblViewSel => exact State.whenBase_neg full
  case siTestChannel | siFullwidthNow | faultAck | releaseFaultN | fenceClear | resetCtrl => exact State.whenBase_neg full
  case flogSel | flogRd | diagWindowRead | diagWindowWrite | appliedAddr | locksWrite => exact State.whenBase_neg full
  case snapSel => exact State.whenBase_neg full
  case countClear | portHoldDetect | portRetrain | portReeq | eyeCheckDisable => exact State.whenBase_neg (by simp [full])
  case detectRetry | receiverDetected | pollingComplete | pollingTimeout | symbolLockDone => exact State.whenBase_neg (by simp [train])
  case configurationComplete | configurationTimeout | rateStepComplete | eqFailed | eqPhase2End => exact State.whenBase_neg (by simp [train])
  case phase3PresetRequest | flitReceived | flitAlignment | alignmentLost | lockLost => exact State.whenBase_neg (by simp [train])
  case adaptFreeze | eyeCheck | hostRecoveryRequest | recoveryComplete | l0pEntry | l0pExit => exact State.whenBase_neg (by simp [train])
  case l1Entry | l12Entry | electricalIdleExit | partLinkExit | wakeTimeout | marginSessionStart => exact State.whenBase_neg (by simp [train])
  case hostLinkReset | ideKeySet | refreshTick | channelTraining | storedTrainingLoad | powerStateEntry => exact State.whenBase_neg (by simp [h])
  case octantDrop | imageLoaded | bootExit | wdogKick | rcvChunkDone => exact State.whenBase_neg (by simp [h])
  case decoderCommit | labelExtensionEnable | dcExtentAccept | dcExtentRelease | getPoisonList => exact State.whenBase_neg (by simp [h])
  case setOctantTolerance | getOctantTolerance | clearEventRecords | msixEnable | sanitize | moverDoorbell => exact State.whenBase_neg (by simp [h])
  case spdmGetVersion | spdmGetCapabilities | spdmNegotiateAlgorithms | spdmGetDigests | spdmGetCertificate => exact State.then_self (by simp [Base.spdmUp_of_held h])
  case spdmChallenge | spdmGetMeasurements | spdmKeyExchange | spdmFinish | spdmEndSession => exact State.then_self (by simp [Base.spdmUp_of_held h])
  case spdmHeartbeat => exact State.then_self (by simp [Base.spdmUp_of_held h])
  case epochBoundary | refclkLost | refclkRestored | marginSessionEnd | pllUnlock | memRd => exact State.whenBase_neg h
  case memRdData | memInv | memSpecRd | memRdFwd | memWr | memWrPtl | biConflict | biRsp => exact State.whenBase_neg h
  case labelSlot | rangeHoldEnd | ldConventionalReset | fillComplete | fillFallback => exact State.whenBase_neg h
  case fillTableFull | starvation | trfComplete | throttleExpire | healClosed | historyExpire => exact State.whenBase_neg h
  case bucketTick | scrubCycleLate | snoopTimeout | sweepDone | trackersFull | claimSlow => exact State.whenBase_neg h
  case caneTestResult | caneTestShiftBack | sweepLate | fullwidthTestStart | fullwidthTestDone => exact State.whenBase_neg h
  case droopWarn | droopFault | droopHoldEnd | heartbeatLoss | guardExit | heartbeatRecovery => exact State.whenBase_neg h
  case sreIssue | chSetPowerOff | setExitComplete | faultMessageAccept | reactionTimerExpire => exact State.whenBase_neg h
  case escalateTimerExpire | faultNPulseEnd | shadowClose | fuseLock | mbxWakeDone | i3cEntdaa => exact State.whenBase_neg h
  case i3cSetdasa => exact State.whenBase_neg h
  all_goals cases core

end Sys2Proof.Machine
end

section
/-! SUPPORT. The obligation about a part that is held. -/

namespace Sys2Proof.Machine

/-- Settles O56: the gates ask first whether the part is alive; the release of the cold reset asks for no trip. -/
theorem aHeldPartAcceptsNothing : Obligations.a_held_part_accepts_nothing := by
  intro c s held
  exact ⟨exec_held held, fun tripped straps e g m => if_pos (by simp [tripped])⟩

end Sys2Proof.Machine
end

section
/-! SUPPORT. The queue, the reset values, registers, counters and their clears (chapters 00 to 14), and what is stored more than once (R373, R431). -/

namespace Sys2Proof.Machine

/-! ### Settling a table entry by entry -/

section
variable {α : Type} [DecidableEq α] (d : α)

/-- A table filled entry by entry: a key that no entry names reads as before. -/
theorem Tab.get_foldl_set_of_ne {l : List (Nat × α)} {k : Nat} (h : ∀ e ∈ l, e.1 ≠ k) (t : Tab α) :
    Tab.get d (l.foldl (fun t e => Tab.set d t e.1 e.2) t) k = Tab.get d t k := by
  induction l generalizing t with
  | nil => rfl
  | cons e l ih =>
    rw [List.foldl_cons, ih fun e he => h e (List.mem_cons_of_mem _ he), Tab.get_set_other d t e.2 (h e List.mem_cons_self).symm]

/-- A table filled entry by entry, no key twice: each entry reads back. -/
theorem Tab.get_foldl_set_of_mem {l : List (Nat × α)} (once : (l.map Prod.fst).Nodup) {e : Nat × α} (he : e ∈ l) (t : Tab α) :
    Tab.get d (l.foldl (fun t e => Tab.set d t e.1 e.2) t) e.1 = e.2 := by
  induction l generalizing t with
  | nil => cases he
  | cons x l ih =>
    obtain ⟨new, once⟩ := List.nodup_cons.mp once
    rcases List.mem_cons.mp he with rfl | he
    · have others : ∀ y ∈ l, y.1 ≠ e.1 := fun y hy same => new (List.mem_map.mpr ⟨y, hy, same⟩)
      rw [List.foldl_cons, Tab.get_foldl_set_of_ne d others, Tab.get_set_same]
    · rw [List.foldl_cons, ih once he]

end

theorem regResets_once : (regResets.map Prod.fst).Nodup := by decide

/-! ### Counters -/

theorem Base.now_bump (b : Base) (off n : Nat) : (b.bump off n).now = b.now := rfl

/-- What a counter has gained in the present cycle, after it advances. -/
theorem Base.incsNow_bump (b : Base) (off n : Nat) : (b.bump off n).incsNow = Tab.upd 0 b.incsNow off (· + n) := by
  rw [Base.incsNow, Base.now_bump, Base.bump_incAt, if_pos rfl, Base.bump_incs]

theorem Base.reg_bump (b : Base) (off n o : Nat) : (b.bump off n).reg o = if o = off then bumpWord (b.reg off) n else b.reg o :=
  Tab.get_set 0 b.regs off o (bumpWord (b.reg off) n)

/-- A clear is what `ClearedBy` says. -/
theorem Base.clearCounters_clearedBy (b : Base) (base n : Nat) (v : Word) : ClearedBy b (b.clearCounters base n v) base n v := by
  refine ⟨b.clearCounters_frame base n v, fun k hk hv => ?_, fun off other => ?_⟩
  · rw [Base.reg_clearCounters, if_pos ⟨k, hk, hv, rfl⟩]
  · rw [Base.reg_clearCounters, if_neg fun ⟨k, hk, hv, same⟩ => other k hk hv same]

/-! ### Records of MRAM -/

section
variable {α : Type} (r : MramRec α)

/-- Which copy a reader takes, and whether the mirror may stand for it. -/
theorem MramRec.read_of_commit {n : Nat} {primary mirror : Bool} (h : r.commit = some (n, primary, mirror)) {v : α}
    (copy : r.copy primary = some v) : r.read = some (v, false) := by
  simp only [MramRec.read, h, copy]

/-- Step 1 leaves the commit words, and writes the copy that is not in use. -/
theorem MramRec.step1_spec (v : Option α) :
    (r.step1 v).commit = r.commit ∧
      ∀ n primary mirror, r.commit = some (n, primary, mirror) →
        (r.step1 v).copy primary = r.copy primary ∧ (r.step1 v).copy (!primary) = v := by
  unfold MramRec.step1
  split
  · next h => exact ⟨rfl, fun n primary mirror same => by cases h.symm.trans same; exact ⟨rfl, rfl⟩⟩
  · next other =>
    refine ⟨rfl, fun n primary mirror same => ?_⟩
    cases primary
    · exact ⟨rfl, rfl⟩
    · exact absurd same (other n mirror)

/-- After steps 1 and 2 the new copy is in use, without a mirror. -/
theorem MramRec.step2_step1 (v : α) :
    ∃ n primary, ((r.step1 (some v)).step2).commit = some (n, primary, false) ∧ ((r.step1 (some v)).step2).copy primary = some v := by
  obtain ⟨same, written⟩ := r.step1_spec (some v)
  cases h : r.commit with
  | none =>
    rw [h] at same
    exact ⟨1, true, by simp only [MramRec.step2, same]; rfl, by simp [MramRec.step2, MramRec.step1, h, MramRec.copy]⟩
  | some c =>
    obtain ⟨n, primary, mirror⟩ := c
    rw [h] at same
    refine ⟨n + 1, !primary, by simp only [MramRec.step2, same]; rfl, ?_⟩
    exact (written n primary mirror h).2

/-- Step 3 leaves the commit words and the copy in use. -/
theorem MramRec.step3_spec (v : α) {n : Nat} {primary mirror : Bool} (h : r.commit = some (n, primary, mirror)) :
    (r.step3 v).commit = r.commit ∧ (r.step3 v).copy primary = r.copy primary := by
  unfold MramRec.step3
  rw [h]
  cases primary
  · exact ⟨h, rfl⟩
  · exact ⟨h, rfl⟩

/-- Step 4 says that the mirror is good, of the same copy. -/
theorem MramRec.step4_spec {n : Nat} {primary mirror : Bool} (h : r.commit = some (n, primary, mirror)) :
    (r.step4).commit = some (n, primary, true) ∧ (r.step4).copy = r.copy := by
  refine ⟨?_, rfl⟩
  unfold MramRec.step4
  rw [h]
  rfl

end

theorem majority_ext {x : BitVec 96} {v : Word} (h : ∀ i, i < 32 →
    (x.getLsbD i && x.getLsbD (32 + i) || x.getLsbD i && x.getLsbD (64 + i) || x.getLsbD (32 + i) && x.getLsbD (64 + i)) = v.getLsbD i) :
    majority x = v :=
  BitVec.eq_of_getLsbD_eq fun i hi => (majority_getLsbD x hi).trans (h i hi)

/-- The bits of three copies, the first in the upper bits. -/
theorem copies_getLsbD (x y z : Word) {i : Nat} (hi : i < 32) :
    (x ++ y ++ z).getLsbD i = z.getLsbD i ∧ (x ++ y ++ z).getLsbD (32 + i) = y.getLsbD i ∧ (x ++ y ++ z).getLsbD (64 + i) = x.getLsbD i := by
  have upper : ¬ (64 + i < 32) := by omega
  have top : ¬ (64 + i - 32 < 32) := by omega
  have rest : 64 + i - 32 - 32 = i := by omega
  refine ⟨?_, ?_, ?_⟩ <;> simp only [BitVec.getLsbD_append]
  · rw [if_pos hi]
  · rw [if_neg (by omega), Nat.add_sub_cancel_left, if_pos hi]
  · rw [if_neg upper, if_neg top, rest]

/-- Three copies of which two agree read as those two. -/
theorem majority_copies (x y z v : Word) (h : y = v ∧ z = v ∨ x = v ∧ z = v ∨ x = v ∧ y = v) : majority (x ++ y ++ z) = v := by
  refine majority_ext fun i hi => ?_
  obtain ⟨low, mid, high⟩ := copies_getLsbD x y z hi
  simp only [Nat.reduceAdd] at low mid high ⊢
  rw [low, mid, high]
  rcases h with ⟨rfl, rfl⟩ | ⟨rfl, rfl⟩ | ⟨rfl, rfl⟩
  · cases z.getLsbD i <;> simp
  · cases z.getLsbD i <;> simp
  · cases y.getLsbD i <;> simp

end Sys2Proof.Machine
end

section
/-! SUPPORT. The obligations about the queue, the reset values, registers, counters and redundant storage. -/

namespace Sys2Proof.Machine

/-- Settles O1. -/
theorem stepRunsFront : Obligations.step_runs_front := by
  intro s c rest front
  simp only [step, front]

/-- Settles O2. -/
theorem idleStepIsACycle : Obligations.idle_step_is_a_cycle := by
  intro s idle
  simp only [step, idle, tick]

/-- Settles O4: the reset values name each register once, so each reads the value listed and the others 0. -/
theorem resetValuesAndInvariants : Obligations.reset_values_and_invariants := by
  refine ⟨fun e he => ?_, fun off other => Tab.get_foldl_set_of_ne 0 other [], rfl, fun _ => rfl, rfl, rfl, rfl, rfl, rfl, ?_, ?_, rfl⟩
  · exact ⟨Tab.get_foldl_set_of_mem 0 regResets_once he [], Tab.get_foldl_set_of_mem 0 regResets_once he []⟩
  · exact ledger_of_empty rfl rfl
  · decide

/-- Settles O5. -/
theorem registersAndCounters : Obligations.registers_and_counters := by
  intro b off o n v
  refine ⟨b.reg_setReg_same off v, fun other => b.reg_setReg_other v other, rfl, ?_, fun other => ?_, rfl, ?_, fun other => ?_⟩
  · rw [Base.reg_bump, if_pos rfl, bumpWord_toNat]
  · rw [Base.reg_bump, if_neg other]
  · rw [Base.incsNow_bump, Tab.get_upd_same]
  · rw [Base.incsNow_bump, Tab.get_upd_other 0 _ _ other]

/-- Settles O8. -/
theorem counterClears : Obligations.counter_clears := by
  intro s v full clears
  have cleared : ∀ base n, ∃ b, s.whenBase Base.mgmtFull (fun b => b.clearCounters base n v) = .next { s with base := b } ∧
      ClearedBy s.base b base n v := fun base n => ⟨_, State.whenBase_pos full rfl, s.base.clearCounters_clearedBy base n v⟩
  refine ⟨cleared _ _, cleared _ _, cleared _ _, cleared _ _, cleared _ _, cleared _ _, cleared _ _, cleared _ _, cleared _ _, cleared _ _,
    fun k here => ?_, fun h => cleared _ _, fun ch => cleared _ _, ?_, State.whenBase_pos full rfl⟩
  · exact ⟨_, State.whenBase_pos (by simp [full, here]) rfl, s.base.clearCounters_clearedBy _ _ v⟩
  · refine ⟨s.base.clearCounters Reg.COMMIT_REFUSED_COUNT 3 v, State.whenBase_pos full ?_, s.base.clearCounters_clearedBy _ _ v⟩
    have qos : (s.base.clearCounters Reg.COMMIT_REFUSED_COUNT 3 v).qos = s.base.qos := by rw [Base.clearCounters_frame]
    have bit : tb v 3 = v.getLsbD 3 := rfl
    dsimp only
    rw [bit, ← qos]
    split
    · rfl
    · rfl

/-- Settles O55: of three copies two that agree outvote the third; a reader takes the copy that the commit word names, and only step 2
names another. -/
theorem redundantStorageReadsAsWritten : Obligations.redundant_storage_reads_as_written := by
  intro v x r new cut
  obtain ⟨n, primary, commit, copy⟩ := r.step2_step1 new
  obtain ⟨same, kept⟩ := ((r.step1 (some new)).step2).step3_spec new commit
  obtain ⟨final, mirrored⟩ := (((r.step1 (some new)).step2).step3 new).step4_spec (same.trans commit)
  refine ⟨majority_copies _ _ _ v (.inl ⟨rfl, rfl⟩), majority_copies _ _ _ v (.inl ⟨rfl, rfl⟩), majority_copies _ _ _ v (.inr (.inl ⟨rfl, rfl⟩)),
    majority_copies _ _ _ v (.inr (.inr ⟨rfl, rfl⟩)), ?_, fun old read => ?_, ?_, ?_⟩
  · exact MramRec.read_of_commit _ final (by rw [mirrored, kept, copy])
  · obtain ⟨words, written⟩ := r.step1_spec cut
    unfold MramRec.read at read ⊢
    rw [words]
    split at read
    · cases read
    · next n primary mirror commit =>
      rw [(written n primary mirror commit).1]
      split at read
      · exact read
      · split at read
        · cases h : r.copy (!primary) <;> simp [h] at read
        · cases read
  · exact MramRec.read_of_commit _ commit copy
  · exact MramRec.read_of_commit _ (same.trans commit) (kept.trans copy)

end Sys2Proof.Machine
end

section
/-! SUPPORT. Updates of several ports or lanes in turn: what each one reads afterwards (chapter 02), and the rails (R537). -/

namespace Sys2Proof.Machine

/-! ### Updates in turn -/

/-- Several keys of a table updated in turn, no key twice. -/
theorem Tab.get_foldl_upd {α : Type} [DecidableEq α] (d : α) {l : List Nat} (once : l.Nodup) (f : Nat → α → α) (t : Tab α) (j : Nat) :
    Tab.get d (l.foldl (fun t k => Tab.upd d t k (f k)) t) j = if j ∈ l then f j (Tab.get d t j) else Tab.get d t j := by
  induction l generalizing t with
  | nil => simp
  | cons k l ih =>
    obtain ⟨new, once⟩ := List.nodup_cons.mp once
    rw [List.foldl_cons, ih once]
    by_cases same : j = k
    · subst same
      simp [new]
    · simp [same, Tab.get_upd_other d t (f k) same]

section
variable (b : Base) (l : List Nat)

/-- The ports of a list updated in turn: nothing but the ports changes. -/
theorem Base.foldl_updPort (f : Nat → Port → Port) :
    l.foldl (fun b k => b.updPort k (f k)) b =
      { b with links := { b.links with ports := l.foldl (fun t k => Tab.upd {} t k (f k)) b.links.ports } } := by
  induction l generalizing b with
  | nil => rfl
  | cons k l ih => exact ih (b.updPort k (f k))

theorem Base.port_foldl_updPort {l : List Nat} (once : l.Nodup) (f : Nat → Port → Port) (j : Nat) :
    (l.foldl (fun b k => b.updPort k (f k)) b).port j = if j ∈ l then f j (b.port j) else b.port j := by
  rw [Base.foldl_updPort]
  exact Tab.get_foldl_upd {} once f b.links.ports j

/-- The lanes of a list updated in turn: nothing but the lanes changes. -/
theorem Base.foldl_updLane (f : Nat → Lane → Lane) :
    l.foldl (fun b k => b.updLane k (f k)) b =
      { b with links := { b.links with lanes := l.foldl (fun t k => Tab.upd {} t k (f k)) b.links.lanes } } := by
  induction l generalizing b with
  | nil => rfl
  | cons k l ih => exact ih (b.updLane k (f k))

theorem Base.lane_foldl_updLane {l : List Nat} (once : l.Nodup) (f : Nat → Lane → Lane) (j : Nat) :
    (l.foldl (fun b k => b.updLane k (f k)) b).lane j = if j ∈ l then f j (b.lane j) else b.lane j := by
  rw [Base.foldl_updLane]
  exact Tab.get_foldl_upd {} once f b.links.lanes j

end

theorem Base.port_updPort (b : Base) (k : Nat) (f : Port → Port) (j : Nat) :
    (b.updPort k f).port j = if j = k then f (b.port k) else b.port j :=
  Tab.get_set ({} : Port) b.links.ports k j (f (b.port k))

theorem Base.port_setPort (b : Base) (k : Nat) (p : Port) (j : Nat) :
    (b.setPort k p).port j = if j = k then p else b.port j :=
  Tab.get_set ({} : Port) b.links.ports k j p

theorem Base.lane_updLane (b : Base) (k : Nat) (f : Lane → Lane) (j : Nat) :
    (b.updLane k f).lane j = if j = k then f (b.lane k) else b.lane j :=
  Tab.get_set ({} : Lane) b.links.lanes k j (f (b.lane k))

theorem Base.lane_setLane (b : Base) (k : Nat) (x : Lane) (j : Nat) :
    (b.setLane k x).lane j = if j = k then x else b.lane j :=
  Tab.get_set ({} : Lane) b.links.lanes k j x

/-- The lanes of a block are numbered without a gap from its base. -/
theorem Base.mem_lanesOf {b : Base} {k l : Nat} : l ∈ b.lanesOf k ↔ b.laneBase k ≤ l ∧ l < b.laneBase k + b.laneCount k := by
  simp only [Base.lanesOf, List.mem_map, List.mem_range]
  constructor
  · rintro ⟨i, hi, rfl⟩
    omega
  · rintro ⟨low, high⟩
    exact ⟨l - b.laneBase k, by omega, by omega⟩

theorem Base.nodup_lanesOf (b : Base) (k : Nat) : (b.lanesOf k).Nodup :=
  List.nodup_range.map fun _ _ h => Nat.add_right_cancel h

/-! ### A cold reset -/

/-- The core is held, and FAULT_N low: what a lost core rail leaves. -/
theorem State.holdCold_spec (s : State) :
    s.holdCold.base.boot.coldHeld = true ∧ s.holdCold.base.flt.faultNLow = true ∧ s.holdCold.mem = [] ∧ s.holdCold.rind = s.rind ∧
      s.holdCold.pending = s.pending := by
  have kept : Frame true true false s s.holdCold := Frame.holdCold s
  exact ⟨rfl, rfl, rfl, kept.rind rfl, kept.pending⟩

/-- The loss of the auxiliary rail holds the core too, and the trip latch is lost with it: the trip is owed its report. -/
theorem execVddAuxBrownout_spec (s : State) :
    ∃ t : State, exec .vddAuxBrownout s = .next t ∧ t.base.pw.tripped = false ∧ t.base.boot.coldHeld = true ∧ t.base.flt.faultNLow = true ∧
      t.mem = [] ∧ t.rind = s.rind ∧ t.base.boot.tripOwed = (s.base.pw.tripped || s.base.boot.tripOwed) := by
  obtain ⟨held, low, lost, rind, -⟩ := s.holdCold_spec
  refine ⟨s.holdCold.onBase fun b => (b.updPw fun p => { p with tripped := false }).updBoot fun x =>
    { x with tripOwed := s.base.pw.tripped || s.base.boot.tripOwed }, rfl, ?_⟩
  generalize s.holdCold = t at held low lost rind ⊢
  exact ⟨rfl, held, low, lost, rind, rfl⟩

theorem Base.alive_of_coldHeld {b : Base} (h : b.boot.coldHeld = true) : b.alive = false := by simp [Base.alive, h]

end Sys2Proof.Machine
end

section
/-! SUPPORT. The obligation about the rails and the TAP. -/

namespace Sys2Proof.Machine

/-! ### Rails -/

section
variable {s : State}

theorem execSerdesRailBrownout_of_on (supplied : s.base.pack.serdesOff = false) (alive : s.base.alive = true) :
    execSerdesRailBrownout s = .next { s with base := (forN 8 (fun (p : Nat) (b : Base) => b.send .pllUnlock (0x50 + p) (p * 16 + 15))
      (forN 16 (fun (k : Nat) (b : Base) => (b.linkDownTo k (b.restState k) false).updPort k fun p => { p with pll := false })
        { s.base with pack := { s.base.pack with serdesOff := true } })).mgmtReset } := by
  have on : (s.base.updPack fun p => { p with serdesOff := true }).alive = true := alive
  unfold execSerdesRailBrownout
  refine State.then_eq ?_
  simp only [supplied, on, Bool.false_eq_true, Bool.not_true, if_false]
  rfl

theorem execSerdesRailBrownout_of_off (out : s.base.pack.serdesOff = true) : execSerdesRailBrownout s = .next s := by
  unfold execSerdesRailBrownout
  exact State.then_self (if_pos out)

theorem execSerdesRailRestored_of_on (supplied : s.base.pack.serdesOff = false) : execSerdesRailRestored s = .next s := by
  unfold execSerdesRailRestored
  exact State.then_self (if_pos (by simp [supplied]))

/-- A port's PLL is locked while it has a reference. -/
def Port.relock (p : Port) : Port := { p with pll := p.refclk }

/-- The PLLs that have their reference lock again; nothing else of the ports changes. -/
theorem execSerdesRailRestored_eq (out : s.base.pack.serdesOff = true) :
    execSerdesRailRestored s = .next { s with
      base := (List.range 16).foldl (fun b k => b.updPort k Port.relock) (s.base.updPack fun p => { p with serdesOff := false }) } := by
  have on : ¬ (!s.base.pack.serdesOff) = true := by simp [out]
  unfold execSerdesRailRestored
  exact State.then_eq (if_neg on)

theorem execSerdesRailRestored_of_off (out : s.base.pack.serdesOff = true) :
    ∃ t : Base, execSerdesRailRestored s = .next { s with base := t } ∧
      t = { s.base with links := t.links, pack := { s.base.pack with serdesOff := false } } ∧
      ∀ k, k < 16 → t.port k = { s.base.port k with pll := (s.base.port k).refclk } := by
  rw [execSerdesRailRestored_eq out]
  generalize restored : s.base.updPack (fun p => { p with serdesOff := false }) = b
  have kept : ∀ k, b.port k = s.base.port k := fun k => by rw [← restored]; rfl
  refine ⟨_, rfl, ?_, fun k hk => ?_⟩
  · rw [Base.foldl_updPort, ← restored]
    rfl
  · rw [Base.port_foldl_updPort b List.nodup_range (fun _ => Port.relock), if_pos (List.mem_range.mpr hk), kept]
    rfl

end

/-- A scan shifts out a free value. -/
theorem execJtagInstruction_scan (s : State) (op : JtagInstr)
    (h : op = .sample ∨ op = .extest ∨ s.base.instrOpen = true ∧ (op = .ieee1838 ∨ op = .ieee1687)) :
    execJtagInstruction op s = .next { s with base :=
      { ((s.base.updPack fun p => { p with tap := op }).emit (.jtag (.number (Config.freeNat s.base.free)))) with free := s.base.free + 1 } } := by
  rcases h with rfl | rfl | ⟨opened, rfl | rfl⟩
  · rfl
  · rfl
  · exact State.then_eq (if_pos opened)
  · exact State.then_eq (if_pos opened)

/-- Settles O51. -/
theorem railsAndJtag : Obligations.rails_and_jtag := by
  intro s rail b load off
  obtain ⟨held, low, lost, rind, queue⟩ := s.holdCold_spec
  refine ⟨execSerdesRailBrownout_of_on, execSerdesRailBrownout_of_off, execSerdesRailRestored_of_off, execSerdesRailRestored_of_on,
    ⟨_, rfl, Base.alive_of_coldHeld held, low, lost, rind, queue, held⟩, execVddAuxBrownout_spec s, rfl, rfl, rfl,
    fun op scans => ⟨_, execJtagInstruction_scan s op scans, rfl⟩, fun closed => ?_, rfl⟩
  have shut : ¬ b.instrOpen = true := by simp [closed]
  exact ⟨State.then_eq (if_neg shut), State.then_eq (if_neg shut)⟩

end Sys2Proof.Machine
end

section
/-! SUPPORT. What a store into the arrays leaves to read (R140), and the width that a training takes (R79). -/

namespace Sys2Proof.Machine

/-! ### Bytes of the arrays -/

section
variable {α : Type} (d : α)

theorem Tab.get_append (t u : Tab α) (k : Nat) : Tab.get d (t ++ u) k = Tab.get (Tab.get d u k) t k := by
  induction t with
  | nil => rfl
  | cons e t ih =>
    obtain ⟨j, v⟩ := e
    simp [Tab.get, ih]

theorem Tab.get_of_absent {t : Tab α} {k : Nat} (h : ∀ e ∈ t, e.1 ≠ k) : Tab.get d t k = d := by
  induction t with
  | nil => rfl
  | cons e t ih =>
    obtain ⟨j, v⟩ := e
    obtain ⟨other, rest⟩ := List.forall_mem_cons.mp h
    simpa [Tab.get, other] using ih rest

/-- A filter of the keys that keeps k. -/
theorem Tab.get_filter {p : Nat → Bool} {k : Nat} (kept : p k = true) (t : Tab α) :
    Tab.get d (t.filter fun e => p e.1) k = Tab.get d t k := by
  induction t with
  | nil => rfl
  | cons e t ih =>
    obtain ⟨j, v⟩ := e
    by_cases same : j = k
    · simp [Tab.get, same, kept]
    · cases hj : p j <;> simp [Tab.get, hj, same, ih]

end

theorem get_bytesFrom {i n : Nat} (a v : Nat) (h : i < n) : Tab.get 0 (bytesFrom a v n) (a + i) = BitVec.ofNat 8 (v / 2 ^ (8 * i)) := by
  induction n generalizing a v i with
  | zero => omega
  | succ n ih =>
    cases i with
    | zero =>
      have later : ∀ e ∈ bytesFrom (a + 1) (v / 256) n, e.1 ≠ a := fun e he => by have := bytesFrom_mem he; omega
      by_cases zero : v % 256 = 0
      · simp only [bytesFrom, if_pos zero, Nat.add_zero, Tab.get_of_absent _ later]
        exact BitVec.eq_of_toNat_eq (by simp [zero])
      · simp [bytesFrom, zero, Tab.get]
    | succ i =>
      have shifted : v / 256 / 2 ^ (8 * i) = v / 2 ^ (8 * (i + 1)) := by
        rw [Nat.div_div_eq_div_mul, show 8 * (i + 1) = 8 + 8 * i by omega, Nat.pow_add]
      have rest := ih (a + 1) (v / 256) (i := i) (by omega)
      rw [shifted, Nat.add_right_comm] at rest
      rw [bytesFrom, ← Nat.add_assoc]
      split
      · exact rest
      · rw [Tab.get, if_neg (by omega), rest]

theorem Memory.byte_store_outside (m : List Host.Cell) {a n x : Nat} (v : Nat) (h : x < a ∨ a + n ≤ x) :
    Memory.byte (Memory.store m a v n) x = Memory.byte m x := by
  have none : ∀ e ∈ bytesFrom a v n, e.1 ≠ x := fun e he => by have := bytesFrom_mem he; omega
  unfold Memory.byte Memory.store
  rw [Tab.get_append, Tab.get_append, Tab.get_of_absent _ none]
  rcases h with h | h
  · rw [Tab.get_of_absent 0 (k := x) (t := m.filter fun c => decide (a + n ≤ c.1)) fun e he => by
      have := (List.mem_filter.mp he).2; simp only [decide_eq_true_eq] at this; omega]
    exact Tab.get_filter 0 (p := fun k => decide (k < a)) (decide_eq_true h) m
  · rw [Tab.get_of_absent _ (k := x) (t := m.filter fun c => decide (c.1 < a)) fun e he => by
      have := (List.mem_filter.mp he).2; simp only [decide_eq_true_eq] at this; omega]
    exact Tab.get_filter 0 (p := fun k => decide (a + n ≤ k)) (decide_eq_true h) m

theorem Memory.byte_store_inside (m : List Host.Cell) (a v : Nat) {n i : Nat} (h : i < n) :
    Memory.byte (Memory.store m a v n) (a + i) = BitVec.ofNat 8 (v / 2 ^ (8 * i)) := by
  unfold Memory.byte Memory.store
  rw [Tab.get_append, Tab.get_append]
  rw [Tab.get_of_absent 0 (k := a + i) (t := m.filter fun c => decide (a + n ≤ c.1)) fun e he => by
      have := (List.mem_filter.mp he).2; simp only [decide_eq_true_eq] at this; omega]
  rw [Tab.get_of_absent _ (k := a + i) (t := m.filter fun c => decide (c.1 < a)) fun e he => by
      have := (List.mem_filter.mp he).2; simp only [decide_eq_true_eq] at this; omega]
  exact get_bytesFrom a v h

/-! ### Numbers of several bytes: a load is the sum of its cells' shares -/

/-- What one cell adds to the number read from n bytes at a. -/
def Memory.share (a n : Nat) (c : Host.Cell) : Nat := if a ≤ c.1 ∧ c.1 < a + n then c.2.toNat * 2 ^ (8 * (c.1 - a)) else 0

theorem Memory.share_outside {a n : Nat} {c : Host.Cell} (h : c.1 < a ∨ a + n ≤ c.1) : Memory.share a n c = 0 :=
  if_neg (by omega)

theorem Memory.load_eq_sum (m : List Host.Cell) (a n : Nat) : Memory.load m a n = (m.map (Memory.share a n)).sum := by
  suffices go : ∀ acc, m.foldl (fun acc c => if a ≤ c.1 ∧ c.1 < a + n then acc + c.2.toNat * 2 ^ (8 * (c.1 - a)) else acc) acc =
      acc + (m.map (Memory.share a n)).sum by
    simpa [Memory.load] using go 0
  induction m with
  | nil => simp
  | cons c m ih =>
    intro acc
    rw [List.foldl_cons, ih, List.map_cons, List.sum_cons, Memory.share]
    split <;> omega

theorem Memory.load_append (l m : List Host.Cell) (a n : Nat) : Memory.load (l ++ m) a n = Memory.load l a n + Memory.load m a n := by
  simp only [Memory.load_eq_sum, List.map_append, List.sum_append]

/-- Cells outside the bytes read may go. -/
theorem Memory.load_filter {m : List Host.Cell} {a n : Nat} {p : Host.Cell → Bool} (h : ∀ c ∈ m, p c = false → c.1 < a ∨ a + n ≤ c.1) :
    Memory.load (m.filter p) a n = Memory.load m a n := by
  rw [Memory.load_eq_sum, Memory.load_eq_sum]
  induction m with
  | nil => rfl
  | cons c m ih =>
    obtain ⟨out, rest⟩ := List.forall_mem_cons.mp h
    cases hp : p c
    · simp [hp, ih rest, Memory.share_outside (out hp)]
    · simp [hp, ih rest]

theorem Memory.load_bytesFrom {n v : Nat} (a : Nat) (h : v < 2 ^ (8 * n)) : Memory.load (bytesFrom a v n) a n = v := by
  suffices go : ∀ i a n v, v < 2 ^ (8 * n) → ((bytesFrom (a + i) v n).map (Memory.share a (i + n))).sum = v * 2 ^ (8 * i) by
    simpa [Memory.load_eq_sum] using go 0 a n v h
  clear h
  intro i a n
  induction n generalizing i with
  | zero =>
    intro v h
    have : v = 0 := by simpa using h
    simp [bytesFrom, this]
  | succ n ih =>
    intro v h
    have fits : v / 256 < 2 ^ (8 * n) := by
      have : 2 ^ (8 * (n + 1)) = 2 ^ (8 * n) * 256 := by rw [show 8 * (n + 1) = 8 * n + 8 by omega, Nat.pow_add]
      omega
    have rest := ih (i + 1) (v / 256) fits
    rw [← Nat.add_assoc, Nat.add_right_comm i 1 n] at rest
    have whole : v * 2 ^ (8 * i) = v % 256 * 2 ^ (8 * i) + v / 256 * 2 ^ (8 * (i + 1)) := by
      rw [show 8 * (i + 1) = 8 + 8 * i by omega, Nat.pow_add, ← Nat.mul_assoc, ← Nat.add_mul]
      congr 1
      omega
    rw [bytesFrom, whole, ← rest, ← Nat.add_assoc]
    split
    next zero => simp [zero]
    next =>
      rw [List.map_cons, List.sum_cons]
      congr 1
      simp [Memory.share]

/-- Settles O52: a byte of a store is a byte of its number, and a load sums the shares of the cells it covers. -/
theorem arrayBytesReadBack : Obligations.array_bytes_read_back := by
  intro m a v n
  refine ⟨fun x out => Memory.byte_store_outside m v out, fun i hi _ => Memory.byte_store_inside m a v hi, fun _ fits => ?_, fun c k _ apart => ?_⟩
  all_goals unfold Memory.store; rw [Memory.load_append, Memory.load_append]
  · have below : Memory.load (m.filter fun c => decide (c.1 < a)) a n = 0 :=
      Memory.load_of_clear fun c hc => Or.inl (of_decide_eq_true (List.mem_filter.mp hc).2)
    have above : Memory.load (m.filter fun c => decide (a + n ≤ c.1)) a n = 0 :=
      Memory.load_of_clear fun c hc => Or.inr (of_decide_eq_true (List.mem_filter.mp hc).2)
    rw [below, above, Memory.load_bytesFrom a fits, Nat.zero_add, Nat.add_zero]
  · have stored : Memory.load (bytesFrom a v n) c k = 0 :=
      Memory.load_of_clear fun x hx => by have := bytesFrom_mem hx; omega
    rw [stored, Nat.add_zero]
    rcases apart with before | after
    · have above : Memory.load (m.filter fun x => decide (a + n ≤ x.1)) c k = 0 :=
        Memory.load_of_clear fun x hx => by have := of_decide_eq_true (List.mem_filter.mp hx).2; omega
      rw [above, Nat.add_zero]
      exact Memory.load_filter fun x _ hx => by have := of_decide_eq_false hx; omega
    · have below : Memory.load (m.filter fun x => decide (x.1 < a)) c k = 0 :=
        Memory.load_of_clear fun x hx => by have := of_decide_eq_true (List.mem_filter.mp hx).2; omega
      rw [below, Nat.zero_add]
      exact Memory.load_filter fun x _ hx => by have := of_decide_eq_false hx; omega

/-! ### The width of a training -/

/-- The numbering in which a width fits, the preferred one first. -/
def fitAt (ok : Nat → Bool) (base n cap : Nat) (prefer : Bool) (w : Nat) : Option (Nat × Bool) :=
  if w ≤ n ∧ w ≤ cap then
    if widthFits ok base n w prefer then some (w, prefer)
    else if widthFits ok base n w (!prefer) then some (w, !prefer) else none
  else none

section
variable {ok : Nat → Bool} {base n cap : Nat} {prefer : Bool}

theorem fitAt_some {w v : Nat} {rev : Bool} (h : fitAt ok base n cap prefer w = some (v, rev)) :
    v = w ∧ v ≤ n ∧ v ≤ cap ∧ widthFits ok base n v rev = true ∧ (rev ≠ prefer → widthFits ok base n v prefer = false) := by
  unfold fitAt at h
  split at h
  · next room =>
    split at h
    · next fits => cases h; exact ⟨rfl, room.1, room.2, fits, fun no => absurd rfl no⟩
    · next misfit =>
      split at h
      · next fits => cases h; exact ⟨rfl, room.1, room.2, fits, fun _ => by simpa using misfit⟩
      · cases h
  · cases h

theorem fitAt_ne_none {w : Nat} (short : w ≤ n) (within : w ≤ cap)
    (fits : widthFits ok base n w true = true ∨ widthFits ok base n w false = true) : fitAt ok base n cap prefer w ≠ none := by
  unfold fitAt
  rw [if_pos ⟨short, within⟩]
  cases prefer <;> rcases fits with h | h <;> simp [h] <;> split <;> simp

theorem bestWidth_eq : bestWidth ok base n cap prefer = [8, 4, 2, 1].findSome? (fitAt ok base n cap prefer) := rfl

end

/-- Settles O13: the widths are tried from the widest, so that what is found is not below a width that fits. -/
theorem bestWidthIsWidest : Obligations.best_width_is_widest := by
  intro ok base n cap prefer w hw short within fits
  have found : fitAt ok base n cap prefer w ≠ none := fitAt_ne_none short within fits
  have wider : ∃ x, bestWidth ok base n cap prefer = fitAt ok base n cap prefer x ∧ fitAt ok base n cap prefer x ≠ none ∧ w ≤ x := by
    rw [bestWidth_eq]
    simp only [List.findSome?_cons, List.findSome?_nil]
    cases h8 : fitAt ok base n cap prefer 8 with
    | some r => exact ⟨8, h8.symm, by simp [h8], by omega⟩
    | none =>
      cases h4 : fitAt ok base n cap prefer 4 with
      | some r => exact ⟨4, h4.symm, by simp [h4], by rcases hw with rfl | rfl | rfl | rfl <;> simp_all⟩
      | none =>
        cases h2 : fitAt ok base n cap prefer 2 with
        | some r => exact ⟨2, h2.symm, by simp [h2], by rcases hw with rfl | rfl | rfl | rfl <;> simp_all⟩
        | none =>
          obtain rfl : w = 1 := by rcases hw with rfl | rfl | rfl | rfl <;> simp_all
          cases h1 : fitAt ok base n cap prefer 1 with
          | some r => exact ⟨1, h1.symm, by simp [h1], le_refl _⟩
          | none => exact absurd h1 found
  obtain ⟨x, same, some, le⟩ := wider
  obtain ⟨⟨v, rev⟩, at_x⟩ := Option.ne_none_iff_exists'.mp some
  obtain ⟨rfl, spec⟩ := fitAt_some at_x
  exact ⟨v, rev, same.trans at_x, le, spec⟩

end Sys2Proof.Machine
end

section
/-! SUPPORT. Messages and their outboxes (R384, R401, R403); shadows of registers and their captures (R9, R457); staged label entries (R294). -/

namespace Sys2Proof.Machine

/-! ### Messages -/

section
variable (b : Base) (m : Msg) (k : Kind) (src addr : Nat) (host : Option HostId) (inj : Bool)

/-- The messages of a source among some messages. -/
def fromSource (n : Nat) (l : List Msg) : List Msg := l.filter fun x => x.source == n

theorem Base.enqueue_of_room {b : Base} {m : Msg} (h : (fromSource m.source b.flt.outbox).length < 2) :
    b.enqueue m = { b with flt := { b.flt with outbox := b.flt.outbox ++ [m] } } := by
  have joins : enqueueMsg b.flt.outbox b.flt.waiting m = (b.flt.outbox ++ [m], b.flt.waiting, false) := if_pos h
  unfold Base.enqueue
  rw [joins]
  rfl

theorem Base.sendMsg_of_run {b : Base} (running : b.boot.run = true) (m : Msg) : b.sendMsg m = b.enqueue m :=
  if_neg (by simp [running])

theorem Base.send_of_unshadowed {b : Base} {k : Kind} {src : Nat} (h : b.shadowsOf src = [] ∨ k.cls = .fatal) :
    b.send k src addr host inj = b.sendMsg (b.mkMsg k src addr host inj) :=
  if_neg fun ⟨lesser, shadowed⟩ => h.elim shadowed lesser

/-- The shadow of a source with one more message of it. -/
def Shadow.take (x : Shadow) (src : Nat) (m : Msg) : Shadow :=
  if dependent x.block src = true then { x with count := satAdd 0xFFFF x.count 1, sent := x.sent ++ [m] } else x

theorem Base.send_of_shadowed {b : Base} {k : Kind} {src : Nat} (lesser : k.cls ≠ .fatal) (h : b.shadowsOf src ≠ []) :
    b.send k src addr host inj = { b.bump Reg.SHADOWED_COUNT with
      flt := { b.flt with shadows := b.flt.shadows.map fun x => x.take src (b.mkMsg k src addr host inj) } } :=
  if_pos ⟨lesser, h⟩

end

theorem length_filter_dropFirst_le {α : Type} (p q : α → Bool) (l : List α) : ((dropFirst p l).filter q).length ≤ (l.filter q).length := by
  induction l with
  | nil => rfl
  | cons x l ih =>
    rw [dropFirst]
    cases hp : p x <;> cases hq : q x <;> simp [hq] <;> omega

/-- Where one of the entries counted is dropped, one fewer is left. -/
theorem length_filter_dropFirst_lt {α : Type} {p q : α → Bool} (h : ∀ x, p x = true → q x = true) {l : List α} (hit : l.any p = true) :
    ((dropFirst p l).filter q).length < (l.filter q).length := by
  induction l with
  | nil => cases hit
  | cons x l ih =>
    rw [dropFirst]
    cases hp : p x
    · have later : l.any p = true := by simpa [hp] using hit
      have := ih later
      cases hq : q x <;> simp [hq, this]
    · simp [h x hp]

theorem fromSource_append (n : Nat) (l : List Msg) (m : Msg) :
    (fromSource n (l ++ [m])).length = (fromSource n l).length + if m.source = n then 1 else 0 := by
  unfold fromSource
  by_cases h : m.source = n <;> simp [h]

/-- An outbox with at most two messages of a source takes no third. -/
theorem enqueueMsg_bounded (outbox waiting : List Msg) (m : Msg) {n : Nat} (h : (fromSource n outbox).length ≤ 2) :
    (fromSource n (enqueueMsg outbox waiting m).1).length ≤ 2 := by
  simp only [enqueueMsg]
  split
  · next room =>
    have room : (fromSource m.source outbox).length < 2 := room
    rw [fromSource_append]
    split
    · next same => rw [← same]; omega
    · exact h
  · split
    · exact h
    · split
      · exact h
      · split
        · next corrected =>
          have hit : (outbox.reverse.any fun x => x.source == m.source && decide (x.kind.cls = .corrected)) = true := by
            simpa [List.any_filter] using corrected
          rw [fromSource_append]
          unfold fromSource at h ⊢
          rw [List.filter_reverse, List.length_reverse]
          have bound : (outbox.reverse.filter fun x => x.source == n).length ≤ 2 := by simpa [List.filter_reverse] using h
          split
          · next same =>
            have := length_filter_dropFirst_lt (q := fun x : Msg => x.source == n) (fun x hx => by simp_all) hit
            omega
          · exact Nat.le_trans (length_filter_dropFirst_le ..) bound
        · exact h

theorem Base.enqueue_outbox (b : Base) (m : Msg) : (b.enqueue m).flt.outbox = (enqueueMsg b.flt.outbox b.flt.waiting m).1 := by
  simp only [Base.enqueue]
  split <;> rfl

theorem Base.sendMsg_bounded (b : Base) (m : Msg) {n : Nat} (h : (fromSource n b.flt.outbox).length ≤ 2) :
    (fromSource n (b.sendMsg m).flt.outbox).length ≤ 2 := by
  unfold Base.sendMsg
  split
  · exact h
  · rw [Base.enqueue_outbox]
    exact enqueueMsg_bounded _ _ m h

/-- Settles O11: a message goes to the shadows of its source or to the outbox, which never takes a third of a source. -/
theorem messagesAndShadows : Obligations.messages_and_shadows := by
  refine ⟨fun b k src addr host inj running unshadowed room => ?_, fun b k src addr host inj => ⟨fun lesser shadowed => ?_, fun fatal => ?_⟩,
    fun b k src addr host inj n bound => ?_⟩
  · rw [Base.send_of_unshadowed addr host inj unshadowed, Base.sendMsg_of_run running]
    exact Base.enqueue_of_room room
  · rw [Base.send_of_shadowed addr host inj lesser shadowed]
    have counted := Base.reg_bump b Reg.SHADOWED_COUNT 1
    refine ⟨_, rfl, rfl, ?_, fun o other => ?_, fun x hx dep => ?_, fun x hx indep => ?_⟩
    · exact (congrArg BitVec.toNat ((counted Reg.SHADOWED_COUNT).trans (if_pos rfl))).trans (bumpWord_toNat _ 1)
    · exact (counted o).trans (if_neg other)
    · exact List.mem_map.mpr ⟨x, hx, if_pos dep⟩
    · exact List.mem_map.mpr ⟨x, hx, if_neg (by simp [indep])⟩
  · exact Base.send_of_unshadowed addr host inj (Or.inr fatal)
  · by_cases h : k.cls ≠ .fatal ∧ b.shadowsOf src ≠ []
    · rw [Base.send_of_shadowed addr host inj h.1 h.2]
      exact bound
    · rw [Base.send_of_unshadowed addr host inj (by by_cases f : k.cls = .fatal <;> simp_all)]
      exact Base.sendMsg_bounded b _ bound

/-! ### Writes of shadow registers -/

/-- Two tables that agree wherever no entry of a list writes agree once it is written into both. -/
theorem Tab.get_foldl_set_congr {l : List (Nat × Word)} {t u : Tab Word} {o : Nat} (h : (∃ e ∈ l, e.1 = o) ∨ Tab.get 0 t o = Tab.get 0 u o) :
    Tab.get 0 (l.foldl (fun t e => Tab.set 0 t e.1 e.2) t) o = Tab.get 0 (l.foldl (fun t e => Tab.set 0 t e.1 e.2) u) o := by
  induction l generalizing t u with
  | nil => simpa using h
  | cons e l ih =>
    refine ih ?_
    by_cases same : o = e.1
    · subst same; right; rw [Tab.get_set_same, Tab.get_set_same]
    · rcases h with ⟨x, hx, rfl⟩ | h
      · rcases List.mem_cons.mp hx with rfl | hx
        · exact absurd rfl same
        · exact Or.inl ⟨x, hx, rfl⟩
      · right
        rw [Tab.get_set_other 0 t e.2 same, Tab.get_set_other 0 u e.2 same, h]

/-- What the shadows held before a write of this cycle, with the shadow about to be written. -/
def Base.undoWith (b : Base) (off : Nat) : Tab Word :=
  if b.undoNow.any (fun e => e.1 == off) then b.undoNow else (off, Tab.get 0 b.shadow off) :: b.undoNow

/-- A write of a shadow does not change what the shadows held before the writes of its cycle. -/
theorem Base.shadowBefore_shadowNow (b : Base) (off : Nat) (v : Word) (o : Nat) :
    Tab.get 0 (b.shadowNow off v).shadowBefore o = Tab.get 0 b.shadowBefore o := by
  have now : (b.shadowNow off v).undoNow = b.undoWith off := if_pos rfl
  unfold Base.shadowBefore
  rw [now, show (b.shadowNow off v).shadow = Tab.set 0 b.shadow off v from rfl]
  by_cases noted : b.undoNow.any (fun e => e.1 == off) = true
  · rw [show b.undoWith off = b.undoNow from if_pos noted]
    refine Tab.get_foldl_set_congr ?_
    by_cases same : o = off
    · subst same; left; simpa using noted
    · exact Or.inr (Tab.get_set_other 0 b.shadow v same)
  · rw [show b.undoWith off = (off, Tab.get 0 b.shadow off) :: b.undoNow from if_neg noted, List.foldl_cons]
    refine Tab.get_foldl_set_congr (Or.inr ?_)
    rw [Tab.get_set]
    split
    · next same => rw [same]
    · next other => exact Tab.get_set_other 0 b.shadow v other

/-- The rows whose content the part makes up from its state. -/
def statusRows : List Nat := [0x0, 0x8, 0xC, 0x10, 0x14, 0x18, 0x20, 0x24, 0x54, 0x20000, 0x20028, 0x30000, 0x31000, 0x32000, 0x32004, 0x32008,
  0x40080, 0x50004, 0x50010, 0x50014, 0x6000C, 0x60010, 0x61000, 0x61004, 0x61008, 0x6100C, 0x61010, 0x70008, 0x70028, 0x7004C, 0x71000, 0x71004,
  0x71008, 0x80008, 0x8002C, 0x90004, 0x9100C, 0xA0004, 0xA0008, 0xA000C, 0xA0010, 0xA0014, 0xA0038, 0xA003C, 0xA0044, 0xA0060, 0xB0008, 0xB1000,
  0xB1004, 0xB2000, 0xB2004, 0xB2008, 0xB3000, 0xB3004, 0xC0008, 0xC000C, 0xC1000, 0xC1004, 0xC2004, 0xC3000, 0xD0008, 0xD0018, 0xD001C, 0xD0020,
  0xD002C, 0xD0030, 0xE0000, 0xE0008, 0xE000C, 0xE0010, 0xE0014, 0xE0028, 0xE002C, 0xE0030, 0xF0000, 0xF0004, 0xF0800, 0xF000C, 0xF001C, 0xF0010,
  0xF0014, 0xF0018, 0xF2004, 0x11000C, 0xF00000, 0xF01000]

theorem State.statusWord_of_not_mem (s : State) {row : Nat} (h : row ∉ statusRows) (k : Nat) : s.statusWord row k = none := by
  unfold State.statusWord
  split
  case h_87 => rfl
  all_goals exact absurd (by decide) h

theorem not_mem_statusRows_of_rws {r : RegRow} (listed : r ∈ regTable) (h : r.access = .rws) : r.base ∉ statusRows := by
  have all : (regTable.all fun r => r.access != .rws || !(statusRows.contains r.base)) = true := by
    simp only [regTable, List.all_append, Bool.and_eq_true]
    decide
  have := List.all_eq_true.mp all r listed
  simpa [h] using this

theorem regRow?_mem {off : Nat} {r : RegRow} (h : regRow? off = some r) : r ∈ regTable := List.mem_of_find?_eq_some h

/-- A read of a register with a shadow returns the shadow (R9). -/
theorem State.readReg_of_rws {s : State} {off : Nat} {r : RegRow} (listed : regRow? off = some r) (h : r.access = .rws)
    (present : s.base.absent off = false) : s.readReg off = Tab.get 0 s.base.shadow off := by
  unfold State.readReg
  rw [present, listed]
  simp only [Bool.false_eq_true, if_false, s.statusWord_of_not_mem (not_mem_statusRows_of_rws (regRow?_mem listed) h), h]

/-- A whole write of the endpoint to a listed register without a row of its own. -/
theorem execRegisterWrite_listed {s : State} {off : BitVec 24} {r : RegRow} (val : Word) (up : s.base.mgmtFull = true)
    (listed : regRow? off.toNat = some r) (plain : ownRow off.toNat = false) (present : s.base.absent off.toNat = false) :
    execRegisterWrite .mgmt off val 15 s = .next { s with base := s.base.writeListed .mgmt r off.toNat val } := by
  have reached : s.base.reaches (srcId .mgmt) = true := by
    have : s.base.mgmtUp = true := by simp only [Base.mgmtFull, Bool.and_eq_true] at up; exact up.1.1
    exact this
  refine State.whenBase_pos reached ?_
  unfold Base.registerWrite
  simp [Base.offers, up, listed, plain, present]

/-- Settles O6. -/
theorem registerWriteReachesShadow : Obligations.register_write_reaches_shadow := by
  intro s off val r g up listed rws grouped plain present
  have write : exec (.registerWrite .mgmt off val 15) s = .next { s with base := s.base.writeShadow .mgmt off.toNat g (val &&& r.mask) } := by
    refine (execRegisterWrite_listed val up listed plain present).trans ?_
    unfold Base.writeListed
    rw [rws, grouped]
  refine ⟨fun unlocked still => ?_, fun locked => ?_, fun unlocked applying => ?_, fun be part => ?_⟩
  · have shadowed : s.base.writeShadow .mgmt off.toNat g (val &&& r.mask) = s.base.shadowNow off.toNat (val &&& r.mask) := by
      unfold Base.writeShadow
      rw [if_neg (by simp [tb, unlocked]), if_neg (by simp [Base.versionBusy]; omega)]
    rw [write, shadowed]
    refine ⟨_, rfl, rfl, ?_, rfl, Base.shadowBefore_shadowNow _ _ _⟩
    refine (State.readReg_of_rws (s := { s with base := s.base.shadowNow off.toNat (val &&& r.mask) }) listed rws present).trans ?_
    exact Tab.get_set_same 0 s.base.shadow off.toNat _
  · have closed : tb s.base.mg.locks (16 + g) = true := locked
    rw [write, Base.writeShadow, if_pos ⟨rfl, closed⟩]
    rfl
  · have busy : s.base.versionBusy = true := decide_eq_true applying
    rw [write, Base.writeShadow, if_neg (by simp [tb, unlocked]), if_pos ⟨rfl, busy⟩]
  · show execRegisterWrite .mgmt off val be s = _
    unfold execRegisterWrite State.whenBase
    refine State.then_self ?_
    split
    · exact if_pos part
    · rfl

/-! ### Captures -/

section
variable (b : Base) (mask : BitVec 16) (mgmt : Bool)

/-- The groups that a mask names. -/
def namedGroups (mask : BitVec 16) : List Nat := (List.range 13).filter fun g => mask.getLsbD g

theorem mem_namedGroups {mask : BitVec 16} {g : Nat} : g ∈ namedGroups mask ↔ g < 13 ∧ mask.getLsbD g = true := by
  simp [namedGroups, List.mem_filter]

/-- The captures after a strobe. -/
def Base.strobeCaptures : List Capture :=
  (b.mg.captures.filter fun c => !((namedGroups mask).contains c.group)) ++ (namedGroups mask).map fun g => b.capture g (b.mg.strobes + 1) mask mgmt

theorem Base.mem_strobeCaptures {c : Capture} : c ∈ b.strobeCaptures mask mgmt ↔
    c ∈ b.mg.captures ∧ c.group ∉ namedGroups mask ∨ c.group ∈ namedGroups mask ∧ c = b.capture c.group (b.mg.strobes + 1) mask mgmt := by
  simp only [Base.strobeCaptures, List.mem_append, List.mem_filter, List.mem_map, Bool.not_eq_true', List.contains_eq_mem, decide_eq_false_iff_not]
  refine or_congr Iff.rfl ⟨?_, fun ⟨named, same⟩ => ⟨c.group, named, same.symm⟩⟩
  rintro ⟨g, named, rfl⟩
  exact ⟨named, rfl⟩

/-- The staged label entries after a strobe: group 8 captures every one (R294). -/
def Base.strobeStaging : List Staged :=
  if mask.getLsbD 8 then b.qos.staging.map fun e => { e with strobe := some (b.mg.strobes + 1) } else b.qos.staging

theorem Base.strobe_eq : b.strobe mask mgmt =
    { b with mg := { b.mg with captures := b.strobeCaptures mask mgmt, strobes := b.mg.strobes + 1 }
             qos := { b.qos with staging := b.strobeStaging mask } } := by
  unfold Base.strobe Base.strobeStaging
  by_cases labels : mask.getLsbD 8 = true
  · have each : ∀ e : Staged, (fun e : Staged => if e.strobe.isNone then { e with strobe := some (b.mg.strobes + 1) } else e)
        { e with strobe := e.strobe.map fun _ => b.mg.strobes + 1 } = { e with strobe := some (b.mg.strobes + 1) } := by
      intro e
      cases h : e.strobe <;> simp
    simp only [labels, if_true]
    have twice := List.map_map (g := fun e : Staged => if e.strobe.isNone then { e with strobe := some (b.mg.strobes + 1) } else e)
      (f := fun e : Staged => { e with strobe := e.strobe.map fun _ => b.mg.strobes + 1 }) (l := b.qos.staging)
    have all := twice.trans (List.map_congr_left fun e _ => each e)
    rw [← all]
    rfl
  · simp only [labels]
    rfl

end

theorem Base.shadowBefore_of_fresh {b : Base} (h : b.mg.undoAt ≠ b.now) : b.shadowBefore = b.shadow := by
  unfold Base.shadowBefore
  rw [show b.undoNow = [] from if_neg h]
  rfl

/-- A strobe of the endpoint while no version is applied, or of firmware that runs. -/
theorem execCommit_strobe {s : State} {src : Src} {mask : BitVec 16} (some : mask ≠ 0)
    (h : src = .mgmt ∧ s.base.mgmtFull = true ∧ s.base.dict.commitStep < 5 ∨ (∃ c, src = .core c) ∧ s.base.fwRuns = true) :
    execCommit src mask s = .next { s with base := s.base.strobe mask (src == .mgmt) } := by
  rcases h with ⟨rfl, up, still⟩ | ⟨⟨c, rfl⟩, runs⟩
  · refine State.whenBase_pos (if_pos rfl ▸ up) ?_
    have free : ¬ (Src.mgmt = Src.mgmt ∧ s.base.versionBusy = true) := by simp [Base.versionBusy]; omega
    exact (if_neg some).trans (if_neg free)
  · refine State.whenBase_pos runs ?_
    exact (if_neg some).trans (if_neg (by simp))

/-- Settles O7. -/
theorem commitCapturesShadows : Obligations.commit_captures_shadows := by
  refine ⟨fun s src mask who named => ?_, fun s up => ⟨?_, fun mask named applying => ?_⟩, fun b => Base.shadowBefore_of_fresh⟩
  · refine ⟨_, execCommit_strobe named who, ?_⟩
    rw [Base.strobe_eq]
    refine ⟨rfl, rfl, fun g hg hm => ?_, fun c out => ?_, rfl⟩
    · have here : g ∈ namedGroups mask := mem_namedGroups.mpr ⟨hg, hm⟩
      refine ⟨s.base.capture g (s.base.mg.strobes + 1) mask (src == .mgmt), ?_, rfl, rfl, rfl, ?_, fun off grouped => ?_, fun d hd same => ?_⟩
      · exact (Base.mem_strobeCaptures ..).mpr (Or.inr ⟨here, rfl⟩)
      · simp [Base.capture]
      · exact Tab.get_filter 0 (p := fun o => groupOf o == some g) (by simp [grouped]) s.base.shadowBefore
      · rcases (Base.mem_strobeCaptures ..).mp hd with ⟨-, new⟩ | ⟨-, made⟩
        · exact absurd (same ▸ here) new
        · rw [made, same]
    · have unnamed : c.group ∉ namedGroups mask := fun h => by
        obtain ⟨hg, hm⟩ := mem_namedGroups.mp h
        rcases out with big | off
        · omega
        · simp [off] at hm
      exact (Base.mem_strobeCaptures ..).trans (by simp [unnamed])
  · refine State.then_self ?_
    split <;> simp
  · refine State.whenBase_pos up ?_
    exact (if_neg named).trans (if_pos ⟨rfl, decide_eq_true applying⟩)

/-! ### Staged label entries -/

/-- Both staging commands do what their bits say (R294). -/
theorem exec_stage {s : State} {v : BitVec 2} (up : s.base.mgmtFull = true) {t : Base} (h : s.base.stageCtrl v = t) :
    exec (.lblStagePush v) s = .next { s with base := t } ∧ exec (.lblStageDiscard v) s = .next { s with base := t } :=
  ⟨State.whenBase_pos up h, State.whenBase_pos up h⟩

section
variable {b : Base} {v : BitVec 2}

theorem Base.stageCtrl_of_busy (busy : b.versionBusy = true) : b.stageCtrl v = b.send .versionBusy 0x580 Reg.LBL_STAGE_CTRL := if_pos busy

theorem Base.stageCtrl_of_discard (free : b.versionBusy = false) (discard : v.getLsbD 1 = true) :
    b.stageCtrl v = b.updQos fun q => { q with staging := q.staging.filter fun e => e.strobe.isSome } :=
  (if_neg (by simp [free])).trans (if_pos discard)

theorem Base.stageCtrl_of_push (push : b.versionBusy = false ∧ v.getLsbD 1 = false ∧ v.getLsbD 0 = true) :
    b.stageCtrl v = b.stage ((b.reg Reg.LBL_STAGE_INDEX).extractLsb' 0 16) (b.reg Reg.LBL_STAGE_W0) (b.reg Reg.LBL_STAGE_W1) :=
  (if_neg (by simp [push.1])).trans ((if_neg (Bool.eq_false_iff.mp push.2.1)).trans (if_pos push.2.2))

end

/-- Settles O31. -/
theorem labelStaging : Obligations.label_staging := by
  intro s v up b e mine l both push
  refine ⟨fun h there => exec_stage up ?_, fun h new room => exec_stage up ?_, fun h new full => exec_stage up ?_, fun free discard => exec_stage up ?_,
    fun free none => exec_stage up ?_, fun busy => exec_stage up (Base.stageCtrl_of_busy busy)⟩
  · exact (Base.stageCtrl_of_push h).trans (if_pos there)
  · exact (Base.stageCtrl_of_push h).trans ((if_neg (Bool.eq_false_iff.mp new)).trans (if_neg (Nat.not_le.mpr room)))
  · exact (Base.stageCtrl_of_push h).trans ((if_neg (Bool.eq_false_iff.mp new)).trans (if_pos full))
  · exact Base.stageCtrl_of_discard free discard
  · subst none
    exact (if_neg (by simp [b, free])).trans rfl

end Sys2Proof.Machine
end

section
/-! SUPPORT. The injection register (R219), the object dictionary (R482 to R488) and its versions (R493 to R502). -/

namespace Sys2Proof.Machine

/-! ### Injection -/

section
variable {b : Base} {v : BitVec 3}

theorem exec_inject {s : State} (up : s.base.mgmtFull = true) {t : Base} (h : s.base.injCtrl v = t) :
    exec (.injArmNextWrite v) s = .next { s with base := t } ∧ exec (.injRewriteNow v) s = .next { s with base := t } ∧
      exec (.injClearAll v) s = .next { s with base := t } :=
  ⟨State.whenBase_pos up h, State.whenBase_pos up h, State.whenBase_pos up h⟩

theorem Base.injCtrl_of_clear (clear : v.getLsbD 2 = true) : b.injCtrl v = b.dram.injections.foldl (fun b i => b.rewrite { i with mask := 0 }) b :=
  if_pos clear

theorem Base.injCtrl_of_rewrite (keep : v.getLsbD 2 = false) (now : v.getLsbD 1 = true) : b.injCtrl v = b.injRequest fun i b => b.rewrite i :=
  (if_neg (Bool.eq_false_iff.mp keep)).trans (if_pos now)

theorem Base.injCtrl_of_arm (keep : v.getLsbD 2 = false) (later : v.getLsbD 1 = false) (arm : v.getLsbD 0 = true) :
    b.injCtrl v = b.injRequest fun i b => b.updDram fun d => { d with armed := some i } :=
  (if_neg (Bool.eq_false_iff.mp keep)).trans ((if_neg (Bool.eq_false_iff.mp later)).trans (if_pos arm))

theorem Base.injRequest_taken (go : Injection → Base → Base) (h : b.injReason b.injTarget = 0) :
    b.injRequest go = go b.injTarget (b.updDram fun d => { d with injRefused := false, injReason := 0 }) := if_pos h

theorem Base.injRequest_refused (go : Injection → Base → Base) (h : b.injReason b.injTarget ≠ 0) :
    b.injRequest go = (b.updDram fun d => { d with injRefused := true, injReason := b.injReason b.injTarget }).send .injectRefused
      (0x100 + 8 * (b.place b.injTarget.line).ch + 7) (64 * b.injTarget.line) := if_neg h

theorem Base.injReason_eq_one (b : Base) (i : Injection) : b.injReason i = 1 ↔ tb (b.reg Reg.INJ_ENABLE) 0 = false := by
  unfold Base.injReason
  by_cases off : tb (b.reg Reg.INJ_ENABLE) 0 = false
  · simp [off]
  · rw [if_neg off]
    refine iff_of_false ?_ off
    split
    · decide
    · split
      · decide
      · split <;> decide

end

/-- Settles O29. -/
theorem injectionCommands : Obligations.injection_commands := by
  intro s v up b i taken refused gone all
  refine ⟨fun clear => exec_inject up (Base.injCtrl_of_clear clear), fun keep now ok => exec_inject up ?_, fun keep later arm ok => exec_inject up ?_,
    fun keep asked bad => exec_inject up ?_, fun none => exec_inject up ?_, b.injReason_eq_one i⟩
  · rw [Base.injCtrl_of_rewrite keep now]
    exact Base.injRequest_taken _ ok
  · rw [Base.injCtrl_of_arm keep later arm]
    exact Base.injRequest_taken _ ok
  · by_cases now : v.getLsbD 1 = true
    · rw [Base.injCtrl_of_rewrite keep now]
      exact Base.injRequest_refused _ bad
    · rw [Base.injCtrl_of_arm keep (by simpa using now) (asked.resolve_left now)]
      exact Base.injRequest_refused _ bad
  · subst none
    rfl

/-! ### Bytes of a value -/

theorem le_succ (n v : Nat) : le (n + 1) v = BitVec.ofNat 8 v :: le n (v / 256) := by
  unfold le
  rw [List.range_succ_eq_map, List.map_cons, List.map_map]
  congr 1
  refine List.map_congr_left fun i _ => ?_
  show BitVec.ofNat 8 (v >>> (8 * (i + 1))) = _
  rw [show 8 * (i + 1) = 8 + 8 * i by omega, Nat.shiftRight_add, Nat.shiftRight_eq_div_pow v 8]

theorem length_le (n v : Nat) : (le n v).length = n := by simp [le]

theorem ofLe_le (n v : Nat) : ofLe (le n v) = v % 256 ^ n := by
  induction n generalizing v with
  | zero => simp [le, ofLe, Nat.mod_one]
  | succ n ih =>
    rw [le_succ]
    have split : v % 256 ^ (n + 1) = v % 256 + 256 * (v / 256 % 256 ^ n) := by rw [Nat.pow_succ', Nat.mod_mul]
    have byte : (BitVec.ofNat 8 v).toNat = v % 256 := BitVec.toNat_ofNat v 8
    rw [split, ← byte, ← ih]
    rfl

theorem ofLe_append (l m : List Byte) : ofLe (l ++ m) = ofLe l + 256 ^ l.length * ofLe m := by
  induction l with
  | nil => simp [ofLe]
  | cons x l ih =>
    show x.toNat + 256 * ofLe (l ++ m) = x.toNat + 256 * ofLe l + _
    rw [ih, List.length_cons, Nat.pow_succ', Nat.mul_add, Nat.mul_assoc, Nat.add_assoc]

/-! ### Dictionary requests -/

section
variable {s : State} {p : OdPath} {i k : Nat} {data : List Byte} {x : OdIndex} {t : OdType} {a : OdAcc} {code : Nat} {b : Base}

theorem State.odWriteOn_of_down (h : s.base.odUp p 2 i k data = false) : s.odWriteOn p i k data = s := if_neg (by simp [h])

theorem State.odReadOn_of_down {op : Nat} (h : s.base.odUp p op i k [] = false) : s.odReadOn p op i k = s := if_neg (by simp [h])

/-- What a write request answers: its status, and the entry's type on success. -/
theorem State.odWriteOn_eq (up : s.base.odUp p 2 i k data = true) (known : odIndex s.fieldRepairs.length i = some x)
    (entry : odEntry x i k = some (t, a)) (done : s.odWrite (odWho p) i k data = (code, b)) :
    s.odWriteOn p i k data = { s with base := b.odAnswer p code (if code = 0 then t.code else 0) [] } := by
  unfold State.odWriteOn
  rw [if_pos up, done, known, Option.bind_some, entry]

theorem State.odReadOn_eq {op type : Nat} (up : s.base.odUp p op i k [] = true) (done : s.odReadReq (odWho p) op i k = (code, type, data, b)) :
    s.odReadOn p op i k = { s with base := b.odAnswer p code type data } := by
  unfold State.odReadOn
  rw [if_pos up, done]

/-- An entry that is no cursor. -/
theorem not_cursor (h : x.rows = none ∨ k ≠ 0) : (x.rows.isSome && k == 0) = false := by
  rcases h with h | h <;> simp [h]

variable {who : Nat}

/-- A write of an entry that is no cursor, by an identity that may, of a value the entry's access takes. -/
theorem State.odWrite_eq (known : odIndex s.fieldRepairs.length i = some x) (entry : odEntry x i k = some (t, a)) (plain : x.rows = none ∨ k ≠ 0)
    (allowed : s.base.odAllowed x who i k (s.base.cursor who i) true = true) (writable : ¬ (a = .ro ∨ a = .rc)) :
    s.odWrite who i k data = if data.length ≠ t.bytes then (6, s.base)
      else if !odInRange i k (s.base.cursor who i) t (ofLe data) then (7, s.base)
      else s.base.odStore x who i k (s.base.cursor who i) (ofLe data) a := by
  unfold State.odWrite
  simp only [known, entry, not_cursor plain, Bool.false_and, Bool.false_eq_true, if_false, allowed, Bool.not_true, Bool.not_false, Bool.true_and, if_neg writable]

theorem State.odWrite_denied (known : odIndex s.fieldRepairs.length i = some x) (entry : odEntry x i k = some (t, a)) (plain : x.rows = none ∨ k ≠ 0)
    (denied : s.base.odAllowed x who i k (s.base.cursor who i) true = false) :
    s.odWrite who i k data = (4, s.base.send .dictDenied 0x5BB (i + 65536 * k)) := by
  unfold State.odWrite
  simp only [known, entry, not_cursor plain, Bool.false_and, Bool.false_eq_true, if_false, denied, Bool.not_false, if_true]
  rfl

section
variable {row v : Nat} (plain : x.rows = none ∨ k ≠ 0)
include plain

/-- A value of a version goes into PENDING (R487). -/
theorem Base.odStore_pending {b : Base} {w : Version} (pending : b.dict.pending = some w) (idle : b.committing = false) :
    b.odStore x who i k row v .rwv = (0, b.updDict fun d => { d with pending := some (w.odPut i k row v) }) := by
  unfold Base.odStore
  simp only [not_cursor plain, Bool.false_eq_true, if_false, if_true, pending, idle]

theorem Base.odStore_committing {b : Base} {w : Version} (pending : b.dict.pending = some w) (busy : b.committing = true) :
    b.odStore x who i k row v .rwv = (10, b) := by
  unfold Base.odStore
  simp only [not_cursor plain, Bool.false_eq_true, if_false, if_true, pending, busy]

theorem Base.odStore_no_pending {b : Base} (absent : b.dict.pending = none) : b.odStore x who i k row v .rwv = (9, b) := by
  unfold Base.odStore
  simp only [not_cursor plain, Bool.false_eq_true, if_false, if_true, absent]

end

theorem State.odReadReq_eq (known : odIndex s.fieldRepairs.length i = some x) (entry : odEntry x i k = some (t, a)) (plain : x.rows = none ∨ k ≠ 0)
    (allowed : s.base.odAllowed x who i k (s.base.cursor who i) false = true) (readable : a ≠ .wo)
    (inRows : ∀ r, x.rows = some r → s.base.cursor who i < r) :
    s.odReadReq who 1 i k =
      (0, t.code, s.odRead who i k (s.base.cursor who i) t a, if a = .rc then s.base.odCleared i k (s.base.cursor who i) else s.base) := by
  have inside : (x.rows.isSome && decide (x.rows.getD 0 ≤ s.base.cursor who i)) = false := by
    cases rows : x.rows with
    | none => rfl
    | some r => simpa using inRows r rows
  unfold State.odReadReq
  simp only [known, entry, not_cursor plain, Bool.false_eq_true, if_false, allowed, Bool.not_true, if_neg readable, inside, ne_eq, not_true_eq_false]

theorem State.odReadReq_denied (known : odIndex s.fieldRepairs.length i = some x) (entry : odEntry x i k = some (t, a)) (plain : x.rows = none ∨ k ≠ 0)
    (denied : s.base.odAllowed x who i k (s.base.cursor who i) false = false) :
    s.odReadReq who 1 i k = (4, 0, [], s.base.send .dictDenied 0x5BB (i + 65536 * k)) := by
  unfold State.odReadReq
  simp only [known, entry, not_cursor plain, Bool.false_eq_true, if_false, denied, Bool.not_false, if_true, ne_eq, not_true_eq_false]
  rfl

end

/-- A CalendarSet of the management identity in range (R491). -/
theorem execCalendarSet_mgmt {s : State} {p : OdPath} {sec : BitVec 64} {ns : Word}
    (up : s.base.odUp p 2 0x1110 4 (le 8 sec.toNat ++ le 4 ns.toNat) = true) (mgmt : odWho p = 16)
    (may : tb (accessRow s.base.dict.access 1).2 16 = true) (below : ns.toNat < 1000000000) :
    execCalendarSet p sec ns s = .next { s with base := (Base.send { s.base with
      dict := { s.base.dict with calSec := sec.toNat, calNs := ns.toNat, calAt := s.base.pl.epochs, calValid := true } } .calendarSet 0x5BB 0).odAnswer p 0 9 [] } := by
  have value : ofLe (le 8 sec.toNat ++ le 4 ns.toNat) = sec.toNat + 2 ^ 64 * ns.toNat := by
    have hi : ns.toNat < 256 ^ 4 := by have := ns.isLt; omega
    have lo : sec.toNat < 256 ^ 8 := by have := sec.isLt; omega
    rw [ofLe_append, ofLe_le, ofLe_le, length_le, Nat.mod_eq_of_lt hi, Nat.mod_eq_of_lt lo]
    rfl
  have upper : (sec.toNat + 2 ^ 64 * ns.toNat) >>> 64 = ns.toNat := by
    rw [Nat.shiftRight_eq_div_pow, Nat.add_mul_div_left _ _ (by decide), Nat.div_eq_of_lt sec.isLt, Nat.zero_add]
  have lower : (sec.toNat + 2 ^ 64 * ns.toNat) % 2 ^ 64 = sec.toNat := by
    rw [Nat.add_mul_mod_self_left, Nat.mod_eq_of_lt sec.isLt]
  have allowed : ∀ row, s.base.odAllowed { range := 1 } (odWho p) 0x1110 4 row true = true := fun row => by
    rw [mgmt]
    exact (Bool.and_eq_true ..).mpr ⟨(Bool.and_eq_true ..).mpr ⟨may, rfl⟩, rfl⟩
  have long : ¬ (le 8 sec.toNat ++ le 4 ns.toNat).length ≠ (OdType.rec_ 12).bytes := by simp [length_le, OdType.bytes]
  have inRange : (!odInRange 0x1110 4 (s.base.cursor (odWho p) 0x1110) (.rec_ 12) (ofLe (le 8 sec.toNat ++ le 4 ns.toNat))) = false := by
    rw [value]
    show (!decide ((sec.toNat + 2 ^ 64 * ns.toNat) >>> 64 < 1000000000)) = false
    rw [upper, decide_eq_true below]
    rfl
  refine congrArg Host.Outcome.next (State.odWriteOn_eq (x := { range := 1 }) (t := .rec_ 12) (a := .wo) up rfl rfl
    ((State.odWrite_eq rfl rfl (Or.inl rfl) (allowed _) (by decide)).trans ?_))
  rw [if_neg long, inRange]
  show (0, s.base.setCalendar (ofLe (le 8 sec.toNat ++ le 4 ns.toNat))) = _
  unfold Base.setCalendar
  rw [value, upper, lower]
  rfl

/-- Settles O48. -/
theorem dictionaryRequests : Obligations.dictionary_requests := by
  intro s p index sub data x t v sec ns b who i k row n field inRows
  refine ⟨fun up ⟨known, entry, plain⟩ allowed => ?_, fun up allowed rows => ⟨fun a ha ⟨known, entry, plain⟩ => ?_, fun ⟨known, entry, plain⟩ => ?_⟩,
    fun a up ⟨known, entry, plain⟩ denied => ?_, fun down => ?_, fun down => ?_, ⟨fun up => ⟨execCalendarSet_mgmt up, fun other => ?_⟩, ?_, ?_⟩⟩
  · have written := State.odWrite_eq (data := data) known entry plain allowed (by decide)
    have answered := fun {code : Nat} {b' : Base} (h : s.odWrite who i k data = (code, b')) =>
      congrArg (Host.Outcome.next (φ := Fault) (ρ := Refusal)) (State.odWriteOn_eq up known entry h)
    refine ⟨fun short => answered (written.trans (if_pos short)), fun long out => answered (written.trans ?_), fun long inside => ?_⟩
    · rw [if_neg (by simpa using long), if_pos (by simpa using out)]
    · have stored := written.trans ((if_neg (by simpa using long)).trans (if_neg (by simpa using inside)))
      refine ⟨fun pending no3 no5 => answered (stored.trans ?_), fun pending busy => answered (stored.trans ?_), fun absent => ?_⟩
      · have idle : s.base.committing = false := by simpa [Base.committing] using ⟨no3, no5⟩
        exact Base.odStore_pending plain pending idle
      · have committing : s.base.committing = true := by simpa [Base.committing] using busy
        exact Base.odStore_committing plain pending committing
      · exact answered (stored.trans (Base.odStore_no_pending plain absent))
  · have readable : a ≠ .wo := by rcases ha with rfl | rfl | rfl | rfl <;> decide
    have keeps : a ≠ .rc := by rcases ha with rfl | rfl | rfl | rfl <;> decide
    have read := State.odReadReq_eq known entry plain allowed readable rows
    rw [if_neg keeps] at read
    exact congrArg Host.Outcome.next (State.odReadOn_eq up read)
  · have read := State.odReadReq_eq known entry plain allowed (by decide) rows
    rw [if_pos rfl] at read
    exact congrArg Host.Outcome.next (State.odReadOn_eq up read)
  · exact congrArg Host.Outcome.next (State.odReadOn_eq up (State.odReadReq_denied known entry plain denied))
  · exact congrArg Host.Outcome.next (State.odReadOn_of_down down)
  · exact congrArg Host.Outcome.next (State.odWriteOn_of_down down)
  · have denied : ∀ row, s.base.odAllowed { range := 1 } (odWho p) 0x1110 4 row true = false := fun row => by
      have no : (odWho p == 16) = false := by simpa using other
      simp [Base.odAllowed, no, mgmtOnly]
    exact congrArg Host.Outcome.next (State.odWriteOn_eq (x := { range := 1 }) (t := .rec_ 12) (a := .wo) up rfl rfl
      (State.odWrite_denied rfl rfl (Or.inl rfl) (denied _)))
  · exact fun runs due => State.whenBase_pos (by simp [show s.base.fwRuns = true from runs]; exact due) rfl
  · exact fun early => State.whenBase_neg (by simp; exact fun _ => early)

/-! ### Configuration versions -/

/-- A version command of the management identity: what it answers (R493). -/
theorem State.versionOn_eq {s : State} {p : OdPath} {c : Nat} (h : 1 ≤ c ∧ c ≤ 5) (up : s.base.odUp p 2 0xF001 1 (le 1 c) = true)
    (mgmt : odWho p = 16) (may : tb (accessRow s.base.dict.access 15).2 16 = true) {code : Nat} {b : Base}
    (done : (if s.base.committing || (s.base.versionBusy && (c == 3 || c == 5)) then (10, s.base)
      else match s.base.versionCommand c with | some b' => (0, b') | none => (11, s.base)) = (code, b)) :
    s.versionOn p c = { s with base := b.odAnswer p code (if code = 0 then 2 else 0) [] } := by
  have value : ofLe (le 1 c) = c := by rw [ofLe_le]; omega
  have allowed : ∀ row, s.base.odAllowed { range := 15 } (odWho p) 0xF001 1 row true = true := fun row => by
    rw [mgmt]
    exact (Bool.and_eq_true ..).mpr ⟨(Bool.and_eq_true ..).mpr ⟨may, rfl⟩, rfl⟩
  have long : ¬ (le 1 c).length ≠ OdType.u8.bytes := by simp [length_le, OdType.bytes]
  have inRange : (!odInRange 0xF001 1 (s.base.cursor (odWho p) 0xF001) .u8 (ofLe (le 1 c))) = false := by
    rw [value]
    show (!(decide (1 ≤ c) && decide (c ≤ 5))) = false
    simp [h]
  refine State.odWriteOn_eq (x := { range := 15 }) (t := .u8) (a := .wo) up rfl rfl ((State.odWrite_eq rfl rfl (Or.inl rfl) (allowed _) (by decide)).trans ?_)
  rw [if_neg long, inRange, value, ← done]
  rfl

/-- A version command answers 10 while a commit or its undoing is under way; with none under way it does what VersionCommand does, or answers 11. -/
theorem State.versionOn_spec {s : State} {p : OdPath} {c : Nat} (h : 1 ≤ c ∧ c ≤ 5) (up : s.base.odUp p 2 0xF001 1 (le 1 c) = true)
    (mgmt : odWho p = 16) (may : tb (accessRow s.base.dict.access 15).2 16 = true) :
    (s.base.dict.commitStep = 3 ∨ s.base.dict.commitStep = 5 → s.versionOn p c = { s with base := s.base.odAnswer p 10 0 [] }) ∧
    (s.base.dict.commitStep = 0 →
      (∀ b', s.base.versionCommand c = some b' → s.versionOn p c = { s with base := b'.odAnswer p 0 2 [] }) ∧
      (s.base.versionCommand c = none → s.versionOn p c = { s with base := s.base.odAnswer p 11 0 [] })) := by
  refine ⟨fun busy => State.versionOn_eq h up mgmt may (if_pos ?_), fun idle => ?_⟩
  · have committing : s.base.committing = true := by simpa [Base.committing] using busy
    simp [committing]
  · have free : ¬ (s.base.committing || (s.base.versionBusy && (c == 3 || c == 5))) = true := by simp [Base.committing, Base.versionBusy, idle]
    refine ⟨fun b' does => State.versionOn_eq h up mgmt may ((if_neg free).trans ?_), fun refuses => State.versionOn_eq h up mgmt may ((if_neg free).trans ?_)⟩
    · rw [does]
    · rw [refuses]

section
variable {b : Base}

theorem Base.versionCommand_open_none (h : (∃ v, b.dict.pending = some v) ∨ b.dict.onTrial = true) : b.versionCommand 1 = none := by
  cases pending : b.dict.pending with
  | some w => simp only [Base.versionCommand, pending]
  | none =>
    have trial : b.dict.onTrial = true := h.resolve_left (by simp [pending])
    simp only [Base.versionCommand, pending, trial, if_true]

theorem Base.versionCommand_open (absent : b.dict.pending = none) (settled : b.dict.onTrial = false) :
    b.versionCommand 1 = some (b.updDict fun d => { d with
      pending := some { b.activeVersion with number := d.highest + 1, role := 2, confirmed := true, activatedAt := 0 }
      highest := d.highest + 1 }) := by
  simp only [Base.versionCommand, absent, settled, Bool.false_eq_true, if_false]
  rfl

theorem Base.versionCommand_discard {v : Version} (pending : b.dict.pending = some v) :
    b.versionCommand 2 = some { b with dict := { b.dict with pending := none } } := by
  simp only [Base.versionCommand, pending]
  rfl

theorem Base.versionCommand_commit {v : Version} (pending : b.dict.pending = some v) :
    b.versionCommand 3 = if b.validate v = 0 then some (b.updDict fun d => { d with commitStep := 3 })
      else some (b.refuseVersion v.number 2 (b.validate v)) := by
  simp only [Base.versionCommand, pending]

theorem Base.versionCommand_confirm {t : Nat} (window : b.dict.windowEnd = some t) :
    b.versionCommand 4 = if b.dict.onTrial ∧ b.pl.epochs < t then some (Base.send (Base.countMram { b with dict := { b.dict with
      onTrial := false, windowEnd := none, trialBoots := 0,
      versions := b.dict.versions.map fun (v : Version) => if v.number = b.dict.active then { v with confirmed := true } else v } })
        .versionConfirmed dictSrc b.dict.active) else none := by
  unfold Base.versionCommand
  simp only [window]
  rfl

theorem Base.versionCommand_confirm_none (settled : b.dict.onTrial = false) : b.versionCommand 4 = none := by
  cases window : b.dict.windowEnd with
  | none => unfold Base.versionCommand; simp only [window]
  | some t => rw [Base.versionCommand_confirm window, if_neg (by simp [settled])]

end

/-- Settles O49. -/
theorem versionCommands : Obligations.version_commands := by
  intro s p v b d carried opened sure confirmed
  have command : ∀ (c : Nat) (i : Instr), 1 ≤ c ∧ c ≤ 5 → exec i s = .next (s.versionOn p c) → carried c i := fun c i range runs up mgmt may => by
    obtain ⟨busy, free⟩ := State.versionOn_spec range up mgmt may
    rw [runs]
    exact ⟨fun h => congrArg _ (busy h), fun h => ⟨fun b' does => congrArg _ ((free h).1 b' does), fun refuses => congrArg _ ((free h).2 refuses)⟩⟩
  refine ⟨command 1 _ (by decide) rfl, command 2 _ (by decide) rfl, command 3 _ (by decide) rfl, command 4 _ (by decide) rfl, command 5 _ (by decide) rfl,
    Base.versionCommand_open, fun h => Base.versionCommand_open_none (h.imp_left fun h => ⟨v, h⟩), Base.versionCommand_discard, fun pending valid => ?_, fun pending bad => ?_,
    fun absent => ⟨?_, ?_⟩, fun t window trial early => ?_, Base.versionCommand_confirm_none,
    fun some idle => if_pos ⟨some, idle⟩,
    fun gone => if_neg fun h => h.1 gone, fun runs stored pending => ?_, fun other => ?_, fun runs trial idle ⟨t, window, due⟩ => ?_, fun settled => ?_⟩
  · exact (Base.versionCommand_commit pending).trans (if_pos valid)
  · exact (Base.versionCommand_commit pending).trans (if_neg bad)
  · simp only [Base.versionCommand, show b.dict.pending = none from absent]
  · simp only [Base.versionCommand, show b.dict.pending = none from absent]
  · exact (Base.versionCommand_confirm window).trans (if_pos ⟨trial, early⟩)
  · have storing : (s.base.fwRuns && s.base.dict.commitStep == 3) = true := by simpa using ⟨runs, stored⟩
    refine ⟨State.whenBase_pos storing ?_, State.whenBase_pos storing ?_⟩ <;> simp only [show s.base.dict.pending = some v from pending] <;> rfl
  · have idle : (s.base.fwRuns && s.base.dict.commitStep == 3) = false := by simpa using fun _ => other
    exact ⟨State.whenBase_neg idle, State.whenBase_neg idle⟩
  · refine State.whenBase_pos runs ?_
    simp only [show s.base.dict.windowEnd = some t from window]
    exact if_pos ⟨trial, due, idle⟩
  · refine State.then_self ?_
    split
    · have settled : s.base.dict.onTrial = false := settled
      cases window : s.base.dict.windowEnd <;> simp only [window, settled, Bool.false_eq_true, false_and, if_false]
    · rfl

end Sys2Proof.Machine
end

section
/-! SUPPORT. What the events of Rind and the inspector's requests make of it (R506 to R523). -/

namespace Sys2Proof.Machine

/-! ### Rind's own steps -/

section
variable {s : State}

/-- Rind with another content and no record more sends no notice. -/
theorem State.withRind_of_nextSeq {s : State} {r : Rind} (h : r.nextSeq = s.rind.nextSeq) : s.withRind r false = { s with rind := r } := by
  unfold State.withRind
  rw [h, Nat.sub_self]
  rfl

theorem Rind.closeTamper_of_due {r : Rind} (due : r.tamperDue = true) (allowed : r.tamperAllowed = true) (noPeriod : r.periodDue = false) :
    r.closeTamper = r.close 5 r.lastRecord := if_pos (by simp [due, allowed, noPeriod])

theorem Rind.closeTamper_of_not_due {r : Rind} (h : r.tamperDue = false ∨ r.tamperAllowed = false ∨ r.periodDue = true) : r.closeTamper = r :=
  if_neg (by rcases h with h | h | h <;> simp [h])

theorem Rind.capacityTick_tamperDue (r : Rind) : r.capacityTick.tamperDue = r.tamperDue := by
  refine forN_keeps Rind.tamperDue 16 _ (fun h r => ?_) r
  dsimp only
  split <;> rfl

/-- A millisecond of capacity and time (R509). -/
def Rind.ticked (r : Rind) : Rind := { r.capacityTick with time := r.time + 1 }

theorem Rind.ticked_nextSeq (r : Rind) : r.ticked.nextSeq = r.nextSeq := by
  have part := r.capacityTick_part
  unfold Rind.ticked
  generalize r.capacityTick = q at part ⊢
  exact congrArg LedgerPart.nextSeq part

theorem Rind.ticked_tamperDue (r : Rind) : r.ticked.tamperDue = r.tamperDue := by
  have same := r.capacityTick_tamperDue
  unfold Rind.ticked
  generalize r.capacityTick = q at same ⊢
  exact same

theorem execRindMsTick_eq (on : s.rind.power = true) (born : s.rind.genesis = true) : execRindMsTick s = .next (s.withRind s.rind.ticked.closeTamper false) :=
  if_neg (by simp [on, born])

theorem execRindMsTick_quiet (on : s.rind.power = true) (born : s.rind.genesis = true)
    (h : s.rind.ticked.tamperDue = false ∨ s.rind.ticked.tamperAllowed = false ∨ s.rind.ticked.periodDue = true) :
    execRindMsTick s = .next { s with rind := s.rind.ticked } := by
  rw [execRindMsTick_eq on born, Rind.closeTamper_of_not_due h, State.withRind_of_nextSeq (Rind.ticked_nextSeq _)]

theorem execRindMsTick_off (h : s.rind.power = false ∨ s.rind.genesis = false) : execRindMsTick s = .next s :=
  if_pos (by rcases h with h | h <;> simp [h])

/-- Rind powered up again. -/
def Rind.powered (r : Rind) : Rind := { r with power := true, up := true, unheard := r.genesis }

/-- A POWER_UP after genesis, without a lost record or counter and with no broken chain; with either as a cause (R511). -/
theorem execRindPowerUp_spec (off : s.rind.power = false) (born : s.rind.genesis = true) {present : State}
    (here : present = { s with base := s.base.updPack fun p => { p with rindPresent := true } }) :
    execRindPowerUp false false false s = .next (present.withRind (s.rind.powered.close 4 s.rind.savedTime) false) ∧
    execRindPowerUp false false true s = .next (present.withRind ((s.rind.powered.countCause 2).1.close 4 (s.rind.powered.countCause 2).1.savedTime)
      (s.rind.powered.countCause 2).2) ∧
    execRindPowerUp true false false s = .next (present.withRind ((s.rind.powered.countCause 3).1.close 4 (s.rind.powered.countCause 3).1.savedTime)
      (s.rind.powered.countCause 3).2) := by
  subst here
  have start : s.rind.powered.genesis = true := born
  refine ⟨?_, ?_, ?_⟩
  · exact (if_neg (by simp [off])).trans (if_neg (by simp [born]))
  · exact (if_neg (by simp [off])).trans (if_neg (by simp [born]))
  · refine (if_neg (by simp [off])).trans ((if_neg (by simp [born])).trans ?_)
    show Host.Outcome.next (State.withRind _ _ ((s.rind.powered.countCause 3).2 || false)) = _
    rw [Bool.or_false]
    rfl

theorem Rind.frame_bad {r : Rind} {words : List (BitVec 64)} (on : r.power = true) (born : r.genesis = true) (bad : frameOk words = false) :
    r.frame words = { r with error := true } :=
  (if_neg (by simp [on, born])).trans (if_pos (by simp [bad]))

/-- The epoch of a frame's first word. -/
theorem tapFld_epoch (w : BitVec 64) : tapFld w 47 0 = w.toNat % 2 ^ 48 := by
  simp [tapFld]

theorem Rind.frame_good {r : Rind} {w : BitVec 64} {rest : List (BitVec 64)} (on : r.power = true) (born : r.genesis = true)
    (good : frameOk (w :: rest) = true) : r.frame (w :: rest) =
      { (w :: rest).foldl Rind.tapWord r with
        lastEpoch := some (BitVec.ofNat 48 (w.toNat % 2 ^ 48))
        gap := ((w :: rest).foldl Rind.tapWord r).gap ||
          match r.lastEpoch with | some e => BitVec.ofNat 48 (w.toNat % 2 ^ 48) != e + 1 | none => false } := by
  rw [← tapFld_epoch w]
  exact (if_neg (by simp [on, born])).trans (if_neg (by simp [good]))

/-! ### The seal -/

section
variable (alive : s.base.alive = true) (booting : s.base.boot.run = false) (on : s.rind.power = true)
include alive booting on

theorem execRindSealDelivery_seen (born : s.rind.genesis = true) :
    execRindSealDelivery s = if sealVerifies (otpRaw s.otp) 5 0x54C && sealWords (otpRaw s.otp) == s.rind.sealCopy then .next s
      else .next (s.withRind (s.rind.tamperCause 4).1 (s.rind.tamperCause 4).2) :=
  (if_neg (by simp [alive, booting, on])).trans (if_neg (by simp [born]))

/-- The state of Rind that the first locked seal begins (R506). -/
def Rind.sealed (r : Rind) (rd : Nat → Word) : Rind :=
  { r with
    genesis := true, sealCopy := sealWords rd, time := 0, periodFrom := 0, lastRecord := 0, savedTime := 0
    head := Config.sha384 (Config.serialNumber.map BitVec.toNat ++ (((sealWords rd).drop 12).take 24).map BitVec.toNat) }

theorem execRindSealDelivery_first (unborn : s.rind.genesis = false) :
    execRindSealDelivery s = if regionLocked s.otp 5 && sealVerifies (otpRaw s.otp) 5 0x54C then
      .next (s.withRind ((s.rind.sealed (otpRaw s.otp)).close 1 0) false) else .next s :=
  (if_neg (by simp [alive, booting, on])).trans (if_pos (by simp [unborn]))

end

/-! ### Requests of the inspector -/

section
variable (up : s.rind.up = true)
include up

theorem State.rindAsk_busy (f : State → State) : s.rindAsk true f = .next (s.rindSay 1 .busy) :=
  (if_neg (by simp [up])).trans (if_pos rfl)

theorem State.rindAsk_free (f : State → State) : s.rindAsk false f = .next (f s) :=
  (if_neg (by simp [up])).trans (if_neg (by simp))

end

theorem State.rindAsk_down (down : s.rind.up = false) (busy : Bool) (f : State → State) : s.rindAsk busy f = .next s := if_pos (by simp [down])

/-- Requests that do not reach Rind change nothing. -/
theorem rindRequests_down (down : s.rind.up = false) (seq : BitVec 64) (nonce : BitVec 256) (busy : Bool) :
    execRindGetRecord seq busy s = .next s ∧ execRindChallenge nonce busy s = .next s ∧ execRindGetInfo busy s = .next s ∧
      execRindCloseInterval busy s = .next s := by
  unfold execRindGetRecord execRindChallenge execRindGetInfo execRindCloseInterval
  exact ⟨State.rindAsk_down down .., State.rindAsk_down down .., State.rindAsk_down down .., State.rindAsk_down down ..⟩

/-- Requests while Rind signs are answered BUSY (R521). -/
theorem rindRequests_busy (up : s.rind.up = true) (seq : BitVec 64) (nonce : BitVec 256) :
    execRindGetRecord seq true s = .next (s.rindSay 1 .busy) ∧ execRindChallenge nonce true s = .next (s.rindSay 1 .busy) ∧
      execRindGetInfo true s = .next (s.rindSay 1 .busy) ∧ execRindCloseInterval true s = .next (s.rindSay 1 .busy) := by
  unfold execRindGetRecord execRindChallenge execRindGetInfo execRindCloseInterval
  exact ⟨State.rindAsk_busy up _, State.rindAsk_busy up _, State.rindAsk_busy up _, State.rindAsk_busy up _⟩

theorem execRindChallenge_answer (up : s.rind.up = true) (nonce : BitVec 256) {body : List Nat}
    (h : [nonce.toNat, s.rind.nextSeq - 1, s.rind.head.toNat, s.rind.tamper, s.rind.time] = body) :
    execRindChallenge nonce false s = .next (s.rindSay 0 (.numbers (body ++ [(Config.sign rindKey (Config.sha384 body)).toNat]))) := by
  subst h
  exact State.rindAsk_free up _

/-- A record was closed on demand within the last minute. -/
def Rind.crowded (r : Rind) : Bool := match r.onDemandAt with | some t => decide (r.time < t + 60000) | none => false

theorem execRindGetRecord_held (up : s.rind.up = true) {seq : BitVec 64} {x : RindRecord}
    (held : (s.rind.records.find? fun x => x.seq == seq.toNat) = some x) : execRindGetRecord seq false s = .next (s.rindSay 0 (.numbers x.all)) := by
  unfold execRindGetRecord
  rw [State.rindAsk_free up, held]

theorem execRindGetRecord_gone (up : s.rind.up = true) {seq : BitVec 64} (gone : ∀ x ∈ s.rind.records, x.seq ≠ seq.toNat) :
    execRindGetRecord seq false s = .next (s.rindSay 2 .rejected) := by
  have absent : (s.rind.records.find? fun x => x.seq == seq.toNat) = none := List.find?_eq_none.mpr fun y hy => by simpa using gone y hy
  unfold execRindGetRecord
  rw [State.rindAsk_free up, absent]

theorem execRindCloseInterval_eq (up : s.rind.up = true) : execRindCloseInterval false s =
    .next (if !s.rind.genesis || s.rind.crowded then s.rindSay 3 .rejected
      else (s.withRind (if s.rind.periodDue then s.rind.close 2 s.rind.lastRecord
        else { (s.rind.close 3 s.rind.lastRecord) with onDemandAt := some s.rind.time }) false).rindSay 0 (.number s.rind.nextSeq)) :=
  State.rindAsk_free up _

theorem Rind.crowded_of_spaced {r : Rind} (h : ∀ t, r.onDemandAt = some t → t + 60000 ≤ r.time) : r.crowded = false := by
  unfold Rind.crowded
  split
  · next t asked => exact decide_eq_false (by have := h t asked; omega)
  · rfl

theorem Rind.crowded_of_recent {r : Rind} {t : Nat} (asked : r.onDemandAt = some t) (recent : r.time < t + 60000) : r.crowded = true := by
  unfold Rind.crowded
  rw [asked]
  exact decide_eq_true recent

theorem execRindCloseInterval_refused (up : s.rind.up = true) (h : s.rind.genesis = false ∨ s.rind.crowded = true) :
    execRindCloseInterval false s = .next (s.rindSay 3 .rejected) := by
  rw [execRindCloseInterval_eq up, if_pos (by rcases h with h | h <;> simp [h])]

theorem execRindCloseInterval_closes (up : s.rind.up = true) (born : s.rind.genesis = true)
    (apart : ∀ t, s.rind.onDemandAt = some t → t + 60000 ≤ s.rind.time) :
    execRindCloseInterval false s = .next ((s.withRind (if s.rind.periodDue then s.rind.close 2 s.rind.lastRecord
      else { (s.rind.close 3 s.rind.lastRecord) with onDemandAt := some s.rind.time }) false).rindSay 0 (.number s.rind.nextSeq)) := by
  rw [execRindCloseInterval_eq up, if_neg (by simp [born, Rind.crowded_of_spaced apart])]

end

theorem execRindGetInfo_answer {s : State} (up : s.rind.up = true) :
    ∃ l : List Nat, execRindGetInfo false s = .next (s.rindSay 0 (.numbers l)) ∧ l.getLast? = some s.rind.time ∧ s.rind.tamper ∈ l ∧ l.head? = some 1 :=
  ⟨_, State.rindAsk_free up _, by rw [List.getLast?_append]; rfl, by simp, rfl⟩

/-- Settles O50. -/
theorem rindEventsAndRequests : Obligations.rind_events_and_requests := by
  refine ⟨fun s words a c d => ?_, fun s seq nonce x kind start busy => ?_⟩
  · intro r here present on saved good
    refine ⟨fun power => if_pos power, fun off unborn => ?_, fun off born => execRindPowerUp_spec off born rfl, fun on born => ?_,
      execRindMsTick_off, fun on due => if_pos (by simp only [Bool.and_eq_true]; exact ⟨on, due⟩), fun none => if_neg (by simp [show s.rind.periodDue = false from none]),
      fun on => ⟨if_pos on, if_pos on, if_pos on⟩, fun on born bad => ?_, fun on born ok w rest => ?_, fun alive booting on born => ?_,
      fun alive booting on unborn => ?_, rfl⟩
    · exact (if_neg (Bool.eq_false_iff.mp off)).trans (if_pos (by simp [show s.rind.genesis = false from unborn]))
    · intro ticked
      have tick : ticked = s.rind.ticked := rfl
      clear_value ticked
      subst tick
      refine ⟨fun none => execRindMsTick_quiet on born (Or.inl (s.rind.ticked_tamperDue.trans none)), fun due allowed noPeriod => ?_, fun h => execRindMsTick_quiet on born (Or.inr h)⟩
      refine (execRindMsTick_eq on born).trans ?_
      rw [Rind.closeTamper_of_due due allowed noPeriod]
    · exact congrArg (fun q => Host.Outcome.next { s with rind := q }) (Rind.frame_bad on born bad)
    · rintro rfl
      exact congrArg (fun q => Host.Outcome.next { s with rind := q }) (Rind.frame_good on born ok)
    · have seen := execRindSealDelivery_seen alive booting on born
      refine ⟨fun ok same => seen.trans (if_pos ?_), fun h => seen.trans (if_neg ?_)⟩
      · exact (Bool.and_eq_true ..).mpr ⟨ok, beq_iff_eq.mpr same⟩
      · intro both
        obtain ⟨ok, same⟩ := (Bool.and_eq_true ..).mp both
        exact h.elim (fun bad => Bool.false_ne_true (bad.symm.trans ok)) fun other => other (beq_iff_eq.mp same)
    · have first := execRindSealDelivery_first alive booting on unborn
      refine ⟨fun ok locked => first.trans (if_pos ?_), fun h => first.trans (if_neg ?_)⟩
      · exact (Bool.and_eq_true ..).mpr ⟨locked, ok⟩
      · intro both
        obtain ⟨locked, ok⟩ := (Bool.and_eq_true ..).mp both
        exact h.elim (fun bad => Bool.false_ne_true (bad.symm.trans ok)) fun bare => Bool.false_ne_true (bare.symm.trans locked)
  · intro r answers body spaced
    refine ⟨fun up => ⟨execRindGetRecord_held up, execRindGetRecord_gone up, execRindChallenge_answer up nonce rfl, execRindGetInfo_answer up,
      fun unborn => execRindCloseInterval_refused up (Or.inl unborn), fun t asked recent => execRindCloseInterval_refused up (Or.inr ?_),
      fun born apart none => ?_, fun born apart due => ?_, rindRequests_busy up seq nonce⟩, fun down => rindRequests_down down seq nonce busy, ?_⟩
    · exact Rind.crowded_of_recent asked recent
    · refine (execRindCloseInterval_closes up born apart).trans ?_
      rw [if_neg (Bool.eq_false_iff.mp none)]
      rfl
    · refine (execRindCloseInterval_closes up born apart).trans ?_
      rw [if_pos due]
      rfl
    · refine ⟨r.closing kind start, ?_, rfl, rfl, rfl, rfl, rfl, rfl, rfl, rfl, rfl, rfl⟩
      rw [Rind.close_records, Rind.giveWay]
      split <;> simp

end Sys2Proof.Machine
end

section
/-! SUPPORT. SPDM requests and sessions (R440 to R446). -/

namespace Sys2Proof.Machine

section
variable {s : State} {p : SpdmPath} {f : State → Base → Base} {x : Base}

theorem State.spdm_down (down : s.base.spdmUp p = false) : s.spdm p f = .next s := State.then_self (if_neg (by simp [down]))

theorem State.spdm_up (up : s.base.spdmUp p = true) (e : f s s.base = x) : s.spdm p f = .next { s with base := x } :=
  State.then_eq ((if_pos up).trans e)

theorem State.spdmAgreed_pos (up : s.base.spdmUp p = true) (agreed : s.base.boot.algsAgreed.contains p = true) (e : f s s.base = x) :
    s.spdmAgreed p f = .next { s with base := x } :=
  State.spdm_up up ((if_pos agreed).trans e)

theorem State.spdmAgreed_neg (up : s.base.spdmUp p = true) (early : s.base.boot.algsAgreed.contains p = false) :
    s.spdmAgreed p f = .next { s with base := s.base.spdmSay p .rejected } :=
  State.spdm_up up (if_neg (Bool.eq_false_iff.mp early))

theorem State.spdmAgreed_down (down : s.base.spdmUp p = false) : s.spdmAgreed p f = .next s := State.spdm_down down

theorem State.spdmSlot_down (down : s.base.spdmUp p = false) (slot : Nat) : s.spdmSlot p slot f = .next s :=
  State.spdmAgreed_down down

theorem State.spdmSlot_neg (up : s.base.spdmUp p = true) (early : s.base.boot.algsAgreed.contains p = false) (slot : Nat) :
    s.spdmSlot p slot f = .next { s with base := s.base.spdmSay p .rejected } := State.spdmAgreed_neg up early

theorem State.spdmSlot_zero (up : s.base.spdmUp p = true) (agreed : s.base.boot.algsAgreed.contains p = true) (e : f s s.base = x) :
    s.spdmSlot p 0 f = .next { s with base := x } :=
  State.spdmAgreed_pos up agreed ((if_pos rfl).trans e)

theorem State.spdmSlot_other (up : s.base.spdmUp p = true) (agreed : s.base.boot.algsAgreed.contains p = true) {slot : BitVec 4} (other : slot ≠ 0) :
    s.spdmSlot p slot.toNat f = .next { s with base := s.base.spdmSay p .invalidInput } :=
  State.spdmAgreed_pos up agreed (if_neg fun zero => other (BitVec.eq_of_toNat_eq zero))

/-! ### Requests -/

/-- A request on a path that carries no SPDM changes nothing. -/
theorem spdmRequests_down (down : s.base.spdmUp p = false) (slot : BitVec 4) (index : Byte) :
    execSpdmGetVersion p s = .next s ∧ execSpdmGetCapabilities p s = .next s ∧ execSpdmNegotiateAlgorithms p true s = .next s ∧
    execSpdmGetDigests p s = .next s ∧ execSpdmGetCertificate p slot s = .next s ∧ execSpdmChallenge p slot s = .next s ∧
    execSpdmGetMeasurements p index true s = .next s := by
  unfold execSpdmGetVersion execSpdmGetCapabilities execSpdmNegotiateAlgorithms execSpdmGetDigests execSpdmGetCertificate execSpdmChallenge
    execSpdmGetMeasurements
  exact ⟨State.spdm_down down, State.spdm_down down, State.spdm_down down, State.spdmAgreed_down down, State.spdmSlot_down down _,
    State.spdmSlot_down down _, State.spdmAgreed_down down⟩

section
variable (up : s.base.spdmUp p = true)
include up

theorem spdmRequests_early (early : s.base.boot.algsAgreed.contains p = false) (slot : BitVec 4) (index : Byte) :
    execSpdmGetDigests p s = .next { s with base := s.base.spdmSay p .rejected } ∧
    execSpdmChallenge p slot s = .next { s with base := s.base.spdmSay p .rejected } ∧
    execSpdmGetMeasurements p index false s = .next { s with base := s.base.spdmSay p .rejected } := by
  unfold execSpdmGetDigests execSpdmChallenge execSpdmGetMeasurements
  exact ⟨State.spdmAgreed_neg up early, State.spdmSlot_neg up early _, State.spdmAgreed_neg up early⟩

/-- The requests that come before the algorithms are agreed. -/
theorem spdmRequests_first :
    execSpdmGetVersion p s = .next { s with base := s.base.spdmSay p (.number 0x12) } ∧
    execSpdmGetCapabilities p s = .next { s with base := s.base.spdmSay p .success } ∧
    execSpdmNegotiateAlgorithms p true s = .next { s with base := (s.base.updBoot fun x =>
      { x with algsAgreed := if x.algsAgreed.contains p then x.algsAgreed else p :: x.algsAgreed }).spdmSay p .success } ∧
    execSpdmNegotiateAlgorithms p false s = .next { s with base := s.base.spdmSay p .rejected } := by
  unfold execSpdmGetVersion execSpdmGetCapabilities execSpdmNegotiateAlgorithms
  exact ⟨State.spdm_up up rfl, State.spdm_up up rfl, State.spdm_up up (if_pos rfl), State.spdm_up up (if_neg (by simp))⟩

variable (agreed : s.base.boot.algsAgreed.contains p = true)
include agreed

theorem execSpdmGetDigests_answer : execSpdmGetDigests p s =
    .next { s with base := s.base.spdmSay p (.number (Config.sha384 (s.chain.map fun x => x.toNat)).toNat) } := by
  unfold execSpdmGetDigests
  exact State.spdmAgreed_pos up agreed rfl

theorem spdmSlotZero_answers :
    execSpdmGetCertificate p 0 s = .next { s with base := s.base.spdmSay p (.bytes s.chain) } ∧
    execSpdmChallenge p 0 s = .next { s with base := s.signed p [] s.base } := by
  unfold execSpdmGetCertificate execSpdmChallenge
  exact ⟨State.spdmSlot_zero up agreed rfl, State.spdmSlot_zero up agreed rfl⟩

theorem spdmSlotOther_answers {slot : BitVec 4} (other : slot ≠ 0) :
    execSpdmGetCertificate p slot s = .next { s with base := s.base.spdmSay p .invalidInput } ∧
    execSpdmChallenge p slot s = .next { s with base := s.base.spdmSay p .invalidInput } := by
  unfold execSpdmGetCertificate execSpdmChallenge
  exact ⟨State.spdmSlot_other up agreed other, State.spdmSlot_other up agreed other⟩

/-- Index 0 answers the count of the measurements, 0xFF all of them. -/
theorem execSpdmGetMeasurements_ends :
    execSpdmGetMeasurements p 0 false s = .next { s with base := s.base.spdmSay p (.numbers [6]) } ∧
    execSpdmGetMeasurements p 0xFF false s = .next { s with base := s.base.spdmSay p (.numbers ([1, 2, 3, 4, 5, 6].map s.measurement)) } := by
  unfold execSpdmGetMeasurements
  exact ⟨State.spdmAgreed_pos up agreed rfl, State.spdmAgreed_pos up agreed rfl⟩

theorem execSpdmGetMeasurements_one {index : Byte} (signed : Bool) (least : 1 ≤ index.toNat) (most : index.toNat ≤ 6) :
    execSpdmGetMeasurements p index signed s = .next { s with
      base := if signed then s.signed p [s.measurement index.toNat] s.base else s.base.spdmSay p (.numbers [s.measurement index.toNat]) } :=
  State.spdmAgreed_pos up agreed ((if_neg (by omega)).trans (if_pos most))

theorem execSpdmGetMeasurements_beyond {index : Byte} (signed : Bool) (more : 6 < index.toNat) (less : index.toNat < 255) :
    execSpdmGetMeasurements p index signed s = .next { s with base := s.base.spdmSay p .invalidInput } :=
  State.spdmAgreed_pos up agreed ((if_neg (by omega)).trans ((if_neg (by omega)).trans (if_neg (by omega))))

theorem execSpdmKeyExchange_new {session : BitVec 16} (new : s.base.boot.sessions.any (fun x => x.is p session) = false) :
    execSpdmKeyExchange p 0 session s = .next { s with base := s.signed p [session.toNat] (s.base.updBoot fun x =>
      { x with sessions := x.sessions ++ [{ path := p, id := session, finished := false }] }) } :=
  State.spdmSlot_zero up agreed (if_neg (Bool.eq_false_iff.mp new))

theorem execSpdmKeyExchange_held {session : BitVec 16} (held : s.base.boot.sessions.any (fun x => x.is p session) = true) :
    execSpdmKeyExchange p 0 session s = .next { s with base := s.base.spdmSay p .invalidInput } :=
  State.spdmSlot_zero up agreed (if_pos held)

end

/-! ### Sessions -/

section
variable (up : s.base.spdmUp p = true) {session : BitVec 16}
include up

theorem execSpdmFinish_good (open_ : s.base.boot.sessions.any (fun x => x.is p session && !x.finished) = true) :
    execSpdmFinish p session true s = .next { s with base := (s.base.updBoot fun x =>
      { x with sessions := x.sessions.map fun y => if y.is p session then { y with finished := true } else y }).spdmSay p .success } :=
  State.spdm_up up (if_pos open_)

theorem execSpdmFinish_bad : execSpdmFinish p session false s = .next { s with base := (s.base.updBoot fun x =>
      { x with sessions := x.sessions.filter fun y => !(y.is p session && !y.finished) }).spdmSay p .rejected } :=
  State.spdm_up up (if_neg (by simp))

theorem finishedSession_requests (held : s.base.inSession p session = true) :
    execSpdmEndSession p session s = .next { s with base := (s.base.updBoot fun x =>
      { x with sessions := x.sessions.filter fun y => !y.is p session }).spdmSay p .success } ∧
    execSpdmHeartbeat p session s = .next { s with base := s.base.spdmSay p .success } :=
  ⟨State.spdm_up up (if_pos held), State.spdm_up up (congrArg (s.base.spdmSay p) (if_pos held))⟩

theorem noSession_requests (gone : s.base.inSession p session = false) :
    execSpdmEndSession p session s = .next { s with base := s.base.spdmSay p .rejected } ∧
    execSpdmHeartbeat p session s = .next { s with base := s.base.spdmSay p .rejected } :=
  ⟨State.spdm_up up (if_neg (Bool.eq_false_iff.mp gone)), State.spdm_up up (congrArg (s.base.spdmSay p) (if_neg (Bool.eq_false_iff.mp gone)))⟩

end

end

/-- Settles O44. -/
theorem spdmRequestsAndSessions : Obligations.spdm_requests_and_sessions := by
  refine ⟨fun s p slot index => ?_, fun s p session up => ?_⟩
  · intro b answers
    refine ⟨fun up => spdmRequests_first up, fun up agreed => ?_, fun up early => spdmRequests_early up early slot index,
      fun down => spdmRequests_down down slot index⟩
    obtain ⟨certificate, challenge⟩ := spdmSlotZero_answers up agreed
    obtain ⟨count, all⟩ := execSpdmGetMeasurements_ends up agreed
    exact ⟨execSpdmGetDigests_answer up agreed, certificate, fun other => spdmSlotOther_answers up agreed other, challenge,
      fun least most => ⟨execSpdmGetMeasurements_one up agreed false least most, execSpdmGetMeasurements_one up agreed true least most⟩,
      count, all, execSpdmGetMeasurements_beyond up agreed false⟩
  · intro b l is held answers
    exact ⟨fun agreed new => execSpdmKeyExchange_new up agreed new, fun agreed old => execSpdmKeyExchange_held up agreed old,
      fun open_ => execSpdmFinish_good up open_, execSpdmFinish_bad up, fun there => finishedSession_requests up there, fun gone => noSession_requests up gone⟩

end Sys2Proof.Machine
end

section
/-! SUPPORT. Mailbox channels, their locks, and the power domains behind them (R464 to R476, R42). -/

namespace Sys2Proof.Machine

/-! ### Channels -/

section
variable {s : State} {who : BitVec 5} {c : BitVec 6} {v : Word} (reached : s.base.reaches who.toNat = true)
include reached

section
variable (sender : s.base.mbxSender c.toNat = some who.toNat) (free : 16 ≤ who.toNat ∨ s.base.coh.isolated.getLsbD who.toNat = false)
  (on : s.base.bankOn (s.base.mbxBank c.toNat) = true) (listed : who.toNat ≠ 22)
include sender free on listed

/-- A post of a channel's own sender, to a bank that is on: a full channel refuses it, then a pointer that its sender may not pass (R468, R469). -/
theorem execMbxPost_sender : execMbxPost who c v s = .next { s with
    base := if 4 ≤ (s.base.mbx c.toNat).fifo.length then s.base.mbxRefuse c.toNat who.toNat (s.base.mbxBank c.toNat) 1
    else if !s.base.ptrOk who.toNat (s.base.mbx c.toNat).ptr (v.extractLsb' 0 16).toNat then s.base.mbxRefuse c.toNat who.toNat (s.base.mbxBank c.toNat) 2
    else s.base.mbxAccept c.toNat who.toNat (s.base.mbxBank c.toNat)
      { ptr := (s.base.mbx c.toNat).ptr, len := v.extractLsb' 0 16, seq := v.extractLsb' 16 16 } } := by
  have open_ : ¬ (s.base.mbxSender c.toNat ≠ some who.toNat ∨ who.toNat < 16 ∧ s.base.coh.isolated.getLsbD who.toNat = true) := by
    rintro (other | ⟨host, isolated⟩)
    · exact other sender
    · rcases free with core | joined
      · omega
      · simp [joined] at isolated
  refine State.whenBase_pos reached ?_
  unfold Base.mbxPost
  rw [if_neg open_, if_neg (by simp [on]), if_neg listed]

end

theorem execMbxPost_denied (other : s.base.mbxSender c.toNat ≠ some who.toNat) :
    execMbxPost who c v s = .next { s with base := s.base.mbxDeny (s.base.mbxBank c.toNat) c.toNat who.toNat } :=
  State.whenBase_pos reached (if_pos (Or.inl other))

theorem execMbxPop_receiver (receiver : s.base.mbxReceiver c.toNat = some who.toNat) (on : s.base.bankOn (s.base.mbxBank c.toNat) = true) :
    execMbxPop who c s = .next { s with base := s.base.updMbx c.toNat fun m => { m with fifo := m.fifo.drop 1 } } :=
  State.whenBase_pos reached ((if_neg (not_not.mpr receiver)).trans (if_neg (by simp [on])))

theorem execMbxPop_denied (other : s.base.mbxReceiver c.toNat ≠ some who.toNat) :
    execMbxPop who c s = .next { s with base := s.base.mbxDeny (s.base.mbxBank c.toNat) c.toNat who.toNat } :=
  State.whenBase_pos reached (if_pos other)

section
variable (party : s.base.mbxParty c.toNat who.toNat = true) (on : s.base.bankOn (s.base.mbxBank c.toNat) = true)
include party on

theorem execMbxCrossedClear_party :
    execMbxCrossedClear who c s = .next { s with base := s.base.updMbx c.toNat fun m => m.clearCrossed s.base.now } :=
  State.whenBase_pos reached ((if_neg (by simp [party])).trans (if_neg (by simp [on])))

/-- A management core, the endpoint or the mover reads a lock: a free one is its own from then on (R473). -/
theorem execMbxLockRead_party (core : 16 ≤ who.toNat) : execMbxLockRead who c s = .next { s with
    base := if (s.base.mbx c.toNat).lock = 0 then (s.base.updMbx c.toNat fun m => { m with lock := who.toNat + 1 }).emit (.mbxRead who.toNat 0)
    else s.base.emit (.mbxRead who.toNat (BitVec.ofNat 32 (s.base.mbx c.toNat).lock)) } := by
  have joined : ¬ (!s.base.mbxParty c.toNat who.toNat || (decide (who.toNat < 16) && s.base.coh.isolated.getLsbD who.toNat)) = true := by
    simp only [party, Bool.not_true, Bool.false_or, Bool.and_eq_true, decide_eq_true_eq]
    omega
  exact State.whenBase_pos reached ((if_neg joined).trans (if_neg (by simp [on])))

theorem execMbxLockRelease_party : execMbxLockRelease who c v s = .next { s with
    base := if fld v 4 0 = 0 ∧ (s.base.mbx c.toNat).lock = who.toNat + 1 then s.base.updMbx c.toNat fun m => { m with lock := 0 } else s.base } :=
  State.whenBase_pos reached ((if_neg (by simp [party])).trans (if_neg (by simp [on])))

end

/-- An identity that is no party of the channel is denied, and reads 0 (R467). -/
theorem mbxCommands_stranger (stranger : s.base.mbxParty c.toNat who.toNat = false) :
    execMbxCrossedClear who c s = .next { s with base := s.base.mbxDeny (s.base.mbxBank c.toNat) c.toNat who.toNat } ∧
    execMbxLockRelease who c v s = .next { s with base := s.base.mbxDeny (s.base.mbxBank c.toNat) c.toNat who.toNat } ∧
    execMbxLockRead who c s = .next { s with base := s.base.emit (.mbxRead who.toNat 0) } :=
  ⟨State.whenBase_pos reached (if_pos (by simp [stranger])), State.whenBase_pos reached (if_pos (by simp [stranger])),
    State.whenBase_pos reached (if_pos (by simp [stranger]))⟩

end

theorem MbxChan.clearCrossed_of_new (m : MbxChan) {now : Nat} (h : m.crossedAt = some now) : m.clearCrossed now = { m with crossed := m.crossed } := by
  have kept : (m.crossed && m.crossedAt == some now) = m.crossed := by simp [h]
  rw [MbxChan.clearCrossed, kept]

theorem MbxChan.clearCrossed_of_old (m : MbxChan) {now : Nat} (h : m.crossedAt ≠ some now) : m.clearCrossed now = { m with crossed := false } := by
  unfold MbxChan.clearCrossed
  simp [h]

/-! ### Power domains -/

/-- A bank whose domain is on, for 1 ms at least (R472). -/
def Base.stayOn (b : Base) (k : Nat) : Base :=
  b.updMg fun m => { m with wakeDone := setBit m.wakeDone k true, stayOn := Tab.set 0 m.stayOn k (b.now + 1000000) }

theorem Base.now_setDomain (b : Base) (k : Nat) (d : DomState) : (b.setDomain k d).now = b.now := by
  unfold Base.setDomain
  split <;> rfl

section
variable {s : State} {bank : BitVec 5}

theorem execMbxWake_mgmt (reached : s.base.reaches 16 = true) (bankOf : bank.toNat < 22) (inner : bank.toNat ≠ 16) :
    execMbxWake 16 bank s = .next { s with
    base := match s.base.domainOf bank.toNat with
      | .on => s.base.stayOn bank.toNat
      | .waking => s.base.updMg fun m => { m with wakeDone := setBit m.wakeDone bank.toNat false }
      | _ => (s.base.setDomain bank.toNat .waking).updMg fun m =>
          { m with wakeDone := setBit m.wakeDone bank.toNat false, wakeDue := Tab.set 0 m.wakeDue bank.toNat (s.base.now + wakeTime bank.toNat) } } := by
  have may : (s.base.reaches (16 : BitVec 5).toNat && decide (bank.toNat < 22)) = true := by
    simpa using ⟨reached, bankOf⟩
  refine State.whenBase_pos may ?_
  exact (if_neg fun h => h.1 rfl).trans (if_neg fun h => inner h.1)

theorem execMbxWakeDone_waking (alive : s.base.alive = true) (waking : s.base.domainOf bank.toNat = .waking) :
    execMbxWakeDone bank s = .next { s with
    base := if Tab.get 0 s.base.mg.wakeDue bank.toNat ≤ s.base.now then
        (s.base.setDomain bank.toNat .on).stayOn bank.toNat
      else s.base } := by
  refine State.whenBase_pos alive ?_
  simp only [Base.stayOn, Base.now_setDomain, waking, BEq.rfl, Bool.true_and, decide_eq_true_eq]

theorem execMbxWakeDone_other (other : s.base.domainOf bank.toNat ≠ .waking) : execMbxWakeDone bank s = .next s := by
  refine State.then_self ?_
  split
  · exact if_neg (by simp [other])
  · rfl

/-- The domain is one that may go off now, its FIFOs aside (R42, R471). -/
def Base.mayPowerOff (b : Base) (k : Nat) : Bool :=
  if k = 21 then b.mov.domain == .on && b.mov.slots.isEmpty && b.noRowWork && (List.range 64).all (fun q => (b.queue q).head == (b.queue q).tail)
  else decide (18 ≤ k ∧ k ≤ 20) && Tab.get DomState.on b.mg.pith (k - 17) == .on

/-- The locks of a bank's channels freed. -/
def Base.freeLocks (b : Base) (k : Nat) : Base := (b.bankChans k).foldl (fun b c => b.updMbx c fun m => { m with lock := 0 }) b

/-- A bank's domain without power. -/
def Base.powerOff (b : Base) (k : Nat) : Base :=
  Base.updMg (if k = 21 then (b.freeLocks k).updMov Mover.poweredOff else (b.freeLocks k).setDomain k .off) fun m => { m with wakeDone := setBit m.wakeDone k false }

theorem execDomainPowerOff_eq (runs : s.base.fwRuns = true) : execDomainPowerOff bank s = .next { s with
    base := if s.base.mayPowerOff bank.toNat && (s.base.bankChans bank.toNat).all (fun c => (s.base.mbx c).fifo.isEmpty)
      && decide (Tab.get 0 s.base.mg.stayOn bank.toNat ≤ s.base.now) then s.base.powerOff bank.toNat else s.base } :=
  State.whenBase_pos runs rfl

theorem execDomainPowerOff_off (runs : s.base.fwRuns = true) (may : s.base.mayPowerOff bank.toNat = true)
    (empty : ∀ c ∈ s.base.bankChans bank.toNat, (s.base.mbx c).fifo = []) (old : Tab.get 0 s.base.mg.stayOn bank.toNat ≤ s.base.now) :
    execDomainPowerOff bank s = .next { s with base := s.base.powerOff bank.toNat } := by
  have fifos : (s.base.bankChans bank.toNat).all (fun c => (s.base.mbx c).fifo.isEmpty) = true :=
    List.all_eq_true.mpr fun c hc => by simp [empty c hc]
  rw [execDomainPowerOff_eq runs, if_pos (by simp [may, old]; exact empty)]

theorem execDomainPowerOff_kept
    (h : s.base.now < Tab.get 0 s.base.mg.stayOn bank.toNat ∨ s.base.mayPowerOff bank.toNat = false) : execDomainPowerOff bank s = .next s := by
  by_cases runs : s.base.fwRuns = true
  · rw [execDomainPowerOff_eq runs, if_neg (by rcases h with h | h <;> simp [h])]
  · exact State.whenBase_neg (by simpa using runs)

end

/-- A domain goes off from on alone, and the mover's without row work alone. -/
theorem Base.mayPowerOff_eq_false {b : Base} {k : Nat} (h : b.domainOf k ≠ .on ∨ k = 21 ∧ b.noRowWork = false) : b.mayPowerOff k = false := by
  unfold Base.mayPowerOff Base.domainOf at *
  by_cases mover : k = 21
  · simp only [mover, if_true, true_and] at h ⊢
    rcases h with h | h <;> simp [h]
  · simp only [mover, if_false, false_and, or_false] at h ⊢
    by_cases pith : 18 ≤ k ∧ k ≤ 20
    · simp only [pith, and_self, if_true] at h
      simp [h]
    · simp [pith]

/-- Settles O47. -/
theorem mailboxesAndPowerDomains : Obligations.mailboxes_and_power_domains := by
  refine ⟨fun s who c v => ?_, fun s bank => ?_⟩
  · intro b w k x n denied reached
    refine ⟨fun sender free on listed => ?_, execMbxPost_denied reached, execMbxPop_receiver reached, execMbxPop_denied reached, fun party on => ?_,
      mbxCommands_stranger reached⟩
    · have post := execMbxPost_sender (v := v) reached sender free on listed
      refine ⟨fun full => post.trans ?_, fun room bad => post.trans ?_, fun room ok => post.trans ?_⟩
      · rw [if_pos full]
      · rw [if_neg (Nat.not_le.mpr room), if_pos (by simp only [Bool.not_eq_true']; exact bad)]
      · rw [if_neg (Nat.not_le.mpr room), if_neg (by simp only [Bool.not_eq_true', Bool.not_eq_false]; exact ok)]
    · have cleared := execMbxCrossedClear_party reached party on
      have released := execMbxLockRelease_party (v := v) reached party on
      refine ⟨fun old => cleared.trans ?_, fun new => cleared.trans ?_, fun core free => ?_, fun core owned => ?_, fun mine zero => released.trans ?_,
        fun other => released.trans ?_⟩
      · rw [Base.updMbx, MbxChan.clearCrossed_of_old _ old]
      · rw [Base.updMbx, MbxChan.clearCrossed_of_new _ new]
      · refine (execMbxLockRead_party reached party on core).trans ?_
        rw [if_pos free]
        rfl
      · refine (execMbxLockRead_party reached party on core).trans ?_
        rw [if_neg owned]
      · rw [if_pos ⟨zero, mine⟩]
        rfl
      · rw [if_neg fun h => other.elim (fun no => no h.2) fun no => no h.1]
  · intro b k state ready free
    refine ⟨fun reached bankOf inner => ?_, fun alive waking => ?_, execMbxWakeDone_other, fun runs on empty old => ⟨fun low high => ?_, fun mover idle drained noWork => ?_⟩,
      fun h => execDomainPowerOff_kept (h.imp_right Base.mayPowerOff_eq_false)⟩
    · have wake := execMbxWake_mgmt reached bankOf inner
      refine ⟨fun on => wake.trans ?_, fun waking => wake.trans ?_, fun h => wake.trans ?_⟩
      · rw [show s.base.domainOf bank.toNat = .on from on]
        rfl
      · rw [show s.base.domainOf bank.toNat = .waking from waking]
        rfl
      · rcases h with h | h
        · rw [show s.base.domainOf bank.toNat = .off from h]
          rfl
        · rw [show s.base.domainOf bank.toNat = .goingOff from h]
          rfl
    · have done := execMbxWakeDone_waking alive waking
      refine ⟨fun due => done.trans ?_, fun early => done.trans ?_⟩
      · rw [if_pos due]
        rfl
      · rw [if_neg (Nat.not_le.mpr early)]
    · have other : bank.toNat ≠ 21 := by omega
      have here : Tab.get DomState.on s.base.mg.pith (bank.toNat - 17) = .on := by
        have := on
        simpa [state, b, k, Base.domainOf, other, show 18 ≤ bank.toNat ∧ bank.toNat ≤ 20 from ⟨low, high⟩] using this
      have may : s.base.mayPowerOff bank.toNat = true := by
        rw [Base.mayPowerOff, if_neg other]
        simpa [here] using ⟨low, high⟩
      refine (execDomainPowerOff_off runs may empty old).trans ?_
      rw [Base.powerOff, if_neg other]
      rfl
    · have here : s.base.mov.domain = .on := by
        have := on
        simpa [state, b, k, Base.domainOf, show bank.toNat = 21 from mover] using this
      have may : s.base.mayPowerOff bank.toNat = true := by
        rw [Base.mayPowerOff, if_pos mover]
        simpa [here] using ⟨⟨idle, noWork⟩, drained⟩
      refine (execDomainPowerOff_off runs may empty old).trans ?_
      rw [Base.powerOff, if_pos mover]
      rfl

end Sys2Proof.Machine
end

section
/-! SUPPORT. The management endpoint, its diagnostic window, MCTP and I3C (R447 to R451, R416, R480). -/

namespace Sys2Proof.Machine

/-! ### The endpoint in reset -/

/-- The endpoint's PERST_N is held. -/
def Base.perst (b : Base) : Bool := b.mg.perstAsserted

theorem Base.perst_send (b : Base) (k : Kind) (src addr : Nat) : (b.send k src addr).perst = b.perst :=
  congrArg Mgmt.perstAsserted (b.send_mg k src addr none false)

theorem Base.perst_emptyBank (b : Base) (k : Nat) : (b.emptyBank k).perst = b.perst := by
  have emptied : ((b.bankChans k).foldl (fun b c => b.updMbx c fun m => { m with fifo := [] }) b).perst = b.perst :=
    foldl_keeps Base.perst (fun b c => b.updMbx c fun m => { m with fifo := [] }) (fun _ _ => rfl) _ b
  unfold Base.emptyBank
  extract_lets cs lost b'
  split
  · exact emptied
  · exact (Base.perst_send _ _ _ _).trans emptied

theorem Base.perst_freeLocksOf (b : Base) (w : Nat) : (b.freeLocksOf w).perst = b.perst := by
  unfold Base.freeLocksOf
  refine forN_keeps Base.perst 64 _ (fun c b => ?_) b
  split <;> rfl

theorem Base.perst_mgmtReset (b : Base) : b.mgmtReset.perst = b.perst := by
  have freed := ((b.emptyBank 16).perst_freeLocksOf 16).trans (b.perst_emptyBank 16)
  unfold Base.mgmtReset
  generalize (b.emptyBank 16).freeLocksOf 16 = c at freed ⊢
  exact freed

theorem Base.mgmtUp_of_perst {b : Base} (held : b.perst = true) : b.mgmtUp = false := by
  have held : b.mg.perstAsserted = true := held
  simp [Base.mgmtUp, held]

section
variable {s : State}

theorem execMgmtPerst_eq : execMgmtPerst s = .next { s with
    base := if s.base.alive then (s.base.updMg fun m => { m with perstAsserted := true }).mgmtReset
      else s.base.updMg fun m => { m with perstAsserted := true } } := rfl

/-- An offset without a register is counted and reported; a read of it answers zero (R449). -/
theorem execBarUnmapped_eq (up : s.base.mgmtUp = true) (off : BitVec 24) (write : Bool) :
    execBarUnmapped off write s = .next { s with
      base := if s.base.offers off.toNat && (regRow? off.toNat).isSome then (if write then s.base else s.base.emit (.command (.word 0)))
        else (if write then s.base else s.base.emit (.command (.word 0))).unmapped off.toNat } := by
  refine State.whenBase_pos up ?_
  cases write <;> rfl

/-! ### The diagnostic window (R451) -/

section
variable (full : s.base.mgmtFull = true)
include full

theorem diagWindow_closed (closed : s.base.windowOpen = false) (at_ : BitVec 28) (bytes : BitVec 10) (lines : List (BitVec 64 × Data)) :
    execDiagWindowRead at_ bytes s = .next { s with base := (s.base.windowRefuse at_.toNat).emit .diagAbort } ∧
    execDiagWindowWrite at_ lines s = .next { s with base := (s.base.windowRefuse at_.toNat).updMg fun m => { m with aerAbort := true } } :=
  ⟨State.whenBase_pos full (if_pos (by simp [closed])), State.whenBase_pos full (if_pos (by simp [closed]))⟩

theorem execDiagWindowRead_open (open_ : s.base.windowOpen = true) (at_ : BitVec 28) (bytes : BitVec 10) {dpa n : Nat}
    (hdpa : dpa = s.base.windowDpa at_.toNat) (hn : n = min (max 1 bytes.toNat) (2 ^ 28 - at_.toNat)) {r : List Nat × Base}
    (hr : r = s.base.diagTags ((dpa + n - 1) / 64 - dpa / 64 + 1)) :
    execDiagWindowRead at_ bytes s = .next { s with
      base := ((diagParts dpa n r.1).mapIdx fun i p => (dpa / 64 + i, p.tag)).foldl (fun (b : Base) (e : Nat × Nat) => b.diagLine e.1 e.2 (.rd .cur))
        (r.2.updMg fun m => { m with diagReads := m.diagReads ++ [diagParts dpa n r.1] }) } := by
  subst hdpa hn hr
  exact State.whenBase_pos full (if_neg (by simp [open_]))

omit full in
theorem foldl_mapIdx_zip_single {α β : Type} (f : β → Nat × α × Nat → β) (line tag : Nat) (x : α) (b : β) :
    (([x].zip [tag]).mapIdx fun i e => (line + i, e)).foldl f b = f b (line, x, tag) := rfl

/-- One line of a window write: with no byte enabled nothing, with every byte a whole write. -/
def Base.diagStore (b : Base) (x : Nat × (BitVec 64 × Data) × Nat) : Base :=
  if x.2.1.1 = 0 then b else b.diagLine x.1 x.2.2 (if x.2.1.1 = BitVec.allOnes 64 then .wr x.2.1.2 false else .ptl x.2.1.2 x.2.1.1)

omit full in
theorem Base.diagStore_whole (b : Base) (line tag : Nat) (d : Data) :
    b.diagStore (line, (BitVec.allOnes 64, d), tag) = b.diagLine line tag (.wr d false) := by
  have some : ¬ BitVec.allOnes 64 = 0 := by decide
  simp only [Base.diagStore, if_neg some, if_true]

theorem execDiagWindowWrite_open (open_ : s.base.windowOpen = true) (at_ : BitVec 28) (lines : List (BitVec 64 × Data)) :
    execDiagWindowWrite at_ lines s = .next { s with
      base := (((lines.take (2 ^ 22 - at_.toNat / 64)).zip (s.base.diagTags lines.length).1).mapIdx fun i e =>
        (s.base.windowDpa at_.toNat / 64 + i, e)).foldl Base.diagStore (s.base.diagTags lines.length).2 } :=
  State.whenBase_pos full (if_neg (by simp [open_]))

theorem execDiagWindowWrite_line (open_ : s.base.windowOpen = true) (at_ : BitVec 28) (d : Data) :
    execDiagWindowWrite at_ [(BitVec.allOnes 64, d)] s = .next { s with
      base := (s.base.diagTags 1).2.diagLine (s.base.windowDpa at_.toNat / 64) s.base.mg.diagTag (.wr d false) } := by
  have room : 1 ≤ 2 ^ 22 - at_.toNat / 64 := by have := at_.isLt; omega
  have tag : (s.base.diagTags 1).1 = [s.base.mg.diagTag] := by simp [Base.diagTags]
  rw [execDiagWindowWrite_open full open_]
  generalize 2 ^ 22 - at_.toNat / 64 = n at room ⊢
  generalize s.base.windowDpa at_.toNat / 64 = line
  rw [List.take_of_length_le room, List.length_singleton, tag, foldl_mapIdx_zip_single, Base.diagStore_whole]

end

/-! ### MCTP (R450) -/

section
variable {r : MctpReq}

theorem State.mctp_answered (up : s.base.transportUp r.transport = true) (good : r.good = true) (named : s.base.eid r.transport ≠ 0 ∨ r.toNull = true)
    (f : Base → Base) : (s.then_ fun b => b.mctpControl r f) = .next { s with base := f s.base } := by
  refine State.then_eq ((if_neg (by simp [up])).trans ((if_neg (by simp [good])).trans (if_neg ?_)))
  rintro ⟨zero, other⟩
  rcases named with named | null
  · exact named zero
  · simp [null] at other

theorem State.mctp_dropped (up : s.base.transportUp r.transport = true) (bad : r.good = false) (f : Base → Base) :
    (s.then_ fun b => b.mctpControl r f) = .next { s with base := s.base.mctpDrop } :=
  State.then_eq ((if_neg (by simp [up])).trans (if_pos (by simp [bad])))

theorem State.mctp_down (down : s.base.transportUp r.transport = false) (f : Base → Base) : (s.then_ fun b => b.mctpControl r f) = .next s :=
  State.then_self (if_pos (by simp [down]))

theorem fmApiMctp_dropped (up : s.base.transportUp r.transport = true) (h : r.good = false ∨ r.transport = .i3c) :
    execFmApiCommand (.mctp r) s = .next { s with base := s.base.mctpDrop } := by
  refine State.then_eq ((if_neg (by simp [up])).trans (if_pos ?_))
  rcases h with bad | i3c
  · simp [bad]
  · simp [i3c]

theorem fmApiMctp_answered (up : s.base.transportUp .pcie = true) (pcie : r.transport = .pcie) (good : r.good = true) (named : s.base.eid .pcie ≠ 0) :
    execFmApiCommand (.mctp r) s = .next { s with base := s.base.emit (.fmReply .success) } := by
  rw [← pcie] at up named
  exact State.then_eq ((if_neg (by simp [up])).trans ((if_neg (by simp [good, pcie])).trans (if_neg named)))

theorem fmApiMctp_down (down : s.base.transportUp r.transport = false) : execFmApiCommand (.mctp r) s = .next s :=
  State.then_self (if_pos (by simp [down]))

theorem fmApiTunnel_eq {port : PortBlk} (runs : s.base.fwRuns = true) (carries : (s.base.port port.toNat).carries = true) :
    execFmApiCommand (.tunnel port) s = .next { s with
      base := if tb (s.base.reg (Reg.PORT_LD_MODE port.toNat)) 0 then s.base.emit (.fmReply .success) else s.base.ldNotBound port.toNat } :=
  State.then_eq (if_neg (by simp [runs, carries]))

/-- The identity of a transport (R450). -/
theorem execMctpSetEndpointId_eq (up : s.base.transportUp r.transport = true) (good : r.good = true)
    (named : s.base.eid r.transport ≠ 0 ∨ r.toNull = true) (eid : Byte) : execMctpSetEndpointId r eid s = .next { s with
      base := if eid = 0 ∨ eid = 0xFF then s.base.emit (.mctp r.transport (.errorCode 2))
        else (s.base.updMg fun m => match r.transport with | .pcie => { m with eidPcie := eid } | .i3c => { m with eidI3c := eid }).emit
          (.mctp r.transport .success) } :=
  State.mctp_answered up good named _

end

/-! ### I3C addresses (R480) -/

theorem i3cAddress_given (alive : s.base.alive = true) (free : s.base.mg.i3cAddr = 0) (addr : BitVec 7) :
    execI3cEntdaa addr s = .next { s with base := (s.base.updMg fun m => { m with i3cAddr := addr }).emit (.command (.number i3cPid)) } ∧
    execI3cSetdasa 0x3C addr s = .next { s with base := s.base.updMg fun m => { m with i3cAddr := addr } } :=
  ⟨State.whenBase_pos alive (if_pos free), State.whenBase_pos alive (if_pos ⟨free, rfl⟩)⟩

theorem i3cAddress_kept (taken : s.base.mg.i3cAddr ≠ 0) (addr : BitVec 7) :
    execI3cEntdaa addr s = .next s ∧ execI3cSetdasa 0x3C addr s = .next s := by
  refine ⟨State.then_self ?_, State.then_self ?_⟩ <;> split
  · exact if_neg taken
  · rfl
  · exact if_neg fun h => taken h.1
  · rfl

end

/-- Settles O45. -/
theorem managementEndpointAndMctp : Obligations.management_endpoint_and_mctp := by
  refine ⟨fun s off at_ bytes lines => ?_, fun s r port eid addr => ?_⟩
  · intro b perst refused
    refine ⟨fun alive => ⟨?_, Base.mgmtUp_of_perst (Base.perst_mgmtReset _)⟩, fun held => ?_, rfl, fun up none => ?_, fun up offered some => ?_,
      fun full closed => diagWindow_closed full closed at_ bytes lines, fun full open_ => execDiagWindowRead_open full open_ at_ bytes rfl rfl rfl,
      fun d full open_ => execDiagWindowWrite_line full open_ at_ d⟩
    · refine execMgmtPerst_eq.trans ?_
      rw [if_pos alive]
      rfl
    · refine execMgmtPerst_eq.trans ?_
      rw [if_neg (Bool.eq_false_iff.mp held)]
      rfl
    · have missing : ¬ (s.base.offers off.toNat && (regRow? off.toNat).isSome) = true := by simp [none]
      refine ⟨(execBarUnmapped_eq up off true).trans ?_, (execBarUnmapped_eq up off false).trans ?_⟩ <;> rw [if_neg missing] <;> rfl
    · have there : (s.base.offers off.toNat && (regRow? off.toNat).isSome) = true := by
        simpa [Option.isSome_iff_ne_none] using ⟨offered, some⟩
      refine ⟨(execBarUnmapped_eq up off true).trans ?_, (execBarUnmapped_eq up off false).trans ?_⟩ <;> rw [if_pos there] <;> rfl
  · intro b answers dropped
    refine ⟨fun up good named => ?_, fun up bad => ⟨State.mctp_dropped up bad _, fmApiMctp_dropped up (Or.inl bad)⟩,
      fun up pcie good named => fmApiMctp_answered up pcie good named, fun up i3c => fmApiMctp_dropped (i3c ▸ up) (Or.inr i3c), fun runs carries => ?_,
      fun down => ⟨State.mctp_down down _, State.mctp_down down _, fmApiMctp_down down⟩, fun alive free => i3cAddress_given alive free addr,
      fun taken => i3cAddress_kept taken addr⟩
    · have set := execMctpSetEndpointId_eq up good named eid
      refine ⟨State.mctp_answered up good named _, State.mctp_answered up good named _, State.mctp_answered up good named _,
        State.mctp_answered up good named _, State.mctp_answered up good named _, fun some less pcie => set.trans ?_, fun some less i3c => set.trans ?_,
        fun h => set.trans (by rw [if_pos h])⟩
      · rw [if_neg (not_or.mpr ⟨some, less⟩), pcie]
        simp only [answers, pcie]
        rfl
      · rw [if_neg (not_or.mpr ⟨some, less⟩), i3c]
        simp only [answers, i3c]
        rfl
    · refine ⟨fun mode => (fmApiTunnel_eq runs carries).trans ?_, fun mode => (fmApiTunnel_eq runs carries).trans ?_⟩
      · rw [if_pos mode]
      · rw [if_neg (Bool.eq_false_iff.mp mode)]
        rfl

end Sys2Proof.Machine
end

section
/-! SUPPORT. Fuses, authenticated commands, the lifecycle and recovery (R428 to R441, R477). -/

namespace Sys2Proof.Machine

/-! ### Reading and programming -/

section
variable {s : State}

/-- What a fuse read leaves in the registers (R434, R445). -/
def Base.fuseSeen (b : Base) (v : Word) (data : Word) (flags : BitVec 4) : Base :=
  (b.setReg Reg.FUSE_RD_ADDR (v &&& 0x107FF)).updBoot fun x => { x with readValid := true, readData := data, readFlags := flags }

theorem execFuseRead_eq (up : s.base.mgmtUp = true) {v : Word} (plain : tb v 16 = false) (inside : fld v 10 0 < 0x600) {seen : Base}
    (h : seen = s.base.fuseSeen v (if hiddenWord (fld v 10 0) then 0 else otpRead s.otp s.base.boot.replaceTable (fld v 10 0))
      (BitVec.ofBool (hiddenWord (fld v 10 0)) ++ BitVec.ofBool (s.base.boot.replaceTable.any fun e => e.1 == fld v 10 0) ++ 0#1 ++
        BitVec.ofBool (!copiesAgree (Tab.get 0 s.otp (fld v 10 0))))) (low high : BitVec 96) :
    execFuseRead v low high s = .next { s with
      base := if copiesAgree (Tab.get 0 s.otp (fld v 10 0)) then seen
        else (seen.updDict fun d => { d with life := { d.life with fuseMargin := d.life.fuseMargin + 1 } }).send .fuseMarginal 0x5C3 (fld v 10 0) } := by
  subst h
  have below : decide (0x600 ≤ fld v 10 0) = false := decide_eq_false (by omega)
  refine State.whenBase_pos up ?_
  simp only [plain, below, Bool.false_and, Bool.or_false, BitVec.ofBool_false]
  cases copiesAgree (Tab.get 0 s.otp (fld v 10 0)) <;> rfl

/-- The lock words (R431). -/
theorem lockWords_any (w : Nat) : ((List.range 7).any fun r => lockWord r == some w) = true ↔ w = 0x3E ∨ w = 0x23E ∨ w = 0x502 ∨ w = 0x54E := by
  simp [List.range, List.range.loop, lockWord]
  omega

section
variable (alive : s.base.alive = true) (by_ : FuseBy) (word : BitVec 11) (value : Word)
include alive

theorem execFuseProgram_eq (other : word.toNat ≠ 0x40) : execFuseProgram by_ word value s =
    if (List.range 7).any fun r => lockWord r == some word.toNat then .next { s with base := s.base.send .fuseLockRefused 0x5C2 word.toNat }
    else match s.programReason by_ word.toNat value with
      | some r => .next { s with base := s.base.fuseRefused word.toNat r }
      | none => .next { s with base := s.base.fuseStart .program [(word.toNat, value)] } :=
  (if_neg (by simp [alive])).trans (if_neg other)

theorem execFuseProgram_lifecycle {k : Nat} (single : ((List.range 5).filter fun k => value.getLsbD k && !(otpRaw s.otp 0x40).getLsbD k) = [k]) :
    execFuseProgram by_ 0x40 value s = .next (s.advance k by_) := by
  refine (if_neg (by simp [alive])).trans ((if_pos rfl).trans ?_)
  rw [single]

end

/-- The bit that a program of one bit sets. -/
theorem filter_single_bit {w : Word} {k : Nat} (hk : k < 5) (clear : w.getLsbD k = false) :
    ((List.range 5).filter fun j => (BitVec.ofNat 32 (2 ^ k)).getLsbD j && !w.getLsbD j) = [k] := by
  have bit : ∀ j, j < 5 → (BitVec.ofNat 32 (2 ^ k)).getLsbD j = decide (j = k) := fun j hj => by
    rw [BitVec.getLsbD_ofNat, Nat.testBit_two_pow]
    simp [show j < 32 by omega, eq_comm]
  have same : ((List.range 5).filter fun j => (BitVec.ofNat 32 (2 ^ k)).getLsbD j && !w.getLsbD j) = (List.range 5).filter fun j => decide (j = k) := by
    refine List.filter_congr fun j hj => ?_
    rw [bit j (List.mem_range.mp hj)]
    by_cases here : j = k
    · simp [here, clear]
    · simp [here]
  rw [same]
  interval_cases k <;> rfl

/-! ### The end of a program -/

section
variable (alive : s.base.alive = true) {op : FuseOp} {w : Nat} {v : Word} {rest : List (Nat × Word)}
  (under : s.base.boot.fuseOp = some op) (queue : s.base.boot.fuseQueue = (w, v) :: rest)
include alive under queue

/-- The program of the word under way ends. -/
def Base.fuseClosed (b : Base) (w : Nat) (st : JournalState) : Base :=
  b.updBoot fun x => { x with journal := journalSet x.journal w st, fuseOp := none, fuseQueue := [] }

theorem execFuseProgramDone_ok {otp : Tab (BitVec 96)} (h : Tab.set 0 s.otp w (Tab.get 0 s.otp w ||| (v ++ v ++ v)) = otp) :
    execFuseProgramDone true s = .next { s with
      otp := otp
      base := Base.fuseStart (if op = .advance then (s.base.fuseClosed w .complete).send .lifecycleAdvanced 0x5C4 (lifecycleOf (otpRaw otp 0x40))
        else s.base.fuseClosed w .complete) op rest } := by
  subst h
  unfold execFuseProgramDone
  simp only [under, queue, alive, Bool.not_true, Bool.false_eq_true, if_false, if_true]
  rfl

theorem execFuseProgramDone_failed : execFuseProgramDone false s = .next { s with
    otp := Tab.set 0 s.otp w (Tab.get 0 s.otp w ||| partialBits s.base.free v)
    base := s.base.takeFree.2.fuseClosed w .failed } := by
  unfold execFuseProgramDone
  simp only [under, queue, alive, Bool.not_true, Bool.false_eq_true, if_false]
  rfl

end

theorem execFuseProgramDone_idle (idle : s.base.boot.fuseOp = none) (ok : Bool) : execFuseProgramDone ok s = .next s := by
  unfold execFuseProgramDone
  simp only [idle]

/-- A failed pulse leaves a part of the intended bits. -/
theorem partialBits_within (n : Nat) (v : Word) : partialBits n v &&& ~~~(v ++ v ++ v) = 0 := by
  unfold partialBits threeCopies
  ext i hi
  simp
  intro h _
  simp [h]

/-! ### Locks -/

section
variable (alive : s.base.alive = true) {region : Fin 7}
include alive

theorem execFuseLock_sealed {sw lw : Nat} (sealed : sealWord region.val = some sw) (lock : lockWord region.val = some lw) :
    execFuseLock region s = .next { s with
      base := if s.base.boot.fuseOp.isSome then s.base.send .fuseLockRefused 0x5C2 (lw + 5 * 2 ^ 16)
        else if sealVerifies (otpRaw s.otp) region.val sw && regionOpen s.base.boot.lifecycle region.val .firmware && !regionLocked s.otp region.val then
          s.base.fuseStart .lock [(lw, otpRaw s.otp lw ||| 1)]
        else s.base.send .fuseLockRefused 0x5C2 lw } := by
  refine State.whenBase_pos alive ?_
  simp only [sealed, lock]

theorem execFuseLock_unsealed (bare : sealWord region.val = none) :
    execFuseLock region s = .next { s with base := s.base.send .fuseLockRefused 0x5C2 (regionBase region.val) } := by
  refine State.whenBase_pos alive ?_
  simp only [bare]

end

/-! ### Authenticated commands (R440) -/

/-- The state with a command taken: the counter advances before it acts. -/
def State.commandTaken (s : State) : State :=
  { s with base := (s.base.updBoot fun x => { x with cmdCounter := x.cmdCounter + 1 }).emit (.command (.errorCode 0)) }

/-- The state with a command rejected. -/
def State.commandRejected (s : State) : State :=
  { s with base := (s.base.send .fuseCommandRejected 0x5C6 0).emit (.command (.errorCode 1)) }

section
variable (runs : s.base.fwRuns = true) (idle : s.base.boot.fuseOp = none) {a : AuthCmd} {allowed : Bool}
include runs idle

theorem State.authCommand_taken (good : s.authOk a = true) (may : allowed = true) (f : State → State) : s.authCommand a allowed f = f s.commandTaken :=
  (if_neg (by simp [runs])).trans ((if_neg (by simp [idle])).trans (if_neg (by simp [good, may])))

theorem State.authCommand_rejected (h : s.authOk a = false ∨ allowed = false) (f : State → State) : s.authCommand a allowed f = s.commandRejected :=
  (if_neg (by simp [runs])).trans ((if_neg (by simp [idle])).trans (if_pos (by rcases h with h | h <;> simp [h])))

/-- The seal slot that a graft takes: the first without a bit set (R438). -/
def graftFree (otp : Tab (BitVec 96)) : Option Nat :=
  (List.range 8).find? fun k => otpRaw otp (0x4C0 + 2 * k) == 0 && otpRaw otp (0x4C1 + 2 * k) == 0

/-- A graft taken: its batch started where every word may be programmed. -/
def State.graftOn (s : State) (a : AuthCmd) (entry : BitVec 7) (lines : List GraftLine) : State :=
  match graftFree s.otp with
  | none => { s with base := s.base.fuseRefused 0x4CE 3 }
  | some slot =>
    let ws := graftBatch (otpRaw s.otp) entry.toNat lines slot
    match ws.findSome? fun e => (s.programReason (.command a) e.1 e.2).map fun r => (e.1, r) with
    | some (w, r) => { s with base := s.base.fuseRefused w r }
    | none => { s with base := s.base.fuseStart .program ws }

omit runs idle in
theorem State.graftOn_starts {entry : BitVec 7} {lines : List GraftLine} {slot : Nat} (free : graftFree s.otp = some slot)
    (ok : ∀ e ∈ graftBatch (otpRaw s.otp) entry.toNat lines slot, s.programReason (.command a) e.1 e.2 = none) :
    s.graftOn a entry lines = { s with base := s.base.fuseStart .program (graftBatch (otpRaw s.otp) entry.toNat lines slot) } := by
  have clear : ((graftBatch (otpRaw s.otp) entry.toNat lines slot).findSome? fun e =>
      (s.programReason (.command a) e.1 e.2).map fun r => (e.1, r)) = none :=
    List.findSome?_eq_none_iff.mpr fun e he => by rw [ok e he]; rfl
  unfold State.graftOn
  simp only [free, clear]

theorem execGraftAppend_taken {entry : BitVec 7} {lines : List GraftLine} (good : s.authOk a = true) (fits : entry.toNat + lines.length ≤ 128) :
    execGraftAppend a entry lines s = .next (s.commandTaken.graftOn a entry lines) :=
  congrArg Host.Outcome.next (State.authCommand_taken runs idle good (decide_eq_true fits) fun s => s.graftOn a entry lines)

theorem execGraftAppend_rejected {entry : BitVec 7} {lines : List GraftLine} (h : s.authOk a = false ∨ 128 < entry.toNat + lines.length) :
    execGraftAppend a entry lines s = .next s.commandRejected :=
  congrArg Host.Outcome.next (State.authCommand_rejected runs idle (h.imp_right fun more => decide_eq_false (by omega)) _)

end

/-! ### Void words -/

theorem State.voidThem_open {by_ : FuseBy} {ws : List Nat} (h : ∀ w ∈ ws, regionOpen s.base.boot.lifecycle (regionOf w) by_ = true ∧
    voidable s.base.boot.journal w = true) :
    s.voidThem by_ ws = { s with base := s.base.fuseStart .program (ws.map fun w => (w, BitVec.allOnes 32)) } := by
  have none : (ws.find? fun w => !regionOpen s.base.boot.lifecycle (regionOf w) by_ || !voidable s.base.boot.journal w) = none :=
    List.find?_eq_none.mpr fun w hw => by simp [h w hw]
  unfold State.voidThem
  rw [none]

theorem State.voidThem_shut {by_ : FuseBy} {w : Nat} {rest : List Nat} (h : ¬ (regionOpen s.base.boot.lifecycle (regionOf w) by_ = true ∧
    voidable s.base.boot.journal w = true)) : s.voidThem by_ (w :: rest) = { s with base := s.base.fuseRefused w 1 } := by
  have first : (!regionOpen s.base.boot.lifecycle (regionOf w) by_ || !voidable s.base.boot.journal w) = true := by
    rw [← Bool.not_and, Bool.not_eq_true', Bool.eq_false_iff]
    exact fun both => h ((Bool.and_eq_true ..).mp both)
  have found : ((w :: rest).find? fun w => !regionOpen s.base.boot.lifecycle (regionOf w) by_ || !voidable s.base.boot.journal w) = some w :=
    List.find?_cons_of_pos first
  unfold State.voidThem
  rw [found]

theorem execVoidWords_firmware (alive : s.base.alive = true) (idle : s.base.boot.fuseOp = none) (words : List (BitVec 11)) :
    execVoidWords .firmware words s = .next (s.voidThem .firmware (words.map BitVec.toNat)) :=
  (if_neg (by simp [alive])).trans (if_neg (by simp [idle]))

/-! ### The margin scan -/

/-- The marginal words of a scan logged and reported, one by one (R441). -/
def Base.logMargins (b : Base) (otp : Tab (BitVec 96)) (ms : List (Nat × BitVec 96 × BitVec 96)) : Base :=
  ms.foldl (fun b m =>
    let c := Tab.get 0 otp m.1
    let b := b.updBoot fun x =>
      let l := x.marginLog ++ [(m.1, c, c ^^^ m.2.1, c ^^^ m.2.2, b.pl.epoch)]
      { x with marginLog := l.drop (l.length - 64) }
    b.send .fuseMarginal 0x5C3 m.1) b

/-- What no report of a marginal word changes. -/
def Base.scanKept (b : Base) : Nat × Mgmt × Power × Dram := (b.dict.life.fuseMargin, b.mg, b.pw, b.dram)

theorem Base.logMargins_kept (b : Base) (otp : Tab (BitVec 96)) (ms : List (Nat × BitVec 96 × BitVec 96)) :
    (b.logMargins otp ms).scanKept = b.scanKept :=
  foldl_keeps Base.scanKept _ (fun b m => by simp [Base.scanKept]) ms b

/-- The counts after a scan of n marginal words. -/
def Base.countMargins (b : Base) (n : Nat) : Base :=
  (b.updBoot fun x => { x with marginal := n }).updDict fun d => { d with life := { d.life with fuseMargin := d.life.fuseMargin + n } }

/-- In FIELD, with replacement on, the marginal words under a seal without a replacement are given one. -/
def Base.replaceMargins (b : Base) (otp : Tab (BitVec 96)) (ws : List Nat) : Base :=
  if b.boot.lifecycle = 3 ∧ tb (b.reg Reg.MARGIN_CFG) 8 ∧ b.boot.fuseOp = none then
    b.fuseStart .program (replacements otp (ws.filter fun w => governed (otpRaw otp) w && !(b.boot.replaceTable.any fun e => e.1 == w)))
  else b

/-- A program started changes the boot state alone, and not the count of marginal words. -/
theorem Base.fuseStart_kept (b : Base) (op : FuseOp) (ws : List (Nat × Word)) :
    (b.fuseStart op ws).scanKept = b.scanKept ∧ (b.fuseStart op ws).boot.marginal = b.boot.marginal := by
  cases ws <;> exact ⟨rfl, rfl⟩

theorem Base.replaceMargins_kept (b : Base) (otp : Tab (BitVec 96)) (ws : List Nat) :
    (b.replaceMargins otp ws).scanKept = b.scanKept ∧ (b.replaceMargins otp ws).boot.marginal = b.boot.marginal := by
  unfold Base.replaceMargins
  split
  · exact Base.fuseStart_kept ..
  · exact ⟨rfl, rfl⟩

theorem execMarginScan_eq (runs : s.base.fwRuns = true) (noise : List MarginNoise) {ms : List (Nat × BitVec 96 × BitVec 96)}
    (h : marginalWords s.otp noise = ms) :
    execMarginScan noise s = .next { s with base := ((s.base.logMargins s.otp ms).countMargins ms.length).replaceMargins s.otp (ms.map fun m => m.1) } := by
  subst h
  exact State.whenBase_pos runs rfl

theorem execMarginScan_spec (runs : s.base.fwRuns = true) (noise : List MarginNoise) : ∃ t : Base, execMarginScan noise s = .next { s with base := t } ∧
    t.boot.marginal = (marginalWords s.otp noise).length ∧
    t.dict.life.fuseMargin = s.base.dict.life.fuseMargin + (marginalWords s.otp noise).length ∧ t.mg = s.base.mg ∧ t.pw = s.base.pw ∧ t.dram = s.base.dram := by
  generalize hms : marginalWords s.otp noise = ms
  refine ⟨_, execMarginScan_eq runs noise hms, ?_⟩
  have logged := s.base.logMargins_kept s.otp ms
  generalize s.base.logMargins s.otp ms = c at logged ⊢
  obtain ⟨kept, marginal⟩ := (c.countMargins ms.length).replaceMargins_kept s.otp (ms.map fun m => m.1)
  generalize (c.countMargins ms.length).replaceMargins s.otp (ms.map fun m => m.1) = t at kept marginal ⊢
  simp only [Base.scanKept, Prod.mk.injEq] at logged kept
  obtain ⟨count, mg, pw, dram⟩ := logged
  obtain ⟨count', mg', pw', dram'⟩ := kept
  exact ⟨marginal, count'.trans (congrArg (· + ms.length) count), mg'.trans mg, pw'.trans pw, dram'.trans dram⟩

end

/-- Settles O42. -/
theorem fuseCommands : Obligations.fuse_commands := by
  refine ⟨fun s v by_ word value => ?_, fun s region sw lw a entry lines slot words noise => ?_⟩
  · intro b w seen replaced data read
    refine ⟨fun up plain inside => ⟨fun agree => ?_, fun differ => ?_⟩, fun alive not40 not3E not23E not502 not54E => ?_, fun alive lock => ?_,
      fun alive k hk clear single => ?_, fun op a x rest alive under queue => ?_, fun idle ok => execFuseProgramDone_idle idle ok⟩
    · refine (execFuseRead_eq up plain inside rfl 0 0).trans ?_
      rw [if_pos agree, show copiesAgree (Tab.get 0 s.otp (fld v 10 0)) = true from agree]
      rfl
    · refine (execFuseRead_eq up plain inside rfl 0 0).trans ?_
      rw [if_neg (Bool.eq_false_iff.mp differ), show copiesAgree (Tab.get 0 s.otp (fld v 10 0)) = false from differ]
      rfl
    · have other : ∀ n : BitVec 11, word ≠ n → word.toNat ≠ n.toNat := fun n h same => h (BitVec.eq_of_toNat_eq same)
      have no : ¬ ((List.range 7).any fun r => lockWord r == some word.toNat) = true := by
        rw [lockWords_any]
        rintro (h | h | h | h)
        · exact other 0x3E not3E h
        · exact other 0x23E not23E h
        · exact other 0x502 not502 h
        · exact other 0x54E not54E h
      have program := execFuseProgram_eq alive by_ word value (other 0x40 not40)
      rw [if_neg no] at program
      refine ⟨fun r why => program.trans ?_, fun free => program.trans ?_⟩
      · rw [why]
        rfl
      · rw [free]
        rfl
    · have yes : ((List.range 7).any fun r => lockWord r == some word.toNat) = true := by
        rw [lockWords_any]
        rcases lock with rfl | rfl | rfl | rfl <;> decide
      have other : word.toNat ≠ 0x40 := by rcases lock with rfl | rfl | rfl | rfl <;> decide
      exact (execFuseProgram_eq alive by_ word value other).trans (if_pos yes)
    · subst single
      exact execFuseProgram_lifecycle alive by_ _ (filter_single_bit hk clear)
    · intro closed otp
      refine ⟨fun other => (execFuseProgramDone_ok alive under queue rfl).trans ?_, fun advance => (execFuseProgramDone_ok alive under queue rfl).trans ?_,
        partialBits b.free x, partialBits_within b.free x, execFuseProgramDone_failed alive under queue⟩
      · rw [if_neg other]
        rfl
      · rw [if_pos advance]
        rfl
  · intro b r
    refine ⟨fun alive sealed lock => ⟨fun idle good open_ free => ?_, fun idle bad => ?_, fun op busy => ?_⟩, fun alive bare => execFuseLock_unsealed alive bare,
      fun runs => execMarginScan_spec runs noise, fun runs idle good fits free => ?_, fun runs idle h => execGraftAppend_rejected runs idle h,
      fun alive idle => ?_⟩
    · refine (execFuseLock_sealed alive sealed lock).trans ?_
      rw [if_neg (by simp [show s.base.boot.fuseOp = none from idle]), if_pos (by simp only [Bool.and_eq_true, Bool.not_eq_true']; exact ⟨⟨good, open_⟩, free⟩)]
    · refine (execFuseLock_sealed alive sealed lock).trans ?_
      rw [if_neg (by simp [show s.base.boot.fuseOp = none from idle]), if_neg (by simp only [Bool.and_eq_true]; exact fun h => Bool.eq_false_iff.mp bad h.1.1)]
    · refine (execFuseLock_sealed alive sealed lock).trans ?_
      rw [if_pos (by simp [show s.base.boot.fuseOp = some op from busy])]
    · intro taken u batch ok
      exact (execGraftAppend_taken runs idle good fits).trans (congrArg Host.Outcome.next (State.graftOn_starts free ok))
    · intro open_
      refine ⟨fun all => ?_, fun w rest first shut => ?_⟩
      · refine (execVoidWords_firmware alive idle words).trans (congrArg Host.Outcome.next ?_)
        refine (State.voidThem_open fun w hw => ?_).trans ?_
        · obtain ⟨x, hx, rfl⟩ := List.mem_map.mp hw
          exact all x hx
        · rw [List.map_map]
          rfl
      · subst first
        exact (execVoidWords_firmware alive idle _).trans (congrArg Host.Outcome.next (State.voidThem_shut shut))

end Sys2Proof.Machine
end

section
/-! SUPPORT. Authenticated lifecycle commands, the SVN floor, firmware slots and recovery (R428 to R430, R440, R477). -/

namespace Sys2Proof.Machine

section
variable {s : State}

/-! ### The lifecycle -/

section
variable (runs : s.base.fwRuns = true) (idle : s.base.boot.fuseOp = none) {a : AuthCmd}
include runs idle

theorem lifecycleCommands_taken (good : s.authOk a = true) :
    execLifecycleReturn a s = .next (s.commandTaken.advance 3 (.command a)) ∧
    execLifecycleVoid (.command a) s = .next (s.commandTaken.advance 4 (.command a)) :=
  ⟨congrArg Host.Outcome.next (State.authCommand_taken runs idle good rfl fun s => s.advance 3 (.command a)),
    congrArg Host.Outcome.next (State.authCommand_taken runs idle good rfl fun s => s.advance 4 (.command a))⟩

theorem lifecycleCommands_rejected (bad : s.authOk a = false) :
    execLifecycleReturn a s = .next s.commandRejected ∧ execLifecycleVoid (.command a) s = .next s.commandRejected :=
  ⟨congrArg Host.Outcome.next (State.authCommand_rejected runs idle (Or.inl bad) _),
    congrArg Host.Outcome.next (State.authCommand_rejected runs idle (Or.inl bad) _)⟩

theorem execJtagUnlock_taken (good : s.authOk a = true) (back : s.base.boot.lifecycle = 4) :
    execJtagUnlock a s = .next (s.commandTaken.onBase fun b => b.updBoot fun x => { x with jtagOpen := true }) :=
  congrArg Host.Outcome.next (State.authCommand_taken runs idle good (by simp [back]) fun s => s.onBase fun b => b.updBoot fun x => { x with jtagOpen := true })

theorem execJtagUnlock_rejected (h : s.authOk a = false ∨ s.base.boot.lifecycle ≠ 4) : execJtagUnlock a s = .next s.commandRejected :=
  congrArg Host.Outcome.next (State.authCommand_rejected runs idle (h.imp_right fun other => by simpa using other) _)

end

theorem State.advance_idle (idle : s.base.boot.fuseOp = none) (k : Nat) (by_ : FuseBy) :
    s.advance k by_ = { s with
      base := if s.advanceOk k by_ then s.base.fuseStart .advance [(0x40, otpRaw s.otp 0x40 ||| BitVec.ofNat 32 (2 ^ k))] else s.base.fuseRefused 0x40 1 } :=
  congrArg (fun b => { s with base := b }) (if_neg (by simp [idle]))

theorem execLifecycleAdvance_eq (alive : s.base.alive = true) (by_ : FuseBy) (bit : Fin 3) :
    execLifecycleAdvance by_ bit s = .next (s.advance bit.val by_) := if_pos alive

/-! ### The SVN floor -/

/-- A raise of the floor by an identity with the right: out of range above 1, else what firmware makes of it (R428). -/
theorem execRaiseSvnFloor_eq {p : OdPath} {v : Byte} (up : s.base.odUp p 2 0x1000 5 [v] = true)
    (may : tb (accessRow s.base.dict.access 0).2 (odWho p) = true) :
    execRaiseSvnFloor p v s = .next { s with
      base := if v.toNat ≤ 1 then (s.base.raiseFloor v.toNat).odAnswer p 0 1 [] else s.base.odAnswer p 7 0 [] } := by
  have value : ofLe [v] = v.toNat := rfl
  have allowed : ∀ row, s.base.odAllowed { range := 0 } (odWho p) 0x1000 5 row true = true := fun row => by
    have rowOk : s.base.rowAllowed (odWho p) 0x1000 row = true := by
      unfold Base.rowAllowed
      split <;> rfl
    exact (Bool.and_eq_true ..).mpr ⟨(Bool.and_eq_true ..).mpr ⟨may, rfl⟩, rowOk⟩
  have written := State.odWrite_eq (s := s) (data := [v]) (x := { range := 0 }) (t := .bool) (a := .wo) rfl rfl (Or.inl rfl) (allowed _) (by decide)
  have long : ¬ [v].length ≠ OdType.bool.bytes := by simp [OdType.bytes]
  have inRange : odInRange 0x1000 5 (s.base.cursor (odWho p) 0x1000) .bool (ofLe [v]) = decide (v.toNat ≤ 1) := by
    rw [value]
    rfl
  rw [if_neg long, inRange] at written
  have answered := fun {code : Nat} {b : Base} (h : s.odWrite (odWho p) 0x1000 5 [v] = (code, b)) =>
    congrArg (Host.Outcome.next (φ := Fault) (ρ := Refusal)) (State.odWriteOn_eq (x := { range := 0 }) (t := .bool) (a := .wo) up rfl rfl h)
  by_cases small : v.toNat ≤ 1
  · rw [if_neg (by simp [small]), value] at written
    rw [if_pos small]
    exact answered written
  · rw [if_pos (by simp [small])] at written
    rw [if_neg small]
    exact answered written

/-! ### Firmware slots and recovery -/

theorem execFirmwareSlotWrite_new (runs : s.base.fwRuns = true) {slotB : Bool} {img : Image} (other : slotB ≠ s.base.boot.slotB) (good : s.imageCode img = 0) :
    execFirmwareSlotWrite slotB img s = .next { s with base := s.base.updBoot fun x => { x with preferredB := slotB, new := true } } :=
  State.whenBase_pos runs (if_pos ⟨other, good⟩)

theorem execFirmwareSlotWrite_kept {slotB : Bool} {img : Image} (h : slotB = s.base.boot.slotB ∨ s.imageCode img ≠ 0) :
    execFirmwareSlotWrite slotB img s = .next s := by
  refine State.then_self ?_
  split
  · exact if_neg fun ⟨other, good⟩ => h.elim other fun bad => bad good
  · rfl

section
variable (up : s.base.mgmtUp = true) (slotB : Bool) (chunk : BitVec 7) (img : Image)
include up

theorem recoveryCommands_outside (outside : s.base.boot.recovery = false) :
    execRcvGo slotB chunk s = .next { s with base := s.base.updMg fun m => { m with rcvError := 3 } } ∧
    execRcvFinish slotB img s = .next { s with base := s.base.updMg fun m => { m with rcvError := 3 } } :=
  ⟨State.whenBase_pos up (if_pos (by simp [outside])), State.whenBase_pos up (if_pos (by simp [outside]))⟩

variable (inside : s.base.boot.recovery = true)
include inside

theorem recoveryCommands_busy (busy : s.base.mg.rcvBusy = true) : execRcvGo slotB chunk s = .next s ∧ execRcvFinish slotB img s = .next s :=
  ⟨State.whenBase_pos up ((if_neg (by simp [inside])).trans (if_pos busy)), State.whenBase_pos up ((if_neg (by simp [inside])).trans (if_pos busy))⟩

variable (free : s.base.mg.rcvBusy = false)
include free

theorem execRcvGo_starts : execRcvGo slotB chunk s = .next { s with base := s.base.updMg fun m =>
    { m with rcvBusy := true, rcvDone := false, rcvError := 0, rcvSlot := slotB, rcvChunk := chunk.toNat } } :=
  State.whenBase_pos up ((if_neg (by simp [inside])).trans (if_neg (by simp [free])))

theorem execRcvFinish_verifies {code : Nat} (h : s.imageCode img = code) {done : Base}
    (hd : (s.base.updMg fun m => { m with rcvDone := true, rcvError := 0, rcvResult := code, rcvSlot := slotB }).msixMgmt 7 = done) :
    execRcvFinish slotB img s = .next { s with
      base := if code = 0 then done.updBoot fun x => { x with preferredB := slotB, new := true, attempts := 0 } else done } := by
  subst h hd
  exact State.whenBase_pos up ((if_neg (by simp [inside])).trans (if_neg (by simp [free])))

end

theorem execRcvChunkDone_eq (alive : s.base.alive = true) (inside : s.base.boot.recovery = true) (busy : s.base.mg.rcvBusy = true) {error : BitVec 2}
    {e : Nat} (he : (if error.toNat ≤ 2 then error.toNat else 1) = e) {done : Base}
    (hd : (s.base.updMg fun m => { m with rcvBusy := false, rcvDone := true, rcvError := e }).msixMgmt 7 = done) :
    execRcvChunkDone error s = .next { s with base := if e = 0 then done else done.send .recoveryChunkFailed 0x583 done.mg.rcvChunk } := by
  subst he hd
  exact State.whenBase_pos (by simp [alive, inside, busy]) rfl

end

/-- Settles O43. -/
theorem lifecycleAndRecovery : Obligations.lifecycle_and_recovery := by
  refine ⟨fun s a by_ bit p v => ?_, fun s slotB img chunk error => ?_⟩
  · intro b taken u rejected w
    refine ⟨fun runs idle good => ?_, fun runs idle bad => ?_, fun alive idle => ⟨fun ok => ?_, fun bad => ?_⟩, fun up may => ?_,
      fun down => congrArg Host.Outcome.next (State.odWriteOn_of_down down)⟩
    · obtain ⟨back, void⟩ := lifecycleCommands_taken runs idle good
      exact ⟨back, void, fun returned => execJtagUnlock_taken runs idle good returned, fun other => execJtagUnlock_rejected runs idle (Or.inr other)⟩
    · obtain ⟨back, void⟩ := lifecycleCommands_rejected runs idle bad
      exact ⟨back, void, execJtagUnlock_rejected runs idle (Or.inl bad)⟩
    · refine (execLifecycleAdvance_eq alive by_ bit).trans ?_
      rw [State.advance_idle idle, if_pos ok]
    · refine (execLifecycleAdvance_eq alive by_ bit).trans ?_
      rw [State.advance_idle idle, if_neg (Bool.eq_false_iff.mp bad)]
    · have raise := execRaiseSvnFloor_eq up may
      refine ⟨?_, ?_, fun big => raise.trans (by rw [if_neg (by omega)])⟩
      · rintro rfl
        exact raise
      · rintro rfl
        exact raise
  · intro b out going code
    refine ⟨fun runs other good => execFirmwareSlotWrite_new runs other good, execFirmwareSlotWrite_kept,
      fun up outside => recoveryCommands_outside up slotB chunk img outside,
      fun up inside free => ⟨execRcvGo_starts up slotB chunk inside free, execRcvFinish_verifies up slotB img inside free rfl rfl⟩,
      fun up inside busy => recoveryCommands_busy up slotB chunk img inside busy, fun alive inside busy => execRcvChunkDone_eq alive inside busy rfl rfl⟩

end Sys2Proof.Machine
end

section
/-! SUPPORT. Resets and the boot (R415 to R427, R429, R501, R535). -/

namespace Sys2Proof.Machine

section
variable {s : State}

/-! ### Reset commands and timers -/

section
variable (up : s.base.mgmtUp = true) (v : Word)
include up

theorem resetCmds_eq : execResetCmdWarm v s = .next (s.resetCmd v) ∧ execResetCmdCold v s = .next (s.resetCmd v) := ⟨if_pos up, if_pos up⟩

end

theorem State.resetCmd_refused {v : Word} (bad : fld v 31 16 ≠ 0x7A5E) : s.resetCmd v = { s with base := s.base.send .resetCmdRefused 0x5C5 0 } := if_pos bad

/-- A cold reset by command falls due after 10 µs, an earlier one as it was (R417). -/
def Base.coldLater (b : Base) : Base := if b.boot.coldDue.isSome then b else b.updBoot fun x => { x with coldDue := some (b.now + 10000) }

theorem State.resetCmd_keyed {v : Word} (key : fld v 31 16 = 0x7A5E) : s.resetCmd v =
    match fld v 1 0 with
    | 1 => s.warmBoot 2
    | 2 => { s with base := s.base.coldLater }
    | _ => s := if_neg (not_not.mpr key)

theorem execWatchdogExpire_early (early : s.base.now < s.base.boot.kickedAt + 1000000 * s.base.rf Reg.WDOG_CFG 15 0) : execWatchdogExpire s = .next s :=
  if_neg (by simp only [Bool.and_eq_true, decide_eq_true_eq]; omega)

theorem execWatchdogExpire_due (alive : s.base.alive = true) (run : s.base.boot.run = true)
    (due : s.base.boot.kickedAt + 1000000 * s.base.rf Reg.WDOG_CFG 15 0 ≤ s.base.now) : execWatchdogExpire s = .next (s.warmBoot 3) :=
  if_pos (by simp only [Bool.and_eq_true, decide_eq_true_eq]; exact ⟨⟨alive, run⟩, due⟩)

theorem execBootTimerExpire_early (early : s.base.now < s.base.boot.bootAt + 500000000) : execBootTimerExpire s = .next s :=
  if_neg (by simp only [Bool.and_eq_true, decide_eq_true_eq]; omega)

theorem execBootTimerExpire_due (alive : s.base.alive = true) (booting : s.base.boot.run = false) (due : s.base.boot.bootAt + 500000000 ≤ s.base.now) :
    execBootTimerExpire s = .next (s.warmBoot 3) :=
  if_pos (by simp only [Bool.and_eq_true, decide_eq_true_eq, Bool.not_eq_true']; exact ⟨⟨alive, booting⟩, due⟩)

theorem State.warmBoot_keeps (s : State) (kind : Nat) :
    (s.warmBoot kind).mem = s.mem ∧ (s.warmBoot kind).rind = s.rind ∧ (s.warmBoot kind).pending = s.pending := by
  have frame := Frame.warmBoot (a := false) (r := false) s kind
  exact ⟨frame.mem rfl, frame.rind rfl, frame.pending⟩

/-! ### The release of a cold reset -/

/-- A cold reset by command has fallen due. -/
def Base.coldFallen (b : Base) : Bool := match b.boot.coldDue with | some t => decide (t ≤ b.now) | none => false

/-- What the release of a reset reads (R48, R429). -/
def Base.released (b : Base) (straps : Byte) (gradeE : Bool) (lifecycle : Nat) : Base :=
  let boots := satAdd 0xFFFFFFFF b.dict.life.coldBoots 1
  ({ b with links := { b.links with straps := straps }, dict := { b.dict with life := { b.dict.life with coldBoots := boots } } } : Base).updBoot fun x =>
    { x with coldHeld := false, gradeE := gradeE, powerOns := boots, lifecycle := lifecycle }

section
variable (straps : Byte) (gradeE : Bool) (mram : BootRecords)

theorem coldRelease_ignored (strapError : Bool) (h : s.base.pw.tripped = true ∨ s.base.pack.serdesOff = true ∨ s.base.boot.coldHeld = false ∧ s.base.coldFallen = false) :
    execInternalColdResetRelease straps strapError gradeE mram s = .next s := by
  refine if_pos ?_
  show (s.base.pw.tripped || s.base.pack.serdesOff || !(s.base.boot.coldHeld || (s.base.coldFallen && s.base.alive))) = true
  rcases h with h | h | ⟨held, due⟩
  · simp [h]
  · simp [h]
  · simp [held, due]

variable (untripped : s.base.pw.tripped = false) (rails : s.base.pack.serdesOff = false)
include untripped rails

theorem coldRelease_of_held (held : s.base.boot.coldHeld = true) {b : Base} (h : s.base.released straps gradeE (lifecycleOf (otpRaw s.otp 0x40)) = b) :
    execInternalColdResetRelease straps false gradeE mram s =
      .next (({ s with base := { b with flt := { b.flt with faultNLow := false } } } : State).bootStart true mram) := by
  subst h
  unfold execInternalColdResetRelease
  simp only [untripped, rails, held, Bool.true_or, Bool.not_true, Bool.or_false, Bool.false_eq_true, if_false, if_true]
  rfl

theorem coldRelease_of_due (free : s.base.boot.coldHeld = false) (due : s.base.coldFallen = true) (alive : s.base.alive = true) :
    ∃ f : Base → Base, execInternalColdResetRelease straps false gradeE mram s = .next (((s.coldReset 1 false).onBase f).bootStart true mram) := by
  have goes : ¬ (s.base.pw.tripped || s.base.pack.serdesOff || !(s.base.boot.coldHeld || (s.base.coldFallen && s.base.alive))) = true := by
    simp [untripped, rails, due, alive]
  refine ⟨fun b => b.released straps gradeE (lifecycleOf (otpRaw (s.coldReset 1 false).otp 0x40)), (if_neg goes).trans ?_⟩
  dsimp only
  rw [free]
  rfl

end

/-- A cold reset loses the arrays, and Rind keeps its own supply. -/
theorem State.coldReset_bootStart_keeps (s : State) (f : Base → Base) (m : BootRecords) :
    (((s.coldReset 1 false).onBase f).bootStart true m).mem = [] ∧ (((s.coldReset 1 false).onBase f).bootStart true m).rind = s.rind := by
  have boot := Frame.bootStart (a := false) (r := false) (f := false) ((s.coldReset 1 false).onBase f) true m
  have reset := Frame.coldReset (r := false) s 1 false
  exact ⟨boot.mem rfl, (boot.rind rfl).trans (reset.rind rfl)⟩

end

/-! ### Records of MRAM that boot code reads -/

section
variable (b : Base)

/-- A record read changes no boot state. -/
theorem Base.boot_readRecord (k : Nat) (r : RecordRead) : (b.readRecord k r).boot = b.boot := by
  cases r <;> simp [Base.readRecord, Base.countMram, Base.takeFree]

theorem Base.readRecords_sound {m : BootRecords} (boot : m.bootRecord = .sound) (directory : m.directory = .sound) : b.readRecords m = b := by
  unfold Base.readRecords
  simp only [boot, directory]
  rfl

theorem Base.readRecords_boot_lost {m : BootRecords} (lost : m.bootRecord = .lost) :
    (b.readRecords m).boot.preferredB = false ∧ (b.readRecords m).boot.new = false ∧ (b.readRecords m).boot.attempts = 0 ∧
      (b.readRecords m).boot.svnFloor = 0 := by
  have boot : (b.readRecords m).boot =
      { (b.readRecord 1 .lost).boot with preferredB := false, new := false, attempts := 0, svnFloor := 0 } := by
    unfold Base.readRecords
    simp only [lost, if_true]
    split <;> exact Base.boot_readRecord _ 2 m.directory
  rw [boot]
  exact ⟨rfl, rfl, rfl, rfl⟩

theorem Base.readRecords_directory_lost {m : BootRecords} (lost : m.directory = .lost) :
    (b.readRecords m).dict.active = 0 ∧ (b.readRecords m).dict.previous = 0 := by
  unfold Base.readRecords
  simp only [lost, if_true]
  exact ⟨rfl, rfl⟩

theorem Base.readActive_lost (used : b.dict.active ≠ 0) :
    (b.readActive .lost).dict.active = b.dict.previous ∧ (b.readActive .lost).dict.previous = 0 := by
  have kept : (b.readRecord 3 .lost).dict = b.dict := by simp [Base.readRecord]
  unfold Base.readActive
  rw [if_neg used, if_pos rfl]
  exact ⟨congrArg Dict.previous kept, rfl⟩

end

/-- Settles O40. -/
theorem resetsWarmAndCold : Obligations.resets_warm_and_cold := by
  refine ⟨fun s v => ?_, fun s straps gradeE mram => ?_⟩
  · intro b delayed
    refine ⟨fun up => ?_, fun runs => if_pos runs, execWatchdogExpire_due, execWatchdogExpire_early, execBootTimerExpire_due, execBootTimerExpire_early,
      s.warmBoot_keeps⟩
    obtain ⟨warm, cold⟩ := resetCmds_eq up v
    refine ⟨fun bad => ?_, fun key one => warm.trans ?_, fun key two => cold.trans ?_, fun key none => ?_⟩
    · have refused := congrArg (Host.Outcome.next (φ := Fault) (ρ := Refusal)) (State.resetCmd_refused (s := s) bad)
      exact ⟨warm.trans refused, cold.trans refused⟩
    · rw [State.resetCmd_keyed key, one]
      rfl
    · rw [State.resetCmd_keyed key, two]
      rfl
    · have nothing : s.resetCmd v = s := by
        rw [State.resetCmd_keyed key]
        rcases none with h | h <;> rw [h] <;> rfl
      exact ⟨warm.trans (congrArg _ nothing), cold.trans (congrArg _ nothing)⟩
  · intro b run
    refine ⟨fun untripped rails held => ?_,
      fun h => coldRelease_ignored straps gradeE mram false (h.imp_right Or.inl), fun free none => coldRelease_ignored straps gradeE mram false (Or.inr (Or.inr ⟨free, ?_⟩)),
      fun untripped rails free ⟨t, set, due⟩ alive => ?_, b.readRecords_sound, b.readRecords_boot_lost, b.readRecords_directory_lost, b.readActive_lost⟩
    · rw [show run = _ from coldRelease_of_held straps gradeE mram untripped rails held rfl]
      rfl
    · unfold Base.coldFallen
      rw [none]
    · have fallen : s.base.coldFallen = true := by
        unfold Base.coldFallen
        rw [set]
        exact decide_eq_true due
      obtain ⟨f, runs⟩ := coldRelease_of_due straps gradeE mram untripped rails free fallen alive
      exact ⟨_, runs, s.coldReset_bootStart_keeps f mram⟩

/-! ### The boot -/

section
variable {s : State} {slotB : Bool} {img : Image}

theorem execImageLoaded_eq (alive : s.base.alive = true) (booting : s.base.boot.run = false) (empty : s.base.boot.loaded = false)
    (turn : s.base.boot.nextSlot = some slotB) {marked told : Base} {code addr : Nat} (hcode : s.imageCode img = code)
    (haddr : code + (if slotB then 16 else 0) = addr)
    (hmarked : (s.base.updBoot fun x => if slotB then { x with rejectedB := true } else { x with rejectedA := true }) = marked)
    (htold : marked.send .bootImageRejected 0x5C1 addr = told) :
    execImageLoaded slotB img s = .next { s with
      base := if code = 0 then s.base.updBoot fun x => { x with
          loaded := true, slotB := slotB, fwVersion := img.version, fwSvn := img.svn.toNat, haveImage := true, sramDigest := img.digest
          aonDigest := img.digest }
        else if told.boot.nextSlot.isNone then told.enterRecoveryMode addr else told } := by
  subst hcode haddr hmarked htold
  exact State.whenBase_pos (by simp [alive, booting, empty, turn]) rfl

theorem execImageLoaded_other (other : s.base.boot.nextSlot ≠ some slotB) : execImageLoaded slotB img s = .next s :=
  State.whenBase_neg (by simp [other])

theorem execBootExit_starts (alive : s.base.alive = true) (booting : s.base.boot.run = false) (loaded : s.base.boot.loaded = true) :
    execBootExit 17 s = .next { s with base := (s.base.updBoot fun x => { x with
      run := true, attempts := min 3 (s.base.boot.attempts + 1), kickedAt := s.base.now }).sendHeld.firmwareLtr.firmwareLabels.firmwareRecords } :=
  State.whenBase_pos (by simp [alive, booting, loaded]) rfl

theorem execBootExit_ignored {who : BitVec 5} (h : who.toNat ≠ 17 ∨ s.base.boot.loaded = false ∨ s.base.boot.run = true) :
    execBootExit who s = .next s :=
  State.whenBase_neg (by rcases h with h | h | h <;> simp [h])

/-- Memory opened (R426), before the window of a version on trial. -/
def Base.memoryOpened (b : Base) : Base :=
  { b with
    boot := { b.boot with memActive := true, attempts := 0, new := false }
    flt := { b.flt with shadows := b.flt.shadows.map fun (x : Shadow) => if x.block = 18 then { x with closeAt := min x.closeAt (b.now + 3000) } else x } }

theorem execMemoryActive_opens (runs : s.base.fwRuns = true) (shut : s.base.boot.memActive = false) (free : s.base.flt.hold = false)
    (sound : s.base.flt.fatal = false) (ready : s.base.memoryReady = true) : execMemoryActive s = .next { s with
      base := Base.sendDeferred (if s.base.dict.onTrial then s.base.memoryOpened.updDict fun d =>
        { d with windowEnd := some (s.base.pl.epochs + 1000000 * s.base.activeVersion.windowS) } else s.base.memoryOpened) } := by
  refine State.whenBase_pos (by simp [runs, shut, free, sound, ready]) ?_
  have trial : (s.base.updBoot fun x => { x with memActive := true, attempts := 0, new := false }).dict.onTrial = s.base.dict.onTrial := rfl
  dsimp only
  rw [trial]
  split <;> rfl

theorem execMemoryActive_waits (h : s.base.memoryReady = false ∨ s.base.flt.hold = true ∨ s.base.flt.fatal = true) : execMemoryActive s = .next s :=
  State.whenBase_neg (by rcases h with h | h | h <;> simp [h])

theorem execWdogKick_taken {who : BitVec 5} {v : Word} (alive : s.base.alive = true) (run : s.base.boot.run = true) (least : 17 ≤ who.toNat)
    (most : who.toNat ≤ 20) (kick : tb v 0 = true) :
    execWdogKick who v s = .next { s with base := s.base.updBoot fun x => { x with kickedAt := s.base.now } } :=
  State.whenBase_pos (by simp [alive, run, least, most, kick]) rfl

theorem execWdogKick_ignored {who : BitVec 5} {v : Word} (h : who.toNat < 17 ∨ 20 < who.toNat ∨ tb v 0 = false) : execWdogKick who v s = .next s := by
  refine State.whenBase_neg ?_
  rcases h with h | h | h
  · simp [Nat.not_le.mpr h]
  · simp [Nat.not_le.mpr h]
  · simp [h]

end

/-- Settles O41. -/
theorem bootCommands : Obligations.boot_commands := by
  intro s slotB img who v b
  refine ⟨fun alive booting empty turn => ⟨fun good => ?_, fun bad => ?_⟩, execImageLoaded_other, execBootExit_starts, execBootExit_ignored,
    execMemoryActive_opens, execMemoryActive_waits, execWdogKick_taken, execWdogKick_ignored⟩
  · exact (execImageLoaded_eq alive booting empty turn good rfl rfl rfl).trans (by rw [if_pos rfl]; rfl)
  · exact (execImageLoaded_eq alive booting empty turn rfl rfl rfl rfl).trans (by rw [if_neg bad])

end Sys2Proof.Machine
end

section
/-! SUPPORT. Reaction timers, acknowledgements, counted resets, shadows and the log (R392 to R412). -/

namespace Sys2Proof.Machine

/-- A command changes nothing where its condition fails or its effect leaves the base state. -/
theorem State.whenBase_kept {s : State} {p : Base → Bool} {f : Base → Base} (h : p s.base = true → f s.base = s.base) : s.whenBase p f = .next s := by
  by_cases up : p s.base = true
  · exact State.whenBase_pos up (h up)
  · exact State.whenBase_neg (Bool.not_eq_true _ ▸ up)

/-! ### Timers -/

/-- A timer of a scope, first or second, is past its boundary (R394, R395). -/
def Base.timerDue (b : Base) (scope : Nat) (second : Bool) : Prop := ∃ t ∈ b.flt.timers, t.scope = scope ∧ t.second = second ∧ 1000 * t.due < b.now

section
variable {s : State} {scope : BitVec 6}

theorem Base.any_first_timer (b : Base) (n : Nat) : (b.flt.timers.any fun t => t.scope == n && !t.second && b.expired t) = true ↔ b.timerDue n false := by
  simp [Base.timerDue, Base.expired, and_assoc]

theorem Base.any_second_timer (b : Base) (n : Nat) : (b.flt.timers.any fun t => t.scope == n && t.second && b.expired t) = true ↔ b.timerDue n true := by
  simp [Base.timerDue, Base.expired, and_assoc]

theorem execReactionTimerExpire_due (alive : s.base.alive = true) (due : s.base.timerDue scope.toNat false) :
    execReactionTimerExpire scope s = .next { s with base := s.base.escalate scope.toNat } :=
  State.whenBase_pos alive (if_pos ((s.base.any_first_timer _).mpr due))

theorem execReactionTimerExpire_early (early : ¬ s.base.timerDue scope.toNat false) : execReactionTimerExpire scope s = .next s :=
  State.whenBase_kept fun _ => if_neg fun any => early ((s.base.any_first_timer _).mp any)

theorem execEscalateTimerExpire_early (early : ¬ s.base.timerDue scope.toNat true) : execEscalateTimerExpire scope s = .next s :=
  State.whenBase_kept fun _ => if_neg fun any => early ((s.base.any_second_timer _).mp any)

theorem execEscalateTimerExpire_due (alive : s.base.alive = true) (due : s.base.timerDue scope.toNat true) :
    execEscalateTimerExpire scope s = .next { s with
      base := ({ s.base with flt := { s.base.flt with timers := s.base.flt.timers.filter fun t => t.scope != scope.toNat } }).send
        .escalatedFatal 0x5B8 scope.toNat } :=
  State.whenBase_pos alive (if_pos ((s.base.any_second_timer _).mpr due))

end

/-! ### Acknowledgement -/

/-- An acknowledgement that leaves no entry of the scope open ends its timers and its escalation (R393). -/
theorem Base.acknowledge_last (b : Base) {a q : Nat}
    (all : ∀ e ∈ b.flt.log, e.msg.kind.cls = .contained → b.scopeOf e.msg = a → e.acked = true ∨ e.seq ≤ q) :
    (∀ t ∈ (b.acknowledge a q).flt.timers, t.scope ≠ a) ∧ a ∉ (b.acknowledge a q).flt.escalated := by
  have open_none : (b.flt.log.map fun e => if (decide (e.msg.kind.cls = .contained) && b.scopeOf e.msg == a) && decide (e.seq ≤ q)
      then { e with acked := true } else e).filter (fun e => (decide (e.msg.kind.cls = .contained) && b.scopeOf e.msg == a) && !e.acked) = [] := by
    rw [List.filter_eq_nil_iff]
    intro x hx
    obtain ⟨e, he, rfl⟩ := List.mem_map.mp hx
    by_cases mine : (decide (e.msg.kind.cls = .contained) && b.scopeOf e.msg == a) = true
    · have := all e he (by simp at mine; exact mine.1) (by simp at mine; exact mine.2)
      by_cases old : e.seq ≤ q
      · simp [mine, old]
      · simp [old, this.resolve_right old]
    · simp only [mine, Bool.false_and, Bool.false_eq_true, if_false, not_false_eq_true]
  simp only [Base.acknowledge, open_none]
  simp

section
variable {s : State} {v : Word} (full : s.base.mgmtFull = true)
include full

theorem execFaultAck_go (go : tb v 31 = true) (known : fld v 5 0 ≤ 48) :
    execFaultAck v s = .next { s with base := s.base.acknowledge (fld v 5 0) (s.base.reg Reg.FAULT_ACK_SEQ).toNat } :=
  State.whenBase_pos full (if_pos ⟨go, known⟩)

theorem execFenceClear_go (go : tb v 31 = true) (fenced : s.base.flt.fenced.getLsbD (fld v 4 0) = true) :
    execFenceClear v s = .next { s with base := { s.base with flt := { s.base.flt with unfence := setBit s.base.flt.unfence (fld v 4 0) true } } } :=
  State.whenBase_pos full (if_pos ⟨go, fenced⟩)

theorem execReleaseFaultN_early (low : s.base.flt.faultNLow = true) (early : s.base.now < s.base.flt.pulseEnd) :
    execReleaseFaultN s = .next { s with base := { s.base with flt := { s.base.flt with releasePending := true } } } :=
  State.whenBase_pos full ((if_neg (by simp [low])).trans (if_pos early))

theorem execReleaseFaultN_late (low : s.base.flt.faultNLow = true) (late : s.base.flt.pulseEnd ≤ s.base.now) :
    execReleaseFaultN s = .next { s with base := { s.base with flt := { s.base.flt with faultNLow := false } } } :=
  State.whenBase_pos full ((if_neg (by simp [low])).trans (if_neg (by omega)))

end

section
variable {s : State} {v : Word}

theorem execFaultAck_kept (no : tb v 31 = false ∨ 48 < fld v 5 0) : execFaultAck v s = .next s :=
  State.whenBase_kept fun _ => if_neg fun ⟨go, known⟩ => no.elim (by simp [go]) (by omega)

theorem execFenceClear_kept (no : s.base.flt.fenced.getLsbD (fld v 4 0) = false ∨ tb v 31 = false) : execFenceClear v s = .next s :=
  State.whenBase_kept fun _ => if_neg fun ⟨go, fenced⟩ => no.elim (by simp [fenced]) (by simp [go])

theorem execReleaseFaultN_high (high : s.base.flt.faultNLow = false) : execReleaseFaultN s = .next s :=
  State.whenBase_kept fun _ => if_pos (by simp [high])

theorem execFaultNPulseEnd_due (alive : s.base.alive = true) (wait : s.base.flt.releasePending = true) (due : s.base.flt.pulseEnd ≤ s.base.now) :
    execFaultNPulseEnd s = .next { s with base := { s.base with flt := { s.base.flt with faultNLow := false, releasePending := false } } } :=
  State.whenBase_pos alive (if_pos ⟨wait, due⟩)

theorem execFaultNPulseEnd_kept (no : s.base.flt.releasePending = false ∨ s.base.now < s.base.flt.pulseEnd) : execFaultNPulseEnd s = .next s :=
  State.whenBase_kept fun _ => if_neg fun ⟨wait, due⟩ => no.elim (by simp [wait]) (by omega)

/-! ### Counted resets and shadows -/

theorem execResetCtrl_go (full : s.base.mgmtFull = true) (go : tb v 31 = true) (known : fld v 4 0 ≤ 17) :
    execResetCtrl v s = .next { s with base := s.base.countedReset (fld v 4 0) } :=
  State.whenBase_pos full (if_pos ⟨go, known⟩)

theorem execResetCtrl_kept (no : tb v 31 = false ∨ 17 < fld v 4 0) : execResetCtrl v s = .next s :=
  State.whenBase_kept fun _ => if_neg fun ⟨go, known⟩ => no.elim (by simp [go]) (by omega)

theorem Base.countedReset_few (b : Base) {k : Nat} (few : (b.recentResets k).length < 3) : b.countedReset k = (b.countReset k).blockReset k :=
  if_neg (by omega)

theorem Base.countedReset_many (b : Base) {k : Nat} (many : 3 ≤ (b.recentResets k).length) : b.countedReset k = b.resetRefused k := if_pos many

theorem execShadowClose_due {block : BitVec 5} {sh : Shadow} (alive : s.base.alive = true)
    (found : (s.base.flt.shadows.find? fun x => x.block == block.toNat && decide (x.closeAt ≤ s.base.now)) = some sh) :
    execShadowClose block s = .next { s with base := s.base.closeShadow sh } :=
  State.whenBase_pos alive (by simp only [found])

theorem execShadowClose_early {block : BitVec 5} (early : ∀ x ∈ s.base.flt.shadows, x.block = block.toNat → s.base.now < x.closeAt) :
    execShadowClose block s = .next s := by
  have absent : (s.base.flt.shadows.find? fun x => x.block == block.toNat && decide (x.closeAt ≤ s.base.now)) = none := by
    rw [List.find?_eq_none]
    intro x hx
    have := early x hx
    simp only [Bool.and_eq_true, beq_iff_eq, decide_eq_true_eq, not_and]
    omega
  exact State.whenBase_kept fun _ => by simp only [absent]

end

/-! ### The log registers -/

/-- FLOG_SEL with the words and the flags it copies into FLOG_DATA. -/
def Base.flogWrite (b : Base) (v : Word) (data : Nat → Word) (flags : Word) : Base :=
  (((((b.setReg Reg.FLOG_SEL v).setReg (Reg.FLOG_DATA 0) (data 0)).setReg (Reg.FLOG_DATA 1) (data 1)).setReg (Reg.FLOG_DATA 2) (data 2)).setReg
    (Reg.FLOG_DATA 3) (data 3)).setReg (Reg.FLOG_DATA 4) flags

/-- The flags FLOG_DATA4 shows of an entry: valid, acknowledged, escalated (R409). -/
def LogEntry.flags (e : LogEntry) : Nat := 1 + (if e.acked then 2 else 0) + (if e.escalated then 4 else 0)

theorem LogEntry.flags_le (e : LogEntry) : e.flags ≤ 7 := by
  unfold LogEntry.flags
  split <;> split <;> omega

section
variable (b : Base) {v flags : Word} {data : Nat → Word}

theorem forN_four {α : Type} (f : Nat → α → α) (x : α) : forN 4 f x = f 3 (f 2 (f 1 (f 0 x))) := rfl

theorem Base.setReg_five (a₀ a₁ a₂ a₃ a₄ a₅ : Nat) (v₀ v₁ v₂ v₃ v₄ v₅ : Word) :
    (((((b.setReg a₀ v₀).setReg a₁ v₁).setReg a₂ v₂).setReg a₃ v₃).setReg a₄ v₄).setReg a₅ v₅ =
      { b with regs := ((((((b.setReg a₀ v₀).setReg a₁ v₁).setReg a₂ v₂).setReg a₃ v₃).setReg a₄ v₄).setReg a₅ v₅).regs } := rfl

theorem Base.flogWrite_sel : (b.flogWrite v data flags).reg Reg.FLOG_SEL = v := by
  simp [Base.flogWrite, Base.reg, Base.setReg, Tab.get_set, Reg.FLOG_SEL, Reg.FLOG_DATA]

theorem Base.flogWrite_flags : (b.flogWrite v data flags).reg (Reg.FLOG_DATA 4) = flags := by
  simp [Base.flogWrite, Base.reg, Base.setReg]

theorem Base.flogWrite_data {w : Nat} (hw : w < 4) : (b.flogWrite v data flags).reg (Reg.FLOG_DATA 0 + 4 * w) = data w := by
  interval_cases w <;> simp [Base.flogWrite, Base.reg, Base.setReg, Tab.get_set, Reg.FLOG_DATA]

theorem Base.flogCopy_found {e : LogEntry} (found : (b.flt.log.find? fun e => e.seq == v.toNat) = some e) :
    b.flogCopy v = b.flogWrite v (fun w => e.msg.bits.extractLsb' (32 * w) 32) (BitVec.ofNat 32 e.flags) := by
  have same : ((b.setReg Reg.FLOG_SEL v).flt.log.find? fun e => e.seq == v.toNat) = some e := found
  simp only [Base.flogCopy, same, forN_four, Reg.FLOG_DATA]
  rfl

theorem Base.flogCopy_absent (no : ∀ e ∈ b.flt.log, e.seq ≠ v.toNat) : b.flogCopy v = b.flogWrite v (fun _ => 0) 9 := by
  have absent : ((b.setReg Reg.FLOG_SEL v).flt.log.find? fun e => e.seq == v.toNat) = none := by
    rw [List.find?_eq_none]
    exact fun e he => by simpa using no e he
  simp only [Base.flogCopy, absent, forN_four, Reg.FLOG_DATA]
  rfl

/-- What FLOG_SEL copies is some write of FLOG_SEL and FLOG_DATA. -/
theorem Base.flogCopy_eq (v : Word) : ∃ data flags, b.flogCopy v = b.flogWrite v data flags := by
  cases found : b.flt.log.find? fun e => e.seq == v.toNat with
  | some e => exact ⟨_, _, b.flogCopy_found found⟩
  | none => exact ⟨_, _, b.flogCopy_absent fun e he => by simpa using (List.find?_eq_none.mp found) e he⟩

end

theorem execFlogSel_eq {s : State} (v : Word) (full : s.base.mgmtFull = true) : execFlogSel v s = .next { s with base := s.base.flogCopy v } :=
  State.whenBase_pos full rfl

/-- Settles O39, command by command; the counted resets by the number of resets in the last minute and the block. -/
theorem reactionsShadowsAndTheLog : Obligations.reactions_shadows_and_the_log := by
  unfold Obligations.reactions_shadows_and_the_log
  refine ⟨fun s scope v => ⟨execReactionTimerExpire_due, execReactionTimerExpire_early, execEscalateTimerExpire_due, execEscalateTimerExpire_early,
      fun full => ⟨execFaultAck_go full, execFaultAck_kept, execFenceClear_go full, execFenceClear_kept, execReleaseFaultN_early full,
        execReleaseFaultN_late full, execReleaseFaultN_high⟩,
      execFaultNPulseEnd_due, execFaultNPulseEnd_kept, fun a q => s.base.acknowledge_last⟩,
    fun s v block sh => ⟨fun full go => ⟨fun few => ⟨fun host => ?_, fun mover => ?_, fun pith => ?_⟩, fun many known => ?_⟩, execResetCtrl_kept,
      execShadowClose_due, execShadowClose_early, fun full => ⟨⟨s.base.flogCopy v, execFlogSel_eq v full, ?_, ?_, fun e found => ⟨fun w hw => ?_, ?_⟩, fun no => ?_⟩, State.whenBase_pos full rfl⟩, fun run => State.whenBase_pos run rfl⟩⟩
  · refine (execResetCtrl_go full go (by omega)).trans ?_
    rw [s.base.countedReset_few few, Base.blockReset, if_pos host]
    rfl
  · refine (execResetCtrl_go full go (by omega)).trans ?_
    rw [s.base.countedReset_few few, Base.blockReset, if_neg (by omega), if_pos mover]
    rfl
  · refine (execResetCtrl_go full go (by omega)).trans ?_
    rw [s.base.countedReset_few few, Base.blockReset, if_neg (by omega), if_neg (by omega), pith]
    rfl
  · exact (execResetCtrl_go full go known).trans (by rw [s.base.countedReset_many many]; rfl)
  · obtain ⟨data, flags, eq⟩ := s.base.flogCopy_eq v
    rw [eq]
    exact s.base.setReg_five ..
  · obtain ⟨data, flags, eq⟩ := s.base.flogCopy_eq v
    exact eq ▸ s.base.flogWrite_sel
  · exact s.base.flogCopy_found found ▸ s.base.flogWrite_data hw
  · rw [s.base.flogCopy_found found, s.base.flogWrite_flags]
    exact Nat.mod_eq_of_lt (Nat.lt_of_le_of_lt e.flags_le (by norm_num))
  · exact s.base.flogCopy_absent no ▸ s.base.flogWrite_flags

end Sys2Proof.Machine
end

section
/-! SUPPORT. Zero-fills (R143 to R146). -/

namespace Sys2Proof.Machine

section
variable {s : State} {st : BitVec 21} {quads : BitVec 4}

/-- The fill of a stripe that runs, and that no claim of the mover holds (R144). -/
def Base.openFill (b : Base) (st : Nat) : Option Fill := b.lay.fills.find? fun f => f.stripe == st && !f.released && f.claim.isNone

/-- The waits for an entry of the fill table, of requests and then of the mover's slots (R146). -/
def Base.fillWaitTimes (b : Base) : List (Nat × Nat) :=
  (b.lay.fillWait.map fun w => (w.2, stripeOf w.1.line)) ++ b.mov.slots.filterMap fun e => e.2.fillSince

theorem execFillComplete_ready {f : Fill} (alive : s.base.alive = true) (fill : s.base.openFill st.toNat = some f) (ready : s.base.fillReady f = true) :
    execFillComplete st s = .next { s with base := s.base.confirmFill f } := by
  unfold Base.openFill at fill
  exact State.whenBase_pos alive (by simp only [fill, ready, if_true])

theorem execFillComplete_open {f : Fill} (fill : s.base.openFill st.toNat = some f) (busy : s.base.fillReady f = false) :
    execFillComplete st s = .next s := by
  unfold Base.openFill at fill
  exact State.whenBase_kept fun _ => by simp [fill, busy]

theorem execFillComplete_absent (absent : s.base.openFill st.toNat = none) : execFillComplete st s = .next s := by
  unfold Base.openFill at absent
  exact State.whenBase_kept fun _ => by simp only [absent]

theorem execFillFallback_absent (absent : s.base.openFill st.toNat = none) : execFillFallback st quads s = .next s := by
  unfold Base.openFill at absent
  exact State.whenBase_kept fun _ => by simp only [absent]

theorem execFillTableFull_late {w : Nat × Nat} (alive : s.base.alive = true)
    (late : (s.base.fillWaitTimes.find? fun w => decide (w.1 + 10000 < s.base.now)) = some w) :
    execFillTableFull s = .next { s with base := s.base.send .fillTableFull 0x3F0 (w.2 * 65536) } := by
  unfold Base.fillWaitTimes at late
  exact State.whenBase_pos alive (by simp only [late]; rfl)

theorem execFillTableFull_early (early : ∀ w ∈ s.base.fillWaitTimes, s.base.now ≤ w.1 + 10000) : execFillTableFull s = .next s := by
  have absent : (s.base.fillWaitTimes.find? fun w => decide (w.1 + 10000 < s.base.now)) = none := by
    rw [List.find?_eq_none]
    exact fun w hw => by simpa using early w hw
  unfold Base.fillWaitTimes at absent
  exact State.whenBase_kept fun _ => by simp only [absent]

end

/-- Settles O22: each of the three commands by whether the fill, or the wait, that it speaks of is there. -/
theorem fillCommands : Obligations.fill_commands := by
  unfold Obligations.fill_commands
  intro s st quads alive b fill
  refine ⟨fun f => execFillComplete_ready alive, fun f => execFillComplete_open, fun absent => ⟨execFillComplete_absent absent, execFillFallback_absent absent⟩,
    fun f found => ?_, fun w => execFillTableFull_late alive, execFillTableFull_early⟩
  intro late taken rows qs path b1 b2 b3
  have found' : (s.base.lay.fills.find? fun f => f.stripe == st.toNat && !f.released && f.claim.isNone) = some f := found
  exact ⟨fun more => State.whenBase_pos alive (by simp only [found']; exact if_neg more),
    fun empty => State.whenBase_pos alive (by simp only [found']; exact if_pos empty)⟩

end Sys2Proof.Machine
end

section
/-! SUPPORT. Events of the home agent (R239, R245 to R249). -/

namespace Sys2Proof.Machine

/-! ### Masks built bit by bit -/

/-- The number whose bits below `n` are those that `p` names. -/
def bitSum (p : Nat → Bool) (n : Nat) : Nat := (List.range n).foldl (fun acc k => if p k then acc + 2 ^ k else acc) 0

theorem bitSum_succ (p : Nat → Bool) (n : Nat) : bitSum p (n + 1) = if p n then bitSum p n + 2 ^ n else bitSum p n := by
  simp only [bitSum, List.range_succ, List.foldl_append, List.foldl_cons, List.foldl_nil]

theorem bitSum_lt (p : Nat → Bool) (n : Nat) : bitSum p n < 2 ^ n := by
  induction n with
  | zero => simp [bitSum]
  | succ n ih => rw [bitSum_succ]; split <;> rw [Nat.pow_succ] <;> omega

theorem bitSum_testBit (p : Nat → Bool) (n j : Nat) : (bitSum p n).testBit j = (decide (j < n) && p j) := by
  induction n with
  | zero => simp [bitSum]
  | succ n ih =>
    have low := bitSum_lt p n
    rcases Nat.lt_trichotomy j n with lt | rfl | gt
    · rw [bitSum_succ]
      split <;> simp [Nat.add_comm (bitSum p n), Nat.testBit_two_pow_add_gt lt, ih, lt, Nat.lt_succ_of_lt lt]
    · rw [bitSum_succ]
      split <;> simp_all [Nat.add_comm (bitSum p j), Nat.testBit_two_pow_add_eq]
    · rw [Nat.testBit_lt_two_pow (Nat.lt_of_lt_of_le (bitSum_lt p (n + 1)) (Nat.pow_le_pow_right (by omega) gt))]
      simp [Nat.not_lt.mpr gt]

/-- The mask of width `w` whose bits below `n` are those that `p` names. -/
def bitOr (w : Nat) (p : Nat → Bool) (n : Nat) : BitVec w := (List.range n).foldl (fun m k => if p k then m ||| BitVec.ofNat w (2 ^ k) else m) 0

theorem bitOr_getLsbD {w : Nat} (p : Nat → Bool) (n j : Nat) (hj : j < w) : (bitOr w p n).getLsbD j = (decide (j < n) && p j) := by
  induction n with
  | zero => simp [bitOr]
  | succ n ih =>
    have step : bitOr w p (n + 1) = if p n then bitOr w p n ||| BitVec.ofNat w (2 ^ n) else bitOr w p n := by
      simp only [bitOr, List.range_succ, List.foldl_append, List.foldl_cons, List.foldl_nil]
    rw [step]
    have bit : (BitVec.ofNat w (2 ^ n)).getLsbD j = decide (n = j) := by rw [BitVec.getLsbD_ofNat, Nat.testBit_two_pow]; simp [hj]
    have below : (decide (j < n + 1) && p j) = ((decide (j < n) && p j) || (decide (n = j) && p n)) := by
      by_cases eq : n = j
      · simp [eq]
      · simp [eq, show j < n + 1 ↔ j < n by omega]
    rw [below, ← ih]
    split <;> simp_all only [BitVec.getLsbD_or, Bool.and_true, Bool.and_false, Bool.or_false]

/-! ### Snoops and sweeps -/

section
variable {s : State} {h : HostId} {line : BitVec 31}

/-- A snoop of the line to the host has waited longer than the limit (R245). -/
def Base.snoopLate (b : Base) (h : HostId) (line : Nat) : Bool :=
  let late := fun x : Snoop => x.host == h && (match x.sentAt with | some t => decide (t + 1000 * b.rf Reg.COH_CFG 13 0 ≤ b.now) | none => false)
  b.coh.trackers.any fun t => t.line == line && t.snoops.any late && !(b.coh.isolated.getLsbD h.toNat)

theorem execSnoopTimeout_late (alive : s.base.alive = true) (late : s.base.snoopLate h line.toNat = true) :
    execSnoopTimeout h line s = .next { s with base := (s.base.bump Reg.SNOOP_TIMEOUT_COUNT).isolate h.toNat true line.toNat } :=
  State.whenBase_pos alive (if_pos late)

theorem execSnoopTimeout_early (early : s.base.snoopLate h line.toNat = false) : execSnoopTimeout h line s = .next s :=
  State.whenBase_kept fun _ => if_neg (Bool.eq_false_iff.mp early)

theorem execTrackersFull_late {w : Waiter} (alive : s.base.alive = true)
    (late : (s.base.coh.waiting.find? fun w => decide (w.need = .tracker) && decide (w.since + 10000 < s.base.now)) = some w) :
    execTrackersFull s = .next { s with base := s.base.send .trackersFull 0x400 (64 * w.req.line) } :=
  State.whenBase_pos alive (by simp only [late])

theorem execTrackersFull_early (early : ∀ w ∈ s.base.coh.waiting, w.need = .tracker → s.base.now ≤ w.since + 10000) : execTrackersFull s = .next s := by
  have absent : (s.base.coh.waiting.find? fun w => decide (w.need = .tracker) && decide (w.since + 10000 < s.base.now)) = none := by
    rw [List.find?_eq_none]
    exact fun w hw => by simpa using early w hw
  exact State.whenBase_kept fun _ => by simp only [absent]

/-- The running sweep has rows left, or records of the cache (R248). -/
def Base.sweepBusy (b : Base) (w : Sweep) : Bool := !w.cacheDone || (b.sweepStripes w).any fun st => decide (w.at_ < 64 * st + 64)

/-- What the blocks a host has touched become at the end of a sweep over its blocks: those swept go, but for those it still holds (R248). -/
def Base.sweptBlocks (b : Base) (w : Sweep) (m : BitVec 512) : BitVec 512 :=
  m &&& (~~~BitVec.ofNat 512 (bitSum (fun k => w.has (k * 4194304)) 512) ||| bitOr 512 (fun k => b.inEff w.host.toNat k) 512)

theorem Base.sweptBlocks_getLsbD (b : Base) (w : Sweep) (m : BitVec 512) {k : Nat} (hk : k < 512) :
    (b.sweptBlocks w m).getLsbD k = (m.getLsbD k && (!w.has (k * 4194304) || b.inEff w.host.toNat k)) := by
  unfold Base.sweptBlocks
  rw [BitVec.getLsbD_and, BitVec.getLsbD_or, BitVec.getLsbD_not, BitVec.getLsbD_ofNat, bitSum_testBit, bitOr_getLsbD _ _ _ hk]
  simp [hk]

/-- The running sweep of a host has ended, and `rest` are to come (R248). -/
def Base.sweepEnd (b : Base) (w : Sweep) (rest : List Sweep) : Base :=
  { b with coh := { b.coh with
    sweeps := rest
    swept := if w.release then b.coh.swept else setBit b.coh.swept w.host.toNat true
    touched := Tab.upd 0 b.coh.touched w.host.toNat (b.sweptBlocks w) } }

theorem execSweepDone_done {w : Sweep} {rest : List Sweep} (alive : s.base.alive = true) (run : s.base.coh.sweeps = w :: rest) (idle : s.base.sweepBusy w = false) :
    execSweepDone s = .next { s with base := (s.base.sweepEnd w rest).send .sweepDone 0x402 (((w.blocks.head?).map fun r => r.1 * 268435456).getD 0) } :=
  State.whenBase_pos alive (by simp only [run]; exact if_neg (Bool.eq_false_iff.mp idle))

theorem execSweepDone_busy {w : Sweep} {rest : List Sweep} (run : s.base.coh.sweeps = w :: rest) (busy : s.base.sweepBusy w = true) :
    execSweepDone s = .next s :=
  State.whenBase_kept fun _ => by simp only [run]; exact if_pos busy

theorem Base.sweepBusy_eq_false {b : Base} {w : Sweep} (done : w.cacheDone = true) (past : ∀ st ∈ b.sweepStripes w, 64 * st + 64 ≤ w.at_) :
    b.sweepBusy w = false := by
  simpa [Base.sweepBusy, done] using past

theorem Base.sweepBusy_eq_true {b : Base} {w : Sweep} (left : w.cacheDone = false ∨ ∃ st ∈ b.sweepStripes w, w.at_ < 64 * st + 64) :
    b.sweepBusy w = true := by
  simpa [Base.sweepBusy] using left

theorem execHostIsolateClear_swept (full : s.base.mgmtFull = true) (isolated : s.base.coh.isolated.getLsbD h.toNat = true)
    (swept : s.base.coh.swept.getLsbD h.toNat = true) (fresh : s.base.coh.ldReset.getLsbD h.toNat = true) :
    let held := ((s.base.coh.cache.map fun e => (e.1, e.2.dir)) ++ s.base.coh.victims).filter fun e => e.2.vec.getLsbD h.toNat
    let t := held.foldl (fun b e => b.dropHost h.toNat e.1 e.2 b.sweepLabel) s.base
    execHostIsolateClear h s = .next { s with base := ({ t with coh := { t.coh with unisolate := setBit t.coh.unisolate h.toNat true } } : Base).pump } :=
  State.whenBase_pos full (if_pos (by rw [isolated, swept, fresh]; rfl))

theorem execHostIsolateClear_refused (full : s.base.mgmtFull = true)
    (no : s.base.coh.isolated.getLsbD h.toNat = false ∨ s.base.coh.swept.getLsbD h.toNat = false ∨ s.base.coh.ldReset.getLsbD h.toNat = false) :
    execHostIsolateClear h s = .next { s with base := s.base.send .isolateClearRefused 0x400 0 } :=
  State.whenBase_pos full (if_neg (by rcases no with no | no | no <;> simp [no]))

end

/-- Settles O30, event by event; the blocks touched after a sweep by the masks the model builds bit by bit. -/
theorem coherenceEvents : Obligations.coherence_events := by
  unfold Obligations.coherence_events
  intro s h line
  refine ⟨execSnoopTimeout_late, fun _ => execSnoopTimeout_early, fun w rest alive run done past => ?_,
    fun w rest _ run left => execSweepDone_busy run (Base.sweepBusy_eq_true left), fun w => execTrackersFull_late, fun _ => execTrackersFull_early,
    execHostIsolateClear_swept, execHostIsolateClear_refused⟩
  refine ⟨Tab.upd 0 s.base.coh.touched w.host.toNat (s.base.sweptBlocks w), fun n ne => ?_, fun k hk => ?_,
    execSweepDone_done alive run (Base.sweepBusy_eq_false done past)⟩
  · simp [Tab.upd, Tab.get_set, ne]
  · rw [← s.base.sweptBlocks_getLsbD w _ hk]
    simp [Tab.upd]

end Sys2Proof.Machine
end

section
/-! SUPPORT. Refresh ticks, starvation, targeted refreshes and throttles (R163, R166, R182 to R185). -/

namespace Sys2Proof.Machine

section
variable {s : State} {ch : ChanId} {bank : BitVec 5} {label : Label}

/-- The channel as its tick leaves it: the next bank's turn, at the spacing from the tick's time (R166). -/
def Base.ticked (b : Base) (ch bank : Nat) : Chan :=
  { b.chan ch with
    tickBank := (bank + 1) % 32
    tickDue := (if (b.chan ch).tickDue + 224 ≤ 224 * b.now then 224 * b.now else (b.chan ch).tickDue) + b.tickSpacing ch }

theorem Base.tick_light (b : Base) {ch bank : Nat} (light : Tab.get 0 (b.chan ch).debt bank < 8) :
    b.tick ch bank = b.setChan ch { b.ticked ch bank with debt := Tab.upd 0 (b.chan ch).debt bank (· + 1) } :=
  congrArg (b.setChan ch) (if_pos light)

theorem Base.tick_heavy (b : Base) {ch bank : Nat} (heavy : 8 ≤ Tab.get 0 (b.chan ch).debt bank) :
    b.tick ch bank = b.setChan ch { b.ticked ch bank with heldTick := Tab.set false (b.chan ch).heldTick bank true } :=
  congrArg (b.setChan ch) (if_neg (Nat.not_lt.mpr heavy))

theorem execRefreshTick_due (alive : s.base.alive = true) (active : s.base.boot.memActive = true) (serves : s.base.retired ch.toNat = false)
    (some_octant : (s.base.droppedIn (s.base.setOf ch.toNat)).length ≠ 8) (awake : (s.base.set_ (s.base.setOf ch.toNat)).state < 2)
    (turn : (s.base.chan ch.toNat).tickBank = bank.toNat) (due : (s.base.chan ch.toNat).tickDue ≤ 224 * s.base.now) :
    execRefreshTick ch bank s = .next { s with base := s.base.tick ch.toNat bank.toNat } :=
  State.whenBase_pos (by simp [*]) rfl

theorem execRefreshTick_early (no : (s.base.chan ch.toNat).tickBank ≠ bank.toNat ∨ 224 * s.base.now < (s.base.chan ch.toNat).tickDue) :
    execRefreshTick ch bank s = .next s :=
  State.whenBase_neg (by rcases no with no | no <;> simp [no])

theorem execTrfComplete_due {y : Nat × Nat × Nat} (alive : s.base.alive = true)
    (found : ((s.base.chan ch.toNat).trfRunning.find? fun y => y.1 == bank.toNat && decide (y.2.2 ≤ s.base.now)) = some y) :
    execTrfComplete ch bank s = .next { s with base := s.base.setChan ch.toNat (({ s.base.chan ch.toNat with
      trfRunning := (s.base.chan ch.toNat).trfRunning.filter (fun z => decide (z ≠ y)),
      trfCount := satAdd 0xFFFF (s.base.chan ch.toNat).trfCount 1 }).clearNbh y.2.1) } :=
  State.whenBase_pos alive (by simp only [found])

/-- A throttle of the label on the bank that ends by now (R185). -/
def Base.throttleOver (b : Base) (bank : Nat) (label : Label) (t : Throttle) : Bool :=
  t.label == label && t.bank == bank && decide (t.until_ ≤ b.pl.epochs)

theorem execThrottleExpire_due (alive : s.base.alive = true) (due : (s.base.chan ch.toNat).throttles.any (s.base.throttleOver bank.toNat label) = true) :
    execThrottleExpire ch bank label s = .next { s with
      base := (s.base.setChan ch.toNat { s.base.chan ch.toNat with
        throttles := (s.base.chan ch.toNat).throttles.filter fun t => !s.base.throttleOver bank.toNat label t }).updLabel label.toNat fun e => { e with
          throttles := e.throttles - 1 } } :=
  State.whenBase_pos alive (if_pos due)

theorem execThrottleExpire_early (early : (s.base.chan ch.toNat).throttles.any (s.base.throttleOver bank.toNat label) = false) :
    execThrottleExpire ch bank label s = .next s :=
  State.whenBase_kept fun _ => if_neg (Bool.eq_false_iff.mp early)

end

/-- Settles O24: a tick by whether the bank's debt is full, the others by what is due. -/
theorem refreshStarvationAndThrottle : Obligations.refresh_starvation_and_throttle := by
  unfold Obligations.refresh_starvation_and_throttle
  intro s ch bank label alive
  refine ⟨fun active serves octants awake turn due => ⟨fun light => ⟨Tab.upd 0 (s.base.chan ch.toNat).debt bank.toNat (· + 1), ?_, ?_, ?_⟩,
      fun heavy => ⟨Tab.set false (s.base.chan ch.toNat).heldTick bank.toNat true, ?_, ?_, ?_⟩⟩, execRefreshTick_early, State.whenBase_pos alive rfl,
    fun y => execTrfComplete_due alive, execThrottleExpire_due alive, execThrottleExpire_early⟩
  · exact (execRefreshTick_due alive active serves octants awake turn due).trans (by rw [s.base.tick_light light]; rfl)
  · simp [Tab.upd]
  · exact fun j ne => by simp [Tab.upd, Tab.get_set, ne]
  · exact (execRefreshTick_due alive active serves octants awake turn due).trans (by rw [s.base.tick_heavy heavy]; rfl)
  · simp
  · exact fun j ne => by simp [Tab.get_set, ne]

end Sys2Proof.Machine
end

section
/-! SUPPORT. Droop and the guard controllers (R342 to R351). -/

namespace Sys2Proof.Machine

@[simp] theorem Base.guard_setGuard (b : Base) (d : Nat) (g : DieGuard) : (b.setGuard d g).guard d = g := by
  simp [Base.guard, Base.setGuard]

theorem Base.setGuard_guard (b : Base) (d : Nat) (g : DieGuard) (same : b.guard d = g) : (b.updGuard d fun _ => g) = b.setGuard d g := by
  subst same; rfl

/-! ### Droop -/

section
variable {s : State} {d : DieId} {arr vpp : Byte}

theorem crosses_iff {below code : Nat} : crosses arr vpp below code = true ↔ (arr.toNat + 2 * below < 80 ∨ vpp.toNat < code) := by
  simp [crosses]

theorem execDroopWarn_low (alive : s.base.alive = true) (low : crosses arr vpp (s.base.rf Reg.SI_CFG2 23 16) 84 = true) :
    execDroopWarn d arr vpp s = .next { s with
      base := (s.base.updGuard d.toNat fun g => { g.low s.base.pl.epochs arr vpp with
        warns := s.base.pl.epochs :: recent s.base.pl.epochs g.warns }).send .droopWarn (0x560 + d.toNat) d.toNat } :=
  State.whenBase_pos alive (if_pos low)

/-- The die's requests are held after a droop fault, which is counted and reported (R342). -/
def Base.droopHeld (b : Base) (d : DieId) (arr vpp : Byte) : Base :=
  let held := b.updGuard d.toNat fun g => { g.low b.pl.epochs arr vpp with holds := b.pl.epochs :: recent b.pl.epochs g.holds, holdUntil := b.now + 100 }
  (held.bump Reg.DROOP_FAULT_COUNT).send .droopFault (0x560 + d.toNat) d.toNat

theorem Base.droopHeld_guard (b : Base) : (b.droopHeld d arr vpp).guard d.toNat = { (b.guard d.toNat).low b.pl.epochs arr vpp with
    holds := b.pl.epochs :: recent b.pl.epochs (b.guard d.toNat).holds, holdUntil := b.now + 100 } := by
  simp only [Base.guard, Base.droopHeld, Base.send_si, Base.bump_si]
  exact Base.guard_setGuard ..

theorem Base.droopHeld_pl (b : Base) : (b.droopHeld d arr vpp).pl = b.pl := by
  simp only [Base.droopHeld, Base.send_pl, Base.bump_pl]
  rfl

/-- No report of an unstable supply within the last 1,000 epochs (R343). -/
def DieGuard.reportDue (g : DieGuard) (epochs : Nat) : Bool := match g.unstableAt with | some t => decide (t + 1000 ≤ epochs) | none => true

theorem execDroopFault_low (alive : s.base.alive = true) (low : crosses arr vpp (s.base.rf Reg.SI_CFG2 31 24) 60 = true) :
    execDroopFault d arr vpp s = .next { s with
      base := if 16 < ((s.base.droopHeld d arr vpp).guard d.toNat).holds.length ∧
          ((s.base.droopHeld d arr vpp).guard d.toNat).reportDue (s.base.droopHeld d arr vpp).pl.epochs = true then
        ((s.base.droopHeld d arr vpp).setGuard d.toNat { (s.base.droopHeld d arr vpp).guard d.toNat with
          unstableAt := some (s.base.droopHeld d arr vpp).pl.epochs }).send .supplyUnstable (0x560 + d.toNat) d.toNat
        else s.base.droopHeld d arr vpp } :=
  State.whenBase_pos alive (if_pos low)

/-- A droop fault that is not reported as an unstable supply: few holds, or a report not long ago (R343). -/
theorem execDroopFault_held (alive : s.base.alive = true) (low : crosses arr vpp (s.base.rf Reg.SI_CFG2 31 24) 60 = true)
    (quiet : (recent s.base.pl.epochs (s.base.guard d.toNat).holds).length < 16 ∨ (s.base.guard d.toNat).reportDue s.base.pl.epochs = false) :
    execDroopFault d arr vpp s = .next { s with base := s.base.droopHeld d arr vpp } := by
  refine (execDroopFault_low alive low).trans ?_
  rw [Base.droopHeld_guard, Base.droopHeld_pl, if_neg]
  rintro ⟨many, due⟩
  have due : (s.base.guard d.toNat).reportDue s.base.pl.epochs = true := due
  simp only [List.length_cons] at many
  exact quiet.elim (by omega) (by simp [due])

theorem execDroopFault_unstable (alive : s.base.alive = true) (low : crosses arr vpp (s.base.rf Reg.SI_CFG2 31 24) 60 = true)
    (many : 16 ≤ (recent s.base.pl.epochs (s.base.guard d.toNat).holds).length) (due : (s.base.guard d.toNat).reportDue s.base.pl.epochs = true) :
    execDroopFault d arr vpp s = .next { s with
      base := ((s.base.droopHeld d arr vpp).setGuard d.toNat { (s.base.guard d.toNat).low s.base.pl.epochs arr vpp with
        holds := s.base.pl.epochs :: recent s.base.pl.epochs (s.base.guard d.toNat).holds
        holdUntil := s.base.now + 100
        unstableAt := some s.base.pl.epochs }).send .supplyUnstable (0x560 + d.toNat) d.toNat } := by
  refine (execDroopFault_low alive low).trans ?_
  rw [Base.droopHeld_guard, Base.droopHeld_pl, if_pos ⟨Nat.lt_succ_of_le many, due⟩]

end

/-! ### Guard controllers -/

section
variable {s : State} {d : DieId} {ch : ChanId}

theorem execHeartbeatLoss_open (alive : s.base.alive = true) (driven : (s.base.guard d.toNat).state = 0 ∨ (s.base.guard d.toNat).state = 3) :
    execHeartbeatLoss d s = .next { s with base := (s.base.closeGuard d.toNat).updGuard d.toNat fun g => { g with failed := true } } :=
  State.whenBase_pos alive (if_pos driven)

theorem execHeartbeatLoss_closed (closed : (s.base.guard d.toNat).state = 1 ∨ (s.base.guard d.toNat).state = 2) : execHeartbeatLoss d s = .next s :=
  State.whenBase_kept fun _ => if_neg (by rcases closed with e | e <;> simp [e])

theorem execGuardExit_opens (alive : s.base.alive = true) (closed : (s.base.guard d.toNat).state = 1 ∨ (s.base.guard d.toNat).state = 2)
    (sound : (s.base.guard d.toNat).failed = false) (calm : s.base.flt.fatal = false) :
    execGuardExit d s = .next { s with base := s.base.setGuard d.toNat { s.base.guard d.toNat with state := 0 } } :=
  State.whenBase_pos alive (if_pos ⟨closed.symm, sound, calm⟩)

theorem execGuardExit_stays (bad : (s.base.guard d.toNat).failed = true ∨ s.base.flt.fatal = true) : execGuardExit d s = .next s :=
  State.whenBase_kept fun _ => if_neg fun ⟨_, sound, calm⟩ => bad.elim (by simp [sound]) (by simp [calm])

theorem execGuardStatusRead_read {trip : Bool} (alive : s.base.alive = true) (active : s.base.boot.memActive = true)
    (reads : s.base.statusChannel ch.toNat = true) (awake : (s.base.set_ (s.base.setOf ch.toNat)).state = 0) :
    let u : State := { s with base := s.base.guardStatus ch.toNat }
    execGuardStatusRead ch trip s = .next (if trip then u.trip (dieOf ch.toNat) (u.base.diode (dieOf ch.toNat)).reading false false else u) :=
  if_pos (by rw [alive, active, reads, awake]; rfl)

theorem execGuardStatusRead_skip {trip : Bool} (no : s.base.statusChannel ch.toNat = false) : execGuardStatusRead ch trip s = .next s :=
  if_neg (by simp [no])

theorem execHeartbeatRecovery_backup (alive : s.base.alive = true) (detected : (s.base.guard d.toNat).detected = true)
    (failed : (s.base.guard d.toNat).failed = true) (ready : s.base.backupReady d.toNat = true) :
    let n := d.toNat
    let moved := (s.base.setGuard n { s.base.guard n with onBackup := true, failed := false, detected := false, state := 0, reason := 2 }).send
      .heartbeatMoved (0x550 + n) n
    let owed := forN 4 (fun (q : Nat) (b : Base) => b.readEyeVisit (4 * n + q)) moved
    let lost := (List.range 4).flatMap fun q => owed.ignoredWrites (4 * n + q)
    let stamped := lost.foldl (fun (b : Base) (p : Place) => b.stampIgnored p) (owed.newLogs n)
    execHeartbeatRecovery d s = .next { s with base := stamped.send .guardEntered (0x550 + n) n } :=
  State.whenBase_pos alive ((if_neg (by simp [detected, failed])).trans (if_pos ready))

theorem execHeartbeatRecovery_lost (alive : s.base.alive = true) (detected : (s.base.guard d.toNat).detected = true)
    (failed : (s.base.guard d.toNat).failed = true) (none_left : s.base.backupReady d.toNat = false) :
    execHeartbeatRecovery d s = .next { s with
      base := forN 4 (fun (q : Nat) (b : Base) => b.retireChannel (4 * d.toNat + q) 0x3F)
        (s.base.setGuard d.toNat { s.base.guard d.toNat with detected := false }) } :=
  State.whenBase_pos alive ((if_neg (by simp [detected, failed])).trans (if_neg (Bool.eq_false_iff.mp none_left)))

theorem execHeartbeatRecovery_idle (no : (s.base.guard d.toNat).detected = false ∨ (s.base.guard d.toNat).failed = false) :
    execHeartbeatRecovery d s = .next s :=
  State.whenBase_kept fun _ => if_pos (by rcases no with e | e <;> simp [e])

theorem DieGuard.reportDue_eq_true {g : DieGuard} {n : Nat} (due : g.unstableAt = none ∨ ∃ t, g.unstableAt = some t ∧ t + 1000 ≤ n) :
    g.reportDue n = true := by
  rcases due with e | ⟨t, e, old⟩ <;> simp [DieGuard.reportDue, *]

theorem DieGuard.reportDue_eq_false {g : DieGuard} {n t : Nat} (at_ : g.unstableAt = some t) (young : n < t + 1000) : g.reportDue n = false := by
  simpa [DieGuard.reportDue, at_] using young

end

/-- Settles O35: the droop commands by the level crossed, the guard commands by the state of the die's guard. -/
theorem droopAndGuards : Obligations.droop_and_guards := by
  unfold Obligations.droop_and_guards
  refine ⟨fun s d arr vpp => ?_, fun s d ch => ?_⟩
  · intro b n g since lows warned held told warns faults alive
    refine ⟨fun low => execDroopWarn_low alive (crosses_iff.mpr low), fun ok => State.whenBase_kept fun _ => if_neg fun low => ok (crosses_iff.mp low),
      fun low few => execDroopFault_held alive (crosses_iff.mpr low) (.inl few),
      fun low many due => execDroopFault_unstable alive (crosses_iff.mpr low) many (DieGuard.reportDue_eq_true due),
      fun low t at_ young => execDroopFault_held alive (crosses_iff.mpr low) (.inr (DieGuard.reportDue_eq_false at_ young)),
      fun ok => State.whenBase_kept fun _ => if_neg fun low => ok (crosses_iff.mp low), State.whenBase_pos alive rfl⟩
  · intro b n g k alive
    exact ⟨execHeartbeatLoss_open alive, execHeartbeatLoss_closed, execGuardExit_opens alive, execGuardExit_stays,
      fun active reads awake => ⟨execGuardStatusRead_read (trip := false) alive active reads awake,
        execGuardStatusRead_read (trip := true) alive active reads awake⟩, execGuardStatusRead_skip,
      execHeartbeatRecovery_lost alive, execHeartbeatRecovery_backup alive, execHeartbeatRecovery_idle⟩

end Sys2Proof.Machine
end

section
/-! SUPPORT. Declarations of hosts, drops of octants, temperatures and the power states of a set (R176 to R181, R357 to R376). -/

namespace Sys2Proof.Machine

/-! ### Temperatures -/

section
variable {s : State} {d : Fin 20} {reading : Int} {loadChanged cut coreFails : Bool}

/-- A die of a set that is off is not sampled (R368). -/
def Base.samples (b : Base) (d : Fin 20) : Prop := 16 ≤ d.val ∨ (b.set_ (b.setOfDie d.val)).state < 2

theorem execSensorSample_taken {trip : Bool} (alive : s.base.alive = true) (samples : s.base.samples d) :
    execSensorSample d reading trip loadChanged s =
      let u : State := { s with base := s.base.sample d.val reading loadChanged }
      .next (if trip && decide (d.val < 16) && decide (tripAt d.val ≤ reading) then u.trip d.val reading false false else u) :=
  if_pos (by rw [alive, Bool.true_and, Bool.or_eq_true, decide_eq_true_eq, decide_eq_true_eq]; exact samples)

theorem execSensorSample_off {trip : Bool} (core : d.val < 16) (off : 2 ≤ (s.base.set_ (s.base.setOfDie d.val)).state) :
    execSensorSample d reading trip loadChanged s = .next s :=
  if_neg (by simp [Nat.not_le.mpr core, Nat.not_lt.mpr off])

theorem tripAt_core (core : d.val < 16) : tripAt d.val = 420 := if_pos core

theorem execThermalTrip_hot (alive : s.base.alive = true) (hot : tripAt d.val ≤ reading) :
    execThermalTrip d reading cut coreFails s = .next (s.trip d.val reading cut coreFails) :=
  if_pos (by simp [alive, hot])

theorem execThermalTrip_cool (cool : reading < tripAt d.val) : execThermalTrip d reading cut coreFails s = .next s :=
  if_neg (by simp [Int.not_le.mpr cool])

theorem State.trip_rind (s : State) (d : Nat) (r : Int) (cut coreFails : Bool) : (s.trip d r cut coreFails).rind = s.rind := by
  simp only [State.trip, State.onBase, State.abortFuse]
  split <;> rfl

end

/-! ### Declarations -/

/-- A CXL.io command of host software whose logical device its port carries acts on the base state (R94). -/
theorem State.viaPort_pos {s : State} {h : Nat} {p : Base → Bool} {f : Base → Base} {x : Base} (up : s.base.hostUp h = true) (ready : p s.base = true)
    (e : f s.base = x) : s.viaPort h p f = .next { s with base := x } := by
  unfold Base.hostUp at up
  simp only [Bool.and_eq_true] at up
  obtain ⟨⟨alive, carried⟩, carries⟩ := up
  exact State.whenBase_pos (by rw [alive, carries]; rfl) ((if_neg (by simp [carried])).trans ((if_pos ready).trans e))

section
variable {s : State} {h : HostId} {octant : BitVec 6} {tol : Word} {needed : Bool}

/-- A host's declaration of an octant waits for a boundary (R361). -/
def Base.declare (b : Base) (h : HostId) (octant : BitVec 6) (tol : Word) (needed : Bool) : Base :=
  { b with pw := { b.pw with waits := b.pw.waits ++ [{ host := h, octant := octant.toNat, decl := { tol := tol.toNat, needed := needed } }] } }

section
variable (up : s.base.hostUp h.toNat = true) (run : s.base.fwRuns = true)
include up run

theorem execSetOctantTolerance_waits (known : octant.toNat < s.base.octants) (has : s.base.effMeets h.toNat (s.base.blocksOfOctant octant.toNat) = true) :
    execSetOctantTolerance h octant tol needed s = .next { s with base := s.base.declare h octant tol needed } :=
  State.viaPort_pos up run (if_pos (by simp only [Base.declOk, has, decide_eq_true known, Bool.and_self]))

theorem execSetOctantTolerance_refused (no : s.base.octants ≤ octant.toNat ∨ s.base.effMeets h.toNat (s.base.blocksOfOctant octant.toNat) = false) :
    execSetOctantTolerance h octant tol needed s =
      .next { s with base := (s.base.send .declarationRefused 0x501 (declAddr (octant.toNat % 32) h.toNat)).reply h .invalidInput } :=
  State.viaPort_pos up run (if_neg (by rcases no with no | no <;> simp [Base.declOk, no]))

theorem execGetOctantTolerance_known (known : octant.toNat < s.base.octants) :
    execGetOctantTolerance h octant s = .next { s with base := s.base.reply h (.numbers [(s.base.declOf h.toNat octant.toNat).tol,
      if (s.base.declOf h.toNat octant.toNat).needed then 1 else 0, s.base.tolOf octant.toNat, if s.base.neededOf octant.toNat then 1 else 0]) } :=
  State.viaPort_pos up run (if_pos known)

theorem execGetOctantTolerance_unknown (unknown : s.base.octants ≤ octant.toNat) :
    execGetOctantTolerance h octant s = .next { s with base := s.base.reply h .invalidInput } :=
  State.viaPort_pos up run (if_neg (Nat.not_lt.mpr unknown))

end

end

/-! ### Drops -/

section
variable {s : State} {k : BitVec 5}

theorem execOctantDrop_off_plan (no : s.base.pl.active.drops.contains k = false) : execOctantDrop k s = .next s :=
  State.whenBase_neg (by simp only [no, Bool.and_false])

/-- An octant may be dropped: it exists, no declaration needs it, it is not dropped, nothing wrote to it for the delay and its set takes it (R362). -/
def Base.mayDrop (b : Base) (n : Nat) : Prop :=
  n < b.octants ∧ tb (b.reg Reg.POWER_CFG) 25 = true ∧ b.neededOf n = false ∧ b.pw.dropped.getLsbD n = false ∧
    ((b.set_ (setOfOctant n)).state < 2 ∨ (b.set_ (setOfOctant n)).sre = false) ∧ Tab.get 0 b.pw.lastWrite n + 1000 * b.rf Reg.POWER_CFG 23 16 ≤ b.pl.epochs

/-- The plan in force without its item that drops the octant. -/
def Base.dropTaken (b : Base) (k : BitVec 5) : Base :=
  { b with pl := { b.pl with active := { b.pl.active with drops := b.pl.active.drops.filter (fun i => i != k) } } }

section
variable (alive : s.base.alive = true) (planned : s.base.pl.active.drops.contains k = true)
include alive planned

theorem execOctantDrop_drops (may : (s.base.dropTaken k).mayDrop k.toNat) :
    execOctantDrop k s = .next { s with
      base := (((s.base.dropTaken k).updPw fun p => { p with dropping := setBit p.dropping k.toNat true }).unmark fun st =>
        (s.base.dropTaken k).octantOf (1024 * st) == k.toNat).dropMasks } :=
  State.whenBase_pos (by simp only [alive, planned, Bool.and_self]) (if_pos may)

theorem execOctantDrop_kept (may_not : ¬ (s.base.dropTaken k).mayDrop k.toNat) : execOctantDrop k s = .next { s with base := s.base.dropTaken k } :=
  State.whenBase_pos (by simp only [alive, planned, Bool.and_self]) (if_neg may_not)

end

end

/-- Settles O36, command by command; a trip empties the mover and lets Rind be as its definition says. -/
theorem octantsAndSensors : Obligations.octants_and_sensors := by
  unfold Obligations.octants_and_sensors
  refine ⟨fun s h octant tol needed => ?_, fun s k d reading loadChanged cut coreFails => ?_⟩
  · intro b n k d up run
    exact ⟨execSetOctantTolerance_waits up run, execSetOctantTolerance_refused up run, execGetOctantTolerance_known up run,
      execGetOctantTolerance_unknown up run⟩
  · intro b n x item may alive
    refine ⟨execOctantDrop_drops alive, execOctantDrop_kept alive, execOctantDrop_off_plan, fun samples => ⟨?_, fun core hot => ?_, fun cool => ?_⟩,
      fun core off trip => execSensorSample_off core off, execThermalTrip_hot alive, execThermalTrip_cool, rfl, rfl, ?_⟩
    · exact (execSensorSample_taken alive samples).trans (by rfl)
    · exact (execSensorSample_taken alive samples).trans (congrArg _ (if_pos (by simp [core, tripAt_core core, hot])))
    · refine (execSensorSample_taken alive samples).trans (congrArg _ (if_neg ?_))
      rcases cool with base | cool
      · simp [Nat.not_lt.mpr base]
      · simp only [Bool.true_and, Bool.and_eq_true, decide_eq_true_eq, not_and]
        exact fun core => by rw [tripAt_core core]; omega
    · exact s.trip_rind d.val reading cut coreFails

end Sys2Proof.Machine
end

section
/-! SUPPORT. Power states of a set (R176 to R180, R357 to R360). -/

namespace Sys2Proof.Machine

section
variable {s : State} {set state : BitVec 2}

/-- The plan in force without its item for the state of a set. -/
def Base.powerTaken (b : Base) (set state : BitVec 2) : Base :=
  { b with pl := { b.pl with active := { b.pl.active with power := b.pl.active.power.filter (fun i => i != (set, state)) } } }

/-- A set enters a deeper state, and says so (R359). -/
def Base.enterState (b : Base) (n st : Nat) : Base :=
  let entered := (b.setSet n { b.set_ n with state := st, sre := false, off := false, testHold := false }).reportSet n st
  if 2 ≤ st then entered.sleepSampling else entered

/-! ### POWER_STATE_ENTRY -/

theorem execPowerStateEntry_off_plan (no : s.base.pl.active.power.contains (set, state) = false) : execPowerStateEntry set state s = .next s :=
  State.whenBase_neg (by simp only [no, Bool.and_false])

section
variable (alive : s.base.alive = true) (known : set.toNat < s.base.sets) (planned : s.base.pl.active.power.contains (set, state) = true)
include alive known planned

theorem execPowerStateEntry_item {t : Base} (e : (if state.toNat < (s.base.set_ set.toNat).state ∧ !(s.base.set_ set.toNat).exiting ∧ state.toNat < 2 then
      if 2 ≤ (s.base.set_ set.toNat).state ∧ (s.base.set_ set.toNat).sre = false then (s.base.powerTaken set state).abandonEntry set.toNat
      else (s.base.powerTaken set state).setSet set.toNat { (s.base.set_ set.toNat).leave s.base.now state.toNat with testHold := state.toNat == 1 }
    else if (s.base.powerTaken set state).mayEnter set.toNat state.toNat then (s.base.powerTaken set state).enterState set.toNat state.toNat
    else s.base.powerTaken set state) = t) : execPowerStateEntry set state s = .next { s with base := t } :=
  State.whenBase_pos (by simp only [alive, known, planned, decide_true, Bool.and_self]) e

theorem execPowerStateEntry_enters (deeper : (s.base.set_ set.toNat).state ≤ state.toNat)
    (may : (s.base.powerTaken set state).mayEnter set.toNat state.toNat = true) :
    execPowerStateEntry set state s = .next { s with base := (s.base.powerTaken set state).enterState set.toNat state.toNat } :=
  execPowerStateEntry_item alive known planned ((if_neg fun ⟨lighter, _⟩ => Nat.not_lt.mpr deeper lighter).trans (if_pos may))

theorem execPowerStateEntry_stays (deeper : (s.base.set_ set.toNat).state ≤ state.toNat)
    (may_not : (s.base.powerTaken set state).mayEnter set.toNat state.toNat = false) :
    execPowerStateEntry set state s = .next { s with base := s.base.powerTaken set state } :=
  execPowerStateEntry_item alive known planned
    ((if_neg fun ⟨lighter, _⟩ => Nat.not_lt.mpr deeper lighter).trans (if_neg (Bool.eq_false_iff.mp may_not)))

theorem execPowerStateEntry_leaves (lighter : state.toNat < (s.base.set_ set.toNat).state) (light : state.toNat < 2)
    (rests : (s.base.set_ set.toNat).exiting = false) (issued : (s.base.set_ set.toNat).state < 2 ∨ (s.base.set_ set.toNat).sre = true) :
    execPowerStateEntry set state s = .next { s with
      base := (s.base.powerTaken set state).setSet set.toNat { (s.base.set_ set.toNat).leave s.base.now state.toNat with testHold := state.toNat == 1 } } :=
  execPowerStateEntry_item alive known planned ((if_pos ⟨lighter, by simp [rests], light⟩).trans (if_neg fun ⟨deep, no⟩ =>
    issued.elim (Nat.not_lt.mpr deep) (by simp [no])))

theorem execPowerStateEntry_abandons (light : state.toNat < 2) (rests : (s.base.set_ set.toNat).exiting = false)
    (deep : 2 ≤ (s.base.set_ set.toNat).state) (no_sre : (s.base.set_ set.toNat).sre = false) :
    execPowerStateEntry set state s = .next { s with base := (s.base.powerTaken set state).abandonEntry set.toNat } :=
  execPowerStateEntry_item alive known planned
    ((if_pos ⟨Nat.lt_of_lt_of_le light deep, by simp [rests], light⟩).trans (if_pos ⟨deep, no_sre⟩))

end

/-! ### SRE_ISSUE, CH_SET_POWER_OFF and SET_EXIT_COMPLETE -/

theorem execSreIssue_issues (alive : s.base.alive = true) (deep : 2 ≤ (s.base.set_ set.toNat).state) (no_sre : (s.base.set_ set.toNat).sre = false)
    (quiet : ∀ c ∈ s.base.chansOfSet set.toNat, s.base.chanQuiet c = true) :
    execSreIssue set s = .next { s with base := s.base.setSet set.toNat { s.base.set_ set.toNat with sre := true, sreAt := s.base.now } } :=
  State.whenBase_pos alive (if_pos ⟨deep, no_sre, List.all_eq_true.mpr quiet⟩)

theorem execSreIssue_waits {c : Nat} (mem : c ∈ s.base.chansOfSet set.toNat) (busy : s.base.chanQuiet c = false) : execSreIssue set s = .next s :=
  State.whenBase_kept fun _ => if_neg fun ⟨_, _, quiet⟩ => by simp [List.all_eq_true.mp quiet c mem] at busy

theorem execChSetPowerOff_off (alive : s.base.alive = true) (deep : 2 ≤ (s.base.set_ set.toNat).state) (issued : (s.base.set_ set.toNat).sre = true)
    (rests : (s.base.set_ set.toNat).exiting = false) (on : (s.base.set_ set.toNat).off = false)
    (late : (s.base.set_ set.toNat).sreAt + 30 ≤ s.base.now) :
    execChSetPowerOff set s = .next { s with
      base := (s.base.chansOfSet set.toNat).foldl Base.chanOff (s.base.setSet set.toNat { s.base.set_ set.toNat with off := true }) } :=
  State.whenBase_pos alive (if_pos ⟨deep, issued, rests, on, late⟩)

theorem execChSetPowerOff_early (early : s.base.now < (s.base.set_ set.toNat).sreAt + 30) : execChSetPowerOff set s = .next s :=
  State.whenBase_kept fun _ => if_neg fun ⟨_, _, _, _, late⟩ => by omega

/-- The set as it was asked for at the end of its exit, the wake counted and reported, refresh and sampling restarted (R179, R180, R360). -/
def Base.endExit (b : Base) (n : Nat) : Base :=
  let x := b.set_ n
  let up := b.setSet n { x with state := x.exitTo, exiting := false, sre := false, off := false, idle := 0, testHold := x.testHold && x.exitTo == 1 }
  let told := (up.bump Reg.WAKE_COUNT).reportSet n x.exitTo
  let fresh := if 2 ≤ x.state then (told.chansOfSet n).foldl (fun (b : Base) (c : Nat) => (b.freshRefresh c).readEyeVisit c) told else told
  let sampled := fresh.wakeSampling (fresh.diesOfSet n)
  ((sampled.chansOfSet n).foldl Base.drainChan sampled).pump

theorem execSetExitComplete_ends (alive : s.base.alive = true) (exiting : (s.base.set_ set.toNat).exiting = true)
    (ended : (s.base.set_ set.toNat).exitEnds ≤ s.base.now)
    (bound : s.base.now ≤ (s.base.set_ set.toNat).exitFrom + (s.base.set_ set.toNat).exitBound) :
    execSetExitComplete set s = .next { s with base := s.base.endExit set.toNat } := by
  have on_time : ∀ late : Base, (if (s.base.set_ set.toNat).exitFrom + (s.base.set_ set.toNat).exitBound < s.base.now then late else s.base) = s.base :=
    fun _ => if_neg (Nat.not_lt.mpr bound)
  refine State.whenBase_pos alive ((if_pos ⟨exiting, ended⟩).trans ?_)
  simp only [on_time]
  rfl

theorem execSetExitComplete_waits (no : (s.base.set_ set.toNat).exiting = false ∨ s.base.now < (s.base.set_ set.toNat).exitEnds) :
    execSetExitComplete set s = .next s :=
  State.whenBase_kept fun _ => if_neg fun ⟨exiting, ended⟩ => no.elim (by simp [exiting]) (by omega)

end

/-- Settles O37: POWER_STATE_ENTRY by the present and the asked state, the others by whether their time has come. -/
theorem setPowerStates : Obligations.set_power_states := by
  unfold Obligations.set_power_states
  intro s set state b n st x item alive
  refine ⟨fun known planned => ⟨execPowerStateEntry_enters alive known planned, execPowerStateEntry_stays alive known planned,
      execPowerStateEntry_leaves alive known planned, execPowerStateEntry_abandons alive known planned⟩, execPowerStateEntry_off_plan,
    execSreIssue_issues alive, fun c => execSreIssue_waits, execChSetPowerOff_off alive, execChSetPowerOff_early, execSetExitComplete_ends alive,
    execSetExitComplete_waits⟩

end Sys2Proof.Machine
end

section
/-! SUPPORT. Tests of canes, segments, heartbeats and row buses (R329 to R337). -/

namespace Sys2Proof.Machine

/-! ### CANE_TEST_SHIFT -/

section
variable {s : State} {ch : ChanId} {p : BitVec 6}

/-- A position of a channel may go out for test: the channel serves, nothing of it is out, and the position is asked for and not erased (R330, R334). -/
def Base.mayTest (b : Base) (ch : ChanId) (p : BitVec 6) : Prop :=
  ((b.chan ch.toNat).train = .trained ∨ (b.chan ch.toNat).train = .sliced) ∧ (b.set_ (b.setOf ch.toNat)).state = 0 ∧ (b.canes ch.toNat).testOut = none ∧
    (tb (b.reg Reg.SI_CFG) 24 = true ∨ (b.canes ch.toNat).targets.contains p.toNat = true) ∧ (b.chan ch.toNat).erased.contains p.toNat = false

/-- A position of a channel is out from now on, with a spare in its place or in erasure mode (R330, R333). -/
def Base.takeOut (b : Base) (ch : ChanId) (p : BitVec 6) (spare : Option Nat) (erasing : Bool) : Base :=
  b.updCanes ch.toNat fun y => { y with
    testOut := some p.toNat, testSpare := spare, testFrom := b.pl.epochs, erasing := erasing, targets := y.targets.filter (· != p.toNat) }

/-- What becomes of a position that may go out (R330, R333). -/
def Base.shiftPosNow (b : Base) (ch : ChanId) (p : BitVec 6) : Base :=
  let k := ch.toNat
  let x := b.canes k
  if 60 ≤ p.toNat then
    let use := x.useOf (p.toNat - 60)
    if use = 0x3C ∨ (use = 0x3D ∧ (b.guard (dieOf k)).onBackup = false) then b.takeOut ch p none false else b
  else match b.idleSpare k with
    | some sp => match b.takePause ch .caneShift with
      | none => b
      | some b => ((b.setUse k sp 0x3F).takeOut ch p (some sp) false).pause k 20
    | none =>
      if p.toNat < 40 ∧ x.targets.contains p.toNat = true then
        (match b.takePause ch .caneShift with | some b => b.takeOut ch p none true | none => b)
      else if p.toNat < 40 ∧ (b.chan k).erased.length ≤ 1 then b.takeOut ch p none true
      else (b.updCanes k fun y => { y with targets := y.targets.filter (· != p.toNat) }).skipUnit (.pos ch p) (caneAddr k p.toNat 0x3F)

theorem Base.shiftPos_may {b : Base} (alive : b.alive = true) (may : b.mayTest ch p) : b.shiftPos ch p = b.shiftPosNow ch p := by
  obtain ⟨serves, active, out, wanted, present⟩ := may
  refine if_neg ?_
  have trained : ((b.chan ch.toNat).train == .trained || (b.chan ch.toNat).train == .sliced) = true := by simpa using serves
  have asked : (tb (b.reg Reg.SI_CFG) 24 || (b.canes ch.toNat).targets.contains p.toNat) = true := by simpa using wanted
  simp only [alive, trained, active, out, asked, present, beq_self_eq_true, Option.isNone_none, Bool.not_false, Bool.and_self, Bool.not_true,
    Bool.false_eq_true, not_false_eq_true]

theorem execCaneTestShift_pos (alive : s.base.alive = true) (may : s.base.mayTest ch p) :
    execCaneTestShift (.pos ch p) s = .next { s with base := s.base.shiftPosNow ch p } :=
  State.then_eq (Base.shiftPos_may alive may)

theorem execCaneTestShift_busy (out : (s.base.canes ch.toNat).testOut ≠ none) : execCaneTestShift (.pos ch p) s = .next s := by
  have away : (s.base.canes ch.toNat).testOut.isNone = false := by simpa [Option.isSome_iff_ne_none] using out
  exact State.then_self (if_pos (by simp only [away, Bool.and_false, Bool.false_and, Bool.not_false]))

theorem Base.shiftPosNow_spare {b b' : Base} {sp : Nat} (position : p.toNat < 60) (idle : b.idleSpare ch.toNat = some sp)
    (pause : b.takePause ch .caneShift = some b') :
    b.shiftPosNow ch p = ((b'.setUse ch.toNat sp 0x3F).takeOut ch p (some sp) false).pause ch.toNat 20 :=
  (if_neg (Nat.not_le.mpr position)).trans (by simp only [idle, pause])

theorem Base.shiftPosNow_empty {b : Base} (spare : 60 ≤ p.toNat) (empty : (b.canes ch.toNat).useOf (p.toNat - 60) = 0x3C) :
    b.shiftPosNow ch p = b.takeOut ch p none false :=
  (if_pos spare).trans (if_pos (.inl empty))

theorem Base.shiftPosNow_erases {b : Base} (sweep : (b.canes ch.toNat).targets.contains p.toNat = false) (idle : b.idleSpare ch.toNat = none)
    (signal : p.toNat < 40) (room : (b.chan ch.toNat).erased.length ≤ 1) : b.shiftPosNow ch p = b.takeOut ch p none true := by
  refine (if_neg (by omega)).trans ?_
  simp only [idle]
  exact (if_neg fun ⟨_, targeted⟩ => by rw [sweep] at targeted; cases targeted).trans (if_pos ⟨signal, room⟩)

theorem Base.shiftPosNow_skips {b : Base} (idle : b.idleSpare ch.toNat = none) (command : 40 ≤ p.toNat) (position : p.toNat < 60) :
    b.shiftPosNow ch p =
      (b.updCanes ch.toNat fun y => { y with targets := y.targets.filter (· != p.toNat) }).skipUnit (.pos ch p) (caneAddr ch.toNat p.toNat 0x3F) := by
  refine (if_neg (Nat.not_le.mpr position)).trans ?_
  simp only [idle]
  exact (if_neg fun ⟨low, _⟩ => by omega).trans (if_neg fun ⟨low, _⟩ => by omega)

end

section
variable {s : State} {q : BusId} {sg : BitVec 11} {d : DieId}

/-- A segment of a row bus goes out when it is the plan's, nothing else is out and no bus is in a full-width test (R329, R330). -/
theorem execCaneTestShift_seg (alive : s.base.alive = true) (planned : s.base.pl.active.segment = some (q, sg)) (known : sg.toNat < 1328)
    (no_seg : s.base.si.segOut = none) (no_beat : s.base.si.heartbeatOut = none) (serves : (s.base.bus q.toNat).retired = false)
    (no_full : ∀ i, i < 4 → (s.base.bus i).testing = false) (enabled : tb (s.base.reg Reg.SI_CFG) 24 = true)
    (free : 1288 ≤ sg.toNat ∨ 8 ≤ (s.base.busFree q.toNat).length) :
    execCaneTestShift (.seg q sg) s = .next { s with
      base := ((s.base.updPl fun x => { x with active := { x.active with segment := none } }).updSi fun x => { x with
        busTargets := x.busTargets.filter (· != (q.toNat, sg.toNat)) }).updSi fun x => { x with
        segOut := some (q.toNat, sg.toNat, s.base.pl.epochs, false) } } := by
  have buses : ((List.range 4).all fun i => !(s.base.bus i).testing) = true :=
    List.all_eq_true.mpr fun i hi => by simp [no_full i (List.mem_range.mp hi)]
  refine State.then_eq ((if_neg ?_).trans (if_pos free))
  simp only [alive, planned, known, no_seg, no_beat, serves, buses, enabled, beq_self_eq_true, decide_true, Option.isNone_none, Bool.not_false, Bool.true_or,
    Bool.and_self, Bool.not_true, Bool.false_eq_true, not_false_eq_true]

theorem execCaneTestShift_seg_off_plan (no : s.base.pl.active.segment ≠ some (q, sg)) : execCaneTestShift (.seg q sg) s = .next s :=
  State.then_self (if_pos (by simp [no]))

theorem execCaneTestShift_heartbeat (alive : s.base.alive = true) (no_beat : s.base.si.heartbeatOut = none)
    (enabled : tb (s.base.reg Reg.SI_CFG) 24 = true) (guard : (s.base.guard d.toNat).state = 0) :
    execCaneTestShift (.heartbeat d) s = .next { s with
      base := if s.base.backupReady d.toNat then s.base.updSi fun x => { x with heartbeatOut := some d.toNat }
        else s.base.skipUnit (.heartbeat d) d.toNat } :=
  State.then_eq (if_neg (by simp [alive, no_beat, enabled, guard]))

end

/-! ### CANE_TEST_RESULT and CANE_TEST_SHIFT_BACK -/

section
variable {s : State} {ch : ChanId} {p : BitVec 6} {w : CaneWidth} {res : List CaneWidth}

/-- A measured cane fails (R331): the pattern came back with errors, or the width lies below the least. -/
def Base.failing (b : Base) (w : CaneWidth) : Prop := w.prbsOk = false ∨ w.width.toNat < b.rf Reg.SI_CFG 13 8

theorem Base.caneFails_noteChan (b : Base) (k p n : Nat) (w : CaneWidth) : (b.noteChan k p n).caneFails w = true ↔ b.failing w := by
  show (!w.prbsOk || decide (w.width.toNat < b.rf Reg.SI_CFG 13 8)) = true ↔ _
  simp [Base.failing]

theorem Base.caneWeak_noteChan (b : Base) (k p n : Nat) {w : CaneWidth} (sound : ¬ b.failing w) :
    (b.noteChan k p n).caneWeak w = true ↔ w.width.toNat < b.rf Reg.SI_CFG 21 16 := by
  have passes : (b.noteChan k p n).caneFails w = false := Bool.eq_false_iff.mpr (sound ∘ (b.caneFails_noteChan k p n w).mp)
  rw [Base.caneWeak, passes]
  show (true && decide (w.width.toNat < b.rf Reg.SI_CFG 21 16)) = true ↔ _
  simp

/-- No position of the channel is out any more; the unit has been tested (R330, R331). -/
def Base.endTest (b : Base) (ch : ChanId) (p : BitVec 6) : Base :=
  (b.updCanes ch.toNat fun y => { y with testOut := none, testSpare := none, erasing := false }).unitDone (.pos ch p)

theorem execCaneTestResult_not_out (out : (s.base.canes ch.toNat).testOut ≠ some p.toNat) :
    execCaneTestResult (.pos ch p) (w :: res) s = .next s ∧ execCaneTestShiftBack (.pos ch p) s = .next s :=
  ⟨State.whenBase_kept fun _ => if_pos out, State.whenBase_kept fun _ => if_pos (.inl out)⟩

section
variable (alive : s.base.alive = true) (out : (s.base.canes ch.toNat).testOut = some p.toNat)
include alive out

theorem execCaneTestResult_fails (fails : s.base.failing w) (position : p.toNat < 60) :
    execCaneTestResult (.pos ch p) (w :: res) s = .next { s with
      base := match (s.base.canes ch.toNat).testSpare with
        | some sp => (((s.base.noteChan ch.toNat p.toNat w.width.toNat).bump Reg.CANE_FAIL_COUNT).takeSpare ch.toNat p.toNat sp).endTest ch p
        | none => ((s.base.noteChan ch.toNat p.toNat w.width.toNat).failPosition ch.toNat p.toNat).endTest ch p } :=
  State.whenBase_pos alive ((if_neg (not_not.mpr out)).trans
    ((if_pos ((s.base.caneFails_noteChan ..).mpr fails)).trans (if_neg (Nat.not_le.mpr position))))

theorem execCaneTestResult_weak (sound : ¬ s.base.failing w) (weak : w.width.toNat < s.base.rf Reg.SI_CFG 21 16) :
    execCaneTestResult (.pos ch p) (w :: res) s = .next { s with
      base := (s.base.noteChan ch.toNat p.toNat w.width.toNat).send .caneWeak (0x540 + dieOf ch.toNat)
        (caneAddr ch.toNat p.toNat ((s.base.canes ch.toNat).testSpare.getD 0x3F)) } :=
  State.whenBase_pos alive ((if_neg (not_not.mpr out)).trans
    ((if_neg (sound ∘ (s.base.caneFails_noteChan ..).mp)).trans (if_pos ((s.base.caneWeak_noteChan _ _ _ sound).mpr weak))))

theorem execCaneTestResult_good (sound : ¬ s.base.failing w) (strong : ¬ w.width.toNat < s.base.rf Reg.SI_CFG 21 16) :
    execCaneTestResult (.pos ch p) (w :: res) s = .next { s with base := s.base.noteChan ch.toNat p.toNat w.width.toNat } :=
  State.whenBase_pos alive ((if_neg (not_not.mpr out)).trans
    ((if_neg (sound ∘ (s.base.caneFails_noteChan ..).mp)).trans (if_neg (strong ∘ (s.base.caneWeak_noteChan _ _ _ sound).mp))))

theorem execCaneTestShiftBack_returns {b' : Base} {sp : Nat} (late : (s.base.canes ch.toNat).testFrom + 3 ≤ s.base.pl.epochs)
    (spare : (s.base.canes ch.toNat).testSpare = some sp) (pause : s.base.takePause ch .caneShift = some b') :
    execCaneTestShiftBack (.pos ch p) s = .next { s with base := ((b'.setUse ch.toNat sp 0x3C).pause ch.toNat 20).endTest ch p } := by
  refine State.whenBase_pos alive ((if_neg ?_).trans ?_)
  · rintro (no | early)
    · exact no out
    · omega
  · simp only [spare, pause]
    rfl

end

theorem execCaneTestShiftBack_early (early : s.base.pl.epochs < (s.base.canes ch.toNat).testFrom + 3) : execCaneTestShiftBack (.pos ch p) s = .next s :=
  State.whenBase_kept fun _ => if_pos (.inr early)

end

/-! ### SWEEP_LATE and the full-width tests -/

section
variable {s : State} {q : BusId} {failed : List (BitVec 14)} {min weak : Byte} {weakest : BitVec 14}

/-- The sweep has lasted longer than 1.25 times its period (R334). -/
def Base.sweepOverdue (b : Base) : Prop := 4500000000 * b.rf Reg.SI_CFG 7 0 < b.pl.epochs - b.si.sweepFrom

theorem execSweepLate_late (alive : s.base.alive = true) (quiet : s.base.si.late = false) (over_ : s.base.sweepOverdue) :
    execSweepLate s = .next { s with base := (s.base.updSi fun y => { y with late := true }).send .sweepLate 0x570 0 } :=
  State.whenBase_pos alive (if_pos ⟨by rw [quiet]; rfl, over_⟩)

theorem execSweepLate_kept (no : s.base.si.late = true ∨ ¬ s.base.sweepOverdue) : execSweepLate s = .next s :=
  State.whenBase_kept fun _ => if_neg fun ⟨quiet, over_⟩ => no.elim (fun late => by rw [late] at quiet; cases quiet) (fun no => no over_)

/-- The plan takes a bus out for its full-width test: its offers are withdrawn (R335). -/
def Base.takeBus (b : Base) (n : Nat) : Base :=
  let begun := { b with pl := { b.pl with active := { b.pl.active with fullWidth := none } } }
  let away := (begun.clearOffers n).updBus n fun x => { x with testing := true, tested := false, fwNow := false }
  ({ away with si := { away.si with fwActive := some n } }).send .fastPathLost 0x4D0 n

theorem execFullwidthTestStart_starts (alive : s.base.alive = true) (drains : s.base.drains q.toNat = true) (empty : s.base.stageEmpty q.toNat = true) :
    execFullwidthTestStart q s = .next { s with base := s.base.takeBus q.toNat } :=
  State.whenBase_pos alive (by simp only [drains, empty, Bool.and_self, if_true, Base.updPl, Base.updSi, Base.fastPath, Base.takeBus])

theorem execFullwidthTestStart_kept (no : s.base.drains q.toNat = false ∨ s.base.stageEmpty q.toNat = false) : execFullwidthTestStart q s = .next s :=
  State.whenBase_kept fun _ => if_neg (by rcases no with no | no <;> simp [no])

theorem execFullwidthTestDone_other (no : s.base.si.fwActive ≠ some q.toNat) : execFullwidthTestDone q failed min weakest weak s = .next s :=
  State.whenBase_kept fun _ => if_neg no

end

/-- Settles O34, command by command: by what is to go out, by the verdict on a cane that is out, and by the state of the bus. -/
theorem stackTests : Obligations.stack_tests := by
  unfold Obligations.stack_tests
  refine ⟨fun s ch p q sg d w res b' sp => ?_, fun s q failed min weakest weak ch => ?_⟩
  · intro b k x n may segMay alive
    refine ⟨fun test position idle pause => ?_, fun test spare empty => ?_, fun test sweep idle signal room => ?_, fun test idle command position => ?_,
      execCaneTestShift_busy, fun segMay free => ?_, execCaneTestShift_seg_off_plan, execCaneTestShift_heartbeat alive, fun out => ⟨?_, ?_, ?_, ?_⟩,
      execCaneTestResult_not_out (res := res), execCaneTestShiftBack_early, fun out => execCaneTestShiftBack_returns alive out,
      fun quiet => ⟨execSweepLate_late alive quiet, fun early => execSweepLate_kept (.inr (Nat.not_lt.mpr early))⟩, fun late => execSweepLate_kept (.inl late)⟩
    · exact (execCaneTestShift_pos alive test).trans (by rw [Base.shiftPosNow_spare position idle pause]; rfl)
    · exact (execCaneTestShift_pos alive test).trans (by rw [Base.shiftPosNow_empty spare empty]; rfl)
    · exact (execCaneTestShift_pos alive test).trans (by rw [Base.shiftPosNow_erases sweep idle signal room]; rfl)
    · exact (execCaneTestShift_pos alive test).trans (by rw [Base.shiftPosNow_skips idle command position]; rfl)
    · obtain ⟨planned, known, no_seg, no_beat, serves, no_full, enabled⟩ := segMay
      exact ⟨_, execCaneTestShift_seg alive planned known no_seg no_beat serves no_full enabled free, rfl, rfl, rfl, rfl⟩
    · intro fails position spare
      exact (execCaneTestResult_fails (res := res) alive out fails position).trans (by rw [spare]; rfl)
    · intro fails position spare
      exact (execCaneTestResult_fails (res := res) alive out fails position).trans (by rw [spare]; rfl)
    · exact execCaneTestResult_weak (res := res) alive out
    · exact execCaneTestResult_good (res := res) alive out
  · exact ⟨execFullwidthTestStart_starts, execFullwidthTestStart_kept,
      fun alive active => State.whenBase_pos alive (if_pos active), execFullwidthTestDone_other,
      fun full => ⟨fun serves => State.whenBase_pos full (if_neg (Bool.eq_false_iff.mp serves)), fun retired => State.whenBase_pos full (if_pos retired),
        fun serves => State.whenBase_pos full (if_neg (Bool.eq_false_iff.mp serves)), fun retired => State.whenBase_pos full (if_pos retired)⟩⟩

end Sys2Proof.Machine
end

section
/-! SUPPORT. The cycle of a row bus, completion records and the supervision of the mover (R250 to R298). -/

namespace Sys2Proof.Machine

/-! ### ROW_BUS_CYCLE -/

/-- The cycle of a bus is counted, and the running sweep is under way (R248, R260). -/
def Base.busStart (b : Base) (q : Nat) : Base := (b.updBus q fun x => { x with offeredAt := some b.now }).startSweep

/-- The slots advance, and a row whose records are held is learnt (R251, R260). -/
def Base.busAdvance (b : Base) (q : Nat) : Base := ((forN 16 (fun (k : Nat) (b : Base) => b.advance k) b).pump).learnNext q

/-- A rewrite of the running sweep that a write has overtaken is cancelled (R248). -/
def Base.busCancel (b : Base) : Base :=
  match b.sweeping with
  | some (w, i, p) => b.sweepCancel w i p
  | none => b

/-- What a cycle of a bus does before the bus offers. -/
def Base.busBegun (b : Base) (q : Nat) : Base := ((b.busStart q).busAdvance q).busCancel

/-- The offers of a bus in its cycle (R263). -/
def Base.busOffered (b : Base) (q : Nat) : Base := (b.withdraw q (b.rowJobs q)).offerNext q (b.rowJobs q)

/-- A bus carries a row (R263). -/
def State.carryRow (u : State) (q : Nat) (ok : Bool) (noise : List Noise) (j : RowJob) (e : RowEntry) : State :=
  match j with
  | .fill f i p => u.fillCycle q ok f i p e
  | .piece c => u.pieceCycle q ok noise c e
  | .sweep w i p => u.sweepCycle q ok noise w i p e

/-- A transfer leaves the fuses and Rind; one that fails leaves the arrays too. -/
theorem Frame.carryRow (s : State) (q : Nat) (ok : Bool) (noise : List Noise) (j : RowJob) (e : RowEntry) :
    Frame ok false false s (s.carryRow q ok noise j e) := by
  cases ok with
  | true => cases j with
    | fill f i p => exact Frame.fillCycle s q true f i p e
    | piece c => exact Frame.pieceCycle s q true noise c e
    | sweep w i p => exact Frame.sweepCycle s q true noise w i p e
  | false => cases j with
    | fill f i p => rw [State.carryRow, State.fillCycle, if_neg (by decide)]; exact .onBase _
    | piece c => rw [State.carryRow, State.pieceCycle, if_pos (by decide)]; exact .onBase _
    | sweep w i p => rw [State.carryRow, State.sweepCycle, if_pos (by decide)]; exact .onBase _

section
variable {s : State} {bus : BusId} {ok : Bool} {noise : List Noise}

/-- A cycle of the bus is due: the mover runs, in an even cycle in which the bus has not offered yet (R260). -/
def Base.busDue (b : Base) (q : Nat) : Prop := b.moverRuns = true ∧ b.pl.phase % 2 = 0 ∧ (b.bus q).offeredAt ≠ some b.now

theorem execRowBusCycle_idle (no : s.base.moverRuns = false ∨ s.base.pl.phase % 2 ≠ 0 ∨ (s.base.bus bus.toNat).offeredAt = some s.base.now) :
    execRowBusCycle bus ok noise s = .next s :=
  if_pos (by rcases no with no | no | no <;> simp [no])

/-- A bus offers, and carries at most one row; out of service it carries nothing, but the lines of the sweep's row go (R260, R263). -/
def State.busCarry (u : State) (q : Nat) (ok : Bool) (noise : List Noise) : State :=
  let b := u.base
  if b.busServes q = false then
    match b.sweeping with
    | some (_, i, p) => if quadOf p.ch = q then { u with base := b.sweepLines i p } else u
    | none => u
  else
    match (b.busOffered q).transferNow q (b.rowJobs q) with
    | none => { u with base := b.busOffered q }
    | some (j, e) => State.carryRow { u with base := (b.busOffered q).useBus j.place.ch (b.busOffered q).now e } q ok noise j e

/-- The model's text of a cycle from the offers on. -/
def State.busRest (s : State) (q : Nat) (ok : Bool) (noise : List Noise) : Host.Outcome State Fault Refusal :=
  let b := s.base
  if !b.busServes q then
    match b.sweeping with
    | some (_, i, p) => if quadOf p.ch = q then s.then_ fun b => b.sweepLines i p else .next s
    | none => .next s
  else
    let jobs := b.rowJobs q
    let s := s.onBase fun b => (b.withdraw q jobs).offerNext q jobs
    match s.base.transferNow q jobs with
    | none => .next s
    | some (j, e) =>
      let s := s.onBase fun b => b.useBus j.place.ch b.now e
      match j with
      | .fill f i p => .next (s.fillCycle q ok f i p e)
      | .piece c => .next (s.pieceCycle q ok noise c e)
      | .sweep w i p => .next (s.sweepCycle q ok noise w i p e)

theorem execRowBusCycle_rest (due : s.base.busDue bus.toNat) :
    execRowBusCycle bus ok noise s =
      (((s.onBase (Base.busStart · bus.toNat)).onBase (Base.busAdvance · bus.toNat)).onBase Base.busCancel).busRest bus.toNat ok noise := by
  obtain ⟨runs, even, fresh⟩ := due
  unfold execRowBusCycle
  rw [if_neg (by simp [runs, even, fresh])]
  extract_lets s1 s2 s3 b
  have one : s1 = s.onBase (Base.busStart · bus.toNat) := rfl
  have two : s2 = s1.onBase (Base.busAdvance · bus.toNat) := rfl
  have three : s3 = s2.onBase Base.busCancel := rfl
  have four : b = s3.base := rfl
  clear_value b s3 s2 s1
  subst four
  rw [← one, ← two, ← three]
  rfl

theorem State.busRest_eq (u : State) (q : Nat) (ok : Bool) (noise : List Noise) : u.busRest q ok noise = .next (u.busCarry q ok noise) := by
  simp only [State.busRest, State.busCarry]
  cases serves : u.base.busServes q with
  | false =>
    simp only [Bool.not_false, if_true]
    cases u.base.sweeping with
    | none => rfl
    | some w => simp only; split <;> rfl
  | true =>
    simp only [Bool.not_true, Bool.false_eq_true, Bool.true_eq_false, if_false]
    show (match (u.base.busOffered q).transferNow q (u.base.rowJobs q) with | none => _ | some (j, e) => _) = _
    rcases (u.base.busOffered q).transferNow q (u.base.rowJobs q) with _ | ⟨j, e⟩
    · rfl
    · cases j <;> rfl

theorem State.busCarry_frame (u : State) (q : Nat) (ok : Bool) (noise : List Noise) : Frame ok false false u (u.busCarry q ok noise) := by
  simp only [State.busCarry]
  split
  · split
    · split
      · exact .base _
      · exact .refl u
    · exact .refl u
  · split
    · exact .base _
    · exact Frame.trans (.base _) (.carryRow ..)

theorem State.onBase_three (s : State) (f g h : Base → Base) : ((s.onBase f).onBase g).onBase h = { s with base := h (g (f s.base)) } := rfl

theorem execRowBusCycle_due (due : s.base.busDue bus.toNat) :
    execRowBusCycle bus ok noise s = .next (State.busCarry { s with base := s.base.busBegun bus.toNat } bus.toNat ok noise) := by
  rw [execRowBusCycle_rest due, State.onBase_three, State.busRest_eq, Base.busBegun]

/-- A cycle of a bus leaves the fuses and Rind, and the arrays when its transfer fails. -/
theorem execRowBusCycle_frame (s : State) (bus : BusId) (ok : Bool) (noise : List Noise) : Within ok false false s (execRowBusCycle bus ok noise s) := by
  by_cases due : s.base.busDue bus.toNat
  · rw [execRowBusCycle_due due]
    exact (Frame.trans (.base _) (State.busCarry_frame ..)).within
  · rw [execRowBusCycle_idle]
    · exact (Frame.refl s).within
    · simp only [Base.busDue, not_and_or, Bool.not_eq_true, not_not] at due
      exact due

end

section
variable {u : State} {q : Nat} {ok : Bool} {noise : List Noise}

theorem State.busCarry_out (out : u.base.busServes q = false) (other : ∀ w i p, u.base.sweeping = some (w, i, p) → quadOf p.ch ≠ q) :
    u.busCarry q ok noise = u := by
  refine (if_pos out).trans ?_
  cases sweeps : u.base.sweeping with
  | none => rfl
  | some w => exact if_neg (other w.1 w.2.1 w.2.2 sweeps)

theorem State.busCarry_lines {w : Sweep} {i : Nat} {p : Place} (out : u.base.busServes q = false) (sweeps : u.base.sweeping = some (w, i, p))
    (here : quadOf p.ch = q) : u.busCarry q ok noise = { u with base := u.base.sweepLines i p } :=
  (if_pos out).trans (by rw [sweeps]; exact if_pos here)

theorem State.busCarry_offers (serves : u.base.busServes q = true) (idle : (u.base.busOffered q).transferNow q (u.base.rowJobs q) = none) :
    u.busCarry q ok noise = { u with base := u.base.busOffered q } :=
  (if_neg (by simp [serves])).trans (by rw [idle])

theorem State.busCarry_carries {j : RowJob} {e : RowEntry} (serves : u.base.busServes q = true)
    (moves : (u.base.busOffered q).transferNow q (u.base.rowJobs q) = some (j, e)) :
    u.busCarry q ok noise = State.carryRow { u with base := (u.base.busOffered q).useBus j.place.ch (u.base.busOffered q).now e } q ok noise j e :=
  (if_neg (by simp [serves])).trans (by rw [moves])

end

/-! ### DESC_COMPLETE -/

section
variable {s : State} {slot : BitVec 4} {x : Slot}

/-- A finished descriptor leaves its slot; `f` is what its record leaves behind (R269, R277). -/
def Base.endDesc (b : Base) (k : Nat) (x : Slot) (f : Base → Base) : Base :=
  ((f { b with mov := { b.mov with slots := b.mov.slots.filter fun e => e.1 != k } }).restQueue x.queue).pump

/-- The record of a finished descriptor is on its way (R277). -/
def Base.sendDesc (b : Base) (k : Nat) (x : Slot) : Base :=
  ((b.updSlot k fun y => { y with recSent := true }).sendRecord (.mover k 0) x (b.bytesDone k x)).pump

/-- What DESC_COMPLETE does for a descriptor whose record is due (R277, R298). -/
def Base.completeDesc (b : Base) (k : Nat) (x : Slot) : Base :=
  if !x.recSent && !b.ringHeld x.queue then b.endDesc k x fun o => (o.reportBytes x (b.bytesDone k x)).ringFault x.queue x.index 2
  else
    let sent := if x.recSent then b else b.sendDesc k x
    if sent.moverQuiet k then sent.endDesc k x fun o => o.afterRecord x (b.bytesDone k x) false else sent

theorem execDescComplete_due (runs : s.base.moverRuns = true) (there : s.base.slot slot.toNat = some x) (ended : x.status ≠ none)
    (first : ((s.base.slotsOf x.queue).head?.map fun e => e.1) = some slot.toNat) (quiet : s.base.moverQuiet slot.toNat = true) :
    execDescComplete slot s = .next { s with base := s.base.completeDesc slot.toNat x } := by
  have over_ : x.status.isNone = false := by simpa [Option.isSome_iff_ne_none] using ended
  refine State.whenBase_pos runs ?_
  simp only [there]
  exact if_neg (by simp [over_, first, quiet])

theorem execDescComplete_runs (there : s.base.slot slot.toNat = some x) (runs : x.status = none) : execDescComplete slot s = .next s :=
  State.whenBase_kept fun _ => by simp [there, runs]

theorem Base.completeDesc_sent {b : Base} {k : Nat} (sent : x.recSent = true) (quiet : b.moverQuiet k = true) :
    b.completeDesc k x = b.endDesc k x fun o => o.afterRecord x (b.bytesDone k x) false := by
  simp only [Base.completeDesc, sent, quiet, Bool.not_true, Bool.false_and, Bool.false_eq_true, if_true, if_false]

theorem Base.completeDesc_no_ring {b : Base} {k : Nat} (unsent : x.recSent = false) (out : b.ringHeld x.queue = false) :
    b.completeDesc k x = b.endDesc k x fun o => (o.reportBytes x (b.bytesDone k x)).ringFault x.queue x.index 2 :=
  if_pos (by simp [unsent, out])

theorem Base.completeDesc_entered {b : Base} {k : Nat} (unsent : x.recSent = false) (held : b.ringHeld x.queue = true)
    (done : (b.sendDesc k x).moverQuiet k = true) :
    b.completeDesc k x = (b.sendDesc k x).endDesc k x fun o => o.afterRecord x (b.bytesDone k x) false := by
  simp only [Base.completeDesc, unsent, held, done, Bool.not_false, Bool.not_true, Bool.and_false, Bool.false_eq_true, if_true, if_false]

theorem Base.completeDesc_waits {b : Base} {k : Nat} (unsent : x.recSent = false) (held : b.ringHeld x.queue = true)
    (busy : (b.sendDesc k x).moverQuiet k = false) : b.completeDesc k x = b.sendDesc k x := by
  simp only [Base.completeDesc, unsent, held, busy, Bool.not_true, Bool.and_false, Bool.false_eq_true, if_false]

end

/-! ### CLAIM_SLOW and MOVER_STALL_RESET -/

section
variable {s : State} {slot : BitVec 4}

theorem execClaimSlow_late {f : Fill} {x : Slot} (alive : s.base.alive = true)
    (late : (s.base.lay.fills.find? fun f => decide (f.claim = some slot.toNat) && decide (f.at_ + 10000 < s.base.now)) = some f)
    (there : s.base.slot slot.toNat = some x) :
    execClaimSlow slot s = .next { s with base := s.base.send .claimSlow 0x4D0 (x.index + 4096 * (x.queue % 4)) } :=
  State.whenBase_pos alive (by simp only [late, there]; rfl)

theorem execClaimSlow_early (early : ∀ f ∈ s.base.lay.fills, f.claim = some slot.toNat → s.base.now ≤ f.at_ + 10000) : execClaimSlow slot s = .next s := by
  have absent : (s.base.lay.fills.find? fun f => decide (f.claim = some slot.toNat) && decide (f.at_ + 10000 < s.base.now)) = none := by
    rw [List.find?_eq_none]
    exact fun f hf => by simpa using early f hf
  exact State.whenBase_kept fun _ => by simp only [absent]

theorem execMoverStallReset_due (run : s.base.fwRuns = true) (pending : s.base.moverPending = true)
    (late : s.base.mov.lastProgress + 10000000 ≤ s.base.now) : execMoverStallReset s = .next { s with base := s.base.countedReset 16 } :=
  State.whenBase_pos (by rw [run, pending, decide_eq_true late]; rfl) rfl

theorem execMoverStallReset_kept (no : s.base.moverPending = false ∨ s.base.now < s.base.mov.lastProgress + 10000000) : execMoverStallReset s = .next s :=
  State.whenBase_neg (by
    rcases no with idle | early
    · rw [idle, Bool.and_false, Bool.false_and]
    · rw [decide_eq_false (Nat.not_le.mpr early), Bool.and_false])

theorem execMoverRecovery_due (run : s.base.fwRuns = true) (active : s.base.boot.memActive = true) :
    execMoverRecovery s = .next { s with
      base := (forN 64 (fun (q : Nat) (b : Base) => b.restQueue q) (s.base.mov.checkpoints.foldl (fun (b : Base) (x : Slot) => b.recover x)
        (s.base.updMov fun v => { v with checkpoints := [], stopped := false }))).pump } :=
  State.whenBase_pos (by rw [run, active]; rfl) rfl

end

/-- Settles O33: a bus cycle by what the bus may carry, a descriptor's completion by its record, and the supervision by the time that has passed. -/
theorem rowBusAndMoverSupervision : Obligations.row_bus_and_mover_supervision := by
  unfold Obligations.row_bus_and_mover_supervision
  refine ⟨?_, ?_⟩
  · intro s bus ok noise slot x q k
    refine ⟨fun runs even fresh => ?_, execRowBusCycle_idle (s := s) (bus := bus) (ok := ok) (noise := noise),
      fun t step => ?_, fun runs there ended first quiet => ?_, execDescComplete_runs⟩
    · intro begun moved b jobs offered
      have begun_eq : begun = s.base.busStart bus.toNat := rfl
      have moved_eq : moved = begun.busAdvance bus.toNat := rfl
      clear_value begun moved
      have b_eq : b = moved.busCancel := rfl
      clear_value b
      have cycle := execRowBusCycle_due (ok := ok) (noise := noise) ⟨runs, even, fresh⟩
      rw [Base.busBegun, ← begun_eq, ← moved_eq, ← b_eq] at cycle
      exact ⟨fun out other => cycle.trans (congrArg _ (State.busCarry_out out other)),
        fun w i p out sweeps here => cycle.trans (congrArg _ (State.busCarry_lines out sweeps here)),
        fun serves idle => cycle.trans (congrArg _ (State.busCarry_offers serves idle)),
        fun j e serves moves => cycle.trans (congrArg _ (State.busCarry_carries serves moves))⟩
    · obtain ⟨u, next, frame⟩ := execRowBusCycle_frame s bus ok noise
      obtain rfl : u = t := by injection next.symm.trans step
      exact ⟨frame.otp rfl, frame.rind rfl, frame.mem⟩
    · have complete := execDescComplete_due runs there ended first quiet
      intro bytes freed out
      have ends : ∀ (o : Base) (f : Base → Base), ((f (freed o)).restQueue x.queue).pump = o.endDesc k x f := fun _ _ => rfl
      have out_eq : out = s.base.sendDesc k x := rfl
      have bytes_eq : bytes = s.base.bytesDone k x := rfl
      clear_value out bytes freed
      rw [out_eq, bytes_eq]
      refine ⟨fun sent => ?_, fun unsent no_ring => ?_, fun unsent held => ⟨fun done => ?_, fun busy => ?_⟩⟩
      · rw [ends s.base fun o => o.afterRecord x (s.base.bytesDone k x) false, ← Base.completeDesc_sent sent quiet]
        exact complete
      · rw [ends s.base fun o => (o.reportBytes x (s.base.bytesDone k x)).ringFault x.queue x.index 2, ← Base.completeDesc_no_ring unsent no_ring]
        exact complete
      · rw [ends _ fun o => o.afterRecord x (s.base.bytesDone k x) false, ← Base.completeDesc_entered unsent held done]
        exact complete
      · rw [← Base.completeDesc_waits unsent held busy]
        exact complete
  · intro s slot b
    exact ⟨fun f x => execClaimSlow_late, execClaimSlow_early, execMoverStallReset_due, execMoverStallReset_kept, execMoverRecovery_due⟩

end Sys2Proof.Machine
end

section
/-! SUPPORT. Training of channels, drift visits and sliced retrains (R170 to R175). -/

namespace Sys2Proof.Machine

/-! ### Channels written twice -/

@[simp] theorem Base.chan_setChan_same (b : Base) (k : Nat) (c : Chan) : (b.setChan k c).chan k = c := by simp [Base.chan, Base.setChan]

/-- A channel that was just stored, and is not a fresh one, is stored again as it is changed. -/
theorem Base.updChan_setChan (b : Base) (k : Nat) {c : Chan} (f : Chan → Chan) (stored : c ≠ {}) : (b.setChan k c).updChan k f = b.setChan k (f c) := by
  rw [Base.updChan, Base.chan_setChan_same]
  simp only [Base.setChan, Tab.set_set _ _ _ _ stored]

/-- A channel whose pins are held for some cycles (R172, R174). -/
def Chan.paused (c : Chan) (now cycles : Nat) : Chan := { c with pauseUntil := (c.cols.map ColSlot.ends).foldl max now + cycles }

theorem Chan.ne_default {c : Chan} (held : 0 < c.pauseUntil) : c ≠ {} := by
  rintro rfl
  exact absurd held (by decide)

theorem Base.updChan_pause (b : Base) (k : Nat) {cycles : Nat} (f : Chan → Chan) (some_cycles : 0 < cycles) :
    (b.pause k cycles).updChan k f = b.setChan k (f ((b.chan k).paused b.now cycles)) :=
  b.updChan_setChan k f (Chan.ne_default (Nat.add_pos_right _ some_cycles))

/-! ### Training at boot -/

/-- A channel waits for its training (R170). -/
def Base.untrained (b : Base) (i : Nat) : Bool := (b.chan i).train == .untrained || (b.chan i).train == .training

/-- The channels of a group that wait for training (R170). -/
def Base.openOf (b : Base) (group : Nat) : List Nat := ((List.range 16).map fun i => 16 * group + i).filter b.untrained

section
variable {s : State} {group : Fin 4} {results : List TrainResult}

theorem results_cover_iff (b : Base) (group : Nat) (results : List TrainResult) :
    ((b.openOf group).all fun c => results.any fun r => r.ch.toNat == c) = true ↔ ∀ i ∈ b.openOf group, ∃ r ∈ results, r.ch.toNat = i := by
  rw [List.all_eq_true]
  simp only [List.any_eq_true, beq_iff_eq]

theorem execChannelTraining_turn (alive : s.base.alive = true) (boot : s.base.boot.memActive = false) (turn : s.base.dram.trainGroup = group.val)
    (all : ∀ i ∈ s.base.openOf group.val, ∃ r ∈ results, r.ch.toNat = i) :
    execChannelTraining group results s = .next { s with
      base := ((results.filter fun r => (s.base.openOf group.val).contains r.ch.toNat).foldl (fun b r => b.trainFull r) s.base).updDram fun d => { d with
        trainGroup := group.val + 1 } } :=
  State.whenBase_pos (by simp [alive, boot, turn]) (if_pos ((results_cover_iff ..).mpr all))

theorem execChannelTraining_kept (no : s.base.dram.trainGroup ≠ group.val ∨ ∃ i ∈ s.base.openOf group.val, ∀ r ∈ results, r.ch.toNat ≠ i) :
    execChannelTraining group results s = .next s := by
  rcases no with turn | ⟨i, hi, no⟩
  · exact State.whenBase_neg (by simp [turn])
  · refine State.whenBase_kept fun _ => if_neg fun all => ?_
    obtain ⟨r, hr, eq⟩ := (results_cover_iff ..).mp all i hi
    exact no r hr eq

end

section
variable (b : Base) {r : TrainResult} (all_train : r.failedCanes = []) (serves : b.retired r.ch.toNat = false)
include all_train serves

theorem Base.trainFull_good (good : r.failedAt = none) : b.trainFull r = b.trained r := by
  simp only [Base.trainFull, all_train, List.filter_nil, List.foldl_nil, serves, Bool.false_eq_true, if_false, good]

theorem Base.trainFull_bad (bad : r.failedAt ≠ none) : b.trainFull r = b.trainingFailed r.ch.toNat := by
  obtain ⟨n, at_⟩ := Option.ne_none_iff_exists'.mp bad
  simp only [Base.trainFull, all_train, List.filter_nil, List.foldl_nil, serves, Bool.false_eq_true, if_false, at_]

end

theorem TrainRecord.usable_iff (old : TrainRecord) (x : TrainCheck) : old.usable x = true ↔
    x.crcOk = true ∧ x.partOk = true ∧ x.patternOk = true ∧ old.temp - x.full.temp ≤ 20 ∧ x.full.temp - old.temp ≤ 20 := by
  simp only [TrainRecord.usable, Bool.and_eq_true, decide_eq_true_eq]
  tauto

section
variable (b : Base) {x : TrainCheck} {old : TrainRecord} (serves : b.retired x.ch.toNat = false) (stored : (b.chan x.ch.toNat).record = some old)
include serves stored

theorem Base.loadRecord_used (good : old.usable x = true) :
    b.loadRecord x = b.updChan x.ch.toNat fun c => { c.centred b.pl.epochs with train := .trained, usedStored := true } := by
  simp only [Base.loadRecord, serves, stored, good, Bool.false_eq_true, if_true, if_false]

theorem Base.loadRecord_rejected (bad : ¬ old.usable x = true) :
    b.loadRecord x = (b.send .storedTrainingRejected (chSrc x.ch.toNat 2) (chAddr x.ch.toNat 0 0)).trainFull { x.full with ch := x.ch } := by
  simp only [Base.loadRecord, serves, stored, bad, Bool.false_eq_true, if_false]

end

theorem chAddr_zero (k : Nat) : chAddr k 0 0 = k := by simp [chAddr]

/-! ### TRAIN_CTRL_START -/

section
variable {s : State} {ch : ChanId}

theorem Base.requestRetrain_starts {b : Base} {k : Nat} (trained : (b.chan k).train = .trained) (idle : b.dram.retraining = none) :
    b.requestRetrain k = b.startRetrain k := by
  simp only [Base.requestRetrain, trained, idle, ne_eq, not_true, if_false]

theorem Base.requestRetrain_waits {b : Base} {k : Nat} (trained : (b.chan k).train = .trained) (busy : b.dram.retraining ≠ none)
    (fresh : b.dram.retrainWait.contains k = false) : b.requestRetrain k = b.updDram fun d => { d with retrainWait := d.retrainWait ++ [k] } := by
  obtain ⟨n, runs⟩ := Option.ne_none_iff_exists'.mp busy
  simp only [Base.requestRetrain, trained, runs, fresh, ne_eq, not_true, Bool.false_eq_true, if_false]

theorem Base.requestRetrain_kept {b : Base} {k : Nat}
    (no : (b.chan k).train ≠ .trained ∨ b.dram.retraining ≠ none ∧ b.dram.retrainWait.contains k = true) : b.requestRetrain k = b := by
  by_cases trained : (b.chan k).train = .trained
  · obtain ⟨busy, waits⟩ := no.resolve_left (not_not.mpr trained)
    obtain ⟨n, runs⟩ := Option.ne_none_iff_exists'.mp busy
    simp only [Base.requestRetrain, trained, runs, waits, ne_eq, not_true, if_true, if_false]
  · exact if_pos trained

end

/-! ### DRIFT_VISIT and RETRAIN_SLICE -/

section
variable {s : State} {ch : ChanId} {b : Base}

/-- A channel after a drift visit (R172): the eye visited has moved, and the other is next. -/
def Chan.visited (c : Chan) (m : DriftMeasure) (epochs : Nat) : Chan :=
  let c := if c.writeEye then { c with writeCentres := stepCentres c.writeCentres m.centres, writeWidths := m.widths }
    else { c with readCentres := stepCentres c.readCentres m.centres, readWidths := m.widths }
  { c with visitAt := epochs, writeEye := !c.writeEye }

/-- A centre or a width has passed the limit of TRAIN_CFG (R173). -/
def Base.driftLimit (b : Base) (m : DriftMeasure) : Prop :=
  (∃ x ∈ m.centres, b.rf Reg.TRAIN_CFG 3 0 < x.natAbs) ∨ ∃ w ∈ m.widths, w < b.rf Reg.TRAIN_CFG 15 8

theorem Base.driftPassed_iff (b : Base) (m : DriftMeasure) : b.driftPassed m = true ↔ b.driftLimit m := by
  simp [Base.driftPassed, Base.driftLimit]

theorem execDriftVisit_visits {m : DriftMeasure} (visitable : s.base.visitable ch.toNat = true) (trained : (s.base.chan ch.toNat).train = .trained)
    (pause : s.base.takePause ch .drift = some b) :
    execDriftVisit ch m s = .next { s with
      base := let seen := b.setChan ch.toNat (((b.chan ch.toNat).paused b.now 20).visited m b.pl.epochs)
        if b.driftPassed m then (seen.send .driftLimit (chSrc ch.toNat 2) (chAddr ch.toNat 0 0)).requestRetrain ch.toNat else seen } := by
  refine State.then_eq ((if_neg (by simp [visitable, trained])).trans ?_)
  simp only [pause]
  have seen : ((b.pause ch.toNat 20).updChan ch.toNat fun c => c.visited m b.pl.epochs) =
      b.setChan ch.toNat (((b.chan ch.toNat).paused b.now 20).visited m b.pl.epochs) := b.updChan_pause ch.toNat (fun c => c.visited m b.pl.epochs) (by decide)
  rw [← seen]
  rfl

/-- A channel one slice further in its retraining (R174). -/
def Chan.sliceTaken (c : Chan) (epochs : Nat) : Chan := { c with slicesLeft := c.slicesLeft - 1, lastSlice := epochs }

/-- A channel whose retraining is complete (R174). -/
def Chan.retrained (c : Chan) (values : TrainValues) (temp : Int) (epochs : Nat) : Chan :=
  { c.centred epochs with train := .trained, record := some (TrainRecord.retrained c.record values temp) }

section
variable {values : TrainValues} (visitable : s.base.visitable ch.toNat = true) (sliced : (s.base.chan ch.toNat).train = .sliced)
  (time : (s.base.chan ch.toNat).lastSlice = 0 ∨ (s.base.chan ch.toNat).lastSlice + 10 ≤ s.base.pl.epochs) (pause : s.base.takePause ch .slice = some b)
include visitable sliced time pause

theorem execRetrainSlice_slices :
    execRetrainSlice ch values s = .next { s with
      base := let taken := b.setChan ch.toNat (((b.chan ch.toNat).paused b.now 1000).sliceTaken b.pl.epochs)
        if (taken.chan ch.toNat).slicesLeft = 0 then
          ((taken.updChan ch.toNat fun c => c.retrained values ((b.diode (dieOf ch.toNat)).reading / 4) b.pl.epochs).send
            .retrainDone (chSrc ch.toNat 2) (chAddr ch.toNat 0 0)).nextRetrain ch.toNat
        else taken } := by
  refine State.then_eq ((if_neg ?_).trans ?_)
  · rcases time with first | later <;> simp [*]
  · simp only [pause]
    have taken : ((b.pause ch.toNat 1000).updChan ch.toNat fun c => c.sliceTaken b.pl.epochs) =
        b.setChan ch.toNat (((b.chan ch.toNat).paused b.now 1000).sliceTaken b.pl.epochs) :=
      b.updChan_pause ch.toNat (fun c => c.sliceTaken b.pl.epochs) (by decide)
    rw [← taken]
    rfl

theorem execRetrainSlice_more (more : 1 < (b.chan ch.toNat).slicesLeft) :
    execRetrainSlice ch values s = .next { s with base := b.setChan ch.toNat (((b.chan ch.toNat).paused b.now 1000).sliceTaken b.pl.epochs) } := by
  refine (execRetrainSlice_slices visitable sliced time pause).trans (congrArg _ (congrArg _ (if_neg ?_)))
  rw [Base.chan_setChan_same]
  show (b.chan ch.toNat).slicesLeft - 1 ≠ 0
  omega

theorem execRetrainSlice_last (last : (b.chan ch.toNat).slicesLeft = 1) :
    execRetrainSlice ch values s = .next { s with
      base := ((b.setChan ch.toNat ((((b.chan ch.toNat).paused b.now 1000).sliceTaken b.pl.epochs).retrained values
        ((b.diode (dieOf ch.toNat)).reading / 4) b.pl.epochs)).send .retrainDone (chSrc ch.toNat 2) (chAddr ch.toNat 0 0)).nextRetrain ch.toNat } := by
  refine (execRetrainSlice_slices visitable sliced time pause).trans (congrArg _ (congrArg _ ((if_pos ?_).trans ?_)))
  · rw [Base.chan_setChan_same]
    show (b.chan ch.toNat).slicesLeft - 1 = 0
    omega
  · rw [b.updChan_setChan ch.toNat _ (Chan.ne_default (Nat.add_pos_right _ (by decide)))]

end

end

theorem stepTo_natAbs (at_ goal : Int) : (goal - stepTo at_ goal).natAbs = (goal - at_).natAbs - 1 ∧ (stepTo at_ goal - at_).natAbs ≤ 1 := by
  unfold stepTo
  split
  · omega
  · split <;> omega

/-- Settles O25: the two commands at boot, the request, the visit by what it measured and the slice by those left. -/
theorem channelTraining : Obligations.channel_training := by
  unfold Obligations.channel_training
  refine ⟨⟨fun s group results checks ch => ?_, fun b r x old => ?_⟩, fun s ch m values b => ?_, fun old measured i x at_ => ?_⟩
  · exact ⟨fun alive boot => ⟨execChannelTraining_turn alive boot, execChannelTraining_kept, State.whenBase_pos (by rw [alive, boot]; rfl) rfl⟩,
      fun full trained idle => State.whenBase_pos full (Base.requestRetrain_starts trained idle),
      fun full trained busy fresh => State.whenBase_pos full (Base.requestRetrain_waits trained busy fresh),
      fun full no => State.whenBase_kept fun _ => Base.requestRetrain_kept no⟩
  · refine ⟨b.trainFull_good, fun all serves bad => ?_, fun serves stored => ⟨fun good => ?_, fun bad => ?_⟩⟩
    · rw [b.trainFull_bad all serves bad, Base.trainingFailed, chAddr_zero]
      rfl
    · exact b.loadRecord_used serves stored ((old.usable_iff x).mpr good)
    · rw [b.loadRecord_rejected serves stored, chAddr_zero]
      · rfl
      · rw [old.usable_iff x]
        rintro ⟨crc, part, pattern, low, high⟩
        rcases bad with h | h | h | h | h
        · rw [crc] at h; cases h
        · rw [part] at h; cases h
        · rw [pattern] at h; cases h
        · omega
        · omega
  · intro k c held eye seen passed
    have eye_eq : eye = (c.paused b.now 20).visited m b.pl.epochs := by
      simp only [eye, held, Chan.visited, Chan.paused]
      split <;> simp_all
    refine ⟨fun visitable trained pause => ⟨fun within => ?_, fun over_ => ?_⟩, fun visitable sliced time pause => ⟨?_, fun last => ?_⟩⟩
    · rw [show seen = b.setChan k ((c.paused b.now 20).visited m b.pl.epochs) from congrArg (b.setChan k) eye_eq]
      exact (execDriftVisit_visits visitable trained pause).trans (congrArg _ (congrArg _ (if_neg (within ∘ (b.driftPassed_iff m).mp))))
    · rw [show seen = b.setChan k ((c.paused b.now 20).visited m b.pl.epochs) from congrArg (b.setChan k) eye_eq]
      refine (execDriftVisit_visits visitable trained pause).trans (congrArg _ (congrArg _ ((if_pos ((b.driftPassed_iff m).mpr over_)).trans ?_)))
      rw [chAddr_zero]
      rfl
    · exact execRetrainSlice_more visitable sliced time pause
    · exact (execRetrainSlice_last visitable sliced time pause last).trans (by rw [chAddr_zero]; rfl)
  · refine ⟨stepTo (old.getD i 0) x, ?_, (stepTo_natAbs ..).1, (stepTo_natAbs ..).2⟩
    simp [stepCentres, List.getElem?_mapIdx, at_]

end Sys2Proof.Machine
end

section
/-! SUPPORT. Logical devices and dynamic capacity (R92 to R115, R391). -/

namespace Sys2Proof.Machine

@[simp] theorem Base.ld_setLd_same (b : Base) (h : Nat) (d : LogicalDev) : (b.setLd h d).ld h = d := by simp [Base.ld, Base.setLd]

/-! ### MSIX_ENABLE -/

section
variable (b : Base) (ld : HostId) (go : BitVec 8)

/-- The vectors that `go` names are sent, of those below `n`. -/
def Base.sendVectors (b : Base) (ld : HostId) (go : BitVec 8) (n : Nat) : Base :=
  forN n (fun v b => if go.getLsbD v then b.emit (.msixHost ld v) else b) b

theorem Base.sendVectors_succ (n : Nat) : b.sendVectors ld go (n + 1) =
    if go.getLsbD n then (b.sendVectors ld go n).emit (.msixHost ld n) else b.sendVectors ld go n := by
  simp only [Base.sendVectors, forN, List.range_succ, List.foldl_append, List.foldl_cons, List.foldl_nil]

theorem Base.sendVectors_frame (n : Nat) : b.sendVectors ld go n = { b with out := (b.sendVectors ld go n).out } := by
  induction n with
  | zero => rfl
  | succ n ih =>
    rw [Base.sendVectors_succ]
    split
    · rw [ih]
      rfl
    · exact ih

theorem Base.sendVectors_none (n : Nat) : b.sendVectors ld 0 n = b := by
  induction n with
  | zero => rfl
  | succ n ih => rw [Base.sendVectors_succ, ih]; simp

theorem Base.mem_sendVectors {v : Nat} (named : go.getLsbD v = true) {n : Nat} (hv : v < n) : .msixHost ld v ∈ (b.sendVectors ld go n).out := by
  induction n with
  | zero => omega
  | succ n ih =>
    rw [Base.sendVectors_succ]
    rcases Nat.lt_succ_iff_lt_or_eq.mp hv with lt | rfl
    · split
      · exact List.mem_cons_of_mem _ (ih lt)
      · exact ih lt
    · rw [if_pos named]
      exact List.mem_cons_self

end

section
variable {s : State} {ld : HostId}

/-- The vectors that an MSIX_ENABLE sends (R111, R391): pending ones no longer masked, and vector 0 for event records never told. -/
def Base.msixOwed (b : Base) (ld : HostId) (enable : Bool) (mask : BitVec 8) : BitVec 8 :=
  let d := b.ld ld.toNat
  let was := d.msixEnable && !d.msixMask.getLsbD 0
  let now := enable && !mask.getLsbD 0
  let go := if enable then d.msixPending &&& ~~~mask else 0
  let owed := now && !was && b.flt.records.any fun r => r.ld == ld
  if owed then go ||| 1 else go

theorem Base.msixOwed_off (b : Base) (ld : HostId) (mask : BitVec 8) : b.msixOwed ld false mask = 0 := rfl

theorem Base.msixOwed_pending (b : Base) (ld : HostId) {mask : BitVec 8} {v : Nat} (hv : v < 8)
    (pending : (b.ld ld.toNat).msixPending.getLsbD v = true) (unmasked : mask.getLsbD v = false) : (b.msixOwed ld true mask).getLsbD v = true := by
  have named : ((b.ld ld.toNat).msixPending &&& ~~~mask).getLsbD v = true := by
    rw [BitVec.getLsbD_and, BitVec.getLsbD_not, pending, unmasked, decide_eq_true hv]; rfl
  simp only [Base.msixOwed]
  split
  · rw [BitVec.getLsbD_or, if_pos trivial, named, Bool.true_or]
  · rw [if_pos trivial, named]

/-- The logical device as MSIX_ENABLE leaves it (R111). -/
def LogicalDev.msixSet (d : LogicalDev) (enable : Bool) (mask : BitVec 8) (entries : List (Fin 24 × Word)) : LogicalDev :=
  { d with
    msixEnable := enable, msixMask := mask, msixPending := if enable then d.msixPending &&& mask else d.msixPending,
    msixTable := entries.foldl (fun t e => Tab.set 0 t e.1.val e.2) d.msixTable }

/-- What MSIX_ENABLE leaves (R111, R391). -/
def Base.msixSet (b : Base) (ld : HostId) (enable : Bool) (mask : BitVec 8) (entries : List (Fin 24 × Word)) : Base :=
  (b.setLd ld.toNat ((b.ld ld.toNat).msixSet enable mask entries)).sendVectors ld (b.msixOwed ld enable mask) 8

theorem execMsixEnable_sets {enable : Bool} {mask : BitVec 8} {entries : List (Fin 24 × Word)} (up : s.base.hostUp ld.toNat = true) :
    execMsixEnable ld enable mask entries s = .next { s with base := s.base.msixSet ld enable mask entries } :=
  State.viaPort_pos up rfl rfl

theorem Base.msixSet_ld (b : Base) (ld : HostId) (enable : Bool) (mask : BitVec 8) (entries : List (Fin 24 × Word)) :
    (b.msixSet ld enable mask entries).ld ld.toNat = (b.ld ld.toNat).msixSet enable mask entries := by
  rw [Base.msixSet, Base.sendVectors_frame]
  exact Base.ld_setLd_same ..

theorem Base.msixSet_frame (b : Base) (ld : HostId) (enable : Bool) (mask : BitVec 8) (entries : List (Fin 24 × Word)) :
    b.msixSet ld enable mask entries =
      { b with hosts := (b.msixSet ld enable mask entries).hosts, out := (b.msixSet ld enable mask entries).out } := by
  rw [Base.msixSet, Base.sendVectors_frame]
  rfl

theorem Base.msixSet_off (b : Base) (ld : HostId) (mask : BitVec 8) (entries : List (Fin 24 × Word)) : (b.msixSet ld false mask entries).out = b.out := by
  rw [Base.msixSet, Base.msixOwed_off, Base.sendVectors_none]
  rfl

/-! ### The mailbox of a logical device -/

section
variable {i : Fin 4} {d : DecoderCfg} {hs : List Nat} (up : s.base.hostUp ld.toNat = true)
include up

theorem execDecoderCommit_commits (fits : cfgSupported d = true) (span : s.base.spanOk ld.toNat d = true) :
    execDecoderCommit ld i d s = .next { s with base := s.base.updLd ld.toNat fun l => { l with decoders := l.decoders.set i.val {
      base := d.base.toNat * 268435456, size := d.size.toNat * 268435456, ways := d.ways.toNat, pos := d.pos.toNat,
      gran := 2 ^ d.granLog2.toNat, dpaBase := d.dpaBase.toNat * 268435456, committed := true } } } :=
  State.viaPort_pos up rfl (if_pos (by rw [fits, span]; rfl))

theorem execDecoderCommit_refuses (no : cfgSupported d = false ∨ s.base.spanOk ld.toNat d = false) :
    execDecoderCommit ld i d s = .next { s with
      base := (s.base.updLd ld.toNat fun l => { l with decoders := l.decoders.set i.val {
        base := d.base.toNat * 268435456, size := d.size.toNat * 268435456, ways := d.ways.toNat, pos := d.pos.toNat,
        gran := 2 ^ d.granLog2.toNat, dpaBase := d.dpaBase.toNat * 268435456, error := true } }).send .decoderCommitRefused (0x90 + ld.toNat)
        (d.dpaBase.toNat * 268435456) } :=
  State.viaPort_pos up rfl (if_neg (by rcases no with no | no <;> simp [no]))

theorem execClearEventRecords_clears (all : ∀ n ∈ hs, ∃ x ∈ s.base.flt.records, x.ld = ld ∧ x.handle = n) :
    execClearEventRecords ld hs s = .next { s with
      base := ({ s.base with flt := { s.base.flt with
        records := s.base.flt.records.filter fun x => !(x.ld == ld && hs.contains x.handle) } } : Base).reply ld .success } :=
  State.viaPort_pos up rfl (if_pos (by
    rw [List.all_eq_true]
    simpa only [List.any_eq_true, Bool.and_eq_true, beq_iff_eq] using all))

theorem execClearEventRecords_refuses (missing : ∃ n ∈ hs, ∀ x ∈ s.base.flt.records, x.ld = ld → x.handle ≠ n) :
    execClearEventRecords ld hs s = .next { s with base := s.base.reply ld .invalidInput } := by
  obtain ⟨n, hn, no⟩ := missing
  refine State.viaPort_pos up rfl (if_neg fun all => ?_)
  have found := List.all_eq_true.mp all n hn
  simp only [List.any_eq_true, Bool.and_eq_true, beq_iff_eq] at found
  obtain ⟨x, hx, mine, handle⟩ := found
  exact no x hx mine handle

end

theorem State.mem_scanHits (s : State) (h lo hi l : Nat) : l ∈ s.scanHits h lo hi ↔
    (∃ e ∈ s.base.lay.marked, e.1 = stripeOf l) ∧ s.base.inEff h (blockOf l) = true ∧ lo ≤ 64 * l ∧ 64 * l ≤ hi ∧ s.base.noAccess l = false ∧
      s.readsPoison l = true := by
  have lines : (∃ e ∈ s.base.lay.marked, ∃ i < 1024, 1024 * e.1 + i = l) ↔ ∃ e ∈ s.base.lay.marked, e.1 = stripeOf l := by
    refine exists_congr fun e => and_congr_right fun _ => ⟨?_, fun eq => ⟨l % 1024, Nat.mod_lt _ (by decide), ?_⟩⟩
    · rintro ⟨i, hi, rfl⟩
      simp only [stripeOf]
      omega
    · simp only [stripeOf] at eq
      omega
  simp only [State.scanHits, List.mem_filter, List.mem_flatMap, List.mem_map, List.mem_range, lines, Bool.and_eq_true, decide_eq_true_eq,
    Bool.not_eq_true', and_assoc]

/-! ### IDE_KEY_SET -/

/-- A port's stream is secured, unless it is already (R114, R115). -/
def Port.keyed (x : Port) (aggregation : Fin 4) : Port :=
  if x.ide = 1 then x else { x with ide := 1, ideAgg := aggregation.val + 1, ideFlits := 0, unverified := [] }

theorem execIdeKeySet_keyed {p : PortBlk} {agg : Fin 4} {x : Session} (mem : x ∈ s.base.boot.sessions) (alive : s.base.alive = true)
    (linked : (s.base.port p.toNat).linked = true) (finished : x.finished = true)
    (path : x.path = (if tb (s.base.reg (Reg.PORT_LD_MODE p.toNat)) 0 then .doeFm
      else .doe (BitVec.ofNat 4 (s.base.rf (Reg.PORT_LD_MODE p.toNat) 4 1)))) :
    execIdeKeySet p true agg s = .next { s with base := s.base.updPort p.toNat fun x => x.keyed agg } := by
  refine State.whenBase_pos (by rw [alive, linked]; rfl) (if_pos ?_)
  rw [Bool.true_and, List.any_eq_true]
  exact ⟨x, mem, by rw [finished, Bool.and_true, decide_eq_true_eq]; exact path⟩

end

/-! ### Dynamic capacity -/

section
variable {s : State} {h : HostId} {base limit : BitVec 9}

/-- An extent of the host, not yet on its way out (R103). -/
def Extent.stays (h : HostId) (base limit : BitVec 9) (e : Extent) : Bool := e.is h base limit && e.stage != .releasing

/-- The extents with the first that `hit` names released, or on its way out when it is in force (R103). -/
def leftExtents (hit : Extent → Bool) (e : Extent) (l : List Extent) : List Extent :=
  if e.stage = .inForce then updFirst hit (fun e => { e with stage := .releasing }) l else dropFirst hit l

theorem Base.leaveExtent_found (b : Base) {hit : Extent → Bool} {e : Extent} (found : b.hosts.extents.find? hit = some e) :
    b.leaveExtent hit = { b with hosts := { b.hosts with extents := leftExtents hit e b.hosts.extents } } := by
  simp only [Base.leaveExtent, found, leftExtents]

theorem execDcAddRequest_refused (run : s.base.fwRuns = true)
    (reason : s.base.extentReason h.toNat base.toNat limit.toNat (s.base.extentsOf h.toNat) ≠ 0) :
    execDcAddRequest h base limit s = .next { s with
      base := (s.base.emit (.fmReply .invalidInput)).dcRefused h.toNat base.toNat
        (s.base.extentReason h.toNat base.toNat limit.toNat (s.base.extentsOf h.toNat)) } :=
  State.whenBase_pos run (if_pos reason)

/-- An offered extent is accepted (R102). -/
def Base.acceptExtent (b : Base) (h : HostId) (base limit : BitVec 9) : Base :=
  { b with hosts := { b.hosts with
    extents := updFirst (fun e => e.is h base limit && e.stage == .offered) (fun e => { e with stage := .accepted }) b.hosts.extents } }

section
variable (up : s.base.hostUp h.toNat = true) (run : s.base.fwRuns = true)
include up run

theorem execDcExtentAccept_accepts (offered : (s.base.hosts.extents.any fun e => e.is h base limit && e.stage == .offered) = true) :
    execDcExtentAccept h base limit s = .next { s with base := (s.base.acceptExtent h base limit).reply h .success } :=
  State.viaPort_pos up run (if_pos offered)

theorem execDcExtentAccept_refuses (no : (s.base.hosts.extents.any fun e => e.is h base limit && e.stage == .offered) = false) :
    execDcExtentAccept h base limit s = .next { s with base := s.base.reply h .invalidInput } :=
  State.viaPort_pos up run (if_neg (Bool.eq_false_iff.mp no))

theorem execDcExtentRelease_refuses (no : s.base.hosts.extents.find? (Extent.stays h base limit) = none) :
    execDcExtentRelease h base limit s = .next { s with base := s.base.reply h .invalidInput } :=
  State.viaPort_pos up run (if_neg (by simpa [Extent.stays] using no))

theorem execDcExtentRelease_releases {e : Extent} (found : s.base.hosts.extents.find? (Extent.stays h base limit) = some e) :
    execDcExtentRelease h base limit s = .next { s with base := (s.base.leaveExtent (Extent.stays h base limit)).reply h .success } :=
  State.viaPort_pos up run (if_pos (List.any_eq_true.mpr ⟨e, List.mem_of_find?_eq_some found, List.find?_some found⟩))

end

theorem execDcForcedRelease_found {e : Extent} (run : s.base.fwRuns = true) (found : s.base.hosts.extents.find? (Extent.stays h base limit) = some e) :
    execDcForcedRelease h base limit s = .next { s with
      base := (((s.base.leaveExtent (Extent.stays h base limit)).send .dcForcedRelease 0xB0 (268435456 * base.toNat)).dcRecord h.toNat 2
        e.tag e.base e.limit).emit (.fmReply .success) } :=
  State.whenBase_pos run (by
    have found' : s.base.hosts.extents.find? (fun e => e.is h base limit && e.stage != .releasing) = some e := found
    simp only [found']
    rfl)

/-- A hold of a range whose requests have answered (R100, R103). -/
def Base.holdOver (b : Base) (h : HostId) (base limit : BitVec 9) (r : HeldRange) : Bool :=
  r.host == h && r.base == base.toNat && r.limit == limit.toNat && !b.holdRuns r

/-- The first such hold is over. -/
def Base.endHold (b : Base) (h : HostId) (base limit : BitVec 9) : Base :=
  { b with hosts := { b.hosts with held := dropFirst (b.holdOver h base limit) b.hosts.held } }

theorem execRangeHoldEnd_runs (no : s.base.hosts.held.find? (s.base.holdOver h base limit) = none) : execRangeHoldEnd h base limit s = .next s := by
  unfold Base.holdOver at no
  exact State.whenBase_kept fun _ => by simp only [no]

theorem execRangeHoldEnd_ends {r : HeldRange} (alive : s.base.alive = true) (found : s.base.hosts.held.find? (s.base.holdOver h base limit) = some r) :
    execRangeHoldEnd h base limit s = .next { s with
      base := if r.clears then (s.base.endHold h base limit).unmarkBlocks ((blocksOf r.base r.limit).filter fun x =>
          !((List.range 16).any fun o => (s.base.endHold h base limit).inEff o x))
        else s.base.endHold h base limit } := by
  unfold Base.holdOver at found
  exact State.whenBase_pos alive (by simp only [found]; rfl)

end

/-- Settles O21, command by command: the mailbox of a logical device, its reset and its stream's keys, then the extents and the held ranges. -/
theorem logicalDevicesAndDynamicCapacity : Obligations.logical_devices_and_dynamic_capacity := by
  unfold Obligations.logical_devices_and_dynamic_capacity
  refine ⟨fun s ld i d en mask entries hs base limit p agg => ?_, fun s h base limit => ?_⟩
  · refine ⟨fun up => ⟨execDecoderCommit_commits up, execDecoderCommit_refuses up, ⟨s.base.msixSet ld en mask entries, execMsixEnable_sets up, ?_, ?_, ?_,
        s.base.msixSet_frame ld en mask entries, fun off => ?_, fun on v => ?_, fun on v hv pending unmasked => ?_⟩,
        execClearEventRecords_clears up, execClearEventRecords_refuses up, State.viaPort_pos up rfl rfl, State.viaPort_pos up rfl rfl,
        State.viaPort_pos up rfl rfl⟩,
      s.mem_scanHits ld.toNat base.toNat limit.toNat, fun alive => State.whenBase_pos alive rfl, fun x mem alive linked finished path => ?_⟩
    · rw [s.base.msixSet_ld]
      rfl
    · rw [s.base.msixSet_ld]
      rfl
    · rw [s.base.msixSet_ld]
      rfl
    · subst off
      rw [s.base.msixSet_ld]
      exact ⟨s.base.msixSet_off ld mask entries, rfl⟩
    · subst on
      rw [s.base.msixSet_ld]
      exact BitVec.getLsbD_and
    · subst on
      exact Base.mem_sendVectors _ _ _ (s.base.msixOwed_pending ld hv pending unmasked) hv
    · refine ⟨_, execIdeKeySet_keyed mem alive linked finished path, fun j => ?_⟩
      rw [Tab.get_set]
      by_cases here : j = p.toNat
      · subst here
        by_cases keyed : (s.base.port p.toNat).ide = 1 <;> simp [Port.keyed, keyed]
      · simp only [here, false_and, if_false]
        rfl
  · refine ⟨fun run => execDcAddRequest_refused run, fun run reason => State.whenBase_pos run (if_neg (not_not.mpr reason)),
      fun up run => ⟨execDcExtentAccept_accepts up run, execDcExtentAccept_refuses up run, execDcExtentRelease_refuses up run⟩,
      fun e found => ⟨fun up run => ?_, fun run => ?_⟩,
      fun alive => ⟨execRangeHoldEnd_runs, fun r found => ⟨fun keeps => ?_, fun clears => ?_⟩⟩⟩
    · exact (execDcExtentRelease_releases up run found).trans (by rw [s.base.leaveExtent_found (hit := Extent.stays h base limit) found]; rfl)
    · exact (execDcForcedRelease_found run found).trans (by rw [s.base.leaveExtent_found (hit := Extent.stays h base limit) found]; rfl)
    · exact (execRangeHoldEnd_ends alive found).trans (congrArg _ (congrArg _ (if_neg (Bool.eq_false_iff.mp keeps))))
    · exact (execRangeHoldEnd_ends alive found).trans (congrArg _ (congrArg _ (if_pos clears)))

end Sys2Proof.Machine
end

section
/-! SUPPORT. Changes of ports and lanes alone, and stages 1 to 4 of a training (R51, R59, R78, R79). -/

namespace Sys2Proof.Machine

/-! ### Changes of ports and lanes alone -/

/-- Between two base states nothing but ports and lanes differs. -/
def Base.LinksOnly (b t : Base) : Prop := ∃ ports lanes, t = { b with links := { b.links with ports := ports, lanes := lanes } }

section
variable {b t : Base}

theorem Base.LinksOnly.refl (b : Base) : b.LinksOnly b := ⟨b.links.ports, b.links.lanes, rfl⟩

theorem Base.LinksOnly.updPort (h : b.LinksOnly t) (k : Nat) (f : Port → Port) : b.LinksOnly (t.updPort k f) := by
  obtain ⟨ports, lanes, rfl⟩ := h
  exact ⟨_, _, rfl⟩

theorem Base.LinksOnly.setPort (h : b.LinksOnly t) (k : Nat) (p : Port) : b.LinksOnly (t.setPort k p) := h.updPort k fun _ => p

theorem Base.LinksOnly.updLanes (h : b.LinksOnly t) (ls : List Nat) (f : Nat → Lane → Lane) :
    b.LinksOnly (ls.foldl (fun b k => b.updLane k (f k)) t) := by
  obtain ⟨ports, lanes, rfl⟩ := h
  rw [Base.foldl_updLane]
  exact ⟨_, _, rfl⟩

theorem Base.port_foldl_updLane (b : Base) (ls : List Nat) (f : Nat → Lane → Lane) (j : Nat) :
    (ls.foldl (fun b k => b.updLane k (f k)) b).port j = b.port j := by
  rw [Base.foldl_updLane]
  rfl

theorem Base.lane_updPort_eq (b : Base) (k : Nat) (f : Port → Port) (l : Nat) : (b.updPort k f).lane l = b.lane l := rfl

/-- The form in which a command's change of ports and lanes is stated. -/
theorem Base.LinksOnly.next {s : State} {o : Host.Outcome State Fault Refusal} (h : s.base.LinksOnly t) (step : o = .next { s with base := t })
    {P : Links → Prop} (facts : P t.links) :
    ∃ l, o = .next { s with base := { s.base with links := l } } ∧ l = { s.base.links with ports := l.ports, lanes := l.lanes } ∧ P l := by
  obtain ⟨ports, lanes, rfl⟩ := h
  exact ⟨_, step, rfl, facts⟩

end

/-! ### Widths -/

theorem bestWidth_some {ok : Nat → Bool} {base n cap w : Nat} {prefer rev : Bool} (h : bestWidth ok base n cap prefer = some (w, rev)) :
    w ≤ cap ∧ w ≤ n ∧ ∀ l ∈ widthLanes base n w rev, ok l = true := by
  rw [bestWidth_eq] at h
  obtain ⟨v, _, hv⟩ := List.exists_of_findSome?_eq_some h
  obtain ⟨_, short, within, fits, _⟩ := fitAt_some hv
  exact ⟨within, short, List.all_eq_true.mp fits⟩

/-! ### The lanes of a training -/

/-- The lanes of a block that its training keeps: a receiver was detected, and no exclusion stands (R59, R78). -/
def Base.keptLanes (b : Base) (n : Nat) : List Nat := (b.lanesOf n).filter (b.laneUsable n)

theorem Base.nodup_keptLanes (b : Base) (n : Nat) : (b.keptLanes n).Nodup := (b.nodup_lanesOf n).filter _

/-- A lane's place in its block stays while lanes are updated. -/
theorem Base.foldl_updLane_place (n : Nat) (f : Nat → Lane → Lane) (ls : List Nat) {b c : Base} (straps : c.links.straps = b.links.straps) :
    ls.foldl (fun c l => c.updLane l (f (l - c.laneBase n))) c = ls.foldl (fun c l => c.updLane l (f (l - b.laneBase n))) c := by
  induction ls generalizing c with
  | nil => rfl
  | cons l ls ih =>
    have place : c.laneBase n = b.laneBase n := by unfold Base.laneBase Base.split; rw [straps]
    rw [List.foldl_cons, List.foldl_cons, place]
    exact ih straps

/-- The number of a physical lane of a block under a numbering (R51, R79). -/
def Base.laneNumber (b : Base) (n : Nat) (rev : Bool) (l : Nat) : Nat := if rev then b.laneBase n + b.laneCount n - 1 - l else l - b.laneBase n

/-- A lane numbered for a width; a lane beyond it is idle (R78, R90). -/
def Lane.numbered (x : Lane) (i w : Nat) : Lane :=
  if i < w then { x with logical := i } else { x with logical := 255, bitLock := false, symLock := false, blockLock := false }

theorem Base.numberLanes_eq (b : Base) (n w : Nat) (rev : Bool) : b.numberLanes n w rev =
    ((b.lanesOf n).foldl (fun c l => c.updLane l fun x => x.numbered (b.laneNumber n rev l) w) b).updPort n fun p => { p with
      width := w, activeWidth := w, reversed := rev } := rfl

section
variable (b : Base) (n w : Nat) (rev : Bool)

theorem Base.linksOnly_numberLanes : b.LinksOnly (b.numberLanes n w rev) := by
  rw [Base.numberLanes_eq]
  exact ((Base.LinksOnly.refl b).updLanes (b.lanesOf n) fun l x => x.numbered (b.laneNumber n rev l) w).updPort n _

theorem Base.lane_numberLanes (l : Nat) :
    (b.numberLanes n w rev).lane l = if l ∈ b.lanesOf n then (b.lane l).numbered (b.laneNumber n rev l) w else b.lane l := by
  rw [Base.numberLanes_eq, Base.lane_updPort_eq]
  exact Base.lane_foldl_updLane b (b.nodup_lanesOf n) (fun l x => x.numbered (b.laneNumber n rev l) w) l

theorem Base.port_numberLanes (j : Nat) :
    (b.numberLanes n w rev).port j = if j = n then { b.port n with width := w, activeWidth := w, reversed := rev } else b.port j := by
  have ports : ∀ i, ((b.lanesOf n).foldl (fun c l => c.updLane l fun x => x.numbered (b.laneNumber n rev l) w) b).port i = b.port i :=
    b.port_foldl_updLane (b.lanesOf n) fun l x => x.numbered (b.laneNumber n rev l) w
  rw [Base.numberLanes_eq, Base.port_updPort, ports, ports]

end

/-! ### Stages 1 to 3 -/

section
variable {s : State} {k : PortBlk} {m : BitVec 8} (train : s.base.canTrain k.toNat = true)
include train

/-- A port without a link, which a receiver detection may take (R59). -/
def Base.unlinked (b : Base) (n : Nat) : Prop := (b.port n).link = .detect ∨ (b.port n).link = .hotReset ∨ (b.port n).link = .disabled

theorem execDetectRetry_detects (down : s.base.unlinked k.toNat) :
    execDetectRetry k s = .next { s with base := (s.base.updPort k.toNat fun p => { p with link := .detect }).blockReady k.toNat } :=
  State.training_pos train (by rcases down with e | e | e <;> rw [e] <;> rfl) rfl

/-- A block about to begin a training: what was written about its lanes is in effect (R59, R78, R79). -/
def Base.readyToTrain (b : Base) (n : Nat) : Base := ((b.blockReady n).applyLaneCtrl n).checkWidth n

theorem execReceiverDetected_polls (down : s.base.unlinked k.toNat) :
    execReceiverDetected k m s = .next { s with
      base := if ((s.base.readyToTrain k.toNat).port k.toNat).noWidth = true ∨
          m &&& BitVec.ofNat 8 (2 ^ (s.base.readyToTrain k.toNat).laneCount k.toNat - 1) = 0 then s.base.readyToTrain k.toNat
        else (s.base.readyToTrain k.toNat).updPort k.toNat fun p => { p with
          link := .polling, detected := m &&& BitVec.ofNat 8 (2 ^ (s.base.readyToTrain k.toNat).laneCount k.toNat - 1) } } := by
  refine State.training_pos train (by rcases down with e | e | e <;> rw [e] <;> rfl) ?_
  unfold Base.readyToTrain
  simp only [Bool.or_eq_true, beq_iff_eq]

theorem execPollingComplete_locks (polls : (s.base.port k.toNat).link = .polling) (some_kept : s.base.keptLanes k.toNat ≠ [])
    (all : ∀ l ∈ s.base.keptLanes k.toNat, m.getLsbD (l - s.base.laneBase k.toNat) = true) :
    execPollingComplete k m s = .next { s with
      base := ((s.base.keptLanes k.toNat).foldl (fun b l => b.updLane l fun x => { x with bitLock := true }) s.base).updPort k.toNat fun p => { p with
        link := .symbolLock } } :=
  State.training_pos train (by rw [polls]; rfl) (if_pos ⟨some_kept, List.all_eq_true.mpr all⟩)

theorem execSymbolLockDone_locks (locks : (s.base.port k.toNat).link = .symbolLock) :
    execSymbolLockDone k m s = .next { s with
      base := ((s.base.keptLanes k.toNat).foldl (fun b l => b.updLane l fun x => { x with
        symLock := true, polarity := m.getLsbD (l - s.base.laneBase k.toNat) }) s.base).updPort k.toNat fun p => { p with link := .configuration } } :=
  State.training_pos train (by rw [locks]; rfl)
    (congrArg (Base.updPort · k.toNat _) (Base.foldl_updLane_place k.toNat (fun i x => { x with symLock := true, polarity := m.getLsbD i }) _ rfl))

section
variable (waits : (s.base.port k.toNat).link = .polling ∨ (s.base.port k.toNat).link = .symbolLock)
include waits

theorem execPollingTimeout_none (unlocked : ∀ l ∈ s.base.keptLanes k.toNat, m.getLsbD (l - s.base.laneBase k.toNat) = false) :
    execPollingTimeout k m s = .next { s with base := s.base.toState k.toNat .detect } := by
  refine State.training_pos train (by rcases waits with e | e <;> rw [e] <;> rfl) (if_pos ?_)
  rw [List.filter_eq_self.mpr]
  exact fun l hl => by rw [unlocked l hl]; rfl

theorem execPollingTimeout_some (locked : ∃ l ∈ s.base.keptLanes k.toNat, m.getLsbD (l - s.base.laneBase k.toNat) = true) :
    execPollingTimeout k m s = .next { s with
      base := (((s.base.keptLanes k.toNat).filter fun l => !m.getLsbD (l - s.base.laneBase k.toNat)).foldl Base.excludeLane s.base).checkWidth k.toNat } := by
  obtain ⟨l, hl, lock⟩ := locked
  refine State.training_pos train (by rcases waits with e | e <;> rw [e] <;> rfl) (if_neg (Nat.ne_of_lt ?_))
  exact List.length_filter_lt_length_iff_exists.mpr ⟨l, hl, by rw [lock]; decide⟩

end

/-! ### Stage 4 -/

variable {o : LinkOffer} (stage : (s.base.port k.toNat).link = .configuration)
include stage

theorem execConfigurationComplete_none
    (no : bestWidth (s.base.laneUsable k.toNat) (s.base.laneBase k.toNat) (s.base.laneCount k.toNat) o.width.val o.reversed = none) :
    execConfigurationComplete k o s = .next s :=
  (State.training_pos train (by rw [stage]; rfl) (by simp only [no])).trans rfl

theorem execConfigurationComplete_some {w : Nat} {rev : Bool}
    (best : bestWidth (s.base.laneUsable k.toNat) (s.base.laneBase k.toNat) (s.base.laneCount k.toNat) o.width.val o.reversed = some (w, rev)) :
    execConfigurationComplete k o s = .next { s with
      base := (s.base.numberLanes k.toNat w rev).updPort k.toNat fun p => { p with
        link := .l0, stepping := true, rate := 0, cxl := o.cxl, latOpt := o.latOpt, offered := o.width.val } } :=
  State.training_pos train (by rw [stage]; rfl) (by simp only [best])

theorem execConfigurationTimeout_detects : execConfigurationTimeout k s = .next { s with base := s.base.toState k.toNat .detect } :=
  State.training_pos train (by rw [stage]; rfl) rfl

end

/-- Settles O12: the stages of a training in turn, each by the state of its port. -/
theorem trainingStages : Obligations.training_stages := by
  unfold Obligations.training_stages
  refine ⟨fun s k m train => ?_, fun s k o train stage => ?_⟩
  · intro n b kept locked
    refine ⟨fun down => ⟨execDetectRetry_detects train down, execReceiverDetected_polls train down⟩, fun polls some_kept all => ?_,
      execPollingTimeout_none train, execPollingTimeout_some train, fun locks => ?_⟩
    · refine Base.LinksOnly.next (((Base.LinksOnly.refl b).updLanes kept _).updPort n _) (execPollingComplete_locks train polls some_kept all)
        ⟨(Base.port_updPort _ _ _ _).trans ?_, fun l => ?_, fun j ne => ?_⟩
      · rw [if_pos rfl, Base.port_foldl_updLane]
      · exact Base.lane_foldl_updLane b (b.nodup_keptLanes n) (fun _ x => { x with bitLock := true }) l
      · exact (Base.port_updPort _ _ _ _).trans (by rw [if_neg ne, Base.port_foldl_updLane])
    · refine Base.LinksOnly.next (((Base.LinksOnly.refl b).updLanes kept _).updPort n _) (execSymbolLockDone_locks train locks)
        ⟨(Base.port_updPort _ _ _ _).trans ?_, fun l => ?_, fun j ne => ?_⟩
      · rw [if_pos rfl, Base.port_foldl_updLane]
      · exact Base.lane_foldl_updLane b (b.nodup_keptLanes n) (fun l x => { x with symLock := true, polarity := locked l }) l
      · exact (Base.port_updPort _ _ _ _).trans (by rw [if_neg ne, Base.port_foldl_updLane])
  · intro n b best number
    refine ⟨execConfigurationComplete_none train stage, fun w rev found => ?_, execConfigurationTimeout_detects train stage⟩
    obtain ⟨within, short, usable⟩ := bestWidth_some found
    refine ⟨within, short, usable, ?_⟩
    have step := execConfigurationComplete_some train stage found
    have lanes (l : Nat) : (b.numberLanes n w rev).lane l = if l ∈ b.lanesOf n then (b.lane l).numbered (number rev l) w else b.lane l :=
      b.lane_numberLanes n w rev l
    have ports (j : Nat) : (b.numberLanes n w rev).port j = if j = n then { b.port n with width := w, activeWidth := w, reversed := rev } else b.port j :=
      b.port_numberLanes n w rev j
    have only : b.LinksOnly (b.numberLanes n w rev) := b.linksOnly_numberLanes n w rev
    generalize s.base.numberLanes k.toNat w rev = t at step only lanes ports
    refine Base.LinksOnly.next (only.updPort n _) step ⟨(Base.port_updPort _ _ _ _).trans ?_, fun l hl => (lanes l).trans (if_pos hl),
      fun l hl => (lanes l).trans (if_neg hl), fun j ne => (Base.port_updPort _ _ _ _).trans ?_⟩
    · rw [if_pos rfl, ports, if_pos rfl]
    · rw [if_neg ne, ports, if_neg ne]

end Sys2Proof.Machine
end

section
/-! SUPPORT. What messages and counters leave of the base state, eye checks, margining and lane control (R68 to R70, R77, R88, R90). -/

namespace Sys2Proof.Machine

/-! ### Messages and counters leave the rest -/

/-- Between two base states nothing but counters and messages differs. -/
def Base.Telling (b t : Base) : Prop := ∃ regs incs incAt flt, t = { b with regs := regs, incs := incs, incAt := incAt, flt := flt }

section
variable {b t : Base}

theorem Base.Telling.refl (b : Base) : b.Telling b := ⟨b.regs, b.incs, b.incAt, b.flt, rfl⟩

theorem Base.Telling.bump (h : b.Telling t) (o n : Nat) : b.Telling (t.bump o n) := by
  obtain ⟨regs, incs, incAt, flt, rfl⟩ := h
  exact ⟨_, _, _, _, rfl⟩

theorem Base.Telling.onFlt (h : b.Telling t) (f : Faults) : b.Telling { t with flt := f } := by
  obtain ⟨regs, incs, incAt, flt, rfl⟩ := h
  exact ⟨_, _, _, _, rfl⟩

theorem Base.Telling.enqueue (h : b.Telling t) (m : Msg) : b.Telling (t.enqueue m) := by
  unfold Base.enqueue
  generalize enqueueMsg t.flt.outbox t.flt.waiting m = placed
  obtain ⟨outbox, waiting, dropped⟩ := placed
  cases dropped
  · exact h.onFlt _
  · exact (h.onFlt _).bump _ _

theorem Base.Telling.sendMsg (h : b.Telling t) (m : Msg) : b.Telling (t.sendMsg m) := by
  unfold Base.sendMsg
  split
  · exact h.onFlt _
  · exact h.enqueue m

theorem Base.Telling.send (h : b.Telling t) (k : Kind) (src addr : Nat) (host : Option HostId) (inj : Bool) : b.Telling (t.send k src addr host inj) := by
  unfold Base.send
  simp only
  split
  · exact (h.bump _ _).onFlt _
  · exact h.sendMsg _

end

/-- A message changes no register but the two counters of messages not sent. -/
theorem Base.reg_sendMsg (b : Base) (m : Msg) {o : Nat} (counter : o ≠ Reg.DROPPED_COUNT) : (b.sendMsg m).reg o = b.reg o := by
  unfold Base.sendMsg
  split
  · rfl
  · unfold Base.enqueue
    generalize enqueueMsg b.flt.outbox b.flt.waiting m = placed
    obtain ⟨outbox, waiting, dropped⟩ := placed
    cases dropped
    · rfl
    · dsimp only
      rw [if_pos rfl, Base.reg_bump, if_neg counter]
      rfl

theorem Base.reg_send (b : Base) (k : Kind) (src addr : Nat) (host : Option HostId) (inj : Bool) {o : Nat} (shadowed : o ≠ Reg.SHADOWED_COUNT)
    (dropped : o ≠ Reg.DROPPED_COUNT) : (b.send k src addr host inj).reg o = b.reg o := by
  unfold Base.send
  simp only
  split
  · show (b.bump Reg.SHADOWED_COUNT).reg o = b.reg o
    rw [Base.reg_bump, if_neg shadowed]
  · exact b.reg_sendMsg _ dropped

/-! ### One lane's check -/

section
variable (x : Lane) (now pct consec : Nat) (e : LaneEye)

/-- The Recoveries a lane's checks caused within the last second (R69). -/
def Lane.recentCauses (x : Lane) (now : Nat) : List Nat := x.caused.filter fun t => now < t + 1000000000

/-- A lane as its check has measured it (R68). -/
def Lane.measured (x : Lane) (now : Nat) (e : LaneEye) : Lane :=
  { x with height := e.height, widthUI := e.width, eyeAt := some now, caused := x.recentCauses now }

/-- An eye lies below the threshold of its baseline (R69). -/
def Lane.eyeLow (x : Lane) (pct : Nat) (e : LaneEye) : Prop := 100 * e.height.toNat < pct * x.baseHeight.toNat ∨ 100 * e.width.toNat < pct * x.baseWidth.toNat

theorem Lane.eyeLow_iff : (decide (100 * e.height.toNat < pct * x.baseHeight.toNat) || decide (100 * e.width.toNat < pct * x.baseWidth.toNat)) = true ↔
    x.eyeLow pct e := by simp [Lane.eyeLow]

variable {x now pct consec e}

theorem Lane.check_high (high : ¬ x.eyeLow pct e) :
    x.check now pct consec e = ({ x.measured now e with below := 0, recheck := false }, .none) :=
  if_pos (by rw [Bool.not_eq_true']; exact Bool.eq_false_iff.mpr (high ∘ (x.eyeLow_iff pct e).mp))

section
variable (low : x.eyeLow pct e)
include low

theorem Lane.check_low : x.check now pct consec e =
    if x.recheck && decide (2 ≤ (x.recentCauses now).length) then ({ x.measured now e with below := 0, recheck := false }, .reeq)
    else if consec ≤ x.below + 1 then ({ x.measured now e with below := 0, recheck := true, caused := (now :: x.recentCauses now).take 2 }, .recovery)
    else ({ x.measured now e with below := x.below + 1, recheck := false }, .none) :=
  if_neg (by simp only [(x.eyeLow_iff pct e).mpr low, Bool.not_true, Bool.false_eq_true, not_false_eq_true])

theorem Lane.check_again (again : x.recheck = true) (twice : 2 ≤ (x.recentCauses now).length) :
    x.check now pct consec e = ({ x.measured now e with below := 0, recheck := false }, .reeq) :=
  (Lane.check_low low).trans (if_pos (by simp [again, twice]))

variable (first : x.recheck = false ∨ (x.recentCauses now).length < 2)
include first

theorem Lane.check_limit (limit : consec ≤ x.below + 1) :
    x.check now pct consec e = ({ x.measured now e with below := 0, recheck := true, caused := (now :: x.recentCauses now).take 2 }, .recovery) :=
  (Lane.check_low low).trans ((if_neg (by rcases first with h | h <;> simp [h])).trans (if_pos limit))

theorem Lane.check_run (run : x.below + 1 < consec) :
    x.check now pct consec e = ({ x.measured now e with below := x.below + 1, recheck := false }, .none) :=
  (Lane.check_low low).trans ((if_neg (by rcases first with h | h <;> simp [h])).trans (if_neg (Nat.not_le.mpr run)))

end

end

/-! ### EYE_CHECK -/

section
variable (n : Nat) (eyes : List LaneEye) (pct consec : Nat)

/-- The model's step of an eye check at a lane: the lanes and messages so far, and what was asked for (R68). -/
def eyeStep (acc : Base × List EyeAsk) (l : Nat) : Base × List EyeAsk :=
  if (acc.1.lane l).margining then (acc.1.bump (Reg.LANE_ERR_COUNT l), acc.2)
  else match eyes.find? fun e => acc.1.laneBase n + e.lane.toNat == l with
    | none => acc
    | some e =>
      let r := (acc.1.lane l).check acc.1.now pct consec e
      if r.2 = .none then (acc.1.setLane l r.1, acc.2) else ((acc.1.setLane l r.1).send .eyeBelowThreshold l (laneAddr l), r.2 :: acc.2)

/-- The measurement that a check makes of a lane, if any (R68, R77). -/
def Base.eyeOf (b : Base) (l : Nat) : Option LaneEye :=
  if (b.lane l).margining then none else eyes.find? fun e => b.laneBase n + e.lane.toNat == l

/-- The outcome of a measured lane's check. -/
def Base.eyeResult (b : Base) (l : Nat) (e : LaneEye) : Lane × EyeAsk := (b.lane l).check b.now pct consec e

/-- What the checks of some lanes have made of the base state `b` and what they ask for (R68 to R70, R77). -/
structure EyesChecked (b : Base) (ls : List Nat) (r : Base × List EyeAsk) : Prop where
  frame : ∃ lanes regs incs incAt flt, r.1 = { b with links := { b.links with lanes := lanes }, regs := regs, incs := incs, incAt := incAt, flt := flt }
  measured : ∀ l ∈ ls, ∀ e, b.eyeOf n eyes l = some e → r.1.lane l = (b.eyeResult pct consec l e).1
  others : ∀ l, (l ∉ ls ∨ b.eyeOf n eyes l = none) → r.1.lane l = b.lane l
  skipped : ∀ l ∈ ls, (b.lane l).margining = true → r.1.reg (Reg.LANE_ERR_COUNT l) = bumpWord (b.reg (Reg.LANE_ERR_COUNT l)) 1
  counts : ∀ l, l ∉ ls → r.1.reg (Reg.LANE_ERR_COUNT l) = b.reg (Reg.LANE_ERR_COUNT l)
  asks : ∀ a, a ∈ r.2 ↔ a ≠ .none ∧ ∃ l ∈ ls, ∃ e, b.eyeOf n eyes l = some e ∧ (b.eyeResult pct consec l e).2 = a
  quiet : r.2 = [] → r.1.flt = b.flt

variable {n eyes pct consec}

theorem laneErr_ne {l o : Nat} (other : o ≠ l) : Reg.LANE_ERR_COUNT o ≠ Reg.LANE_ERR_COUNT l := by
  simp only [Reg.LANE_ERR_COUNT]
  omega

theorem Base.laneErr_send (b : Base) (k : Kind) (src addr l : Nat) :
    (b.send k src addr).reg (Reg.LANE_ERR_COUNT l) = b.reg (Reg.LANE_ERR_COUNT l) :=
  b.reg_send k src addr none false (by simp only [Reg.LANE_ERR_COUNT, Reg.SHADOWED_COUNT]; omega)
    (by simp only [Reg.LANE_ERR_COUNT, Reg.DROPPED_COUNT]; omega)

theorem Base.lane_send (b : Base) (k : Kind) (src addr l : Nat) : (b.send k src addr).lane l = b.lane l := by
  simp only [Base.lane, Base.send_links]

theorem EyesChecked.nil (b : Base) : EyesChecked n eyes pct consec b [] (b, []) where
  frame := ⟨b.links.lanes, b.regs, b.incs, b.incAt, b.flt, rfl⟩
  measured := by simp
  others := by simp
  skipped := by simp
  counts := by simp
  asks := by simp
  quiet := by simp

section
variable {b : Base} {ls : List Nat} {r : Base × List EyeAsk} {l : Nat} (h : EyesChecked n eyes pct consec b ls r) (new : l ∉ ls)
include h new

/-- The lane is skipped, and the skip counts (R77). -/
theorem EyesChecked.skip (margining : (b.lane l).margining = true) :
    EyesChecked n eyes pct consec b (ls ++ [l]) (r.1.bump (Reg.LANE_ERR_COUNT l), r.2) := by
  have unseen : b.eyeOf n eyes l = none := if_pos margining
  obtain ⟨frame, measured, others, skipped, counts, asks, quiet⟩ := h
  refine ⟨?_, fun o ho e seen => ?_, fun o ho => ?_, fun o ho m => ?_, fun o ho => ?_, fun a => ?_, quiet⟩
  · obtain ⟨lanes, regs, incs, incAt, flt, eq⟩ := frame
    rw [eq]
    exact ⟨_, _, _, _, _, rfl⟩
  · rcases List.mem_append.mp ho with old | last
    · exact measured o old e seen
    · rw [List.mem_singleton.mp last, unseen] at seen
      cases seen
  · refine others o (ho.imp_left fun no old => no (List.mem_append_left _ old))
  · rw [Base.reg_bump]
    rcases List.mem_append.mp ho with old | last
    · rw [if_neg (laneErr_ne fun same : o = l => new (same ▸ old)), skipped o old m]
    · rw [List.mem_singleton.mp last, if_pos rfl, counts l new]
  · simp only [List.mem_append, List.mem_singleton, not_or] at ho
    rw [Base.reg_bump, if_neg (laneErr_ne ho.2), counts o ho.1]
  · simp only [asks, List.mem_append, List.mem_singleton, or_and_right, exists_or, exists_eq_left, unseen]
    simp

omit new in
/-- The lane is not measured: nothing of it changes. -/
theorem EyesChecked.unseen (sleeping : (b.lane l).margining = false) (unseen : b.eyeOf n eyes l = none) :
    EyesChecked n eyes pct consec b (ls ++ [l]) r := by
  obtain ⟨frame, measured, others, skipped, counts, asks, quiet⟩ := h
  refine ⟨frame, fun o ho e seen => ?_, fun o ho => others o (ho.imp_left fun no old => no (List.mem_append_left _ old)), fun o ho m => ?_,
    fun o ho => counts o fun old => ho (List.mem_append_left _ old), fun a => ?_, quiet⟩
  · rcases List.mem_append.mp ho with old | last
    · exact measured o old e seen
    · rw [List.mem_singleton.mp last, unseen] at seen
      cases seen
  · rcases List.mem_append.mp ho with old | last
    · exact skipped o old m
    · rw [List.mem_singleton.mp last, sleeping] at m
      cases m
  · simp only [asks, List.mem_append, List.mem_singleton, or_and_right, exists_or, exists_eq_left, unseen]
    simp

/-- The lane is measured; `t` is its check's outcome with the message that it may send (R68 to R70). -/
theorem EyesChecked.see {e : LaneEye} {t : Base} (seen : b.eyeOf n eyes l = some e)
    (told : (r.1.setLane l (b.eyeResult pct consec l e).1).Telling t)
    (lanes : ∀ o, t.lane o = (r.1.setLane l (b.eyeResult pct consec l e).1).lane o)
    (regs : ∀ o, t.reg (Reg.LANE_ERR_COUNT o) = r.1.reg (Reg.LANE_ERR_COUNT o))
    (silent : (b.eyeResult pct consec l e).2 = .none → t.flt = r.1.flt) :
    EyesChecked n eyes pct consec b (ls ++ [l]) (t, if (b.eyeResult pct consec l e).2 = .none then r.2 else (b.eyeResult pct consec l e).2 :: r.2) := by
  have awake : (b.lane l).margining = false := by
    by_contra on
    rw [Base.eyeOf, if_pos (Bool.not_eq_false _ ▸ on)] at seen
    cases seen
  obtain ⟨frame, measured, others, skipped, counts, asks, quiet⟩ := h
  refine ⟨?_, fun o ho e' seen' => ?_, fun o ho => ?_, fun o ho m => ?_, fun o ho => ?_, fun a => ?_, fun none_asks => ?_⟩
  · obtain ⟨lanes, regs, incs, incAt, flt, eq⟩ := frame
    obtain ⟨regs', incs', incAt', flt', rfl⟩ := told
    rw [eq]
    exact ⟨_, _, _, _, _, rfl⟩
  · show t.lane o = _
    rw [lanes, Base.lane_setLane]
    rcases List.mem_append.mp ho with old | last
    · rw [if_neg fun same : o = l => new (same ▸ old), measured o old e' seen']
    · obtain rfl := List.mem_singleton.mp last
      obtain rfl : e = e' := by injection seen.symm.trans seen'
      exact if_pos rfl
  · show t.lane o = _
    have other : o ≠ l := by
      rintro rfl
      rcases ho with no | unseen
      · exact no (by simp)
      · rw [seen] at unseen
        cases unseen
    rw [lanes, Base.lane_setLane, if_neg other]
    exact others o (ho.imp_left fun no old => no (List.mem_append_left _ old))
  · show t.reg _ = _
    rw [regs]
    rcases List.mem_append.mp ho with old | last
    · exact skipped o old m
    · rw [List.mem_singleton.mp last, awake] at m
      cases m
  · exact (regs o).trans (counts o fun old => ho (List.mem_append_left _ old))
  · have here : (∃ e', b.eyeOf n eyes l = some e' ∧ (b.eyeResult pct consec l e').2 = a) ↔ (b.eyeResult pct consec l e).2 = a := by simp [seen]
    simp only [List.mem_append, List.mem_singleton, or_and_right, exists_or, exists_eq_left, here]
    split
    · next silent =>
      rw [asks, silent]
      constructor
      · exact fun ⟨some_ask, old⟩ => ⟨some_ask, .inl old⟩
      · rintro ⟨some_ask, old | rfl⟩
        · exact ⟨some_ask, old⟩
        · exact absurd rfl some_ask
    · next loud =>
      rw [List.mem_cons, asks]
      constructor
      · rintro (rfl | ⟨some_ask, old⟩)
        · exact ⟨loud, .inr rfl⟩
        · exact ⟨some_ask, .inl old⟩
      · rintro ⟨some_ask, old | rfl⟩
        · exact .inr ⟨some_ask, old⟩
        · exact .inl rfl
  · split at none_asks
    · next none_asked => exact (silent none_asked).trans (quiet none_asks)
    · cases none_asks

theorem EyesChecked.step : EyesChecked n eyes pct consec b (ls ++ [l]) (eyeStep n eyes pct consec r l) := by
  have lane : r.1.lane l = b.lane l := h.others l (.inl new)
  have same : r.1.laneBase n = b.laneBase n ∧ r.1.now = b.now := by
    obtain ⟨lanes, regs, incs, incAt, flt, eq⟩ := h.frame
    rw [eq]
    exact ⟨rfl, rfl⟩
  obtain ⟨place, now⟩ := same
  simp only [eyeStep, lane, place, now]
  cases margining : (b.lane l).margining with
  | true => exact h.skip new margining
  | false =>
    have eye : b.eyeOf n eyes l = eyes.find? fun e => b.laneBase n + e.lane.toNat == l := if_neg (by simp [margining])
    rw [← eye, if_neg (by decide)]
    cases seen : b.eyeOf n eyes l with
    | none => exact h.unseen margining seen
    | some e =>
      show EyesChecked n eyes pct consec b (ls ++ [l]) (if (b.eyeResult pct consec l e).2 = .none then _ else _)
      have checked := h.see new (t := if (b.eyeResult pct consec l e).2 = .none then r.1.setLane l (b.eyeResult pct consec l e).1
        else (r.1.setLane l (b.eyeResult pct consec l e).1).send .eyeBelowThreshold l (laneAddr l)) seen
      split at checked
      · next silent =>
        rw [if_pos silent]
        exact checked (.refl _) (fun _ => rfl) (fun _ => rfl) fun _ => rfl
      · next loud =>
        rw [if_neg loud]
        exact checked (Base.Telling.send (.refl _) ..) (fun o => Base.lane_send ..) (fun o => Base.laneErr_send ..) fun silent => absurd silent loud

end

theorem EyesChecked.all {b : Base} {ls : List Nat} (once : ls.Nodup) : EyesChecked n eyes pct consec b ls (ls.foldl (eyeStep n eyes pct consec) (b, [])) := by
  induction ls using List.reverseRecOn with
  | nil => exact .nil b
  | append_singleton ls l ih =>
    rw [List.foldl_append]
    have parts := List.nodup_append.mp once
    exact (ih parts.1).step fun old => parts.2.2 l old l (List.mem_singleton_self l) rfl

end

section
variable {s : State} {k : PortBlk} {eyes : List LaneEye}

/-- What an eye check of a port comes to: the outcome of every lane in use, and what they ask for (R68 to R70). -/
def Base.eyeCheck (b : Base) (n : Nat) (eyes : List LaneEye) : Base × List EyeAsk :=
  (b.activeLanes n).foldl (eyeStep n eyes (b.rf (Reg.EYE_POLICY n) 7 0) (b.rf (Reg.EYE_POLICY n) 27 24)) (b, [])

/-- The Recovery that some checks ask for (R69, R70). -/
def Base.afterEyes (b : Base) (n : Nat) (asks : List EyeAsk) : Base :=
  if asks.contains .reeq then b.enterRecovery n true else if asks.contains .recovery then b.enterRecovery n false else b

theorem execEyeCheck_checks (train : s.base.canTrain k.toNat = true)
    (runs : (s.base.port k.toNat).link = .l0 ∨ (s.base.port k.toNat).link = .l0p) (enabled : (s.base.reg (Reg.PORT_CTRL k.toNat)).getLsbD 3 = false) :
    execEyeCheck k eyes s = .next { s with base := (s.base.eyeCheck k.toNat eyes).1.afterEyes k.toNat (s.base.eyeCheck k.toNat eyes).2 } :=
  State.training_pos train (by rcases runs with e | e <;> rw [e] <;> rfl) (if_neg (Bool.eq_false_iff.mp enabled))

end

/-! ### Lane control -/

theorem and_two (v : Word) : v &&& 2 = if v.getLsbD 1 then 2 else 0 := BitVec.and_twoPow v 1

section
variable {b : Base} {l : Nat}

theorem Base.writeLaneCtrl_eq {v w : Word} {readmit forced : Bool} (kept : v &&& 2 = w) (go : tb v 0 = readmit) (force : tb v 1 = forced) :
    b.writeLaneCtrl l v = if readmit then (b.setReg (Reg.LANE_CTRL l) w).updLane l fun x => { x with readmit := !forced } else b.setReg (Reg.LANE_CTRL l) w := by
  rw [Base.writeLaneCtrl, kept, go, force]

theorem Base.writeLaneCtrl_readmit (alone : (b.reg (Reg.LANE_CTRL l)).getLsbD 1 = false) :
    b.writeLaneCtrl l (b.reg (Reg.LANE_CTRL l) ||| 1) = (b.setReg (Reg.LANE_CTRL l) 0).updLane l fun x => { x with readmit := true } := by
  have forced : (b.reg (Reg.LANE_CTRL l) ||| 1).getLsbD 1 = false := by rw [BitVec.getLsbD_or, alone]; rfl
  have asked : (b.reg (Reg.LANE_CTRL l) ||| 1).getLsbD 0 = true := by rw [BitVec.getLsbD_or]; simp
  exact Base.writeLaneCtrl_eq (by rw [and_two, forced]; rfl) asked forced

theorem Base.writeLaneCtrl_readmit_forced (forced : (b.reg (Reg.LANE_CTRL l)).getLsbD 1 = true) :
    b.writeLaneCtrl l (b.reg (Reg.LANE_CTRL l) ||| 1) = (b.setReg (Reg.LANE_CTRL l) 2).updLane l fun x => { x with readmit := false } := by
  have still : (b.reg (Reg.LANE_CTRL l) ||| 1).getLsbD 1 = true := by rw [BitVec.getLsbD_or, forced]; rfl
  have asked : (b.reg (Reg.LANE_CTRL l) ||| 1).getLsbD 0 = true := by rw [BitVec.getLsbD_or]; simp
  exact Base.writeLaneCtrl_eq (by rw [and_two, still]; rfl) asked still

theorem Base.writeLaneCtrl_force (fresh : (b.reg (Reg.LANE_CTRL l)).getLsbD 0 = false) :
    b.writeLaneCtrl l (b.reg (Reg.LANE_CTRL l) ||| 2) = b.setReg (Reg.LANE_CTRL l) 2 := by
  have forced : (b.reg (Reg.LANE_CTRL l) ||| 2).getLsbD 1 = true := by rw [BitVec.getLsbD_or]; simp
  have no_readmit : (b.reg (Reg.LANE_CTRL l) ||| 2).getLsbD 0 = false := by rw [BitVec.getLsbD_or, fresh]; rfl
  exact Base.writeLaneCtrl_eq (by rw [and_two, forced]; rfl) no_readmit forced

end

theorem execMarginSessionStart_starts {s : State} {l : LaneId} (train : s.base.canTrain (s.base.blockOfLane l.toNat) = true)
    (runs : (s.base.port (s.base.blockOfLane l.toNat)).link = .l0 ∨ (s.base.port (s.base.blockOfLane l.toNat)).link = .l0p)
    (fast : 3 ≤ (s.base.port (s.base.blockOfLane l.toNat)).rate)
    (active : (s.base.lane l.toNat).logical < (s.base.port (s.base.blockOfLane l.toNat)).activeWidth) :
    execMarginSessionStart l s = .next { s with
      base := (s.base.updLane l.toNat fun x => { x with margining := true }).emit
        (.marginCaps l (marginCaps (s.base.port (s.base.blockOfLane l.toNat)).rate)) } :=
  State.training_pos train (by rcases runs with e | e <;> rw [e] <;> rfl) (if_pos ⟨fast, active⟩)

/-- Settles O16: the check of a port by the outcomes of its lanes, one lane's check by its thresholds, and the sessions and controls of a lane. -/
theorem eyeChecksAndLaneControl : Obligations.eye_checks_and_lane_control := by
  unfold Obligations.eye_checks_and_lane_control
  refine ⟨⟨fun s k eyes => ?_, fun x now pct consec e => ?_⟩, fun s l => ?_⟩
  · intro n b result measured asks
    refine ⟨fun train runs enabled => ?_, fun full present => State.whenBase_pos (by rw [full, present]; rfl) rfl⟩
    have checked : EyesChecked n eyes (b.rf (Reg.EYE_POLICY n) 7 0) (b.rf (Reg.EYE_POLICY n) 27 24) b (b.activeLanes n) (b.eyeCheck n eyes) :=
      .all ((b.nodup_lanesOf n).filter _)
    have seen_iff (l : Nat) (e : LaneEye) : measured l e ↔ l ∈ b.activeLanes n ∧ b.eyeOf n eyes l = some e := by
      refine and_congr_right fun _ => ?_
      unfold Base.eyeOf
      cases (b.lane l).margining <;> simp
    have asks_iff {a : EyeAsk} (some_ask : a ≠ .none) : asks a ↔ (b.eyeCheck n eyes).2.contains a = true := by
      rw [List.contains_iff_mem, checked.asks]
      simp only [asks, seen_iff, some_ask, ne_eq, not_false_eq_true, true_and, and_assoc, exists_and_left]
      rfl
    refine ⟨(b.eyeCheck n eyes).1, (b.eyeCheck n eyes).1.afterEyes n (b.eyeCheck n eyes).2, execEyeCheck_checks train runs enabled,
      fun l e seen => ?_, fun l unseen => ?_, fun l active margining => ?_, ?_, fun reeq => ?_, fun no_reeq recovery => ?_,
      fun no_reeq no_recovery => ?_⟩
    · obtain ⟨active, eye⟩ := (seen_iff l e).mp seen
      exact checked.measured l active e eye
    · refine checked.others l ?_
      by_cases active : l ∈ b.activeLanes n
      · exact .inr (Option.eq_none_iff_forall_ne_some.mpr fun e eye => unseen e ((seen_iff l e).mpr ⟨active, eye⟩))
      · exact .inl active
    · rw [checked.skipped l active margining, bumpWord_toNat]
    · obtain ⟨lanes, regs, incs, incAt, flt, eq⟩ := checked.frame
      rw [eq]
    · exact if_pos ((asks_iff (by decide)).mp reeq)
    · exact (if_neg fun reeq => no_reeq ((asks_iff (by decide)).mpr reeq)).trans (if_pos ((asks_iff (by decide)).mp recovery))
    · have silent : (b.eyeCheck n eyes).2 = [] := by
        refine List.eq_nil_iff_forall_not_mem.mpr fun a mem => ?_
        have asked := List.contains_iff_mem.mpr mem
        cases a with
        | none => exact ((checked.asks .none).mp mem).1 rfl
        | recovery => exact no_recovery ((asks_iff (by decide)).mpr asked)
        | reeq => exact no_reeq ((asks_iff (by decide)).mpr asked)
      refine ⟨?_, checked.quiet silent⟩
      rw [silent]
      rfl
  · exact ⟨Lane.check_high, fun low again twice => Lane.check_again low again twice,
      fun low first => ⟨Lane.check_limit low first, Lane.check_run low first⟩⟩
  · intro n b k
    refine ⟨execMarginSessionStart_starts, fun alive => State.whenBase_pos alive rfl,
      fun full => ⟨fun alone => ?_, fun forced => ?_, fun fresh => ?_⟩⟩
    · exact State.whenBase_pos full (Base.writeLaneCtrl_readmit alone)
    · exact State.whenBase_pos full (Base.writeLaneCtrl_readmit_forced forced)
    · exact State.whenBase_pos full (Base.writeLaneCtrl_force fresh)

end Sys2Proof.Machine
end
section
/-! SUPPORT. Link power states, port resets and reference clocks (R50, R57, R58, R66, R72 to R75, R81 to R84). -/

namespace Sys2Proof.Machine

/-! ### Clock recovery of lanes -/

/-- A lane without clock recovery (R72). -/
def Lane.unlocked (x : Lane) : Lane := { x with bitLock := false, blockLock := false }

/-- A lane whose clock recovery has locked at a rate (R61). -/
def Lane.locked (x : Lane) (rate : Nat) : Lane := { x with bitLock := true, blockLock := decide (2 ≤ rate) }

section
variable (b : Base) {ls : List Nat} (once : ls.Nodup)
include once

theorem Base.lane_unlockLanes (l : Nat) : (b.unlockLanes ls).lane l = if l ∈ ls then (b.lane l).unlocked else b.lane l :=
  Base.lane_foldl_updLane b once (fun _ => Lane.unlocked) l

theorem Base.lane_lockLanes (rate l : Nat) : (b.lockLanes ls rate).lane l = if l ∈ ls then (b.lane l).locked rate else b.lane l :=
  Base.lane_foldl_updLane b once (fun _ x => x.locked rate) l

end

section
variable (b : Base) (ls : List Nat) (rate : Nat)

theorem Base.port_unlockLanes (j : Nat) : (b.unlockLanes ls).port j = b.port j :=
  b.port_foldl_updLane ls (fun _ => Lane.unlocked) j

theorem Base.port_lockLanes (j : Nat) : (b.lockLanes ls rate).port j = b.port j :=
  b.port_foldl_updLane ls (fun _ x => x.locked rate) j

variable {b} {t : Base}

theorem Base.LinksOnly.unlockLanes (h : b.LinksOnly t) : b.LinksOnly (t.unlockLanes ls) := h.updLanes ls fun _ => Lane.unlocked

theorem Base.LinksOnly.lockLanes (h : b.LinksOnly t) : b.LinksOnly (t.lockLanes ls rate) := h.updLanes ls fun _ x => x.locked rate

end

/-! ### The power states of a link -/

theorem Base.wantsLink_of_txq {b : Base} {n : Nat} (waits : (b.port n).txq ≠ []) : b.wantsLink n = true := by
  simp [Base.wantsLink, waits]

theorem Base.mem_idledLanes {b : Base} {n w l : Nat} : l ∈ (b.activeLanes n).filter (fun l => decide (w ≤ (b.lane l).logical)) ↔
    l ∈ b.activeLanes n ∧ w ≤ (b.lane l).logical := by
  rw [List.mem_filter, decide_eq_true_eq]

section
variable {s : State} {k : PortBlk} {w : Fin 9} (train : s.base.canTrain k.toNat = true)

section
include train

/-- The lanes that a narrower width leaves idle (R72). -/
def Base.idledLanes (b : Base) (n w : Nat) : List Nat := (b.activeLanes n).filter fun l => decide (w ≤ (b.lane l).logical)

theorem execL0pEntry_narrows (active : (s.base.port k.toNat).link = .l0) (flits : 2 ≤ (s.base.port k.toNat).flitFormat)
    (width : w.val = 1 ∨ w.val = 2 ∨ w.val = 4) (narrower : w.val < (s.base.port k.toNat).width) :
    execL0pEntry k w s = .next { s with
      base := (s.base.unlockLanes (s.base.idledLanes k.toNat w.val)).setPort k.toNat { s.base.port k.toNat with link := .l0p, activeWidth := w.val } } :=
  State.training_pos train (by rw [active]; rfl) (if_pos ⟨flits, width, narrower⟩)

/-- A port at its full width again (R72). -/
def Base.widened (b : Base) (n : Nat) : Base := b.updPort n fun p => { p with link := .l0, activeWidth := p.width }

omit train in
theorem Base.port_widened (b : Base) (n j : Nat) : (b.widened n).port j =
    if j = n then { b.port n with link := .l0, activeWidth := (b.port n).width } else b.port j :=
  Base.port_updPort _ _ _ _

theorem execL0pExit_widens (narrow : (s.base.port k.toNat).link = .l0p) :
    execL0pExit k s = .next { s with
      base := (s.base.widened k.toNat).lockLanes ((s.base.widened k.toNat).activeLanes k.toNat) ((s.base.widened k.toNat).port k.toNat).rate } :=
  State.training_pos train (by rw [narrow]; rfl) rfl

theorem execL1Entry_sleeps (active : (s.base.port k.toNat).link = .l0 ∨ (s.base.port k.toNat).link = .l0p) :
    execL1Entry k s = .next { s with base := s.base.sleepLink k.toNat .l1 } :=
  State.training_pos train (by rcases active with e | e <;> rw [e] <;> rfl) rfl

theorem execL12Entry_sleeps
    (active : (s.base.port k.toNat).link = .l0 ∨ (s.base.port k.toNat).link = .l0p ∨ (s.base.port k.toNat).link = .l1) :
    execL12Entry k s = .next { s with base := s.base.sleepLink k.toNat .l12 } :=
  State.training_pos train (by rcases active with e | e | e <;> rw [e] <;> rfl) rfl

theorem execElectricalIdleExit_exits (asleep : (s.base.port k.toNat).link = .l1 ∨ (s.base.port k.toNat).link = .l12) :
    execElectricalIdleExit k s = .next { s with
      base := s.base.setPort k.toNat { s.base.port k.toNat with link := .recovery, exiting := true } } :=
  State.training_pos train (by rcases asleep with e | e <;> rw [e] <;> rfl) rfl

section
variable (waits : (s.base.port k.toNat).txq ≠ [])

include waits

theorem execPartLinkExit_l1 (asleep : (s.base.port k.toNat).link = .l1) :
    execPartLinkExit k s = .next { s with
      base := (s.base.setPort k.toNat { s.base.port k.toNat with link := .recovery, exiting := true }).emit (.linkExit k) } :=
  State.training_pos train (by rw [asleep]; rfl) ((if_neg (by rw [Base.wantsLink_of_txq waits]; decide)).trans (if_pos asleep))

theorem execPartLinkExit_l12 (asleep : (s.base.port k.toNat).link = .l12) (no_wake : (s.base.port k.toNat).wakeAt = none) :
    execPartLinkExit k s = .next { s with
      base := (s.base.setPort k.toNat { s.base.port k.toNat with wakeAt := some s.base.now, wakeLate := false }).emit (.linkExit k) } :=
  State.training_pos train (by rw [asleep]; rfl) ((if_neg (by rw [Base.wantsLink_of_txq waits]; decide)).trans
    ((if_neg (by rw [asleep]; decide)).trans (if_neg (by rw [no_wake]; decide))))

end

theorem execWakeTimeout_late {t : Nat} (asleep : (s.base.port k.toNat).link = .l12) (wake : (s.base.port k.toNat).wakeAt = some t)
    (late : t + 1000000 ≤ s.base.now) :
    execWakeTimeout k s = .next { s with
      base := if (s.base.port k.toNat).wakeLate = false then
          (s.base.setPort k.toNat { s.base.port k.toNat with wakeLate := true }).send .wakeTimeout (0x58 + k.toNat / 2) (portAddr k.toNat)
        else s.base } := by
  refine State.training_pos train (by rw [asleep]; rfl) ?_
  simp only [wake, late, true_and]

end

/-! ### Resets and clocks of a port -/

/-- Both blocks of a port's pins updated alike (R50). -/
def Base.updPins (b : Base) (j : Nat) (f : Port → Port) : Base := (b.updPort j f).updPort (j + 1) f

theorem Base.port_updPins (b : Base) (j : Nat) (f : Port → Port) (i : Nat) :
    (b.updPins j f).port i = if i = j ∨ i = j + 1 then f (b.port i) else b.port i := by
  rw [Base.updPins, Base.port_updPort, Base.port_updPort, Base.port_updPort]
  by_cases second : i = j + 1
  · subst second
    simp
  · by_cases first : i = j <;> simp [first, second]

/-- The links of a port go down without a reset, each block to the state it rests in (R57). -/
def Base.downPins (b : Base) (q : Nat) : Base :=
  let down := fun (b : Base) (j : Nat) => b.linkDownTo j (b.restState j) false
  if b.split q then down (down b (2 * q)) (2 * q + 1) else down b (2 * q)

theorem Base.foldl_halves (b : Base) (q : Nat) : (b.halves q).foldl (fun b k => b.linkDownTo k (b.restState k) false) b = b.downPins q := by
  unfold Base.halves Base.downPins
  cases b.split q <;> rfl

theorem execRefclkLost_lost {p : BitVec 3} (alive : s.base.alive = true) (clocked : (s.base.port (2 * p.toNat)).refclk = true) :
    execRefclkLost p s = .next { s with
      base := ((s.base.downPins p.toNat).updPins (2 * p.toNat) fun x => { x with refclk := false }).send .refclkLost (0x50 + p.toNat)
        (p.toNat * 16 + 15) } := by
  refine State.whenBase_pos alive ((if_pos clocked).trans ?_)
  rw [Base.foldl_halves]
  rfl

/-- A block of a port that PERST_N resets (R73): once, with its link down and its lanes no longer excluded. -/
def Base.perstBlock (b : Base) (j : Nat) : Base :=
  if (b.port j).perst then b
  else
    let b := if b.alive && b.present_ j then (b.openShadow j 100000).linkDown j else b
    let b := if b.present_ j then (b.lanesOf j).foldl (fun c l => c.updLane l fun x => { x with excluded := false }) b else b
    b.updPort j fun x => { x with perst := true, noWidth := false, narrowed := false }

theorem execPerstAssert_resets {p : BitVec 3} :
    execPerstAssert p s = .next { s with base := (s.base.perstBlock (2 * p.toNat)).perstBlock (2 * p.toNat + 1) } :=
  State.then_eq rfl

theorem execPerstRelease_frees {p : BitVec 3} :
    execPerstRelease p s = .next { s with base := s.base.updPins (2 * p.toNat) fun x => { x with perst := false } } :=
  State.then_eq rfl

section
variable {p : BitVec 3} (alive : s.base.alive = true)
include alive

theorem execRefclkRestored_restores :
    execRefclkRestored p s = .next { s with base := s.base.updPins (2 * p.toNat) fun x => { x with refclk := true, pll := true } } :=
  State.whenBase_pos alive rfl

theorem execPllUnlock_tells :
    execPllUnlock p s = .next { s with
      base := (s.base.updPins (2 * p.toNat) fun x => { x with pll := false }).send .pllUnlock (0x50 + p.toNat) (p.toNat * 16 + 15) } :=
  State.whenBase_pos alive rfl

variable (present : s.base.present_ k.toNat = true) (linked : (s.base.port k.toNat).linked = true)
include present linked

theorem execHostLinkReset_disables :
    execHostLinkReset k true s = .next { s with base := s.base.linkDownTo k.toNat .disabled false } :=
  State.whenBase_pos (by rw [alive, present, linked]; rfl) rfl

theorem execHostLinkReset_resets :
    execHostLinkReset k false s = .next { s with base := (s.base.openShadow k.toNat 100000).linkDownTo k.toNat .hotReset true } :=
  State.whenBase_pos (by rw [alive, present, linked]; rfl) rfl

end

theorem Base.writePortCtrl_hold {b : Base} {n : Nat} (free : (b.reg (Reg.PORT_CTRL n)).getLsbD 0 = false) :
    b.writePortCtrl n (b.reg (Reg.PORT_CTRL n) ||| 1) =
      ((b.setReg (Reg.PORT_CTRL n) ((b.reg (Reg.PORT_CTRL n) ||| 1) &&& 9)).openShadow n 100000).linkDownTo n .held true := by
  have hold : tb (b.reg (Reg.PORT_CTRL n) ||| 1) 0 = true := by rw [tb, BitVec.getLsbD_or]; simp
  have was : tb (b.reg (Reg.PORT_CTRL n)) 0 = false := free
  simp only [Base.writePortCtrl, hold, was, if_true, Bool.false_eq_true, if_false]

end

/-- Settles O17: the power states by what they make of the port and of its lanes, then the pins, clocks and resets. -/
theorem linkPowerResetsAndClocks : Obligations.link_power_resets_and_clocks := by
  unfold Obligations.link_power_resets_and_clocks
  refine ⟨fun s k w train => ?_, fun s p k alive => ?_⟩
  · intro n b p moves
    have sleeps (c : Instr) (st : LinkState) (step : exec c s = .next { s with base := s.base.sleepLink n st }) :
        moves c st p.width fun l => if l ∈ b.lanesOf n then (b.lane l).unlocked else b.lane l := by
      refine Base.LinksOnly.next (((Base.LinksOnly.refl b).unlockLanes (b.lanesOf n)).updPort n _) step
        ⟨(Base.port_updPort _ _ _ _).trans ?_, fun j ne => (Base.port_updPort _ _ _ _).trans ?_, fun l => ?_⟩
      · rw [if_pos rfl, Base.port_unlockLanes]
      · rw [if_neg ne, Base.port_unlockLanes]
      · exact b.lane_unlockLanes (b.nodup_lanesOf n) l
    refine ⟨fun active flits width narrower => ?_, fun narrow => ?_,
      ⟨fun active => sleeps _ _ (execL1Entry_sleeps train active), fun active => sleeps _ _ (execL12Entry_sleeps train active)⟩,
      execElectricalIdleExit_exits train, fun asleep waits => execPartLinkExit_l1 train waits asleep,
      fun asleep waits => execPartLinkExit_l12 train waits asleep, fun t asleep wake late => ⟨fun fresh => ?_, fun told => ?_⟩⟩
    · refine Base.LinksOnly.next (((Base.LinksOnly.refl b).unlockLanes (b.idledLanes n w.val)).setPort n _)
        (execL0pEntry_narrows train active flits width narrower)
        ⟨(Base.port_setPort _ _ _ _).trans (if_pos rfl), fun j ne => (Base.port_setPort _ _ _ _).trans ?_, fun l => ?_⟩
      · rw [if_neg ne, Base.port_unlockLanes]
      · refine (b.lane_unlockLanes (((b.nodup_lanesOf n).filter _).filter _) l).trans ?_
        exact if_congr Base.mem_idledLanes rfl rfl
    · have full : (b.widened n).activeLanes n = (b.lanesOf n).filter fun l => decide ((b.lane l).logical < p.width) := by
        have width : ((b.widened n).port n).activeWidth = p.width := by rw [Base.port_widened, if_pos rfl]
        rw [Base.activeLanes, width]
        rfl
      have rate : ((b.widened n).port n).rate = p.rate := by rw [Base.port_widened, if_pos rfl]
      have step := execL0pExit_widens train narrow
      rw [full, rate] at step
      refine Base.LinksOnly.next (((Base.LinksOnly.refl b).updPort n _).lockLanes _ p.rate) step
        ⟨(Base.port_lockLanes _ _ _ _).trans ?_, fun j ne => (Base.port_lockLanes _ _ _ _).trans ?_, fun l => ?_⟩
      · exact (b.port_widened n n).trans (if_pos rfl)
      · exact (b.port_widened n j).trans (if_neg ne)
      · refine ((b.widened n).lane_lockLanes ((b.nodup_lanesOf n).filter _) p.rate l).trans ?_
        simp only [List.mem_filter, decide_eq_true_eq]
        rfl
    · exact (execWakeTimeout_late train asleep wake late).trans (by rw [if_pos fresh]; rfl)
    · exact (execWakeTimeout_late train asleep wake late).trans (congrArg _ (congrArg _ (if_neg (by rw [told]; decide))))
  · intro n b q j msg freed reset pins down unclocked held
    refine ⟨execPerstAssert_resets, execPerstRelease_frees, execRefclkLost_lost alive,
      fun lost => State.whenBase_kept fun _ => if_neg (Bool.eq_false_iff.mp lost), execRefclkRestored_restores alive, execPllUnlock_tells alive,
      b.port_updPins j,
      fun present linked => ⟨execHostLinkReset_disables alive present linked, execHostLinkReset_resets alive present linked⟩,
      fun full present free => State.whenBase_pos (by rw [full, present]; rfl) (Base.writePortCtrl_hold free)⟩

end Sys2Proof.Machine
end

section
/-! SUPPORT. Messages of a flit, label slots and snoop responses (R94, R104, R115 to R122, R241, R242, R244). -/

namespace Sys2Proof.Machine

/-! ### Messages that reach the transaction layer -/

/-- A port hands on a message at once: it carries messages, its stream is not insecure and no MAC epoch waits (R115). -/
def Base.Hears (b : Base) (k : Nat) : Prop :=
  (b.port k).carries = true ∧ ((b.port k).ide = 0 ∨ (b.port k).ide = 1 ∧ (b.port k).ideFlits = 0)

theorem Base.fromFlit_heard {b : Base} {k : Nat} {i : Instr} (hears : b.Hears k) : b.fromFlit k i = b.message i := by
  obtain ⟨carries, open_ | ⟨epoch, none⟩⟩ := hears
  · simp [Base.fromFlit, carries, open_]
  · simp [Base.fromFlit, carries, epoch, none]

theorem State.fromFlit_heard {s : State} {k : PortBlk} {i : Instr} {x : Base} (alive : s.base.alive = true) (hears : s.base.Hears k.toNat)
    (e : s.base.message i = x) : s.fromFlit k i = .next { s with base := x } :=
  State.whenBase_pos alive ((Base.fromFlit_heard hears).trans e)

/-! ### Requests without an access -/

section
variable {b : Base} {r : MemReq} (bound : b.carriesLd (b.ldOf r.port.toNat r.ld.toNat) r.port.toNat = true)
include bound

theorem Base.specRd_of_bound : b.specRd r = b :=
  if_neg (by simp only [Base.unboundMsg, bound, Bool.not_true, Bool.and_false, Bool.false_eq_true, not_false_eq_true])

theorem Base.unsupported_of_bound (credit : b.credits r.port.toNat false = true) :
    b.unsupported r = b.send .unsupportedOpcode (0x80 + r.port.toNat) (r.port.toNat / 2 * 16 + 15) :=
  (if_neg (by rw [credit]; decide)).trans (if_neg (by simp only [Base.unboundMsg, bound, Bool.not_true, Bool.false_eq_true, not_false_eq_true]))

end

/-! ### Label slots -/

section
variable {b : Base} {k : Nat}

theorem Base.context_taken {h : Nat} {c : SlotContext} (bound : b.carriesLd h k = true) (active : b.extActive h = true)
    (later : (b.ld h).lblFrom < (b.port k).flitsRx) :
    b.context k h c = b.setPort k { b.port k with
      slot := { ld := BitVec.ofNat 4 h, label := c.label, deadline := c.deadline.toNat } :: (b.port k).slot.filter fun y => y.ld.toNat != h } := by
  refine (if_neg ?_).trans rfl
  rw [bound, active, decide_eq_false (Nat.not_le.mpr later)]
  decide

theorem Base.malformed_slot (sld : Bool) (h : Nat) :
    b.malformed k (if !sld then some h else none) =
      (if sld = false ∧ b.carriesLd h k = true then b.bump (Reg.SLOT_MALFORMED_COUNT h) else b).send .slotMalformed (0x80 + k) (portAddr k) := by
  cases sld
  · simp only [Base.malformed, Bool.not_false, if_true, true_and]
  · simp only [Base.malformed, Bool.not_true, Bool.false_eq_true, if_false, reduceCtorEq, false_and]

end

/-! ### Snoop responses -/

theorem Tracker.respond_drops {t u : Tracker} {h : Nat} {k : SnoopKind} {r : BiRspKind} (e : t.respond h k r = some u) :
    u.snoops = t.snoops.filter fun s => s.host.toNat != h := by
  cases k <;> cases r <;> simp only [Tracker.respond, Option.some.injEq, reduceCtorEq] at e <;> rw [← e]

section
variable {b : Base} {p : PortBlk} {ld : HostId} {dpa : Dpa} {kind : BiRspKind} {t : Tracker} {sn : Snoop}
  (bound : b.carriesLd (b.ldOf p.toNat ld.toNat) p.toNat = true)
  (flow : (b.coh.trackers.find? fun x => x.line == dpa.toNat / 64 && x.snoops.any fun y => y.host.toNat == b.ldOf p.toNat ld.toNat && y.sent) = some t)
  (snoop : (t.snoops.find? fun y => y.host.toNat == b.ldOf p.toNat ld.toNat) = some sn)
include bound flow snoop

theorem Base.biRsp_allowed {u : Tracker} (e : t.respond (b.ldOf p.toNat ld.toNat) sn.kind kind = some u) :
    b.biRsp p ld dpa kind = (b.setTracker (dpa.toNat / 64) u).pump := by
  simp only [Base.biRsp, bound, Bool.not_true, Bool.false_eq_true, if_false, flow, snoop, e]

/-- The report of a response that the snoop does not allow (R242). -/
def Base.biError (b : Base) (h line : Nat) : Base := b.send .biProtocolError (0x410 + h) (64 * line)

theorem Base.biRsp_second (e : t.respond (b.ldOf p.toNat ld.toNat) sn.kind kind = none) (again : sn.resent = true) :
    b.biRsp p ld dpa kind =
      (b.biError (b.ldOf p.toNat ld.toNat) (dpa.toNat / 64)).isolate (b.ldOf p.toNat ld.toNat) true (dpa.toNat / 64) := by
  simp only [Base.biRsp, bound, Bool.not_true, Bool.false_eq_true, if_false, flow, snoop, e, again, if_true, Base.biError]

theorem Base.biRsp_first (e : t.respond (b.ldOf p.toNat ld.toNat) sn.kind kind = none) (first : sn.resent = false) :
    b.biRsp p ld dpa kind =
      let h := b.ldOf p.toNat ld.toNat
      let r := (b.biError h (dpa.toNat / 64)).sendSnoop h (dpa.toNat / 64) sn.kind
      r.2.setTracker (dpa.toNat / 64) { t with snoops := t.snoops.map fun x => if x.host.toNat = h then { r.1 with resent := true } else x } := by
  simp only [Base.biRsp, bound, Bool.not_true, Bool.false_eq_true, if_false, flow, snoop, e, first, Base.biError]

end

/-- Settles O20: each message by what the transaction layer makes of it, and the response by what the record takes. -/
theorem otherFabricMessagesAndSnoops : Obligations.other_fabric_messages_and_snoops := by
  unfold Obligations.other_fabric_messages_and_snoops
  refine ⟨fun s r op p ld tag dpa a c en code => ?_, fun s p ld dpa kind t sn => ?_⟩
  · intro b k h g hears
    refine ⟨fun hear credit bound => ⟨?_, ?_⟩, fun hear bound => ?_, fun hear same only_a none_c bound active later => ?_, fun hear other => ?_,
      fun up => State.viaPort_pos up rfl rfl⟩
    · exact State.fromFlit_heard hear.1 hear.2 (Base.specRd_of_bound bound)
    · exact State.fromFlit_heard hear.1 hear.2 (Base.unsupported_of_bound bound credit)
    · exact State.fromFlit_heard hear.1 hear.2 (if_neg (by rw [bound]; decide))
    · refine State.fromFlit_heard hear.1 hear.2 ((if_neg (not_not_intro same)).trans ?_)
      rw [only_a, none_c]
      exact Base.context_taken bound active later
    · exact State.fromFlit_heard hear.1 hear.2 ((if_pos other).trans (Base.malformed_slot _ _))
  · intro b h line alive carries open_ bound flow snoop
    refine ⟨fun u e => ⟨fun y kept => ?_, ?_⟩, fun e again => ?_, fun e first => ?_⟩
    · rw [Tracker.respond_drops e, List.mem_filter] at kept
      exact bne_iff_ne.mp kept.2
    · exact State.fromFlit_heard alive ⟨carries, open_⟩ (Base.biRsp_allowed bound flow snoop e)
    · exact State.fromFlit_heard alive ⟨carries, open_⟩ (Base.biRsp_second bound flow snoop e again)
    · exact State.fromFlit_heard alive ⟨carries, open_⟩ (Base.biRsp_first bound flow snoop e first)

end Sys2Proof.Machine
end

section
/-! SUPPORT. The patrol scrubber (R215 to R219). -/

namespace Sys2Proof.Machine

/-! ### Quotas and offers -/

/-- The state after a quota of the channel, where it has one (R36). -/
def Base.spent (b : Base) (ch : ChanId) : Base := (b.takeQuota ch).getD b

theorem Base.epochs_of_takeQuota {b t : Base} {ch : ChanId} (e : b.takeQuota ch = some t) : t.pl.epochs = b.pl.epochs := by
  unfold Base.takeQuota at e
  split_ifs at e <;> cases e <;> rfl

theorem Base.reportSet_pl (b : Base) (s state : Nat) : (b.reportSet s state).pl = b.pl := by
  exact (foldl_keeps (fun x : Base => x.pl) _ (fun x c => x.send_pl _ _ _ _ _) _ _).trans (Base.send_pl ..)

theorem Base.touchSet_pl (b : Base) (k : Nat) : (b.touchSet k).pl = b.pl := by
  rw [Base.touchSet]
  dsimp only
  split_ifs
  · rfl
  · rfl
  · exact Base.reportSet_pl _ _ _
  · rfl

theorem Base.offerRow_pl (b : Base) (k : Nat) (e : RowEntry) : (b.offerRow k e).pl = b.pl := by
  rw [Base.offerRow]
  split
  · rfl
  · dsimp only
    split_ifs
    · exact Base.touchSet_pl _ k
    · rfl

/-- The base state once a scrub read is offered, where the stage has room (R216). -/
def Base.scrubInStage (b : Base) (k : Nat) (j : ScrubJob) : Base :=
  if b.stageHeld (quadOf k) < 8 then b.offerRow k (b.scrubOffer j.bank j.row true 0) else b

theorem Base.scrubInStage_now (b : Base) (k : Nat) (j : ScrubJob) : (b.scrubInStage k j).now = b.now := by
  rw [Base.scrubInStage]
  split_ifs
  · rw [Base.now, b.offerRow_pl, Base.now]
  · rfl

/-! ### SCRUB_ROW -/

section
variable {s : State} {ch : ChanId} {j : ScrubJob}

/-- The pointer moves past the row at position `p`; past the last row the cycle wraps (R215). -/
def Chan.scrubPast (c : Chan) (epochs p : Nat) : Chan :=
  { (if p < c.scrubPos ∨ p = 2097151 then c.scrubWrap epochs else c) with scrubPos := (p + 1) % 2097152 }

section
variable {t : Base} (able : s.base.scrubOk ch.toNat = true) (quota : s.base.takeQuota ch = some t)
include able quota

theorem execScrubRow_wraps (idle : (s.base.chan ch.toNat).scrubJob = none)
    (done : nextScrub (s.base.chan ch.toNat).scrubPos (s.base.scrubRows ch.toNat) = none) :
    execScrubRow ch s = .next { s with base := t.setChan ch.toNat ((t.chan ch.toNat).scrubWrap t.pl.epochs) } := by
  simp only [execScrubRow, able, idle, done, quota, Bool.and_self, Bool.not_true, Bool.false_eq_true, if_false]
  refine State.then_eq ?_
  rw [quota, ← Base.epochs_of_takeQuota quota]
  rfl

theorem execScrubRow_reads {p : Nat} (idle : (s.base.chan ch.toNat).scrubJob = none)
    (next : nextScrub (s.base.chan ch.toNat).scrubPos (s.base.scrubRows ch.toNat) = some p) :
    execScrubRow ch s = .next (s.scrubRead ch.toNat { bank := p % 32, row := p / 32 } fun b =>
      (b.spent ch).updChan ch.toNat fun c => c.scrubPast b.pl.epochs p) := by
  simp only [execScrubRow, able, idle, next, quota, Bool.and_self, Bool.not_true, Bool.false_eq_true, if_false]
  rfl

theorem execScrubRow_retries (job : (s.base.chan ch.toNat).scrubJob = some j) (unread : j.lines = none) (first : j.verifying = false) :
    execScrubRow ch s = .next (s.scrubRead ch.toNat j fun b => b.spent ch) := by
  simp only [execScrubRow, able, job, quota, unread, first, Option.isNone_none, Bool.not_false, Bool.and_self, Bool.not_true, Bool.false_eq_true,
    if_false]
  rfl

end

theorem execScrubRow_lapses (none : s.base.takeQuota ch = none) : execScrubRow ch s = .next s := by
  simp only [execScrubRow, none, ite_self]

end

/-! ### The read of a row -/

section
variable {s : State} {k : Nat} {j : ScrubJob} {take : Base → Base}

theorem State.scrubRead_by_line (off : s.base.busServes (quadOf k) = false) :
    s.scrubRead k j take = { s with base := (take s.base).scrubLines k j.bank j.row } :=
  if_pos (by rw [off]; rfl)

section
variable (serves : s.base.busServes (quadOf k) = true)
include serves

theorem State.scrubRead_waits (drains : s.base.drains (quadOf k) = true) : s.scrubRead k j take = s :=
  (if_neg (by rw [serves]; decide)).trans (if_pos drains)

variable (room : s.base.drains (quadOf k) = false)
include room

theorem State.scrubRead_offers
    (refused : (s.base.scrubInStage k j).scrubTransfer k ((s.base.scrubInStage k j).scrubOffer j.bank j.row true 0) = none) :
    s.scrubRead k j take = { s with base := s.base.scrubInStage k j } := by
  unfold Base.scrubInStage at refused ⊢
  simp only [State.scrubRead, State.onBase, serves, room, refused, Bool.not_true, Bool.false_eq_true, if_false]

theorem State.scrubRead_takes {e : RowEntry} {words : List (BitVec 640)}
    (accepted : (s.base.scrubInStage k j).scrubTransfer k ((s.base.scrubInStage k j).scrubOffer j.bank j.row true 0) = some e)
    (row : State.rowWords { s with base := s.base.scrubInStage k j } k j.bank j.row [] = some words) :
    ∃ opened : Base, s.scrubRead k j take = { s with
      base := opened.updChan k fun c => { c with
        scrubJob := some { j with lines := some words, overtaken := false, readAt := s.base.now } } } := by
  refine ⟨((((take (s.base.scrubInStage k j)).useBus k (take (s.base.scrubInStage k j)).now e).activateRow k
    (take (s.base.scrubInStage k j)).now e).dropRow k 0 e), ?_⟩
  rw [← s.base.scrubInStage_now k j]
  unfold Base.scrubInStage at accepted row ⊢
  simp only [State.scrubRead, State.onBase, serves, room, accepted, row, Bool.not_true, Bool.false_eq_true, if_false]

end

end

/-! ### SCRUB_ROW_DECODED -/

section
variable {s : State} {ch : ChanId} {noise : List Noise} {j : ScrubJob} {raw : List (BitVec 640)}

/-- The scrubbed row as decoded, with the noise of its way to the decoder. -/
def Base.scrubbed (b : Base) (k : Nat) (raw : List (BitVec 640)) (noise : List Noise) : List Decoded :=
  b.decodeRow k (raw.zipIdx.map fun e => addNoise e.1 (noise.getD e.2 []))

/-- Every line of a row decoded clean. -/
def RowClean (ds : List Decoded) : Prop := ∀ d ∈ ds, d.out = .clean ∨ d.out = .cleanErased

theorem rowClean_iff (ds : List Decoded) : (ds.all fun d => d.out == .clean || d.out == .cleanErased) = true ↔ RowClean ds := by
  simp [RowClean]

variable (alive : s.base.alive = true) (job : (s.base.chan ch.toNat).scrubJob = some j) (read : j.lines = some raw)
include alive job read

theorem execScrubRowDecoded_clean (clean : RowClean (s.base.scrubbed ch.toNat raw noise)) :
    execScrubRowDecoded ch noise s = .next { s with
      base := (s.base.scrubDecodes ch.toNat j (s.base.scrubbed ch.toNat raw noise)).updChan ch.toNat fun c => { c with scrubJob := none } } := by
  have all := (rowClean_iff _).mpr clean
  unfold Base.scrubbed at all
  simp only [execScrubRowDecoded, job, read, alive, all, Bool.not_true, Bool.false_eq_true, if_false, if_true]
  exact State.then_eq rfl

variable (dirty : ¬ RowClean (s.base.scrubbed ch.toNat raw noise))
include dirty

theorem execScrubRowDecoded_cancels (late : j.overtaken = true) :
    execScrubRowDecoded ch noise s = .next (State.scrubCancel
      { s with base := s.base.scrubDecodes ch.toNat j (s.base.scrubbed ch.toNat raw noise) } ch.toNat j raw
        (s.base.scrubbed ch.toNat raw noise)) := by
  have all := Bool.eq_false_iff.mpr fun h => dirty ((rowClean_iff _).mp h)
  unfold Base.scrubbed at all ⊢
  simp only [execScrubRowDecoded, job, read, alive, all, late, Bool.not_true, Bool.false_eq_true, if_false, if_true]
  rfl

/-- The base state once the rewrite of a scrubbed row is offered (R216). -/
def Base.scrubRewriteOffered (b : Base) (k : Nat) (j : ScrubJob) : Base := b.offerRow k (b.scrubOffer j.bank j.row false (j.readAt + 32))

variable (free : j.overtaken = false)
include free

theorem execScrubRowDecoded_offers
    (refused : (s.base.scrubRewriteOffered ch.toNat j).scrubTransfer ch.toNat
      ((s.base.scrubRewriteOffered ch.toNat j).scrubOffer j.bank j.row false (j.readAt + 32)) = none) :
    execScrubRowDecoded ch noise s = .next { s with base := s.base.scrubRewriteOffered ch.toNat j } := by
  have all := Bool.eq_false_iff.mpr fun h => dirty ((rowClean_iff _).mp h)
  unfold Base.scrubbed at all
  unfold Base.scrubRewriteOffered at refused ⊢
  simp only [execScrubRowDecoded, State.onBase, job, read, alive, all, free, refused, Bool.not_true, Bool.false_eq_true, if_false]

theorem execScrubRowDecoded_rewrites {e : RowEntry}
    (accepted : (s.base.scrubRewriteOffered ch.toNat j).scrubTransfer ch.toNat
      ((s.base.scrubRewriteOffered ch.toNat j).scrubOffer j.bank j.row false (j.readAt + 32)) = some e) :
    execScrubRowDecoded ch noise s = .next (State.scrubWrite { s with
      base := (s.base.scrubRewriteOffered ch.toNat j).scrubDecodes ch.toNat j (s.base.scrubbed ch.toNat raw noise) } ch.toNat j
        (s.base.scrubbed ch.toNat raw noise) e) := by
  have all := Bool.eq_false_iff.mpr fun h => dirty ((rowClean_iff _).mp h)
  unfold Base.scrubbed at all ⊢
  unfold Base.scrubRewriteOffered at accepted ⊢
  simp only [execScrubRowDecoded, State.onBase, job, read, alive, all, free, accepted, Bool.not_true, Bool.false_eq_true, if_false]

end

/-! ### SCRUB_VERIFY_DONE -/

section
variable {s : State} {ch : ChanId} {noise : List Noise} {j : ScrubJob} (alive : s.base.alive = true)
  (job : (s.base.chan ch.toNat).scrubJob = some j) (verifies : j.verifying = true)
include alive job verifies

theorem execScrubVerifyDone_by_line (off : s.base.busServes (quadOf ch.toNat) = false) :
    execScrubVerifyDone ch noise s = .next { s with base := s.base.scrubLines ch.toNat j.bank j.row } := by
  simp only [execScrubVerifyDone, job, alive, verifies, off, Bool.and_self, Bool.not_true, Bool.not_false, Bool.false_eq_true, if_false, if_true]
  exact State.then_eq rfl

variable (serves : s.base.busServes (quadOf ch.toNat) = true)
include serves

theorem execScrubVerifyDone_waits (drains : s.base.drains (quadOf ch.toNat) = true) : execScrubVerifyDone ch noise s = .next s := by
  simp only [execScrubVerifyDone, job, alive, verifies, serves, drains, Bool.and_self, Bool.not_true, Bool.false_eq_true, if_false, if_true]

variable (room : s.base.drains (quadOf ch.toNat) = false)
include room

theorem execScrubVerifyDone_offers
    (refused : (s.base.scrubInStage ch.toNat j).scrubTransfer ch.toNat ((s.base.scrubInStage ch.toNat j).scrubOffer j.bank j.row true 0) = none) :
    execScrubVerifyDone ch noise s = .next { s with base := s.base.scrubInStage ch.toNat j } := by
  unfold Base.scrubInStage at refused ⊢
  simp only [execScrubVerifyDone, State.onBase, job, alive, verifies, serves, room, refused, Bool.and_self, Bool.not_true, Bool.false_eq_true, if_false]

theorem execScrubVerifyDone_checks {e : RowEntry} {words : List (BitVec 640)}
    (accepted : (s.base.scrubInStage ch.toNat j).scrubTransfer ch.toNat ((s.base.scrubInStage ch.toNat j).scrubOffer j.bank j.row true 0) = some e)
    (row : State.rowWords { s with base := s.base.scrubInStage ch.toNat j } ch.toNat j.bank j.row noise = some words) :
    execScrubVerifyDone ch noise s = .next { s with
      base := ((((s.base.scrubInStage ch.toNat j).decodeRow ch.toNat words).zipIdx.foldl (fun b x => b.verifyLine ch.toNat j x.2 x.1)
        ((((s.base.scrubInStage ch.toNat j).useBus ch.toNat s.base.now e).activateRow ch.toNat s.base.now e).dropRow ch.toNat 0 e)).updChan ch.toNat
          fun c => { c with scrubJob := none }).drainChan ch.toNat } := by
  rw [← s.base.scrubInStage_now ch.toNat j]
  unfold Base.scrubInStage at accepted row ⊢
  simp only [execScrubVerifyDone, State.onBase, State.then_, job, alive, verifies, serves, room, accepted, row, Bool.and_self, Bool.not_true,
    Bool.false_eq_true, if_false]

end

/-! ### SCRUB_CYCLE_LATE and cancelled rewrites -/

section
variable {s : State} {ch : ChanId}

theorem execScrubCycleLate_told (alive : s.base.alive = true) (fresh : (s.base.chan ch.toNat).scrubLate = false)
    (late : 4500000000 * s.base.rf Reg.ECC_CFG 7 0 < s.base.pl.epochs - (s.base.chan ch.toNat).scrubFrom) (on : tb (s.base.reg Reg.ECC_CFG) 8 = true)
    (in_use : s.base.retired ch.toNat = false) :
    execScrubCycleLate ch s = .next { s with
      base := (s.base.setChan ch.toNat { s.base.chan ch.toNat with scrubLate := true }).send .scrubCycleLate 0x340 (chAddr ch.toNat 0 0) } :=
  State.whenBase_pos alive (if_pos ⟨by rw [fresh]; rfl, late, on, in_use⟩)

theorem execScrubCycleLate_kept
    (no : (s.base.chan ch.toNat).scrubLate = true ∨
      s.base.pl.epochs - (s.base.chan ch.toNat).scrubFrom ≤ 4500000000 * s.base.rf Reg.ECC_CFG 7 0) : execScrubCycleLate ch s = .next s := by
  refine State.whenBase_kept fun _ => if_neg ?_
  rintro ⟨fresh, late, -⟩
  rcases no with told | early
  · rw [told] at fresh
    cases fresh
  · exact Nat.not_lt.mpr early late

theorem State.scrubCancel_again {k : Nat} {j : ScrubJob} {raw : List (BitVec 640)} {ds : List Decoded} (more : j.attempt < 2) :
    ((s.scrubCancel k j raw ds).base.chan k).scrubJob = some {
      bank := j.bank, row := j.row, attempt := j.attempt + 1
      counted := (j.counted ++ colsOf .corrected ds).eraseDups
      lost := (j.lost ++ colsOf .uncorrectable ds).eraseDups } := by
  rw [State.scrubCancel, if_neg (Nat.not_le.mpr more)]
  exact congrArg Chan.scrubJob ((Base.chan_updChan _ _ _ _).trans (if_pos rfl))

end

/-- Settles O28: SCRUB_ROW, the decode and the verify read by their branches, and the read and the cancelled rewrite they share. -/
theorem patrolScrub : Obligations.patrol_scrub := by
  unfold Obligations.patrol_scrub
  refine ⟨fun s ch noise j b' => ?_, fun s k j take raw ds => ?_⟩
  · intro k b c quota alive
    refine ⟨fun able took => ⟨execScrubRow_wraps able took, fun p => execScrubRow_reads able took, execScrubRow_retries able took⟩,
      execScrubRow_lapses, fun raw job read => ⟨execScrubRowDecoded_clean alive job read, execScrubRowDecoded_cancels alive job read,
        fun dirty free => ⟨execScrubRowDecoded_offers alive job read dirty free, fun e => execScrubRowDecoded_rewrites alive job read dirty free⟩⟩,
      fun job verifies => ⟨execScrubVerifyDone_by_line alive job verifies, execScrubVerifyDone_waits alive job verifies,
        fun serves room => ⟨execScrubVerifyDone_offers alive job verifies serves room,
          fun e words => execScrubVerifyDone_checks alive job verifies serves room⟩⟩,
      fun fresh late on in_use => (execScrubCycleLate_told alive fresh late on in_use).trans (by rw [chAddr_zero]), execScrubCycleLate_kept⟩
  · intro b inStage offer
    refine ⟨State.scrubRead_by_line, State.scrubRead_waits, fun serves room => ⟨State.scrubRead_offers serves room,
      fun e words accepted row => ?_⟩, fun more => ⟨_, State.scrubCancel_again more, rfl, rfl, rfl, rfl, rfl⟩⟩
    obtain ⟨opened, taken⟩ := State.scrubRead_takes (take := take) serves room accepted row
    rw [taken]
    exact ⟨congrArg Chan.scrubJob ((opened.chan_updChan k k _).trans (if_pos rfl)), rfl⟩

end Sys2Proof.Machine
end

section
/-! SUPPORT. Spare rows and writes of lines: which operations leave the spare rows in use as they are, and which bytes of the arrays a write of
lines reaches (R141, R211). -/

namespace Sys2Proof.Machine

/-! ### Operations that leave the spare rows -/

/-- Every channel has the spare rows it had. -/
structure Base.SparesStay (b t : Base) : Prop where
  spares : ∀ k, (t.chan k).spares = (b.chan k).spares

section
variable {b t u : Base}

theorem Base.SparesStay.refl (b : Base) : b.SparesStay b := ⟨fun _ => rfl⟩

theorem Base.SparesStay.trans (h : b.SparesStay t) (g : t.SparesStay u) : b.SparesStay u :=
  ⟨fun k => (g.spares k).trans (h.spares k)⟩

/-- An operation outside the channels. -/
theorem Base.SparesStay.of_chans (h : b.SparesStay t) (same : u.dram.chans = t.dram.chans) : b.SparesStay u :=
  h.trans ⟨fun k => congrArg (fun x => (Tab.get ({} : Chan) x k).spares) same⟩

theorem Base.SparesStay.setChan (h : b.SparesStay t) {k : Nat} {c : Chan} (keeps : c.spares = (t.chan k).spares) : b.SparesStay (t.setChan k c) := by
  refine h.trans ⟨fun j => ?_⟩
  rw [show (t.setChan k c).chan j = if j = k then c else t.chan j from Tab.get_set ({} : Chan) t.dram.chans k j c]
  split_ifs with same
  · rw [keeps, same]
  · rfl

theorem Base.SparesStay.updChan (h : b.SparesStay t) {k : Nat} {f : Chan → Chan} (keeps : ∀ c, (f c).spares = c.spares) :
    b.SparesStay (t.updChan k f) := h.setChan (keeps _)

theorem Base.SparesStay.send (h : b.SparesStay t) (k : Kind) (src addr : Nat) (host : Option HostId) (inj : Bool) :
    b.SparesStay (t.send k src addr host inj) := h.of_chans (congrArg Dram.chans (Base.send_dram ..))

theorem Base.SparesStay.bump (h : b.SparesStay t) (r n : Nat) : b.SparesStay (t.bump r n) := h.of_chans rfl

theorem Base.SparesStay.updLabel (h : b.SparesStay t) (l : Nat) (f : LabelEntry → LabelEntry) : b.SparesStay (t.updLabel l f) := h.of_chans rfl

theorem Base.SparesStay.countChan (h : b.SparesStay t) (k : Nat) (f : ChanCounts → ChanCounts) : b.SparesStay (t.countChan k f) := h.of_chans rfl

theorem Base.SparesStay.tally (h : b.SparesStay t) (i : Nat) (f : Tally → Tally) : b.SparesStay (t.tally i f) := h.of_chans rfl

theorem Base.SparesStay.rawRow (h : b.SparesStay t) (k bank row : Nat) : (t.chan k).rawRow bank row = (b.chan k).rawRow bank row := by
  unfold Chan.rawRow
  rw [h.spares k]

theorem Base.SparesStay.ite (p : Prop) [Decidable p] (h : b.SparesStay t) (g : b.SparesStay u) : b.SparesStay (if p then t else u) := by
  split_ifs
  · exact h
  · exact g

/-! ### Activations -/

theorem Base.SparesStay.throttle (h : b.SparesStay t) (k bank row : Nat) (l : Label) : b.SparesStay (t.throttle k bank row l) := by
  unfold Base.throttle
  extract_lets c listed counted
  have lists : b.SparesStay listed := h.setChan rfl
  have counts : b.SparesStay counted := (lists.bump _ _).updLabel _ _
  clear_value counted
  split_ifs
  · exact h.setChan rfl
  · exact h.send ..
  · exact counts.send ..

theorem Base.SparesStay.disturb (h : b.SparesStay t) (k bank row : Nat) (l : Option Label) : b.SparesStay (t.disturb k bank row l) := by
  unfold Base.disturb
  extract_lets nbh first c n trackers counted due sent
  have counts : b.SparesStay counted := h.setChan rfl
  clear_value counted
  split_ifs
  · exact counts.updChan fun _ => rfl
  · exact counts.send ..
  · have told : b.SparesStay sent := by
      have dues : b.SparesStay due := .updChan counts fun _ => rfl
      exact .send (.bump dues _ _) ..
    clear_value sent
    split
    · split
      · exact told.throttle ..
      · exact told
    · exact told
  · exact counts

theorem Base.SparesStay.activate (h : b.SparesStay t) (k bank row now hold : Nat) (by_ : Option (Label × Nat)) (cols : List ColSlot) :
    b.SparesStay (t.activate k bank row now hold by_ cols) := by
  unfold Base.activate
  extract_lets c label thr opened counted paid
  have counts : b.SparesStay paid := by
    have stays : b.SparesStay counted := by
      have opens : b.SparesStay (t.setChan k opened) := .setChan h rfl
      exact .countChan (opens.of_chans (u := (t.setChan k opened).countAct k bank) rfl) _ _
    clear_value counted
    cases by_
    · exact stays
    · exact stays.tally _ _
  refine (counts.disturb k bank row label).of_chans ?_
  unfold Base.ignoring
  split_ifs <;> rfl

theorem Base.SparesStay.activateRow (h : b.SparesStay t) (k now : Nat) (e : RowEntry) : b.SparesStay (t.activateRow k now e) := by
  have acts := h.activate k e.bank e.row now 45 e.by_ (rowSlot now e.bank e.read)
  unfold Base.activateRow
  extract_lets opened counted
  have counts : b.SparesStay counted := acts.countChan _ _
  clear_value counted
  cases e.by_
  · exact counts
  · exact counts.tally _ _

/-! ### Queues -/

theorem Base.SparesStay.overIssued (h : b.SparesStay t) (l n : Nat) (inBudget : Bool) : b.SparesStay (t.overIssued l n inBudget) :=
  .ite _ h (h.of_chans rfl)

theorem Base.SparesStay.release (h : b.SparesStay t) (q : Req) : b.SparesStay (t.release q) := h.overIssued ..

theorem Base.SparesStay.dropRow (h : b.SparesStay t) (k n : Nat) (e : RowEntry) : b.SparesStay (t.dropRow k n e) := by
  unfold Base.dropRow
  extract_lets taken
  have left : b.SparesStay taken := h.updChan fun _ => rfl
  cases e.label
  · exact left
  · exact left.overIssued ..

theorem Base.SparesStay.touchSet (h : b.SparesStay t) (k : Nat) : b.SparesStay (t.touchSet k) := by
  refine h.of_chans ?_
  have reports (b : Base) (s st : Nat) : (b.reportSet s st).dram = b.dram :=
    (foldl_keeps (fun x : Base => x.dram) _ (fun x c => x.send_dram _ _ _ _ _) _ _).trans (Base.send_dram ..)
  unfold Base.touchSet
  dsimp only
  split_ifs
  · rfl
  · rfl
  · exact congrArg Dram.chans (reports _ _ _)
  · rfl

theorem Base.SparesStay.offerRow (h : b.SparesStay t) (k : Nat) (e : RowEntry) : b.SparesStay (t.offerRow k e) := by
  unfold Base.offerRow
  split
  · exact h
  · have cleared : b.SparesStay (t.updChan k fun c => { c with rowQ := c.rowQ.filter fun x => x.src != e.src }) := h.updChan fun _ => rfl
    exact .ite _ ((cleared.touchSet k).updChan fun _ => rfl) cleared

theorem Base.SparesStay.overtakeRow (h : b.SparesStay t) (k bank row : Nat) : b.SparesStay (t.overtakeRow k bank row) := by
  unfold Base.overtakeRow
  exact .updChan h fun c => forN_keeps (fun c : Chan => c.spares) 16 (fun col c => c.overtake bank row col) (fun _ _ => rfl) c

theorem Base.SparesStay.logWrite (h : b.SparesStay t) (k bank row col : Nat) (taken : Bool) : b.SparesStay (t.logWrite k bank row col taken) := by
  refine h.of_chans ?_
  unfold Base.logWrite
  cases taken <;> rfl

end

/-! ### Decodes -/

/-- A property that repairs keep: it depends on the channels and the registers alone, and no message, no count of a lost heal or of a hard fault
and no change of a channel but of its spare rows ends it. -/
structure Base.RepairKept (P : Base → Prop) : Prop where
  outside : ∀ {t u : Base}, P t → u.dram.chans = t.dram.chans → u.regs = t.regs → P u
  chan : ∀ {t : Base}, P t → ∀ (k : Nat) (f : Chan → Chan), (∀ c, (f c).spares = c.spares) → P (t.updChan k f)
  send : ∀ {t : Base}, P t → ∀ (k : Kind) (src addr : Nat) (host : Option HostId) (inj : Bool), P (t.send k src addr host inj)
  healDrop : ∀ {t : Base}, P t → P (t.bump Reg.HEAL_DROP_COUNT)
  hardFaulted : ∀ {t : Base}, P t → P (t.bump Reg.HARD_FAULT_COUNT)

section
variable {P : Base → Prop} (kept : Base.RepairKept P) {t : Base} (h : P t)
include kept h

theorem Base.RepairKept.setChan {k : Nat} {c : Chan} (keeps : c.spares = (t.chan k).spares) : P (t.setChan k c) := by
  have whole (x : Chan) : ({ c with spares := x.spares } : Chan).spares = x.spares := rfl
  have same : ({ c with spares := (t.chan k).spares } : Chan) = c := by rw [← keeps]
  have updated := kept.chan h k (fun x => { c with spares := x.spares }) whole
  rwa [show (t.updChan k fun x => { c with spares := x.spares }) = t.setChan k { c with spares := (t.chan k).spares } from rfl, same] at updated

theorem Base.RepairKept.listPoison (line : Nat) : P (t.listPoison line) := by
  unfold Base.listPoison
  split_ifs
  · exact h
  · exact kept.outside h rfl rfl
  · exact kept.outside h rfl rfl

theorem Base.RepairKept.release (q : Req) : P (t.release q) := by
  unfold Base.release Base.overIssued
  split_ifs
  · exact h
  · exact kept.outside h rfl rfl

theorem Base.RepairKept.repairEntry (who : Who) (line : Nat) (d : Data) (m : Meta) : P (t.repairEntry who line d m).2 := by
  refine kept.outside h ?_ ?_
  · unfold Base.repairEntry Base.internal Base.lookup Base.charge
    dsimp only
    split_ifs <;> rfl
  · unfold Base.repairEntry Base.internal Base.lookup Base.charge
    dsimp only
    split_ifs <;> rfl

theorem Base.RepairKept.queueHeal (a : DecodeAt) (d : Data) (m : Meta) : P (t.queueHeal a d m) := by
  have reserved := kept.repairEntry h .heal a.line d { m with healed := true }
  unfold Base.queueHeal
  dsimp only
  split_ifs
  · exact h
  · exact kept.send (kept.healDrop h) ..
  · exact kept.chan reserved _ _ fun _ => rfl

theorem Base.RepairKept.queueStamp (a : DecodeAt) (d : Data) : P (t.queueStamp a d) := by
  unfold Base.queueStamp
  split_ifs
  · exact h
  · extract_lets listed r
    have reserved := kept.repairEntry (kept.listPoison h a.line) .stamp a.line d { sharers := r.vec, st := r.st, poison := true, healed := false }
    dsimp only
    split
    · refine kept.send (kept.healDrop (kept.release ?_ _)) ..
      exact kept.chan reserved _ _ fun _ => rfl
    · exact kept.chan reserved _ _ fun _ => rfl

theorem Base.RepairKept.remapInsert (a : DecodeAt) (d : Data) (m : Meta) : P (t.remapInsert a d m) := by
  unfold Base.remapInsert
  extract_lets p word inserted told
  have inserts : P inserted := kept.chan h _ _ fun _ => rfl
  have tells : P told := kept.send inserts ..
  clear_value told
  split_ifs
  · refine kept.send ?_ ..
    exact kept.chan tells _ _ fun _ => rfl
  · exact tells

theorem Base.RepairKept.hardFault (a : DecodeAt) (d : Data) (m : Meta) : P (t.hardFault a d m) := by
  unfold Base.hardFault
  extract_lets p c counted
  have counts : P counted := kept.hardFaulted h
  clear_value counted
  split_ifs
  · exact kept.remapInsert counts ..
  · exact counts
  · split
    · exact kept.chan counts _ _ fun _ => rfl
    · exact kept.send (kept.queueStamp counts ..) ..

omit kept h in
theorem Chan.spares_of_histInsert {c x : Chan} {e : History} (taken : c.histInsert e = some x) : x.spares = c.spares := by
  unfold Chan.histInsert at taken
  split_ifs at taken <;> cases taken <;> rfl

theorem Base.RepairKept.trackCorrected (a : DecodeAt) (d : Decoded) (real : BitVec 80) : P (t.trackCorrected a d real) := by
  unfold Base.trackCorrected
  extract_lets p c heal
  have heals (u : Base) (g : P u) : P (heal u) := iteInduction (fun _ => kept.queueHeal g ..) fun _ => g
  clear_value heal
  split
  · split_ifs
    · refine kept.hardFault ?_ ..
      exact kept.setChan h rfl
    · exact heals _ (kept.setChan h rfl)
  · split
    · next taken => exact heals _ (kept.setChan h (Chan.spares_of_histInsert taken))
    · exact heals _ (kept.send h ..)

theorem Base.RepairKept.bucketAdd (p : Place) : P (t.bucketAdd p) := by
  unfold Base.bucketAdd
  extract_lets k level counted
  have counts : P counted := kept.outside h rfl rfl
  clear_value counted
  split_ifs
  · exact kept.outside counts rfl rfl
  · exact counts
  · have noted : P (counted.updDram fun d => { d with overflowed := Tab.set false d.overflowed k true }) := kept.outside counts rfl rfl
    exact kept.send noted ..

theorem Base.RepairKept.reportCorrected (a : DecodeAt) (d : Decoded) : P (t.reportCorrected a d) := by
  unfold Base.reportCorrected
  split
  · exact kept.send h ..
  · exact iteInduction (fun _ => kept.send h ..) fun _ => kept.send h ..

theorem Base.RepairKept.reportUncorrectable (a : DecodeAt) : P (t.reportUncorrectable a) := by
  unfold Base.reportUncorrectable
  split
  · exact kept.send h ..
  · exact iteInduction (fun _ => kept.send h ..) fun _ => kept.send h ..

end

/-- A read of a line whose history is kept (R205). -/
def Chan.noteClean (c : Chan) (p : Place) (epochs : Nat) : Chan :=
  match c.hist p with
  | some h =>
    if h.healDone then
      if h.readsLeft ≤ 1 then c.histFree p
      else c.histUpd p fun x => { x with readsLeft := x.readsLeft - 1, lastEp := epochs }
    else c.histUpd p fun x => { x with lastEp := epochs }
  | none => c

theorem Chan.noteClean_spares (c : Chan) (p : Place) (epochs : Nat) : (c.noteClean p epochs).spares = c.spares := by
  unfold Chan.noteClean
  split
  · split_ifs <;> rfl
  · rfl

section
variable {P : Base → Prop} (kept : Base.RepairKept P) {t : Base} {a : DecodeAt} {d : Decoded}
include kept

theorem Base.RepairKept.cleanDecode (clean : d.out = .clean ∨ d.out = .cleanErased) (h : P t) : P (t.onDecode a d) := by
  have told : P (match t.injRecord a.line with
      | some r => if r.set a.erasures ≠ [] then t.send .correctedInjectionActive a.src (64 * a.line) a.host else t
      | none => t) := by
    split
    · exact iteInduction (fun _ => kept.send h ..) fun _ => h
    · exact h
  unfold Base.onDecode
  rcases clean with e | e <;> simp only [e] <;> exact kept.chan told _ _ fun c => Chan.noteClean_spares c a.place _

/-- An uncorrectable decode keeps what its counts keep. -/
theorem Base.RepairKept.uncorrectableDecode (lost : d.out = .uncorrectable) (counted : P (t.countUncorrectable a.place.ch)) : P (t.onDecode a d) := by
  have freed (again : Bool) : P
      ((if again then t.countUncorrectable a.place.ch else (t.countUncorrectable a.place.ch).reportUncorrectable a).updChan a.place.ch fun c =>
        c.histFree a.place) :=
    kept.chan (iteInduction (fun _ => counted) fun _ => kept.reportUncorrectable counted a) _ _ fun _ => rfl
  unfold Base.onDecode
  simp only [lost]
  exact iteInduction (fun _ => kept.queueStamp (freed _) ..) fun _ => freed _

/-- A corrected decode, of a line without a heal under way, keeps what its counts keep. -/
theorem Base.RepairKept.correctedDecode (corrected : d.out = .corrected) (first : a.beforeHeal = false) (counted : P (t.countCorrected a.place.ch)) :
    P (t.onDecode a d) := by
  have told : P ((t.countCorrected a.place.ch).reportCorrected a d) := kept.reportCorrected counted a d
  unfold Base.onDecode
  simp only [corrected, first, Bool.false_eq_true, if_false]
  refine iteInduction (fun _ => iteInduction (fun _ => kept.queueHeal told ..) fun _ => told) fun _ => ?_
  have filled : P (if a.counted then (t.countCorrected a.place.ch).reportCorrected a d
      else ((t.countCorrected a.place.ch).reportCorrected a d).bucketAdd a.place) :=
    iteInduction (fun _ => told) fun _ => kept.bucketAdd told _
  generalize (if a.counted then (t.countCorrected a.place.ch).reportCorrected a d
      else ((t.countCorrected a.place.ch).reportCorrected a d).bucketAdd a.place) = u at filled ⊢
  have traced : P (if a.rowStage then u.segError (quadOf a.place.ch) a.place.col d.errs else u.pinError a.place.ch d.errs) :=
    iteInduction (fun _ => kept.outside filled rfl rfl) fun _ => kept.outside filled rfl rfl
  exact iteInduction (fun _ => traced) fun _ =>
    iteInduction (fun _ => iteInduction (fun _ => kept.queueHeal traced ..) fun _ => traced) fun _ => kept.trackCorrected traced ..

end

theorem Base.onDecode_beforeHeal {t : Base} {a : DecodeAt} {d : Decoded} (corrected : d.out = .corrected) (heals : a.beforeHeal = true) :
    t.onDecode a d = t.bump (Reg.CH_CORRECTED a.place.ch) := by
  unfold Base.onDecode
  simp only [corrected, heals, if_true]

/-- Repairs leave the spare rows. -/
theorem Base.sparesStay_kept (b : Base) : Base.RepairKept b.SparesStay where
  outside h same _ := h.of_chans same
  chan h _ _ keeps := h.updChan keeps
  send h := h.send
  healDrop h := h.bump ..
  hardFaulted h := h.bump ..

section
variable {b t : Base} (h : b.SparesStay t)
include h

theorem Base.SparesStay.listPoison (line : Nat) : b.SparesStay (t.listPoison line) := b.sparesStay_kept.listPoison h line

/-- A decode counts, reports, heals and declares, and takes no spare row into use (R204). -/
theorem Base.SparesStay.onDecode (a : DecodeAt) (d : Decoded) : b.SparesStay (t.onDecode a d) := by
  cases out : d.out with
  | clean => exact b.sparesStay_kept.cleanDecode (.inl out) h
  | cleanErased => exact b.sparesStay_kept.cleanDecode (.inr out) h
  | uncorrectable => exact b.sparesStay_kept.uncorrectableDecode out ((h.bump ..).bump ..)
  | corrected =>
    cases heals : a.beforeHeal
    · exact b.sparesStay_kept.correctedDecode out heals ((h.bump ..).bump ..)
    · rw [Base.onDecode_beforeHeal out heals]
      exact h.bump ..

end

/-! ### Stores inside some bytes -/

/-- From `s` to `t` the arrays change in the bytes of `lo` to `lo + n` alone, and the spare rows, the fuses and Rind stay. -/
structure State.StoresIn (lo n : Nat) (s t : State) : Prop where
  otp : t.otp = s.otp
  rind : t.rind = s.rind
  spares : s.base.SparesStay t.base
  bytes : ∀ a, (a < lo ∨ lo + n ≤ a) → Memory.byte t.mem a = Memory.byte s.mem a

section
variable {lo n : Nat} {s t : State}

theorem State.StoresIn.refl (lo n : Nat) (s : State) : State.StoresIn lo n s s := ⟨rfl, rfl, .refl _, fun _ _ => rfl⟩

theorem State.StoresIn.onBase (h : State.StoresIn lo n s t) {f : Base → Base} (keeps : s.base.SparesStay (f t.base)) :
    State.StoresIn lo n s (t.onBase f) := ⟨h.otp, h.rind, keeps, h.bytes⟩

theorem State.StoresIn.storeLine (h : State.StoresIn lo n s t) {p : Place} (w : BitVec 640)
    (first : lo ≤ rawAddr p.ch p.bank ((s.base.chan p.ch).rawRow p.bank p.row) p.col)
    (last : rawAddr p.ch p.bank ((s.base.chan p.ch).rawRow p.bank p.row) p.col + 80 ≤ lo + n) : State.StoresIn lo n s (t.storeLine p w) := by
  rw [← h.spares.rawRow] at first last
  refine ⟨h.otp, h.rind, h.spares, fun a outside => (Memory.byte_store_outside t.mem w.toNat ?_).trans (h.bytes a outside)⟩
  omega

theorem State.StoresIn.putWord (h : State.StoresIn lo n s t) {p : Place} (w : BitVec 640)
    (first : lo ≤ rawAddr p.ch p.bank ((s.base.chan p.ch).rawRow p.bank p.row) p.col)
    (last : rawAddr p.ch p.bank ((s.base.chan p.ch).rawRow p.bank p.row) p.col + 80 ≤ lo + n) : State.StoresIn lo n s (t.putWord p w) := by
  unfold State.putWord
  split
  · exact h.onBase (.updChan h.spares fun _ => rfl)
  · exact h.storeLine w first last

end

/-- The lines of a row stand one after the other. -/
theorem rawAddr_col (k bank row col : Nat) : rawAddr k bank row col = rawAddr k bank row 0 + 80 * col := by
  unfold rawAddr
  omega

end Sys2Proof.Machine
end

section
/-! SUPPORT. Spare-row moves (R212): the move under way, the two commands of a move and the bytes they reach. -/

namespace Sys2Proof.Machine

/-! ### Row writes -/

theorem Base.SparesStay.useBus {b t : Base} (h : b.SparesStay t) (k now : Nat) (e : RowEntry) : b.SparesStay (t.useBus k now e) := h.of_chans rfl

section
variable {s t : State} {k now : Nat} {e : RowEntry} {words : List (BitVec 640)} {lo n : Nat}

/-- A row write stores in its row alone: each of its lines in the array, and in its remap entry where it has one (R141, R208). -/
theorem State.StoresIn.writeRow (h : State.StoresIn lo n s t) (short : words.length ≤ 16)
    (row : lo = rawAddr k e.bank ((s.base.chan k).rawRow e.bank e.row) 0) (whole : 1280 ≤ n) : State.StoresIn lo n s (t.writeRow k now e words) := by
  unfold State.writeRow
  extract_lets ignored bank row' opened written
  have opens : State.StoresIn lo n s opened := h.onBase (((h.spares.activateRow k now e).overtakeRow k bank row').logWrite ..)
  have lines : State.StoresIn lo n s written := by
    refine List.foldlRecOn (motive := State.StoresIn lo n s) _ _ opens fun u inside w mem => ?_
    obtain ⟨word, col⟩ := w
    have last : col < 16 := Nat.lt_of_lt_of_le (List.snd_lt_of_mem_zipIdx mem) (by simpa using short)
    have at_ := rawAddr_col k e.bank ((s.base.chan k).rawRow e.bank e.row) col
    have stored (v : State) (g : State.StoresIn lo n s v) (x : BitVec 640) :
        State.StoresIn lo n s (v.storeLine { ch := k, bank := e.bank, row := e.row, col := col } x) ∧
        State.StoresIn lo n s (v.putWord { ch := k, bank := e.bank, row := e.row, col := col } x) :=
      ⟨g.storeLine x (by dsimp only; omega) (by dsimp only; omega), g.putWord x (by dsimp only; omega) (by dsimp only; omega)⟩
    extract_lets p kept
    have keeps : State.StoresIn lo n s kept := by
      by_cases no : ignored = true
      · rw [show kept = u from if_pos no]
        exact inside
      · rw [show kept = u.storeLine p (u.base.busDrive (quadOf k) col word) from if_neg no]
        exact (stored u inside _).1
    clear_value kept
    split
    · exact (stored kept keeps _).2
    · exact keeps
  exact lines.onBase (lines.spares.trans ⟨fun j => congrArg Chan.spares (Base.foldl_injectWrite_chan _ _ _ j)⟩)

end

/-! ### The move under way -/

theorem Chan.moves_eq {c : Chan} {m : SpareMove} (under_way : c.move = some m) : c.moves = m :: c.moves.drop 1 := by
  obtain ⟨rest, e⟩ := List.head?_eq_some_iff.mp under_way
  rw [e]
  rfl

theorem Chan.updMove_eq {c : Chan} {m : SpareMove} (under_way : c.move = some m) (f : SpareMove → SpareMove) :
    c.updMove f = { c with moves := f m :: c.moves.drop 1 } := by
  have e := Chan.moves_eq under_way
  generalize c.moves.drop 1 = rest at e ⊢
  unfold Chan.updMove
  rw [e]

section
variable {b : Base} {k : Nat} {m : SpareMove} (under_way : (b.chan k).move = some m)
include under_way

theorem Base.chan_moveRead {lines : List (BitVec 640)} (whole : m.lines.length + lines.length = 16) :
    (b.moveRead k lines).chan k = { b.chan k with
      moves := { m with lines := m.lines ++ lines, programmedAt := some (b.now + 65) } :: (b.chan k).moves.drop 1
      spares := (b.chan k).spares ++ [{ bank := m.bank, row := m.row, spare := m.spare, confirmed := false }] } := by
  have sixteen : (m.lines ++ lines).length = 16 := by rw [List.length_append, whole]
  rw [Base.moveRead, Base.chan_updChan, if_pos rfl, Chan.updMove_eq under_way]
  dsimp only [Chan.move, List.head?_cons]
  rw [if_pos sixteen]
  rfl

theorem Base.chan_moveWritten (n : Nat) :
    (b.moveWritten k n).chan k = { b.chan k with
      moves := { m with written := m.written + n, confirmAt := if m.written + n = 16 then some (b.now + 65) else none } :: (b.chan k).moves.drop 1 } := by
  rw [Base.moveWritten, Base.chan_updChan, if_pos rfl]
  exact Chan.updMove_eq under_way _

end

/-! ### SPARE_MOVE_ROW_IN_STAGE -/

/-- The base state once a read of the move is offered, where the stage has room. -/
def Base.moveInStage (b : Base) (k : Nat) (m : SpareMove) : Base := if b.stageHeld (quadOf k) < 8 then b.offerRow k (m.offer true) else b

/-- The bus and the bank of a row read. -/
def Base.readsRow (b : Base) (k : Nat) (e : RowEntry) : Base := (b.useBus k b.now e).activateRow k b.now e

section
variable {s : State} {ch : ChanId} {noise : List Noise} {m : SpareMove} (alive : s.base.alive = true) (under_way : (s.base.chan ch.toNat).move = some m)

/-- The channel can take a line of its move in this cycle: nothing of tier 0 goes before it (R160). -/
def Base.takesMove (b : Base) (k : Nat) : Prop := b.moveDue k b.now = true ∧ b.tier0 k b.now = none

theorem Base.takesMove_iff (b : Base) (k : Nat) : (b.moveDue k b.now && (b.tier0 k b.now).isNone) = true ↔ b.takesMove k := by
  rw [Bool.and_eq_true, Option.isNone_iff_eq_none, Base.takesMove]

include under_way

theorem execSpareMoveRowInStage_done (read : m.programmedAt ≠ none) : execSpareMoveRowInStage ch noise s = .next s := by
  have some_ : m.programmedAt.isSome = true := Option.isSome_iff_ne_none.mpr read
  simp only [execSpareMoveRowInStage, under_way, some_, Bool.or_true, if_true]

include alive

section
variable (unread : m.programmedAt = none)
include unread

section
variable (by_line : s.base.moveByLine ch.toNat m = true)
include by_line

theorem execSpareMoveRowInStage_line (takes : s.base.takesMove ch.toNat) :
    execSpareMoveRowInStage ch noise s = .next (s.moveLineRead ch.toNat m (noise.getD m.lines.length [])) := by
  have due := (s.base.takesMove_iff ch.toNat).mpr takes
  simp only [execSpareMoveRowInStage, under_way, alive, unread, by_line, due, Option.isSome_none, Bool.not_true, Bool.or_self, Bool.false_eq_true,
    if_false, if_true]

theorem execSpareMoveRowInStage_line_waits (waits : ¬ s.base.takesMove ch.toNat) : execSpareMoveRowInStage ch noise s = .next s := by
  have due := Bool.eq_false_iff.mpr fun h => waits ((s.base.takesMove_iff ch.toNat).mp h)
  simp only [execSpareMoveRowInStage, under_way, alive, unread, by_line, due, Option.isSome_none, Bool.not_true, Bool.or_self, Bool.false_eq_true,
    if_false, if_true]

end

variable (by_row : s.base.moveByLine ch.toNat m = false) (room : s.base.drains (quadOf ch.toNat) = false)
include by_row room

theorem execSpareMoveRowInStage_offers (refused : (s.base.moveInStage ch.toNat m).rowAccepted ch.toNat (m.offer true) = none) :
    execSpareMoveRowInStage ch noise s = .next { s with base := s.base.moveInStage ch.toNat m } := by
  unfold Base.moveInStage at refused ⊢
  simp only [execSpareMoveRowInStage, State.onBase, under_way, alive, unread, by_row, room, refused, Option.isSome_none, Bool.not_true, Bool.or_self,
    Bool.false_eq_true, if_false]

section
variable {e : RowEntry} (accepted : (s.base.moveInStage ch.toNat m).rowAccepted ch.toNat (m.offer true) = some e)
include accepted

theorem execSpareMoveRowInStage_ignored (ignored : (s.base.moveInStage ch.toNat m).ignores ch.toNat = true) :
    execSpareMoveRowInStage ch noise s = .next { s with
      base := ((s.base.moveInStage ch.toNat m).readsRow ch.toNat e).rowBurst ch.toNat } := by
  have none_ : State.rowWords { s with base := s.base.moveInStage ch.toNat m } ch.toNat m.bank m.row noise = none := if_pos ignored
  unfold Base.moveInStage at accepted none_ ⊢
  simp only [execSpareMoveRowInStage, State.onBase, State.then_, under_way, alive, unread, by_row, room, accepted, none_, Option.isSome_none,
    Bool.not_true, Bool.or_self, Bool.false_eq_true, if_false, Base.readsRow]

/-- A row of the move decoded line by line: the lines so far, and the base state that the decodes have left. -/
def Base.moveDecodes (b : Base) (k : Nat) (m : SpareMove) (words : List (BitVec 640)) : List (BitVec 640) × Base :=
  words.zipIdx.foldl (fun x w => (x.1 ++ [(x.2.decodeMove k m w.2 w.1 true).1], (x.2.decodeMove k m w.2 w.1 true).2)) ([], b)

theorem execSpareMoveRowInStage_row {words : List (BitVec 640)}
    (row : State.rowWords { s with base := s.base.moveInStage ch.toNat m } ch.toNat m.bank m.row noise = some words) :
    execSpareMoveRowInStage ch noise s = .next { s with
      base :=
        let read := (((s.base.moveInStage ch.toNat m).readsRow ch.toNat e).dropRow ch.toNat 0 e).moveDecodes ch.toNat m words
        read.2.moveRead ch.toNat read.1 } := by
  unfold Base.moveInStage at accepted row ⊢
  simp only [execSpareMoveRowInStage, State.onBase, State.then_, under_way, alive, unread, by_row, room, accepted, row, Option.isSome_none,
    Bool.not_true, Bool.or_self, Bool.false_eq_true, if_false, Base.readsRow, Base.moveDecodes]

end

end

/-! ### SPARE_ROW_ASSIGNED -/

section
variable {t : Nat} (programmed : m.programmedAt = some t) (due : t ≤ s.base.now)
include programmed due

section
variable (more : m.written ≠ 16)
include more

theorem execSpareRowAssigned_line (by_line : s.base.moveByLine ch.toNat m = true) (takes : s.base.takesMove ch.toNat) :
    execSpareRowAssigned ch s = .next (s.moveLineWrite ch.toNat m) := by
  have due_ := (s.base.takesMove_iff ch.toNat).mpr takes
  simp only [execSpareRowAssigned, under_way, alive, programmed, decide_eq_true due, more, by_line, due_, Bool.not_true, Bool.or_self,
    Bool.false_eq_true, if_false, if_true]

variable (by_row : s.base.moveByLine ch.toNat m = false)
include by_row

theorem execSpareRowAssigned_offers (refused : (s.base.offerRow ch.toNat (m.offer false)).rowAccepted ch.toNat (m.offer false) = none) :
    execSpareRowAssigned ch s = .next { s with base := s.base.offerRow ch.toNat (m.offer false) } := by
  simp only [execSpareRowAssigned, State.onBase, under_way, alive, programmed, decide_eq_true due, more, by_row, refused, Bool.not_true, Bool.or_self,
    Bool.false_eq_true, if_false]

/-- The moved row as it lands in its spare over the row bus. -/
def State.moveLanded (s : State) (k : Nat) (m : SpareMove) (e : RowEntry) : State :=
  State.writeRow { s with base := ((s.base.offerRow k (m.offer false)).useBus k s.base.now e).dropRow k 0 e } k s.base.now e m.lines

theorem execSpareRowAssigned_row {e : RowEntry} (accepted : (s.base.offerRow ch.toNat (m.offer false)).rowAccepted ch.toNat (m.offer false) = some e) :
    execSpareRowAssigned ch s = .next ((s.moveLanded ch.toNat m e).onBase fun b => b.moveWritten ch.toNat 16) := by
  simp only [execSpareRowAssigned, State.onBase, under_way, alive, programmed, decide_eq_true due, more, by_row, accepted, Bool.not_true, Bool.or_self,
    Bool.false_eq_true, if_false, State.moveLanded]

end

theorem execSpareRowAssigned_ends {u : Nat} (all : m.written = 16) (confirmed : m.confirmAt = some u) (closed : u ≤ s.base.now) :
    execSpareRowAssigned ch s = .next { s with base := s.base.moveEnds ch.toNat m } := by
  simp only [execSpareRowAssigned, under_way, alive, programmed, decide_eq_true due, all, confirmed, decide_eq_true closed, Bool.not_true, Bool.or_self,
    Bool.false_eq_true, if_false, if_true]
  exact State.then_eq rfl

end

end

/-! ### The bytes of a move -/

/-- From `s` to `t` the arrays change in the bytes of `lo` to `lo + n` alone, and the fuses and Rind stay. -/
def State.StoresWithin (lo n : Nat) (s t : State) : Prop :=
  t.otp = s.otp ∧ t.rind = s.rind ∧ ∀ a, (a < lo ∨ lo + n ≤ a) → Memory.byte t.mem a = Memory.byte s.mem a

theorem State.StoresIn.within {lo n : Nat} {s t : State} (h : State.StoresIn lo n s t) (f : Base → Base) : State.StoresWithin lo n s (t.onBase f) :=
  ⟨h.otp, h.rind, h.bytes⟩

section
variable {s : State} {ch : ChanId} {m : SpareMove}

/-- A line of the move lands in its row alone. -/
theorem State.moveLineWrite_within {k lo : Nat} (inside : m.written < 16) (row : lo = rawAddr k m.bank ((s.base.chan k).rawRow m.bank m.row) 0) :
    State.StoresWithin lo 1280 s (s.moveLineWrite k m) := by
  unfold State.moveLineWrite
  extract_lets now p ignored opened stored
  have opens : State.StoresIn lo 1280 s opened :=
    (State.StoresIn.refl lo 1280 s).onBase ((((Base.SparesStay.refl s.base).activate ..).logWrite ..).countChan ..)
  have stores : State.StoresIn lo 1280 s stored := by
    have at_ := rawAddr_col k m.bank ((s.base.chan k).rawRow m.bank m.row) m.written
    by_cases no : ignored = true
    · rw [show stored = opened from if_pos no]
      exact opens
    · rw [show stored = opened.storeLine p (maskPins (opened.base.chan k).erased (m.lines.getD m.written 0)) from if_neg no]
      exact opens.storeLine _ (by dsimp only [p]; omega) (by dsimp only [p]; omega)
  exact stores.within _

/-- The row of the move lands in its row alone. -/
theorem State.moveLanded_within {k lo : Nat} {e : RowEntry} (whole : m.lines.length = 16) (bank : e.bank = m.bank) (at_ : e.row = m.row)
    (row : lo = rawAddr k m.bank ((s.base.chan k).rawRow m.bank m.row) 0) (f : Base → Base) :
    State.StoresWithin lo 1280 s ((s.moveLanded k m e).onBase f) := by
  have opens : State.StoresIn lo 1280 s { s with base := ((s.base.offerRow k (m.offer false)).useBus k s.base.now e).dropRow k 0 e } :=
    (State.StoresIn.refl lo 1280 s).onBase (f := fun b => ((b.offerRow k (m.offer false)).useBus k b.now e).dropRow k 0 e)
      ((((Base.SparesStay.refl s.base).offerRow k (m.offer false)).useBus k s.base.now e).dropRow k 0 e)
  exact (opens.writeRow (by omega) (by rw [bank, at_, row]) le_rfl).within f

theorem Base.rowAccepted_same {b : Base} {k : Nat} {x e : RowEntry} (accepted : b.rowAccepted k x = some e) : e.same x = true := by
  unfold Base.rowAccepted at accepted
  split at accepted
  · next found =>
    split_ifs at accepted
    cases accepted
    exact List.find?_some (p := fun y : RowEntry => y.same x) found
  · cases accepted

theorem Base.rowAccepted_place {b : Base} {k : Nat} {x e : RowEntry} (accepted : b.rowAccepted k x = some e) : e.bank = x.bank ∧ e.row = x.row := by
  have same : e.same x = true := Base.rowAccepted_same accepted
  simp only [RowEntry.same, Bool.and_eq_true, beq_iff_eq] at same
  exact ⟨same.1.1.2, same.1.2⟩

theorem execSpareRowAssigned_storesWithin {u : State} (under_way : (s.base.chan ch.toNat).move = some m) (step : execSpareRowAssigned ch s = .next u) (whole : m.lines.length = 16) (short : m.written ≤ 16) :
    State.StoresWithin (rawAddr ch.toNat m.bank ((s.base.chan ch.toNat).rawRow m.bank m.row) 0) 1280 s u := by
  have same (x : Base) : State.StoresWithin (rawAddr ch.toNat m.bank ((s.base.chan ch.toNat).rawRow m.bank m.row) 0) 1280 s { s with base := x } :=
    (State.StoresIn.refl _ _ s).within fun _ => x
  simp only [execSpareRowAssigned, under_way] at step
  split_ifs at step with idle all closed by_line takes
  · exact Host.Outcome.next.inj step ▸ same _
  · exact Host.Outcome.next.inj step ▸ same _
  · exact Host.Outcome.next.inj step ▸ same _
  · exact Host.Outcome.next.inj step ▸ State.moveLineWrite_within (by omega) rfl
  · exact Host.Outcome.next.inj step ▸ same _
  · split at step
    · exact Host.Outcome.next.inj step ▸ same _
    · next e accepted =>
      obtain ⟨bank, row⟩ := Base.rowAccepted_place accepted
      exact Host.Outcome.next.inj step ▸ State.moveLanded_within whole bank row rfl _

end

/-- Settles O27: the two commands of a move by their branches, and the bytes of its row, which a row write and a line write alone reach. -/
theorem spareRowMove : Obligations.spare_row_move := by
  unfold Obligations.spare_row_move
  refine ⟨fun s ch noise m => ?_, fun b k m lines under_way whole => Base.chan_moveRead under_way whole,
    fun b k n m under_way => Base.chan_moveWritten under_way n⟩
  intro k b c takes reads inStage offered alive under_way
  exact ⟨fun unread by_line => ⟨execSpareMoveRowInStage_line alive under_way unread by_line, execSpareMoveRowInStage_line_waits alive under_way unread by_line⟩,
    fun unread by_row room => ⟨execSpareMoveRowInStage_offers alive under_way unread by_row room,
      fun e accepted => ⟨execSpareMoveRowInStage_ignored alive under_way unread by_row room accepted,
        fun words => execSpareMoveRowInStage_row alive under_way unread by_row room accepted⟩⟩,
    execSpareMoveRowInStage_done under_way,
    fun t programmed due more => ⟨execSpareRowAssigned_line alive under_way programmed due more,
      fun by_row => ⟨execSpareRowAssigned_offers alive under_way programmed due more by_row,
        fun e => execSpareRowAssigned_row alive under_way programmed due more by_row⟩⟩,
    fun t u programmed due all confirmed => execSpareRowAssigned_ends alive under_way programmed due all confirmed,
    fun t => execSpareRowAssigned_storesWithin under_way⟩

end Sys2Proof.Machine
end

section
/-! SUPPORT. What a channel issues in a cycle (R160 to R164, R167, R183): the best of its candidates, and the bytes that a line write reaches. -/

namespace Sys2Proof.Machine

/-! ### The best key -/

theorem keyLt_cons (a b : Nat) (x y : List Nat) : keyLt (a :: x) (b :: y) = true ↔ a < b ∨ a = b ∧ keyLt x y = true := by
  rw [keyLt]
  split_ifs with less more
  · simp [less]
  · simp [less, Nat.ne_of_gt more]
  · simp [Nat.le_antisymm (Nat.not_lt.mp more) (Nat.not_lt.mp less)]

theorem keyLt_trans : ∀ {x y z : List Nat}, keyLt x y = true → keyLt y z = true → keyLt x z = true
  | [], _, _, h, _ => by simp [keyLt] at h
  | _ :: _, [], _, h, _ => by simp [keyLt] at h
  | _ :: _, _ :: _, [], _, g => by simp [keyLt] at g
  | a :: x, b :: y, c :: z, h, g => by
    rw [keyLt_cons] at h g ⊢
    rcases h with h | ⟨rfl, h⟩ <;> rcases g with g | ⟨rfl, g⟩
    · exact .inl (h.trans g)
    · exact .inl h
    · exact .inl g
    · exact .inr ⟨rfl, keyLt_trans h g⟩

theorem keyLt_irrefl (x : List Nat) : keyLt x x = false := by
  induction x with
  | nil => rfl
  | cons a x ih => simp [keyLt, ih]

/-- Keys of one length are in order either way, or are one key. -/
theorem keyLt_total : ∀ {x y : List Nat}, x.length = y.length → keyLt x y = false → keyLt y x = true ∨ y = x
  | [], [], _, _ => .inr rfl
  | a :: x, b :: y, len, no => by
    have no := Bool.eq_false_iff.mp no
    rw [Ne, keyLt_cons, not_or, not_and] at no
    rw [keyLt_cons]
    rcases Nat.lt_or_eq_of_le (Nat.not_lt.mp no.1) with more | rfl
    · exact .inl (.inl more)
    · rcases keyLt_total (Nat.succ.inj len) (Bool.eq_false_iff.mpr (no.2 rfl)) with less | rfl
      · exact .inl (.inr ⟨rfl, less⟩)
      · exact .inr rfl

theorem Entry.length_key (e : Entry) : e.key.length = 6 := by
  unfold Entry.key
  split_ifs <;> rfl

/-- The entry kept of two by key: the later one where it is strictly less (R161, R164). -/
def Entry.better (a x : Entry) : Entry := if keyLt x.key a.key then x else a

theorem Entry.foldl_better (l : List Entry) (a : Entry) :
    l.foldl Entry.better a ∈ a :: l ∧ ∀ x ∈ a :: l, keyLt x.key (l.foldl Entry.better a).key = false := by
  induction l generalizing a with
  | nil => exact ⟨List.mem_cons_self, fun x mem => by rw [List.mem_singleton.mp mem]; exact keyLt_irrefl _⟩
  | cons y l ih =>
    obtain ⟨mem, least⟩ := ih (a.better y)
    rw [List.foldl_cons]
    generalize l.foldl Entry.better (a.better y) = m at mem least ⊢
    have kept := least _ List.mem_cons_self
    have rest (x : Entry) (hx : x ∈ l) := least x (List.mem_cons_of_mem _ hx)
    unfold Entry.better at mem kept
    split_ifs at mem kept with less
    · refine ⟨List.mem_cons_of_mem a mem, List.forall_mem_cons.mpr ⟨?_, List.forall_mem_cons.mpr ⟨kept, rest⟩⟩⟩
      exact Bool.eq_false_iff.mpr fun h => Bool.eq_false_iff.mp kept (keyLt_trans less h)
    · refine ⟨(List.mem_cons.mp mem).elim (fun e => e ▸ List.mem_cons_self) fun h => List.mem_cons_of_mem a (List.mem_cons_of_mem y h),
        List.forall_mem_cons.mpr ⟨kept, List.forall_mem_cons.mpr ⟨?_, rest⟩⟩⟩
      refine Bool.eq_false_iff.mpr fun h => less ?_
      rcases keyLt_total (a.length_key.trans m.length_key.symm) kept with lower | same
      · exact keyLt_trans h lower
      · exact same ▸ h

theorem best_least {l : List Entry} {e : Entry} (found : best l = some e) : e ∈ l ∧ ∀ x ∈ l, keyLt x.key e.key = false := by
  cases l with
  | nil => cases found
  | cons a l =>
    cases found
    exact Entry.foldl_better l a

/-! ### What ranks first -/

section
variable {b : Base} {k t : Nat} {e : Entry} {r : RowEntry}

theorem Base.tier0_refreshes {m : Pick} (first : b.tier0 k t = some m) : (∃ i f, m = .refresh i f) ∨ ∃ i n, m = .trf i n := by
  simp only [Base.tier0] at first
  split at first
  · cases first
  · split at first
    · cases first
      exact .inl ⟨_, _, rfl⟩
    · split at first
      · split at first
        · cases first
          exact .inr ⟨_, _, rfl⟩
        · cases first
      · cases first

theorem Base.slotPick_refreshes {m : Pick} (planned : b.slotPick k t = some m) : ∃ i, m = .refresh i false := by
  simp only [Base.slotPick] at planned
  split at planned
  · split at planned
    · split at planned
      · cases planned
        exact ⟨_, rfl⟩
      · cases planned
    · cases planned
  · cases planned

theorem Base.pick_tier0 {m : Pick} (first : b.tier0 k t = some m) : (b.pick k t).1 = some m := by
  simp only [Base.pick, first]

theorem Base.pick_move (none_ : b.tier0 k t = none) (due : b.moveDue k t = true) : (b.pick k t).1 = some .move := by
  simp only [Base.pick, none_, due, if_true]

/-- What comes of a planned refresh and a request of tier 3 (R160). -/
theorem Base.slotPick_orElse {x : Option Pick} {m : Pick} (first : ((b.slotPick k t).orElse fun _ => x) = some m) :
    (∃ i, m = .refresh i false) ∨ x = some m := by
  cases planned : b.slotPick k t with
  | none => exact .inr (by rwa [planned] at first)
  | some p =>
    rw [planned] at first
    cases first
    exact .inl (Base.slotPick_refreshes planned)

/-- What ranks first is a refresh, a targeted refresh, a move, the best line request, or a row transfer before it. -/
theorem Base.pick_cases {m : Pick} (first : (b.pick k t).1 = some m) :
    (∃ i f, m = .refresh i f) ∨ (∃ i n, m = .trf i n) ∨ m = .move ∨ (∃ e, m = .line e ∧ (b.bestLine k t).1 = some e) ∨
      ∃ r, m = .row r ∧ ∀ x, (b.bestLine k t).1 = some x → keyLt r.key x.key = true := by
  simp only [Base.pick] at first
  split at first
  · next x before =>
    cases first
    exact (Base.tier0_refreshes before).imp_right .inl
  · split at first
    · cases first
      exact .inr (.inr (.inl rfl))
    · refine (em (∃ i f, m = Pick.refresh i f)).imp_right fun other => .inr (.inr ?_)
      have low {x : Pick} (l : ((b.slotPick k t).orElse fun _ => some x) = some m) : m = x :=
        (Option.some.inj ((Base.slotPick_orElse l).resolve_left fun ⟨i, e⟩ => other ⟨i, false, e⟩)).symm
      split at first
      · next x y line row =>
        split_ifs at first with before scrub
        · exact .inr ⟨y, (Option.some.inj first).symm, fun z hz => Option.some.inj (line.symm.trans hz) ▸ before⟩
        · exact .inl ⟨x, low first, line⟩
        · exact .inl ⟨x, (Option.some.inj first).symm, line⟩
      · next x line row =>
        split_ifs at first
        · exact .inl ⟨x, low first, line⟩
        · exact .inl ⟨x, (Option.some.inj first).symm, line⟩
      · next y line row =>
        have unmatched (z : Entry) (hz : (b.bestLine k t).1 = some z) : keyLt y.key z.key = true := by rw [line] at hz; cases hz
        split_ifs at first
        · exact .inr ⟨y, low first, unmatched⟩
        · exact .inr ⟨y, (Option.some.inj first).symm, unmatched⟩
      · rcases Base.slotPick_orElse first with ⟨i, e⟩ | h
        · exact absurd ⟨i, false, e⟩ other
        · cases h

theorem Base.pick_line (first : (b.pick k t).1 = some (.line e)) : (b.bestLine k t).1 = some e := by
  rcases Base.pick_cases first with ⟨i, f, h⟩ | ⟨i, n, h⟩ | h | ⟨x, h, best⟩ | ⟨r, h, -⟩ <;> cases h
  exact best

theorem Base.pick_row {x : Entry} (first : (b.pick k t).1 = some (.row r)) (line : (b.bestLine k t).1 = some x) : keyLt r.key x.key = true := by
  rcases Base.pick_cases first with ⟨i, f, h⟩ | ⟨i, n, h⟩ | h | ⟨y, h, -⟩ | ⟨y, h, before⟩ <;> cases h
  exact before x line

end

/-! ### What issues -/

section
variable {s : State} {k : Nat} {noise : Noise}

/-- The state in which a pick issues: the channel has turned its pins (R162). -/
def Base.turned (b : Base) (k : Nat) : Base := b.updChan k fun c => { c with drain := (b.pick k b.now).2 }

theorem State.select_nothing (none_ : (s.base.pick k s.base.now).1 = none ∨ (s.base.pick k s.base.now).1 = some .move ∨
    ∃ e, (s.base.pick k s.base.now).1 = some (.row e)) : s.select k noise = { s with base := s.base.turned k } := by
  rcases none_ with h | h | ⟨e, h⟩ <;> simp only [State.select, h] <;> rfl

theorem State.select_refresh {i : Nat} {f : Bool} (pick : (s.base.pick k s.base.now).1 = some (.refresh i f)) :
    s.select k noise = { s with base := (s.base.turned k).issueRefresh k i s.base.now f } := by
  simp only [State.select, pick]
  rfl

theorem State.select_trf {i n : Nat} (pick : (s.base.pick k s.base.now).1 = some (.trf i n)) :
    s.select k noise = { s with base := (s.base.turned k).issueTrf k i n s.base.now } := by
  simp only [State.select, pick]
  rfl

/-- The state in which a request issues: it no longer counts in PENDING_OVER of its label (R312). -/
def State.released (s : State) (k : Nat) (e : Entry) : State := { s with base := (s.base.turned k).release e.req }

theorem State.select_read {e : Entry} (pick : (s.base.pick k s.base.now).1 = some (.line e)) (read : e.wr = none) :
    s.select k noise = ((s.released k e).issueRead k s.base.now e).onBase fun b => b.drainChan k := by
  simp only [State.select, pick, read, Option.isSome_none, Bool.false_eq_true, if_false]
  rfl

theorem State.select_write {e : Entry} {w : LineWrite} (pick : (s.base.pick k s.base.now).1 = some (.line e)) (write : e.wr = some w) :
    s.select k noise = ((s.released k e).issueWrite k s.base.now e noise).onBase fun b => b.drainChan k := by
  simp only [State.select, pick, write, Option.isSome_some, if_true]
  rfl

theorem execChannelSelect_selects {ch : ChanId} (alive : s.base.alive = true) :
    execChannelSelect ch noise none s = .next ((s.select ch.toNat noise).onBase Base.pump) := if_pos alive

end

/-! ### The bytes of a line write -/

section
variable {s : State} {k t : Nat} {e : Entry} {w : LineWrite} {noise : Noise}

theorem State.StoresIn.mergeLine {lo n : Nat} {u : State} (h : State.StoresIn lo n s u) : State.StoresIn lo n s (u.mergeLine k e w noise).2.2 := by
  unfold State.mergeLine
  extract_lets a d decoded r db st m
  have decodes : State.StoresIn lo n s decoded := h.onBase (h.spares.onDecode ..)
  split_ifs
  · exact decodes.onBase (f := fun b => b.listPoison e.req.line) (decodes.spares.listPoison _)
  · exact decodes

theorem State.issueWrite_within (f : Base → Base) :
    State.StoresWithin (rawAddr k e.bank ((s.base.chan k).rawRow e.bank e.row) e.col) 80 s ((s.issueWrite k t e noise).onBase f) := by
  have start := State.StoresIn.refl (rawAddr k e.bank ((s.base.chan k).rawRow e.bank e.row) e.col) 80 s
  unfold State.issueWrite
  split
  · exact start.within f
  · next w _ =>
    extract_lets p remapped ignored taken opened
    have takes : State.StoresIn _ 80 s taken := start.onBase (start.spares.updChan fun _ => rfl)
    have opens : State.StoresIn (rawAddr k e.bank ((s.base.chan k).rawRow e.bank e.row) e.col) 80 s opened := by
      by_cases served : remapped = true
      · rw [show opened = taken from if_pos served]
        exact takes
      · rw [show opened = _ from if_neg served]
        exact takes.onBase (((takes.spares.activate ..).logWrite ..).countChan ..)
    have merges : State.StoresIn (rawAddr k e.bank ((s.base.chan k).rawRow e.bank e.row) e.col) 80 s
        (if w.full = true then (let r := w.apply 0 {}; (r.1, r.2, opened)) else opened.mergeLine k e w noise).2.2 := by
      split_ifs
      · exact opens
      · exact opens.mergeLine
    generalize (if w.full = true then (let r := w.apply 0 {}; (r.1, r.2, opened)) else opened.mergeLine k e w noise) = r at merges ⊢
    obtain ⟨d, m, u⟩ := r
    dsimp -zeta only
    extract_lets word stored
    have stores : State.StoresIn (rawAddr k e.bank ((s.base.chan k).rawRow e.bank e.row) e.col) 80 s stored := by
      by_cases no : ignored = true
      · rw [show stored = u from if_pos no]
        exact merges
      · rw [show stored = u.putWord p word from if_neg no]
        exact merges.putWord word le_rfl le_rfl
    exact ⟨stores.otp, stores.rind, stores.bytes⟩

end

/-- Settles O23: the pick decides what issues, the best of the candidates is the pick, and a write stores in its line alone. -/
theorem channelSelectIssuesTheFirst : Obligations.channel_select_issues_the_first := by
  unfold Obligations.channel_select_issues_the_first
  refine ⟨fun s ch noise alive => ?_, fun b k t => ⟨fun m => Base.pick_tier0, Base.pick_move, fun e => Base.pick_line, fun e x => Base.pick_row⟩,
    fun l e => best_least⟩
  intro k t r b u run
  have selects : run = _ := execChannelSelect_selects alive
  clear_value run
  refine ⟨fun none_ => ?_, fun bank forced pick => ?_, fun bank nbh pick => ?_, fun e pick read => ?_, fun e w pick write => ?_⟩
  · rw [selects, State.select_nothing none_]
    rfl
  · rw [selects, State.select_refresh pick]
    rfl
  · rw [selects, State.select_trf pick]
    rfl
  · rw [selects, State.select_read pick read]
    exact ⟨_, rfl, rfl⟩
  · rw [selects, State.select_write pick write]
    have within := State.issueWrite_within (s := s.released k e) (k := k) (t := t) (e := e) (noise := noise) fun b => (b.drainChan k).pump
    have turns : s.base.SparesStay (s.base.turned k) := .updChan (.refl s.base) fun _ => rfl
    have stays : s.base.SparesStay (s.released k e).base := turns.release e.req
    rw [stays.rawRow] at within
    exact ⟨_, rfl, rfl, within⟩

end Sys2Proof.Machine
end

section
/-! SUPPORT. The counts of a decode, heals and buckets (R196, R198, R204 to R206, R226). -/

namespace Sys2Proof.Machine

/-! ### The counts of a decode -/

/-- A register that no repair counts in. -/
def RepairQuiet (o : Nat) : Prop := o ≠ Reg.HEAL_DROP_COUNT ∧ o ≠ Reg.HARD_FAULT_COUNT ∧ o ≠ Reg.SHADOWED_COUNT ∧ o ≠ Reg.DROPPED_COUNT

/-- Repairs leave a register that they do not count in. -/
theorem Base.reg_kept {o : Nat} (quiet : RepairQuiet o) (v : Word) : Base.RepairKept fun b => b.reg o = v where
  outside h _ same := (congrArg (fun r => Tab.get (0 : Word) r o) same).trans h
  chan h _ _ _ := h
  send h k src addr host inj := (Base.reg_send _ k src addr host inj quiet.2.2.1 quiet.2.2.2).trans h
  healDrop h := (Base.reg_bump ..).trans ((if_neg quiet.1).trans h)
  hardFaulted h := (Base.reg_bump ..).trans ((if_neg quiet.2.1).trans h)

/-- A register counts one more, and saturates. -/
def Base.CountsOne (b t : Base) (o : Nat) : Prop := (t.reg o).toNat = min 0xFFFFFFFF ((b.reg o).toNat + 1)

/-- Two counters that differ each count once. -/
theorem Base.bump_bump_countsOne (b : Base) {o p : Nat} (differ : o ≠ p) :
    b.CountsOne ((b.bump o).bump p) o ∧ b.CountsOne ((b.bump o).bump p) p := by
  constructor
  · rw [Base.CountsOne, Base.reg_bump, if_neg differ, Base.reg_bump, if_pos rfl, bumpWord_toNat]
  · rw [Base.CountsOne, Base.reg_bump, if_pos rfl, Base.reg_bump, if_neg differ.symm, bumpWord_toNat]

section
variable {b : Base} {a : DecodeAt} {d : Decoded} (small : a.place.ch < 64)
include small

theorem repairQuiet_ecc_counts : RepairQuiet Reg.CORRECTED_COUNT ∧ RepairQuiet Reg.UNCORRECTABLE_COUNT ∧ RepairQuiet (Reg.CH_CORRECTED a.place.ch) ∧
    RepairQuiet (Reg.CH_UNCORRECTABLE a.place.ch) := by
  simp only [RepairQuiet, Reg.CORRECTED_COUNT, Reg.UNCORRECTABLE_COUNT, Reg.CH_CORRECTED, Reg.CH_UNCORRECTABLE, Reg.HEAL_DROP_COUNT,
    Reg.HARD_FAULT_COUNT, Reg.SHADOWED_COUNT, Reg.DROPPED_COUNT]
  omega

theorem Base.onDecode_counts_uncorrectable (lost : d.out = .uncorrectable) :
    b.CountsOne (b.onDecode a d) Reg.UNCORRECTABLE_COUNT ∧ b.CountsOne (b.onDecode a d) (Reg.CH_UNCORRECTABLE a.place.ch) := by
  obtain ⟨-, part, -, channel⟩ := repairQuiet_ecc_counts small
  have differ : Reg.UNCORRECTABLE_COUNT ≠ Reg.CH_UNCORRECTABLE a.place.ch := by
    simp only [Reg.UNCORRECTABLE_COUNT, Reg.CH_UNCORRECTABLE]
    omega
  obtain ⟨one, other⟩ := b.bump_bump_countsOne differ
  unfold Base.CountsOne
  rw [(Base.reg_kept part _).uncorrectableDecode lost (t := b) (a := a) rfl, (Base.reg_kept channel _).uncorrectableDecode lost (t := b) (a := a) rfl]
  exact ⟨one, other⟩

theorem Base.onDecode_counts_corrected (corrected : d.out = .corrected) (first : a.beforeHeal = false) :
    b.CountsOne (b.onDecode a d) Reg.CORRECTED_COUNT ∧ b.CountsOne (b.onDecode a d) (Reg.CH_CORRECTED a.place.ch) := by
  obtain ⟨part, -, channel, -⟩ := repairQuiet_ecc_counts small
  have differ : Reg.CORRECTED_COUNT ≠ Reg.CH_CORRECTED a.place.ch := by
    simp only [Reg.CORRECTED_COUNT, Reg.CH_CORRECTED]
    omega
  obtain ⟨one, other⟩ := b.bump_bump_countsOne differ
  unfold Base.CountsOne
  rw [(Base.reg_kept part _).correctedDecode corrected first (t := b) rfl, (Base.reg_kept channel _).correctedDecode corrected first (t := b) rfl]
  exact ⟨one, other⟩

end

/-! ### Stamps are listed -/

/-- A line is on the poison list, or the list has overflowed (R198). -/
def Base.PoisonNoted (b : Base) (line : Nat) : Prop := line ∈ b.dram.poison ∨ b.dram.poisonLost = true

theorem Base.listPoison_noted (b : Base) (line : Nat) : (b.listPoison line).PoisonNoted line := by
  unfold Base.listPoison Base.PoisonNoted
  split_ifs with listed full
  · exact .inl (List.contains_iff_mem.mp listed)
  · exact .inr rfl
  · exact .inl (List.mem_append_right _ List.mem_cons_self)

theorem Base.PoisonNoted.of_dram {b t : Base} {line : Nat} (h : b.PoisonNoted line) (list : t.dram.poison = b.dram.poison)
    (lost : t.dram.poisonLost = b.dram.poisonLost) : t.PoisonNoted line := by
  unfold Base.PoisonNoted
  rwa [list, lost]

theorem Base.PoisonNoted.updChan {b : Base} {line : Nat} (h : b.PoisonNoted line) (k : Nat) (f : Chan → Chan) : (b.updChan k f).PoisonNoted line := h

theorem Base.PoisonNoted.bump {b : Base} {line : Nat} (h : b.PoisonNoted line) (o n : Nat) : (b.bump o n).PoisonNoted line := h

theorem Base.PoisonNoted.release {b : Base} {line : Nat} (h : b.PoisonNoted line) (q : Req) : (b.release q).PoisonNoted line := by
  unfold Base.release Base.overIssued
  split_ifs
  · exact h
  · exact h.of_dram rfl rfl

theorem Base.PoisonNoted.repairEntry {b : Base} {line : Nat} (h : b.PoisonNoted line) (who : Who) (l : Nat) (d : Data) (m : Meta) :
    (b.repairEntry who l d m).2.PoisonNoted line := by
  refine h.of_dram ?_ ?_
  · unfold Base.repairEntry Base.internal Base.lookup Base.charge
    dsimp only
    split_ifs <;> rfl
  · unfold Base.repairEntry Base.internal Base.lookup Base.charge
    dsimp only
    split_ifs <;> rfl

theorem Base.PoisonNoted.send {b : Base} {line : Nat} (h : b.PoisonNoted line) (k : Kind) (src addr : Nat) (host : Option HostId) (inj : Bool) :
    (b.send k src addr host inj).PoisonNoted line :=
  h.of_dram (congrArg Dram.poison (Base.send_dram ..)) (congrArg Dram.poisonLost (Base.send_dram ..))

theorem Base.queueStamp_noted (b : Base) {a : DecodeAt} (d : Data) (newest : a.overtaken = false) : (b.queueStamp a d).PoisonNoted a.line := by
  unfold Base.queueStamp
  rw [if_neg (by rw [newest]; decide)]
  extract_lets listed r
  have reserved := (b.listPoison_noted a.line).repairEntry .stamp a.line d { sharers := r.vec, st := r.st, poison := true, healed := false }
  dsimp only
  split
  · exact (((reserved.updChan ..).release _).bump ..).send ..
  · exact reserved.updChan ..

theorem Base.onDecode_stamps {b : Base} {a : DecodeAt} {d : Decoded} (lost : d.out = .uncorrectable) (stamps : a.stamps = true)
    (newest : a.overtaken = false) (loud : a.silent = false)
    (first : (b.chan a.place.ch).stampPending a.place.bank a.place.row a.place.col = false) : (b.onDecode a d).PoisonNoted a.line := by
  unfold Base.onDecode
  simp only [lost, stamps, loud, first, Bool.or_self, Bool.not_false, Bool.and_self, if_true]
  exact Base.queueStamp_noted _ _ newest

/-! ### LINE_DECODE -/

section
variable {s : State} {ch : ChanId} {noise : Noise} {i : Inflight} {rest : List Inflight} (alive : s.base.alive = true)
  (oldest : (s.base.chan ch.toNat).inflight = i :: rest)
include alive oldest

/-- The base state once the oldest line read has left the channel. -/
def Base.readTaken (b : Base) (k : Nat) (rest : List Inflight) : Base := b.setChan k { b.chan k with inflight := rest }

theorem execLineDecode_forwarded {d : Data} {m : Meta} (forwarded : i.forwarded = some (d, m)) :
    execLineDecode ch noise s = .next { s with
      base := (((s.base.readTaken ch.toNat rest).deliverLine ch.toNat i { out := .clean, data := d, mt := m }).drainChan ch.toNat).pump } := by
  refine State.then_eq ?_
  simp only [alive, oldest, forwarded, Bool.not_true, Bool.false_eq_true, if_false, Base.readTaken]

variable (read : i.forwarded = none)
include read

theorem execLineDecode_ignored (guard : i.raw = guardBurst) :
    execLineDecode ch noise s = .next { s with base := (s.base.readTaken ch.toNat rest).guardBurstRead ch.toNat i } := by
  refine State.then_eq ?_
  simp only [alive, oldest, read, guard, Bool.not_true, Bool.false_eq_true, if_false, if_true, Base.readTaken]

theorem execLineDecode_decodes (answered : i.raw ≠ guardBurst) :
    execLineDecode ch noise s = .next { s with
      base :=
        let a := s.readDecode ch.toNat i
        let d := decodeWord a.erasures (addNoise i.raw noise)
        ((((s.base.readTaken ch.toNat rest).onDecode a d).deliverLine ch.toNat i d).drainChan ch.toNat).pump } := by
  refine State.then_eq ?_
  simp only [alive, oldest, read, answered, Bool.not_true, Bool.false_eq_true, if_false, Base.readTaken]

end

/-! ### Heals -/

section
variable {s : State} {ch : ChanId} {bank : BitVec 5} {row : BitVec 16} {col : BitVec 4} (alive : s.base.alive = true)
include alive

omit alive in
theorem execHealClosed_open
    (no : ((s.base.chan ch.toNat).healing.any fun h => h.1 == bank.toNat && h.2.1 == row.toNat && h.2.2.1 == col.toNat && decide (h.2.2.2 ≤ s.base.now)) =
      false) : execHealClosed ch bank row col s = .next s :=
  State.whenBase_kept fun _ => if_neg (Bool.eq_false_iff.mp no)

theorem execHealClosed_closed
    (closed : ((s.base.chan ch.toNat).healing.any fun h =>
      h.1 == bank.toNat && h.2.1 == row.toNat && h.2.2.1 == col.toNat && decide (h.2.2.2 ≤ s.base.now)) = true) :
    execHealClosed ch bank row col s = .next { s with
      base :=
        let k := ch.toNat
        let p : Place := { ch := k, bank := bank.toNat, row := row.toNat, col := col.toNat }
        let c := s.base.chan k
        let hit := fun h : Nat × Nat × Nat × Nat => h.1 == p.bank && h.2.1 == p.row && h.2.2.1 == p.col && decide (h.2.2.2 ≤ s.base.now)
        let inflight := c.inflight.map fun (i : Inflight) => if i.entry.at_ p.bank p.row p.col then { i with beforeHeal := true } else i
        let c := { c with healing := dropFirst hit c.healing, inflight := inflight }
        let b := s.base.setChan k (c.histUpd p fun x => { x with healDone := true, readsLeft := 3, lastEp := s.base.pl.epochs })
        let b := (b.bump Reg.HEAL_COUNT).bump (Reg.CH_HEALED k)
        let r := b.internal .verify (.rd .cur) (b.lineAt p) b.healLabel
        r.2.feedIn k (r.2.entryOf { r.1 with decided := true } none) } :=
  State.whenBase_pos alive (if_pos closed)

theorem execBucketTick_ticks (whole : s.base.pl.epoch.toNat % 10000000 = 0) (due : s.base.dram.bucketAt < s.base.pl.epochs) :
    execBucketTick s = .next { s with
      base :=
        let left := (s.base.dram.buckets.map fun e => (e.1, e.2 - 1)).filter fun e => e.2 != 0
        { s.base with dram := { s.base.dram with
          bucketAt := s.base.pl.epochs
          buckets := left
          overflowed := s.base.dram.overflowed.filter fun e => decide (s.base.rf Reg.ECC_CFG 21 16 < Tab.get 0 left e.1) } } } :=
  State.whenBase_pos alive (if_pos ⟨whole, due⟩)

end

/-- Settles O26: the commands by their branches, and the counts of a decode, which no repair that follows them touches. -/
theorem lineDecodeAndHeals : Obligations.line_decode_and_heals := by
  unfold Obligations.line_decode_and_heals
  refine ⟨⟨fun s ch noise i rest alive oldest => ?_, fun b a d small => ?_⟩, fun s ch bank row col alive => ?_⟩
  · intro k c b a d
    exact ⟨fun dat m => execLineDecode_forwarded alive oldest, execLineDecode_ignored alive oldest, execLineDecode_decodes alive oldest, rfl, rfl, rfl⟩
  · intro t counts
    refine ⟨fun lost => ?_, Base.onDecode_counts_corrected small, Base.onDecode_beforeHeal⟩
    obtain ⟨part, channel⟩ := Base.onDecode_counts_uncorrectable (b := b) small lost
    exact ⟨part, channel, Base.onDecode_stamps lost⟩
  · intro b k c p hit inflight c' b1 b2 r kept left full
    exact ⟨execHealClosed_closed alive, execHealClosed_open, State.whenBase_pos alive rfl, execBucketTick_ticks alive⟩

end Sys2Proof.Machine
end

section
/-! SUPPORT. The epoch boundary, the plan buffers and the firmware watchdog (R23, R24, R28, R36, R37, R47, R401, R406). -/

namespace Sys2Proof.Machine

/-! ### The counter and the snapshot -/

theorem Base.countEpoch_pl (b : Base) : b.countEpoch.pl = { b.pl with phase := 0, epochs := b.pl.epochs + 1, epoch := b.pl.epoch + 1 } := by
  unfold Base.countEpoch
  dsimp only
  split_ifs
  · exact Base.send_pl ..
  · rfl

theorem Base.countEpoch_quiet {b : Base} (more : b.pl.epoch + 1 ≠ 0) : b.countEpoch = { b with pl := b.countEpoch.pl } := by
  rw [Base.countEpoch_pl]
  exact if_neg more

theorem Base.countEpoch_wraps {b : Base} (wraps : b.pl.epoch + 1 = 0) :
    b.countEpoch = ({ b with pl := b.countEpoch.pl } : Base).send .epochWrap 0x5BA 0 := by
  rw [Base.countEpoch_pl]
  exact if_pos wraps

/-- The snapshot that a boundary takes (R47). -/
def Base.snapshot (b : Base) (ended : BitVec 48) : Snapshot :=
  { epoch := ended, seq := b.pl.snapSeq + 1, interval := b.rf Reg.SNAPSHOT_CFG 15 0, counts := b.pl.acc }

section
variable {b : Base} {e : BitVec 48}

theorem Base.takeSnapshot_early (early : b.snapshotDue = false) : b.takeSnapshot e = b := if_neg (Bool.eq_false_iff.mp early)

/-- The base state once a snapshot that nobody opened is counted as an overrun. -/
def Base.overrun (b : Base) : Base := if b.pl.newestOpened then b else b.bump Reg.SNAPSHOT_OVERRUN

theorem Base.overrun_pl (b : Base) : b.overrun.pl = b.pl := by
  unfold Base.overrun
  split_ifs <;> rfl

theorem Base.overrun_rf (b : Base) : b.overrun.rf Reg.SNAPSHOT_CFG 15 0 = b.rf Reg.SNAPSHOT_CFG 15 0 := by
  unfold Base.overrun
  split_ifs
  · rfl
  · exact congrArg (fun w => fld w 15 0) ((Base.reg_bump ..).trans (if_neg (by decide)))

theorem Base.overrun_counts (b : Base) : (b.overrun.reg Reg.SNAPSHOT_OVERRUN).toNat =
    if b.pl.newestOpened then (b.reg Reg.SNAPSHOT_OVERRUN).toNat else min 0xFFFFFFFF ((b.reg Reg.SNAPSHOT_OVERRUN).toNat + 1) := by
  unfold Base.overrun
  split_ifs
  · rfl
  · rw [Base.reg_bump, if_pos rfl, bumpWord_toNat]

theorem Base.takeSnapshot_takes (due : b.snapshotDue = true) : b.takeSnapshot e = b.overrun.updPl fun p => { p with
    newest := some { epoch := e, seq := p.snapSeq + 1, interval := b.overrun.rf Reg.SNAPSHOT_CFG 15 0, counts := p.acc }
    newestOpened := false
    snapSeq := p.snapSeq + 1
    acc := b.overrun.freshCounts } := if_pos due

theorem Base.takeSnapshot_due (due : b.snapshotDue = true) :
    (b.takeSnapshot e).pl.newest = some (b.snapshot e) ∧ (b.takeSnapshot e).pl.newestOpened = false ∧
      (b.takeSnapshot e).pl.opened = b.pl.opened ∧ ((b.takeSnapshot e).reg Reg.SNAPSHOT_OVERRUN).toNat =
        if b.pl.newestOpened then (b.reg Reg.SNAPSHOT_OVERRUN).toNat else min 0xFFFFFFFF ((b.reg Reg.SNAPSHOT_OVERRUN).toNat + 1) := by
  rw [Base.takeSnapshot_takes due]
  have counter (f : Planner → Planner) : (b.overrun.updPl f).reg Reg.SNAPSHOT_OVERRUN = b.overrun.reg Reg.SNAPSHOT_OVERRUN := rfl
  refine ⟨?_, ?_, ?_, by rw [counter, Base.overrun_counts]⟩
  · rw [Base.updPl_pl, Base.overrun_pl, Base.overrun_rf, Base.snapshot]
  · rw [Base.updPl_pl]
  · rw [Base.updPl_pl, Base.overrun_pl]

end

/-! ### What the end of a plan leaves -/

/-- From `b` to `t` deferrals are counted: the planner keeps all but its counts, and the fallback counter stands. -/
structure Base.Defers (b t : Base) : Prop where
  planner : t.pl = { b.pl with deferrals := t.pl.deferrals, acc := t.pl.acc }
  fallbacks : t.reg Reg.PLAN_FALLBACK_COUNT = b.reg Reg.PLAN_FALLBACK_COUNT

section
variable {b t : Base}

theorem Base.Defers.refl (b : Base) : b.Defers b := ⟨rfl, rfl⟩

theorem Base.Defers.of_pl (h : b.Defers t) {u : Base} (planner : u.pl = { t.pl with deferrals := u.pl.deferrals, acc := u.pl.acc })
    (fallbacks : u.reg Reg.PLAN_FALLBACK_COUNT = t.reg Reg.PLAN_FALLBACK_COUNT) : b.Defers u :=
  ⟨by rw [planner, h.planner], fallbacks.trans h.fallbacks⟩

theorem Base.Defers.bump (h : b.Defers t) {o n : Nat} (other : o ≠ Reg.PLAN_FALLBACK_COUNT) : b.Defers (t.bump o n) :=
  h.of_pl rfl ((Base.reg_bump ..).trans (if_neg other.symm))

theorem Base.Defers.send (h : b.Defers t) (k : Kind) (src addr : Nat) (host : Option HostId) (inj : Bool) : b.Defers (t.send k src addr host inj) :=
  h.of_pl (by rw [Base.send_pl]) (Base.reg_send _ _ _ _ _ _ (by decide) (by decide))

theorem Base.Defers.deferred (h : b.Defers t) (ch n : Nat) {item : Nat} (known : item < 4) : b.Defers (t.deferred ch item n) := by
  have other : Reg.DEFER_REFRESH + 4 * item ≠ Reg.PLAN_FALLBACK_COUNT := by
    simp only [Reg.DEFER_REFRESH, Reg.PLAN_FALLBACK_COUNT]
    omega
  unfold Base.deferred
  split_ifs
  · exact h
  · refine Base.Defers.bump ?_ other
    exact h.of_pl rfl rfl

theorem Base.Defers.carryQuota (h : b.Defers t) (ch new : Nat) : b.Defers (t.carryQuota ch new) := by
  unfold Base.carryQuota
  extract_lets c owed counted
  have counts : b.Defers counted := by
    refine Base.Defers.deferred ?_ _ _ (by decide)
    exact h.of_pl rfl rfl
  clear_value counted
  split_ifs
  · exact h
  · exact counts.send ..
  · exact counts

theorem Base.Defers.countDeferred (h : b.Defers t) (l : List PauseDue) : b.Defers (t.countDeferred l) :=
  List.foldlRecOn (motive := b.Defers) l _ h fun _ g _ _ => g.deferred _ _ (by decide)

end

/-- The base state once what an epoch left undone is counted, before its items are carried. -/
theorem Base.closePlan_defers (b : Base) : ∃ t : Base, b.Defers t ∧ ∃ l : List PauseDue,
    b.closePlan = t.updPl fun p => { p with due := [], carried := l } := by
  unfold Base.closePlan
  extract_lets old undone counted carried sampled
  have counts : b.Defers counted := (Base.Defers.refl b).countDeferred undone
  have carries : b.Defers carried := forN_inv b.Defers 64 _ (fun ch t g => g.carryQuota ch _) _ counts
  have samples : b.Defers sampled := by
    refine List.foldlRecOn (motive := b.Defers) old.sensors _ carries fun t g d _ => iteInduction (fun _ => ?_) fun _ => ?_
    · exact g.deferred _ _ (by decide)
    · exact g.bump (by decide)
  exact ⟨sampled, samples, _, rfl⟩

/-! ### The plan of an epoch -/

theorem Base.wakeMover_pl (b : Base) : b.wakeMover.pl = b.pl := by
  unfold Base.wakeMover
  split <;> rfl

theorem Base.withRequested_keeps (b : Base) (new : Plan) :
    (b.withRequested new).scrub = new.scrub ∧ (b.withRequested new).segment = new.segment := by
  unfold Base.withRequested
  split_ifs
  · exact ⟨rfl, rfl⟩
  · split <;> exact ⟨rfl, rfl⟩

theorem Base.takePlan_takes (b : Base) (new : Plan) : (b.takePlan new).pl.active.scrub = new.scrub ∧
    (b.takePlan new).pl.active.segment = new.segment ∧ (b.takePlan new).pl.fallback = false ∧ (b.takePlan new).pl.missed = 0 := by
  unfold Base.takePlan
  extract_lets plan all rest late taken counted
  have counts : taken.Defers counted := (Base.Defers.refl taken).countDeferred rest
  have planner : (if (!plan.scrub.isEmpty || plan.segment.isSome || plan.fullWidth.isSome) = true then counted.wakeMover else counted).pl = counted.pl := by
    split_ifs
    · exact counted.wakeMover_pl
    · rfl
  rw [planner, counts.planner]
  exact ⟨(b.withRequested_keeps new).1, (b.withRequested_keeps new).2, rfl, rfl⟩

theorem Base.fallbackPlan_falls (b : Base) : b.fallbackPlan.pl.active.scrub = [] ∧ b.fallbackPlan.pl.active.segment = none ∧
    b.fallbackPlan.pl.active.fullWidth = none ∧ b.fallbackPlan.pl.due = b.pl.due ∧ b.fallbackPlan.pl.fallback = true ∧
    (b.fallbackPlan.reg Reg.PLAN_FALLBACK_COUNT).toNat = min 0xFFFFFFFF ((b.reg Reg.PLAN_FALLBACK_COUNT).toNat + 1) := by
  unfold Base.fallbackPlan
  extract_lets rest counts fallen
  obtain ⟨planner, fallbacks⟩ := (Base.Defers.refl fallen).countDeferred rest
  rw [Base.reg_send _ _ _ _ _ _ (by decide) (by decide), Base.reg_bump, if_pos rfl, bumpWord_toNat, fallbacks, Base.send_pl, Base.bump_pl, planner]
  exact ⟨rfl, rfl, rfl, rfl, rfl, rfl⟩

section
variable {b : Base}

theorem Base.swapPlan_takes (complete : b.pl.inactiveDone = true) : b.swapPlan.pl.active.scrub = b.pl.inactive.scrub ∧
    b.swapPlan.pl.active.segment = b.pl.inactive.segment ∧ b.swapPlan.pl.fallback = false ∧ b.swapPlan.pl.missed = 0 ∧
    b.swapPlan.pl.inactive = {} ∧ b.swapPlan.pl.inactiveDone = false := by
  obtain ⟨t, defers, l, closed⟩ := b.closePlan_defers
  have planner : b.closePlan.pl.inactive = b.pl.inactive ∧ b.closePlan.pl.inactiveDone = true := by
    rw [closed, Base.updPl_pl, defers.planner]
    exact ⟨rfl, complete⟩
  have swaps : b.swapPlan = (b.closePlan.takePlan b.closePlan.pl.inactive).updPl fun p => { p with inactive := {}, inactiveDone := false } :=
    if_pos planner.2
  obtain ⟨scrub, segment, fallback, missed⟩ := b.closePlan.takePlan_takes b.pl.inactive
  rw [swaps, planner.1]
  exact ⟨scrub, segment, fallback, missed, rfl, rfl⟩

theorem Base.swapPlan_falls (absent : b.pl.inactiveDone = false) : b.swapPlan.pl.active.scrub = [] ∧ b.swapPlan.pl.active.segment = none ∧
    b.swapPlan.pl.active.fullWidth = none ∧ b.swapPlan.pl.due = [] ∧ b.swapPlan.pl.fallback = true ∧
    (b.swapPlan.reg Reg.PLAN_FALLBACK_COUNT).toNat = min 0xFFFFFFFF ((b.reg Reg.PLAN_FALLBACK_COUNT).toNat + 1) := by
  obtain ⟨t, defers, l, closed⟩ := b.closePlan_defers
  have planner : b.closePlan.pl.inactiveDone = false ∧ b.closePlan.pl.due = [] := by
    rw [closed, Base.updPl_pl, defers.planner]
    exact ⟨absent, rfl⟩
  have counter : b.closePlan.reg Reg.PLAN_FALLBACK_COUNT = b.reg Reg.PLAN_FALLBACK_COUNT := by
    rw [closed]
    exact defers.fallbacks
  have swaps : b.swapPlan = b.closePlan.fallbackPlan := if_neg (by rw [planner.1]; decide)
  rw [swaps, ← counter, ← planner.2]
  exact b.closePlan.fallbackPlan_falls

end

/-! ### PLAN_COMPLETE and FIRMWARE_WATCHDOG -/

section
variable {s : State} {plan : Plan}

theorem Base.shadows_blockReady (b : Base) (block : Nat) :
    (∀ x ∈ b.flt.shadows, x.block ≠ block → x ∈ (b.blockReady block).flt.shadows) ∧
      ∀ x ∈ (b.blockReady block).flt.shadows, x.block = block → x.closeAt ≤ b.now + 1000 := by
  refine ⟨fun x mem other => List.mem_map.mpr ⟨x, mem, if_neg other⟩, fun x mem same => ?_⟩
  obtain ⟨y, -, rfl⟩ := List.mem_map.mp mem
  split_ifs at same ⊢ with its
  · exact min_le_right _ _
  · exact absurd same its

/-- The base state once firmware has completed a plan (R23). -/
def Base.planned (b : Base) (plan : Plan) : Base := b.updPl fun p => { p with inactive := plan, inactiveDone := true }

theorem execPlanComplete_fills (run : s.base.fwRuns = true) :
    execPlanComplete plan s = .next { s with base := (s.base.planned plan).blockReady 17 } := State.whenBase_pos run rfl

/-- The base state once the Pith complex has been reset, and the reset counted (R401, R406). -/
def Base.pithReset (b : Base) : Base := (b.countReset 17).resetPith

theorem Base.recentResets_pithReset (b : Base) : (b.pithReset.recentResets 17).head? = some b.pl.epochs ∧
    ∀ k, k ≠ 17 → b.pithReset.recentResets k = b.recentResets k := by
  have history : b.pithReset.flt.history = Tab.set [] b.flt.history 17 ((b.pl.epochs :: Tab.get [] b.flt.history 17).take 3) := rfl
  have epochs : b.pithReset.pl.epochs = b.pl.epochs := rfl
  have recent : b.pl.epochs < b.pl.epochs + Config.aonMinute := by
    unfold Config.aonMinute
    omega
  refine ⟨?_, fun k other => ?_⟩
  · rw [Base.recentResets, history, epochs, Tab.get_set_same, List.take_succ_cons, List.filter_cons, if_pos (decide_eq_true recent)]
    rfl
  · rw [Base.recentResets, history, epochs, Tab.get_set_other _ _ _ other, Base.recentResets]

theorem Base.shadows_openShadow (b : Base) (block n : Nat) :
    (∃ x ∈ (b.openShadow block n).flt.shadows, x.block = block ∧ x.openedAt = b.now ∧ x.closeAt = b.now + min 100000 n) ∧
      ∀ x, x.block ≠ block → (x ∈ (b.openShadow block n).flt.shadows ↔ x ∈ b.flt.shadows) := by
  unfold Base.openShadow
  extract_lets old opened
  have own : opened.block = block := by
    show old.block = block
    cases found : b.flt.shadows.find? fun s => s.block == block with
    | none => simp only [old, found, Option.getD_none]
    | some y =>
      simp only [old, found, Option.getD_some]
      exact beq_iff_eq.mp (List.find?_some (p := fun s : Shadow => s.block == block) found)
  refine ⟨⟨opened, List.mem_append_right _ List.mem_cons_self, own, rfl, rfl⟩, fun x other => ?_⟩
  have not_own : x ≠ opened := fun e => other (e ▸ own)
  simp [other, not_own]

section
variable (run : s.base.fwRuns = true)

theorem execFirmwareWatchdog_early (early : s.base.pl.missed < 16) : execFirmwareWatchdog s = .next s :=
  State.whenBase_neg (by rw [decide_eq_false (Nat.not_le.mpr early), Bool.and_false])

include run
variable (late : 16 ≤ s.base.pl.missed)
include late

theorem execFirmwareWatchdog_resets (few : (s.base.recentResets 17).length < 3) :
    execFirmwareWatchdog s = .next { s with base := s.base.pithReset.sendOutside .firmwareWatchdog 0x5BB 0 } := by
  refine State.whenBase_pos (by rw [run, decide_eq_true late]; rfl) ?_
  have counted : s.base.countedReset 17 = s.base.pithReset := if_neg (Nat.not_le.mpr few)
  rw [counted, decide_eq_true few]
  rfl

theorem execFirmwareWatchdog_refused (many : 3 ≤ (s.base.recentResets 17).length) :
    execFirmwareWatchdog s = .next { s with base := s.base.resetRefused 17 } := by
  refine State.whenBase_pos (by rw [run, decide_eq_true late]; rfl) ?_
  have refused : s.base.countedReset 17 = s.base.resetRefused 17 := if_pos many
  rw [refused, decide_eq_false (Nat.not_lt.mpr many)]
  rfl

end

end

/-- Settles O10: the boundary's actions as the model has them, then each action by what it leaves of the planner, and the two commands. -/
theorem epochAndPlan : Obligations.epoch_and_plan := by
  unfold Obligations.epoch_and_plan
  refine ⟨fun s alive => State.whenBase_pos alive rfl, fun b => ⟨b.countEpoch_pl, Base.countEpoch_quiet, Base.countEpoch_wraps⟩,
    fun b e => ⟨Base.takeSnapshot_early, fun due => ?_⟩, fun b => ⟨Base.swapPlan_takes, Base.swapPlan_falls⟩,
    fun s plan run => ⟨?_, fun late few => ?_, execFirmwareWatchdog_refused run, execFirmwareWatchdog_early⟩⟩
  · obtain ⟨newest, unopened, opened, overruns⟩ := Base.takeSnapshot_due (e := e) due
    exact ⟨_, newest, rfl, rfl, rfl, rfl, unopened, opened, overruns⟩
  · obtain ⟨others, closes⟩ := (s.base.planned plan).shadows_blockReady 17
    exact ⟨_, execPlanComplete_fills run, rfl, others, closes⟩
  · obtain ⟨latest, others⟩ := s.base.recentResets_pithReset
    obtain ⟨opens, rest⟩ := Base.shadows_openShadow ({ s.base.countReset 17 with
      pl := { s.base.pl with inactive := {}, inactiveDone := false, missed := 0 } }) 17 100000
    exact ⟨s.base.pithReset, execFirmwareWatchdog_resets run late few, rfl, latest, others, opens, rest⟩

end Sys2Proof.Machine
end

section
/-! SUPPORT. Rate steps, equalisation and flits (R53, R59, R61 to R65, R67, R114, R115, R119). -/

namespace Sys2Proof.Machine

/-! ### Folds that act on one key at a time -/

/-- A fold whose steps act each on its own key, while an invariant holds: what it leaves of a key without a step, and, where no key comes
twice, of a key with one. -/
theorem foldl_keyed {σ α κ β : Type} [DecidableEq κ] {I : σ → Prop} {read : σ → κ → β} {key : α → κ} {f : σ → α → σ} {g : α → β → β}
    (keeps : ∀ s e, I s → I (f s e)) (acts : ∀ s e k, I s → read (f s e) k = if k = key e then g e (read s k) else read s k) (l : List α) {s : σ}
    (start : I s) : (∀ k, (∀ e ∈ l, key e ≠ k) → read (l.foldl f s) k = read s k) ∧
      ((l.map key).Nodup → ∀ e ∈ l, read (l.foldl f s) (key e) = g e (read s (key e))) := by
  induction l generalizing s with
  | nil => exact ⟨fun _ _ => rfl, fun _ e mem => by cases mem⟩
  | cons a l ih =>
    obtain ⟨absent, present⟩ := ih (keeps s a start)
    have other (k : κ) (ne : key a ≠ k) : read (f s a) k = read s k := (acts s a k start).trans (if_neg fun e => ne e.symm)
    refine ⟨fun k none_ => ?_, fun once e mem => ?_⟩
    · exact (absent k fun e mem => none_ e (List.mem_cons_of_mem a mem)).trans (other k (none_ a List.mem_cons_self))
    · obtain ⟨fresh, once⟩ := List.nodup_cons.mp once
      rcases List.mem_cons.mp mem with rfl | mem
      · exact (absent _ fun x hx same => fresh (List.mem_map.mpr ⟨x, hx, same⟩)).trans ((acts s e _ start).trans (if_pos rfl))
      · exact (present once e mem).trans (congrArg (g e) (other _ fun same => fresh (List.mem_map.mpr ⟨e, mem, same.symm⟩)))

/-! ### Baselines -/

/-- From `b` to `t` the ports, the lanes and the stored start values alone change. -/
def Base.Trains (b t : Base) : Prop :=
  ∃ ports lanes eqStart, t = { b with links := { b.links with ports := ports, lanes := lanes, eqStart := eqStart } }

section
variable {b t : Base}

theorem Base.Trains.updPort (h : b.Trains t) (k : Nat) (f : Port → Port) : b.Trains (t.updPort k f) := by
  obtain ⟨ports, lanes, eqStart, rfl⟩ := h
  exact ⟨_, _, _, rfl⟩

theorem Base.Trains.setBaseline (h : b.Trains t) (k rate : Nat) (re : Bool) (e : LaneEye) : b.Trains (t.setBaseline k rate re e) := by
  obtain ⟨ports, lanes, eqStart, rfl⟩ := h
  unfold Base.setBaseline
  dsimp only
  split_ifs <;> exact ⟨_, _, _, rfl⟩

theorem Base.LinksOnly.trains (h : b.LinksOnly t) : b.Trains t := by
  obtain ⟨ports, lanes, rfl⟩ := h
  exact ⟨_, _, _, rfl⟩

theorem Base.Trains.eq (h : b.Trains t) :
    t = { b with links := { b.links with ports := t.links.ports, lanes := t.links.lanes, eqStart := t.links.eqStart } } := by
  obtain ⟨ports, lanes, eqStart, rfl⟩ := h
  rfl

end

/-- From `b` to `t` the lanes and the stored start values alone change. -/
structure Base.Baselines (b t : Base) : Prop where
  ports : t.links.ports = b.links.ports
  straps : t.links.straps = b.links.straps
  regs : t.regs = b.regs

/-- A lane with the baseline of a measurement, where it is of the width (R65). -/
def Lane.baselined (x : Lane) (width floor rate : Nat) (re : Bool) (e : LaneEye) : Lane :=
  if x.logical < width then
    { x with baseHeight := e.height, baseWidth := e.width, baseRate := rate, belowFloor := re && decide (e.height.toNat < floor) }
  else x

section
variable {b t : Base} (n rate : Nat) (re : Bool)

theorem Base.Baselines.setBaseline (h : b.Baselines t) (e : LaneEye) : b.Baselines (t.setBaseline n rate re e) := by
  obtain ⟨ports, straps, regs⟩ := h
  unfold Base.setBaseline
  dsimp only
  split_ifs <;> exact ⟨ports, straps, regs⟩

theorem Base.Baselines.laneBase (h : b.Baselines t) : t.laneBase n = b.laneBase n := by
  rw [Base.laneBase, Base.split, h.straps]
  rfl

theorem Base.Baselines.port (h : b.Baselines t) (j : Nat) : t.port j = b.port j := congrArg (fun p => Tab.get ({} : Port) p j) h.ports

theorem Base.Baselines.eyeFloor (h : b.Baselines t) : t.eyeFloor n rate = b.eyeFloor n rate := by
  unfold Base.eyeFloor Base.rf Base.reg
  rw [h.regs]

theorem Base.lane_eqStart (t : Base) (starts : Tab Word) (l : Nat) :
    ({ t with links := { t.links with eqStart := starts } } : Base).lane l = t.lane l := rfl

theorem Base.lane_setBaseline (h : b.Baselines t) (e : LaneEye) (l : Nat) : (t.setBaseline n rate re e).lane l =
    if l = b.laneBase n + e.lane.toNat then (t.lane l).baselined (b.port n).width (b.eyeFloor n rate) rate re e else t.lane l := by
  rw [← h.laneBase n, ← h.port n, ← h.eyeFloor n rate]
  unfold Base.setBaseline Lane.baselined
  dsimp only
  by_cases own : l = t.laneBase n + e.lane.toNat
  · subst own
    rw [if_pos rfl]
    split_ifs
    · rw [Base.lane_eqStart, Base.lane_updLane, if_pos rfl]
    · rw [Base.lane_eqStart, Base.lane_updLane, if_pos rfl]
    · rfl
  · rw [if_neg own]
    split_ifs
    · rw [Base.lane_eqStart, Base.lane_updLane, if_neg own]
    · rw [Base.lane_eqStart, Base.lane_updLane, if_neg own]
    · rfl

theorem Base.foldl_setBaseline (b : Base) (eyes : List LaneEye) :
    (∀ l, (∀ e ∈ eyes, b.laneBase n + e.lane.toNat ≠ l) → (eyes.foldl (fun t e => t.setBaseline n rate re e) b).lane l = b.lane l) ∧
      ((eyes.map fun e => e.lane).Nodup → ∀ e ∈ eyes, (eyes.foldl (fun t e => t.setBaseline n rate re e) b).lane (b.laneBase n + e.lane.toNat) =
        (b.lane (b.laneBase n + e.lane.toNat)).baselined (b.port n).width (b.eyeFloor n rate) rate re e) := by
  have keyed := foldl_keyed (I := b.Baselines) (read := fun t l => t.lane l) (key := fun e : LaneEye => b.laneBase n + e.lane.toNat)
    (f := fun t e => t.setBaseline n rate re e) (g := fun e x => x.baselined (b.port n).width (b.eyeFloor n rate) rate re e)
    (fun t e h => h.setBaseline n rate re e) (fun t e l h => Base.lane_setBaseline n rate re h e l) eyes (s := b) ⟨rfl, rfl, rfl⟩
  refine ⟨keyed.1, fun once => keyed.2 ?_⟩
  have distinct := once.map (f := fun x : BitVec 3 => b.laneBase n + x.toNat) fun x y same => BitVec.eq_of_toNat_eq (Nat.add_left_cancel same)
  rwa [List.map_map] at distinct

end

/-! ### The end of phase 3 -/

section
variable (b : Base) (n rate : Nat) (re : Bool)

/-- What phase 2 measured at a rate, as the baseline of its lanes; nothing of another rate (R65). -/
def Base.measuredLanes : Base :=
  if (b.port n).phase2Rate = rate then (b.port n).phase2.foldl (fun t e => t.setBaseline n rate re e) b else b

theorem Base.endPhase3_eq : b.endPhase3 n rate re = (b.measuredLanes n rate re).updPort n fun p => { p with phase2 := [] } := rfl

theorem Base.baselines_measuredLanes : b.Baselines (b.measuredLanes n rate re) := by
  unfold Base.measuredLanes
  split_ifs
  · exact List.foldlRecOn (motive := b.Baselines) _ _ ⟨rfl, rfl, rfl⟩ fun t h e _ => h.setBaseline n rate re e
  · exact ⟨rfl, rfl, rfl⟩

theorem Base.Trains.measuredLanes {a b : Base} (h : a.Trains b) : a.Trains (b.measuredLanes n rate re) := by
  unfold Base.measuredLanes
  split_ifs
  · exact List.foldlRecOn (motive := a.Trains) _ _ h fun t g e _ => g.setBaseline n rate re e
  · exact h

theorem Base.Trains.endPhase3 {a b : Base} (h : a.Trains b) : a.Trains (b.endPhase3 n rate re) := by
  rw [Base.endPhase3_eq]
  exact (h.measuredLanes n rate re).updPort n _

theorem Base.port_endPhase3 (j : Nat) : (b.endPhase3 n rate re).port j = if j = n then { b.port n with phase2 := [] } else b.port j := by
  rw [Base.endPhase3_eq, Base.port_updPort, (b.baselines_measuredLanes n rate re).port, (b.baselines_measuredLanes n rate re).port]

theorem Lane.baselined_locks (x : Lane) (width floor : Nat) (e : LaneEye) : ((x.baselined width floor rate re e).bitLock = x.bitLock ∧
    (x.baselined width floor rate re e).blockLock = x.blockLock) ∧ (x.baselined width floor rate re e).logical = x.logical := by
  unfold Lane.baselined
  split_ifs <;> exact ⟨⟨rfl, rfl⟩, rfl⟩

/-- The locks of a lane stand at the end of phase 3. -/
theorem Base.locks_endPhase3 (l : Nat) : ((b.endPhase3 n rate re).lane l).bitLock = (b.lane l).bitLock ∧
    ((b.endPhase3 n rate re).lane l).blockLock = (b.lane l).blockLock := by
  have each (t : Base) (e : LaneEye) : ((t.setBaseline n rate re e).lane l).bitLock = (t.lane l).bitLock ∧
      ((t.setBaseline n rate re e).lane l).blockLock = (t.lane l).blockLock := by
    rw [Base.lane_setBaseline n rate re (b := t) ⟨rfl, rfl, rfl⟩]
    split_ifs
    · exact ((t.lane l).baselined_locks rate re _ _ e).1
    · exact ⟨rfl, rfl⟩
  rw [Base.endPhase3_eq, Base.lane_updPort_eq]
  unfold Base.measuredLanes
  split_ifs
  · exact ⟨foldl_keeps (fun t : Base => (t.lane l).bitLock) _ (fun t e => (each t e).1) _ b,
      foldl_keeps (fun t : Base => (t.lane l).blockLock) _ (fun t e => (each t e).2) _ b⟩
  · exact ⟨rfl, rfl⟩

variable {b n rate re}

theorem Base.baseline_endPhase3 (measured : (b.port n).phase2Rate = rate) (once : ((b.port n).phase2.map fun e => e.lane).Nodup) {e : LaneEye}
    (mem : e ∈ (b.port n).phase2) (inside : (b.lane (b.laneBase n + e.lane.toNat)).logical < (b.port n).width) :
    ((b.endPhase3 n rate re).lane (b.laneBase n + e.lane.toNat)).baseHeight = e.height ∧
      ((b.endPhase3 n rate re).lane (b.laneBase n + e.lane.toNat)).baseWidth = e.width ∧
      ((b.endPhase3 n rate re).lane (b.laneBase n + e.lane.toNat)).baseRate = rate := by
  rw [Base.endPhase3_eq, Base.lane_updPort_eq, Base.measuredLanes, if_pos measured, (b.foldl_setBaseline n rate re _).2 once e mem, Lane.baselined,
    if_pos inside]
  exact ⟨rfl, rfl, rfl⟩

end

/-! ### RATE_STEP_COMPLETE and EQ_FAILED -/

section
variable {s : State} {k : PortBlk} {rate : Fin 6} {failed : BitVec 8} {final : Bool} (train : s.base.canTrain k.toNat = true)
  (steps : (s.base.port k.toNat).link = .l0 ∨ (s.base.port k.toNat).link = .rateStep) (stepping : (s.base.port k.toNat).stepping = true)

/-- The port is back at the previous rate, with nothing of a step's equalisation recorded (R59, R65). -/
def Base.stepBack (b : Base) (n : Nat) : Base := b.setPort n { b.port n with link := .l0, phase2 := [] }

/-- The port in L0 at a new rate, its lanes locked and the baselines taken (R59, R65). -/
def Base.stepped (b : Base) (n rate : Nat) (final : Bool) : Base :=
  ((b.lockLanes (b.activeLanes n) rate).endPhase3 n rate false).updPort n fun p => { p with
    link := .l0, rate := rate, stepping := !final, goodRun := 0, badRun := 0, aligned := false }

section
variable (b : Base) (n r : Nat) (fin : Bool)

theorem Base.nodup_activeLanes : (b.activeLanes n).Nodup := (b.nodup_lanesOf n).filter _

theorem Base.port_stepped : (b.stepped n r fin).port n = { b.port n with
    link := .l0, rate := r, stepping := !fin, goodRun := 0, badRun := 0, aligned := false, phase2 := [] } := by
  rw [Base.stepped, Base.port_updPort, if_pos rfl, Base.port_endPhase3, if_pos rfl, Base.port_lockLanes]

theorem Base.trains_stepped : b.Trains (b.stepped n r fin) :=
  ((((Base.LinksOnly.refl b).lockLanes (b.activeLanes n) r).trains).endPhase3 n r false).updPort n _

theorem Base.locks_stepped (l : Nat) : ((b.stepped n r fin).lane l).bitLock = ((b.lane l).bitLock || decide (l ∈ b.activeLanes n)) ∧
    ((b.stepped n r fin).lane l).blockLock = if l ∈ b.activeLanes n then decide (2 ≤ r) else (b.lane l).blockLock := by
  obtain ⟨bit, block⟩ := (b.lockLanes (b.activeLanes n) r).locks_endPhase3 n r false l
  rw [Base.stepped, Base.lane_updPort_eq, bit, block, b.lane_lockLanes (b.nodup_activeLanes n)]
  split_ifs with active
  · exact ⟨by simp [Lane.locked, active], rfl⟩
  · exact ⟨by simp [active], rfl⟩

theorem Base.baseline_stepped (measured : (b.port n).phase2Rate = r) (once : ((b.port n).phase2.map fun e => e.lane).Nodup) {e : LaneEye}
    (mem : e ∈ (b.port n).phase2) (inside : (b.lane (b.laneBase n + e.lane.toNat)).logical < (b.port n).width) :
    ((b.stepped n r fin).lane (b.laneBase n + e.lane.toNat)).baseHeight = e.height ∧
      ((b.stepped n r fin).lane (b.laneBase n + e.lane.toNat)).baseWidth = e.width ∧
      ((b.stepped n r fin).lane (b.laneBase n + e.lane.toNat)).baseRate = r := by
  have ports := b.port_lockLanes (b.activeLanes n) r n
  have straps : (b.lockLanes (b.activeLanes n) r).laneBase n = b.laneBase n := by
    obtain ⟨_, _, same⟩ := (Base.LinksOnly.refl b).lockLanes (b.activeLanes n) r
    rw [same]
    rfl
  have place : ((b.lockLanes (b.activeLanes n) r).lane (b.laneBase n + e.lane.toNat)).logical = (b.lane (b.laneBase n + e.lane.toNat)).logical := by
    rw [b.lane_lockLanes (b.nodup_activeLanes n)]
    split_ifs <;> rfl
  rw [← ports] at measured once mem inside
  rw [← place, ← straps] at inside
  rw [Base.stepped, Base.lane_updPort_eq, ← straps]
  exact Base.baseline_endPhase3 measured once mem inside

end

include train steps stepping

theorem execRateStepComplete_steps (above : (s.base.port k.toNat).rate ≤ rate.val) (all : s.base.maskLanes k.toNat failed = []) :
    execRateStepComplete k rate failed final s = .next { s with
      base := if final then ((s.base.stepped k.toNat rate.val final).enterL0 k.toNat).checkRate k.toNat else s.base.stepped k.toNat rate.val final } :=
  State.training_pos train (by rcases steps with e | e <;> rw [e] <;> rfl)
    ((if_neg (by rw [stepping, decide_eq_false (Nat.not_lt.mpr above)]; decide)).trans (if_pos all))

section
variable (above : (s.base.port k.toNat).rate ≤ rate.val) (some_ : s.base.maskLanes k.toNat failed ≠ [])
include above some_

theorem execRateStepComplete_fails (all : (s.base.maskLanes k.toNat failed).length = (s.base.port k.toNat).width) :
    execRateStepComplete k rate failed final s = .next { s with
      base := (s.base.stepBack k.toNat).send .eqFailed (0x40 + k.toNat) (portAddr k.toNat) } :=
  State.training_pos train (by rcases steps with e | e <;> rw [e] <;> rfl)
    ((if_neg (by rw [stepping, decide_eq_false (Nat.not_lt.mpr above)]; decide)).trans ((if_neg some_).trans (if_pos all)))

theorem execRateStepComplete_narrows (some_not : (s.base.maskLanes k.toNat failed).length ≠ (s.base.port k.toNat).width) :
    execRateStepComplete k rate failed final s = .next { s with
      base := (s.base.stepBack k.toNat).narrow k.toNat (s.base.maskLanes k.toNat failed) false } :=
  State.training_pos train (by rcases steps with e | e <;> rw [e] <;> rfl)
    ((if_neg (by rw [stepping, decide_eq_false (Nat.not_lt.mpr above)]; decide)).trans ((if_neg some_).trans (if_neg some_not)))

end

theorem execEqFailed_steps_back (above : (s.base.port k.toNat).rate < rate.val) :
    execEqFailed k rate s = .next { s with base := (s.base.stepBack k.toNat).send .eqFailed (0x40 + k.toNat) (portAddr k.toNat) } :=
  State.training_pos train (by rcases steps with e | e <;> rw [e] <;> rfl)
    (if_neg (by rw [stepping, decide_eq_false (Nat.not_le.mpr above)]; decide))

end

/-- Lanes excluded where the present numbering still has a width (R78). -/
theorem Base.narrow_keeps {b : Base} {n w : Nat} {bad : List Nat} (fits : bestWidth ((bad.foldl Base.excludeLane b).laneUsable n)
    ((bad.foldl Base.excludeLane b).laneBase n) ((bad.foldl Base.excludeLane b).laneCount n) ((bad.foldl Base.excludeLane b).port n).offered
    ((bad.foldl Base.excludeLane b).port n).reversed = some (w, ((bad.foldl Base.excludeLane b).port n).reversed)) (inL0 : Bool) :
    b.narrow n bad inL0 = (bad.foldl Base.excludeLane b).numberLanes n w ((bad.foldl Base.excludeLane b).port n).reversed := by
  unfold Base.narrow
  simp only [fits, if_true]

/-! ### EQ_PHASE2_END -/

/-- What phase 2 knows of a lane: its record, the start values stored for it at a rate, and its measurements. -/
structure LanePhase2 where
  lane : Lane
  start : Option Word
  eyes : List LaneEye

/-- One measurement of a lane in phase 2 (R65). -/
def LanePhase2.measure (x : LanePhase2) (count width floor : Nat) (e : LaneEye) : LanePhase2 :=
  if e.lane.toNat < count ∧ x.lane.logical < width then
    if x.start.isSome = true ∧ e.height.toNat < floor then { x with lane := { x.lane with startFrom := none }, start := none }
    else { x with lane := { x.lane with startFrom := x.start, adapt := e.adapt }, eyes := [e] }
  else x

/-- The stored start values of a lane at a rate. -/
def Base.startOf (b : Base) (l rate : Nat) : Option Word := (b.links.eqStart.find? fun x => x.1 == 8 * l + rate).map (·.2)

/-- From `b` to `t` the lanes, the stored start values and the measurements of a port alone change. -/
structure Base.Measures (n : Nat) (b t : Base) : Prop where
  straps : t.links.straps = b.links.straps
  regs : t.regs = b.regs
  port : t.port n = { b.port n with phase2 := (t.port n).phase2 }
  free : t.free = b.free
  out : t.out = b.out

/-- What phase 2 knows of a lane of a port in a state. -/
def Base.phase2Of (t : Base) (n base rate : Nat) (i : BitVec 3) : LanePhase2 :=
  { lane := t.lane (base + i.toNat), start := t.startOf (base + i.toNat) rate, eyes := (t.port n).phase2.filter fun x => x.lane == i }

theorem find?_erase_same (key : Nat) (t : Tab Word) : (Tab.erase key t).find? (fun x => x.1 == key) = none := by
  rw [List.find?_eq_none]
  intro x mem
  exact fun same => bne_iff_ne.mp (List.mem_filter.mp mem).2 (beq_iff_eq.mp same)

theorem find?_erase_other {key k : Nat} (other : k ≠ key) (t : Tab Word) : (Tab.erase key t).find? (fun x => x.1 == k) = t.find? (fun x => x.1 == k) := by
  rw [Tab.erase, List.find?_filter]
  refine congrArg (fun p => t.find? p) (funext fun x => ?_)
  by_cases same : x.1 = k
  · simp [same, other]
  · simp [same]

/-- The start values of a lane at a rate are discarded (R65). -/
def Base.discardStart (t : Base) (l rate : Nat) : Base :=
  { t.updLane l fun x => { x with startFrom := none } with
    links := { (t.updLane l fun x => { x with startFrom := none }).links with eqStart := Tab.erase (8 * l + rate) t.links.eqStart } }

/-- A measurement of a lane is taken (R65). -/
def Base.takeMeasure (t : Base) (n l : Nat) (start : Option Word) (e : LaneEye) : Base :=
  (t.updLane l fun x => { x with startFrom := start, adapt := e.adapt }).updPort n fun p => { p with
    phase2 := p.phase2.filter (fun x => x.lane != e.lane) ++ [e] }

theorem Base.measureLane_eq (t : Base) (n rate : Nat) (e : LaneEye) : t.measureLane n rate e =
    if e.lane.toNat < t.laneCount n ∧ (t.lane (t.laneBase n + e.lane.toNat)).logical < (t.port n).width then
      if (t.startOf (t.laneBase n + e.lane.toNat) rate).isSome = true ∧ e.height.toNat < t.eyeFloor n rate then
        t.discardStart (t.laneBase n + e.lane.toNat) rate
      else t.takeMeasure n (t.laneBase n + e.lane.toNat) (t.startOf (t.laneBase n + e.lane.toNat) rate) e
    else t := rfl

section
variable (t : Base) (n base rate : Nat) (e : LaneEye) (i : BitVec 3)

theorem laneOf_eq {base : Nat} {i j : BitVec 3} : base + i.toNat = base + j.toNat ↔ i = j :=
  ⟨fun same => BitVec.eq_of_toNat_eq (Nat.add_left_cancel same), fun same => by rw [same]⟩

theorem Base.phase2Of_discardStart : (t.discardStart (base + e.lane.toNat) rate).phase2Of n base rate i =
    if i = e.lane then { t.phase2Of n base rate i with lane := { t.lane (base + i.toNat) with startFrom := none }, start := none }
    else t.phase2Of n base rate i := by
  have lane : (t.discardStart (base + e.lane.toNat) rate).lane (base + i.toNat) =
      if i = e.lane then { t.lane (base + i.toNat) with startFrom := none } else t.lane (base + i.toNat) := by
    rw [Base.discardStart, Base.lane_eqStart, Base.lane_updLane]
    by_cases own : i = e.lane
    · rw [if_pos (laneOf_eq.mpr own), if_pos own, own]
    · rw [if_neg (fun same => own (laneOf_eq.mp same)), if_neg own]
  have start : (t.discardStart (base + e.lane.toNat) rate).startOf (base + i.toNat) rate =
      if i = e.lane then none else t.startOf (base + i.toNat) rate := by
    by_cases own : i = e.lane
    · rw [if_pos own, own]
      exact congrArg (Option.map _) (find?_erase_same _ _)
    · rw [if_neg own]
      have other : 8 * (base + i.toNat) + rate ≠ 8 * (base + e.lane.toNat) + rate := fun same => own (laneOf_eq.mp (by omega : base + i.toNat = _))
      exact congrArg (Option.map _) (find?_erase_other other _)
  unfold Base.phase2Of
  rw [lane, start]
  split_ifs <;> rfl

theorem Base.phase2Of_takeMeasure (start : Option Word) : (t.takeMeasure n (base + e.lane.toNat) start e).phase2Of n base rate i =
    if i = e.lane then { t.phase2Of n base rate i with lane := { t.lane (base + i.toNat) with startFrom := start, adapt := e.adapt }, eyes := [e] }
    else t.phase2Of n base rate i := by
  have lane : (t.takeMeasure n (base + e.lane.toNat) start e).lane (base + i.toNat) =
      if i = e.lane then { t.lane (base + i.toNat) with startFrom := start, adapt := e.adapt } else t.lane (base + i.toNat) := by
    rw [Base.takeMeasure, Base.lane_updPort_eq, Base.lane_updLane]
    by_cases own : i = e.lane
    · rw [if_pos (laneOf_eq.mpr own), if_pos own, own]
    · rw [if_neg (fun same => own (laneOf_eq.mp same)), if_neg own]
  have eyes : ((t.takeMeasure n (base + e.lane.toNat) start e).port n).phase2.filter (fun x => x.lane == i) =
      if i = e.lane then [e] else (t.port n).phase2.filter fun x => x.lane == i := by
    have port : ((t.takeMeasure n (base + e.lane.toNat) start e).port n).phase2 = (t.port n).phase2.filter (fun x => x.lane != e.lane) ++ [e] := by
      rw [Base.takeMeasure, Base.port_updPort, if_pos rfl]
      rfl
    rw [port, List.filter_append, List.filter_filter]
    by_cases own : i = e.lane
    · subst own
      simp
    · rw [if_neg own, List.filter_cons_of_neg (by simpa using fun same => own same.symm), List.filter_nil, List.append_nil]
      refine List.filter_congr fun x _ => ?_
      by_cases same : x.lane = i
      · simp [same, own]
      · simp [same]
  unfold Base.phase2Of
  rw [lane, eyes]
  split_ifs <;> rfl

end

section
variable {b t : Base} {n rate : Nat} (h : b.Measures n t) (e : LaneEye)
include h

theorem Base.Measures.laneBase : t.laneBase n = b.laneBase n := by
  rw [Base.laneBase, Base.split, h.straps]
  rfl

theorem Base.Measures.laneCount : t.laneCount n = b.laneCount n := by
  rw [Base.laneCount, Base.split, h.straps]
  rfl

theorem Base.Measures.eyeFloor : t.eyeFloor n rate = b.eyeFloor n rate := by
  unfold Base.eyeFloor Base.rf Base.reg
  rw [h.regs]

theorem Base.Measures.width : (t.port n).width = (b.port n).width := by rw [h.port]

theorem Base.Measures.measureLane : b.Measures n (t.measureLane n rate e) := by
  obtain ⟨straps, regs, port, free, out⟩ := h
  unfold Base.measureLane
  dsimp only
  split_ifs
  · exact ⟨straps, regs, port, free, out⟩
  · refine ⟨straps, regs, ?_, free, out⟩
    rw [Base.port_updPort, if_pos rfl]
    exact congrArg (fun p : Port => { p with phase2 := (t.port n).phase2.filter (fun x : LaneEye => x.lane != e.lane) ++ [e] }) port
  · exact ⟨straps, regs, port, free, out⟩

theorem Base.phase2Of_measureLane (i : BitVec 3) : (t.measureLane n rate e).phase2Of n (b.laneBase n) rate i =
    if i = e.lane then (t.phase2Of n (b.laneBase n) rate i).measure (b.laneCount n) (b.port n).width (b.eyeFloor n rate) e
    else t.phase2Of n (b.laneBase n) rate i := by
  rw [← h.laneBase, ← h.laneCount, ← h.width, ← h.eyeFloor, Base.measureLane_eq, LanePhase2.measure]
  by_cases own : i = e.lane
  · subst own
    rw [if_pos rfl]
    refine (apply_ite (fun u : Base => u.phase2Of n (t.laneBase n) rate e.lane) _ _ _).trans (if_congr Iff.rfl ?_ rfl)
    refine (apply_ite (fun u : Base => u.phase2Of n (t.laneBase n) rate e.lane) _ _ _).trans (if_congr Iff.rfl ?_ ?_)
    · exact (t.phase2Of_discardStart n _ rate e e.lane).trans (if_pos rfl)
    · exact (t.phase2Of_takeMeasure n _ rate e e.lane _).trans (if_pos rfl)
  · rw [if_neg own]
    split_ifs
    · exact (t.phase2Of_discardStart n _ rate e i).trans (if_neg own)
    · exact (t.phase2Of_takeMeasure n _ rate e i _).trans (if_neg own)
    · rfl

end

/-- What the measurements of phase 2, no lane twice among them, leave of a measured lane. -/
theorem Base.phase2Of_foldl (b : Base) (n rate : Nat) {eyes : List LaneEye} (once : (eyes.map fun e => e.lane).Nodup) {e : LaneEye} (mem : e ∈ eyes) :
    (eyes.foldl (fun t e => t.measureLane n rate e) b).phase2Of n (b.laneBase n) rate e.lane =
      (b.phase2Of n (b.laneBase n) rate e.lane).measure (b.laneCount n) (b.port n).width (b.eyeFloor n rate) e :=
  (foldl_keyed (I := b.Measures n) (read := fun t i => t.phase2Of n (b.laneBase n) rate i) (key := fun e : LaneEye => e.lane)
    (f := fun t e => t.measureLane n rate e) (g := fun e x => x.measure (b.laneCount n) (b.port n).width (b.eyeFloor n rate) e)
    (fun _ e h => h.measureLane e) (fun _ e i h => Base.phase2Of_measureLane h e i) eyes (s := b) ⟨rfl, rfl, rfl, rfl, rfl⟩).2 once e mem

section
variable {s : State} {k : PortBlk} {rate : Fin 6} {eyes : List LaneEye} (train : s.base.canTrain k.toNat = true)

/-- Phase 2 has begun: settings of the host's transmitter are asked for (R64). -/
def Base.phase2Begun (b : Base) (k : PortBlk) (rate : Nat) : Base :=
  (b.takeFree.2.emit (.txRequest k rate (Config.freeNat b.free))).setPort k.toNat { b.port k.toNat with
    link := if (b.port k.toNat).link == .recoveryEq then .recoveryEq else .rateStep
    phase2Rate := rate
    phase2 := if (b.port k.toNat).phase2Rate = rate then (b.port k.toNat).phase2 else [] }

/-- The port after phase 2. -/
def Base.phase2Ended (b : Base) (k : PortBlk) (rate : Nat) (eyes : List LaneEye) : Base :=
  eyes.foldl (fun t e => t.measureLane k.toNat rate e) (b.phase2Begun k rate)

/-- Phase 2 may end at a rate: of a step above the present rate, or of a re-equalisation at it (R64, R65). -/
def Port.inPhase2 (p : Port) (rate : Nat) : Prop :=
  ((p.link = .l0 ∨ p.link = .rateStep) ∧ p.stepping = true ∧ p.rate < rate) ∨ (p.link = .recoveryEq ∧ p.rate = rate)

include train in
theorem execEqPhase2End_ends (fast : 2 ≤ rate.val) (at_ : (s.base.port k.toNat).inPhase2 rate.val) :
    execEqPhase2End k rate eyes s = .next { s with base := s.base.phase2Ended k rate.val eyes } := by
  refine State.training_pos train ?_ (if_neg ?_)
  · rcases at_ with ⟨e | e, -, -⟩ | ⟨e, -⟩ <;> rw [e] <;> rfl
  · rcases at_ with ⟨link, stepping, above⟩ | ⟨link, same⟩
    · have first : ((s.base.port k.toNat).link == LinkState.recoveryEq) = false := by rcases link with e | e <;> rw [e] <;> rfl
      simp only [first, stepping, Bool.false_eq_true, if_false, reduceCtorEq, false_or]
      omega
    · have again : ((s.base.port k.toNat).link == LinkState.recoveryEq) = true := by rw [link]; rfl
      simp only [again, if_true, ne_eq, same, not_true_eq_false, or_false]
      omega

theorem Base.measures_phase2Ended (b : Base) (k : PortBlk) (rate : Nat) (eyes : List LaneEye) :
    (b.phase2Begun k rate).Measures k.toNat (b.phase2Ended k rate eyes) :=
  List.foldlRecOn (motive := (b.phase2Begun k rate).Measures k.toNat) eyes _ ⟨rfl, rfl, rfl, rfl, rfl⟩ fun _ h e _ => h.measureLane e

theorem Base.port_phase2Begun (b : Base) (k : PortBlk) (rate : Nat) : (b.phase2Begun k rate).port k.toNat = { b.port k.toNat with
    link := if (b.port k.toNat).link == .recoveryEq then .recoveryEq else .rateStep
    phase2Rate := rate
    phase2 := if (b.port k.toNat).phase2Rate = rate then (b.port k.toNat).phase2 else [] } :=
  (Base.port_setPort ..).trans (if_pos rfl)

theorem Base.port_phase2Ended (b : Base) (k : PortBlk) (rate : Nat) (eyes : List LaneEye) :
    ((b.phase2Ended k rate eyes).port k.toNat).phase2Rate = rate ∧
      ((b.phase2Ended k rate eyes).port k.toNat).link = if (b.port k.toNat).link = .recoveryEq then .recoveryEq else .rateStep := by
  rw [(b.measures_phase2Ended k rate eyes).port, b.port_phase2Begun]
  exact ⟨rfl, if_congr beq_iff_eq rfl rfl⟩

theorem Base.measured_phase2Ended {b : Base} {k : PortBlk} {rate : Nat} (once : (eyes.map fun e => e.lane).Nodup) {e : LaneEye} (mem : e ∈ eyes)
    (placed : e.lane.toNat < b.laneCount k.toNat) (inside : (b.lane (b.laneBase k.toNat + e.lane.toNat)).logical < (b.port k.toNat).width) :
    (b.startOf (b.laneBase k.toNat + e.lane.toNat) rate = none ∨ b.eyeFloor k.toNat rate ≤ e.height.toNat →
      e ∈ ((b.phase2Ended k rate eyes).port k.toNat).phase2 ∧ (b.phase2Ended k rate eyes).lane (b.laneBase k.toNat + e.lane.toNat) =
        { b.lane (b.laneBase k.toNat + e.lane.toNat) with
          startFrom := b.startOf (b.laneBase k.toNat + e.lane.toNat) rate, adapt := e.adapt }) ∧
    (b.startOf (b.laneBase k.toNat + e.lane.toNat) rate ≠ none → e.height.toNat < b.eyeFloor k.toNat rate →
      (b.phase2Ended k rate eyes).lane (b.laneBase k.toNat + e.lane.toNat) =
        { b.lane (b.laneBase k.toNat + e.lane.toNat) with startFrom := none }) := by
  have measured := (b.phase2Begun k rate).phase2Of_foldl k.toNat rate once mem
  have width : ((b.phase2Begun k rate).port k.toNat).width = (b.port k.toNat).width := by rw [b.port_phase2Begun]
  rw [width, LanePhase2.measure] at measured
  have chosen : e.lane.toNat < (b.phase2Begun k rate).laneCount k.toNat ∧
      ((b.phase2Begun k rate).phase2Of k.toNat ((b.phase2Begun k rate).laneBase k.toNat) rate e.lane).lane.logical < (b.port k.toNat).width :=
    ⟨placed, inside⟩
  rw [if_pos chosen] at measured
  refine ⟨fun kept => ?_, fun stored low => ?_⟩
  · have keeps : ¬ (((b.phase2Begun k rate).phase2Of k.toNat ((b.phase2Begun k rate).laneBase k.toNat) rate e.lane).start.isSome = true ∧
        e.height.toNat < (b.phase2Begun k rate).eyeFloor k.toNat rate) := by
      rintro ⟨some_, low⟩
      rcases kept with none_ | high
      · exact Option.isSome_iff_ne_none.mp some_ none_
      · exact Nat.not_lt.mpr high low
    rw [if_neg keeps] at measured
    have only : ((b.phase2Ended k rate eyes).port k.toNat).phase2.filter (fun x => x.lane == e.lane) = [e] := congrArg LanePhase2.eyes measured
    exact ⟨List.mem_of_mem_filter (only ▸ List.mem_cons_self), congrArg LanePhase2.lane measured⟩
  · rw [if_pos ⟨Option.isSome_iff_ne_none.mpr stored, low⟩] at measured
    exact congrArg LanePhase2.lane measured

/-! ### PHASE3_PRESET_REQUEST -/

variable {set : TxSetting} (phase3 : (s.base.port k.toNat).link = .rateStep ∨ (s.base.port k.toNat).link = .recoveryEq)
  (equalises : 2 ≤ (s.base.port k.toNat).phase2Rate)
include train phase3 equalises

theorem execPhase3PresetRequest_answers : execPhase3PresetRequest k set s = .next { s with
    base := (if txAccepted (s.base.port k.toNat).phase2Rate set then s.base.setPort k.toNat { s.base.port k.toNat with tx := some set }
      else s.base).emit (.presetAnswer k (txAccepted (s.base.port k.toNat).phase2Rate set)) } :=
  State.training_pos train (by rcases phase3 with e | e <;> rw [e] <;> rfl) (if_neg (Nat.not_lt.mpr equalises))

end

/-! ### FLIT_RECEIVED -/

section
variable (b : Base) (n : Nat) (f : Flit)

/-- A port that has taken a flit (R53, R61, R67, R119). -/
def Port.goodFlit (p : Port) (f : Flit) (now : Nat) : Port :=
  { p with
    flitsRx := p.flitsRx + 1, badRun := 0, goodRun := p.goodRun + 1, slot := [], flitAt := now
    idleRun := if f.idle then p.idleRun + 1 else 0, frozen := f.idle && p.frozen }

/-- The counter of corrected flits at 64 GT/s. -/
def Base.fecCounted : Base := if (b.port n).rate = 5 ∧ f.corrected = true then b.bump (Reg.FEC_CORRECTED_COUNT n) else b

/-- The flits that the link partner asks for again, in the order in which they leave. -/
def Port.again (p : Port) (f : Flit) : List Emit := (p.replay.take f.resend).reverse

/-- A good flit taken, and what the link partner asks for sent again (R53). -/
def Base.flitTaken : Base :=
  let again := (b.port n).again f
  let taken := (b.fecCounted n f).setPort n ((b.port n).goodFlit f b.now)
  if again = [] then taken
  else (again.foldl Base.emit (taken.bump (Reg.REPLAY_COUNT n))).updPort n fun p => { p with flitsReplayed := p.flitsReplayed + again.length }

theorem Base.fecCounted_links : (b.fecCounted n f).links = b.links := by
  unfold Base.fecCounted
  split_ifs <;> rfl

theorem Base.fecCounted_now : (b.fecCounted n f).now = b.now := by
  unfold Base.fecCounted
  split_ifs <;> rfl

theorem Base.port_foldl_emit (b : Base) (l : List Emit) (j : Nat) : (l.foldl Base.emit b).port j = b.port j :=
  foldl_keeps (fun b : Base => b.port j) Base.emit (fun _ _ => rfl) l b

theorem Base.port_goodFlit (j : Nat) : ((b.fecCounted n f).setPort n ((b.port n).goodFlit f b.now)).port j =
    if j = n then (b.port n).goodFlit f b.now else b.port j := by
  rw [Base.port_setPort]
  exact if_congr Iff.rfl rfl (congrArg (fun x : Links => Tab.get ({} : Port) x.ports j) (b.fecCounted_links n f))

/-- The port that took the flit, but for its count of flits sent again; no other port changes. -/
theorem Base.port_flitTaken : (∃ replayed, (b.flitTaken n f).port n = { (b.port n).goodFlit f b.now with flitsReplayed := replayed }) ∧
    ∀ j, j ≠ n → (b.flitTaken n f).port j = b.port j := by
  unfold Base.flitTaken
  extract_lets again taken
  have own : taken.port n = (b.port n).goodFlit f b.now := (b.port_goodFlit n f n).trans (if_pos rfl)
  have others (j : Nat) (ne : j ≠ n) : taken.port j = b.port j := (b.port_goodFlit n f j).trans (if_neg ne)
  have sent (j : Nat) : (again.foldl Base.emit (taken.bump (Reg.REPLAY_COUNT n))).port j = taken.port j := Base.port_foldl_emit ..
  clear_value taken
  split_ifs
  · exact ⟨⟨(b.port n).flitsReplayed, own⟩, others⟩
  · refine ⟨⟨(b.port n).flitsReplayed + again.length, ?_⟩, fun j ne => ?_⟩
    · rw [Base.port_updPort, if_pos rfl, sent, own]
      rfl
    · rw [Base.port_updPort, if_neg ne, sent, others j ne]

theorem Base.macFlit_open {t : Base} (plain : (t.port n).ide ≠ 1) (ok : Bool) : t.macFlit n ok = t := if_pos (bne_iff_ne.mpr plain)

/-- The flits of a MAC epoch (R114). -/
def Port.epochFlits (p : Port) : Nat := if p.flitFormat = 1 then 5 else p.ideAgg

/-- A port whose stream has become insecure (R115). -/
def Base.insecure (t : Base) (n : Nat) : Base :=
  (t.updPort n fun p => { p with ideFlits := 0 }).updPort n fun p => { p with ide := 2, ideFlits := 0, unverified := [], slot := [] }

theorem Base.port_insecure (t : Base) (n : Nat) : (t.insecure n).port n = { t.port n with ide := 2, ideFlits := 0, unverified := [], slot := [] } ∧
    ∀ j, j ≠ n → (t.insecure n).port j = t.port j := by
  refine ⟨?_, fun j ne => ?_⟩
  · rw [Base.insecure, Base.port_updPort, if_pos rfl, Base.port_updPort, if_pos rfl]
  · rw [Base.insecure, Base.port_updPort, if_neg ne, Base.port_updPort, if_neg ne]

section
variable {t : Base} {n : Nat} (secure : (t.port n).ide = 1)
include secure

theorem Base.macFlit_counts (more : (t.port n).ideFlits + 1 < (t.port n).epochFlits) (ok : Bool) :
    t.macFlit n ok = t.updPort n fun p => { p with ideFlits := p.ideFlits + 1 } :=
  (if_neg (by rw [secure]; decide)).trans (if_pos more)

variable (last : (t.port n).epochFlits ≤ (t.port n).ideFlits + 1)
include last

theorem Base.macFlit_releases : t.macFlit n true = (t.updPort n fun p => { p with ideFlits := 0 }).releaseEpoch n :=
  (if_neg (by rw [secure]; decide)).trans ((if_neg (Nat.not_lt.mpr last)).trans (if_pos rfl))

theorem Base.macFlit_fails : t.macFlit n false = (t.insecure n).send .ideIntegrityFail (0xA0 + n) (portAddr n) :=
  (if_neg (by rw [secure]; decide)).trans ((if_neg (Nat.not_lt.mpr last)).trans (if_neg (by decide)))

end

end

section
variable {s : State} {k : PortBlk} {f : Flit} (train : s.base.canTrain k.toNat = true)
  (up : (s.base.port k.toNat).link = .l0 ∨ (s.base.port k.toNat).link = .l0p)
include train up

section
variable (flits : (s.base.port k.toNat).flitFormat ≠ 0)
include flits

theorem execFlitReceived_fails (fast : (s.base.port k.toNat).rate = 5) (crc : f.crcOk = false) :
    execFlitReceived k f s = .next { s with
      base := (((s.base.fecCounted k.toNat f).setPort k.toNat { s.base.port k.toNat with
        flitsRx := (s.base.port k.toNat).flitsRx + 1, badRun := (s.base.port k.toNat).badRun + 1, goodRun := 0
        flitsReplayed := (s.base.port k.toNat).flitsReplayed + 1 }).bump (Reg.REPLAY_COUNT k.toNat)).emit (.replay k) } := by
  refine State.training_pos train (by rcases up with e | e <;> rw [e] <;> rfl) ((if_neg flits).trans ((if_pos ?_).trans ?_))
  · rw [fast, crc]
    rfl
  · simp only [Base.fecCounted, Bool.and_eq_true, beq_iff_eq]

theorem execFlitReceived_takes (good : (s.base.port k.toNat).rate ≠ 5 ∨ f.crcOk = true) :
    execFlitReceived k f s = .next { s with base := (s.base.flitTaken k.toNat f).macFlit k.toNat f.macOk } := by
  refine State.training_pos train (by rcases up with e | e <;> rw [e] <;> rfl) ((if_neg flits).trans ((if_neg ?_).trans ?_))
  · rcases good with slow | crc
    · simp [slow]
    · simp [crc]
  · unfold Base.flitTaken
    rw [← s.base.fecCounted_now k.toNat f]
    simp only [Base.fecCounted, Bool.and_eq_true, beq_iff_eq]
    rfl

end

theorem execFlitAlignment_aligns (fast : (s.base.port k.toNat).rate = 5) (run : 4 ≤ (s.base.port k.toNat).goodRun) :
    execFlitAlignment k s = .next { s with base := s.base.setPort k.toNat { s.base.port k.toNat with aligned := true } } :=
  State.training_pos train (by rcases up with e | e <;> rw [e] <;> rfl) (if_pos ⟨fast, run⟩)

theorem execAdaptFreeze_freezes (idle : 1024 ≤ (s.base.port k.toNat).idleRun) :
    execAdaptFreeze k s = .next { s with base := s.base.setPort k.toNat { s.base.port k.toNat with frozen := true } } :=
  State.training_pos train (by rcases up with e | e <;> rw [e] <;> rfl) (if_pos idle)

end

/-- Settles O14: the rate step, phase 2 lane by lane, phase 3, and a flit by its check and its MAC epoch. -/
theorem ratesAndFlits : Obligations.rates_and_flits := by
  unfold Obligations.rates_and_flits
  refine ⟨fun s k rate failed final eyes set train => ?_, fun s k f train up => ?_⟩
  · intro n b p bad back failedEq lane start
    refine ⟨fun steps stepping above => ⟨fun all => ?_, execRateStepComplete_fails train steps stepping above,
        fun some_ some_not => ⟨execRateStepComplete_narrows train steps stepping above some_ some_not, fun w fits => Base.narrow_keeps fits false⟩⟩,
      fun steps stepping above => execEqFailed_steps_back train steps stepping above, fun fast at_ => ?_,
      fun phase3 equalises => ⟨fun ok => ?_, fun no => ?_⟩, fun r i w => ⟨rfl, rfl⟩⟩
    · exact ⟨b.stepped n rate.val final, execRateStepComplete_steps train steps stepping above all, b.port_stepped n _ _, (b.trains_stepped n _ _).eq,
        b.locks_stepped n _ _, fun measured once e mem inside => b.baseline_stepped n _ _ measured once mem inside⟩
    · obtain ⟨rate2, link⟩ := b.port_phase2Ended k rate.val eyes
      have measures := b.measures_phase2Ended k rate.val eyes
      exact ⟨b.phase2Ended k rate.val eyes, execEqPhase2End_ends train fast at_, measures.free, measures.out, rate2, link,
        fun once e mem placed inside => Base.measured_phase2Ended once mem placed inside⟩
    · exact (execPhase3PresetRequest_answers train phase3 equalises).trans (by rw [ok]; rfl)
    · exact (execPhase3PresetRequest_answers train phase3 equalises).trans (by rw [no]; rfl)
  · intro n b p c good bad again passed agg
    obtain ⟨⟨replayed, taken⟩, others⟩ := b.port_flitTaken n f
    have ide : ((b.flitTaken n f).port n).ide = p.ide := by rw [taken]; rfl
    have flitsOf : ((b.flitTaken n f).port n).ideFlits = p.ideFlits := by rw [taken]; rfl
    have epoch : ((b.flitTaken n f).port n).epochFlits = agg := by rw [taken]; rfl
    refine ⟨execFlitReceived_fails train up, fun flits ok => ?_, execFlitAlignment_aligns train up, execAdaptFreeze_freezes train up⟩
    have takes := execFlitReceived_takes train up flits ok
    refine ⟨fun plain => ?_, fun secure more => ?_, fun secure last mac => ?_, fun secure last mac => ?_⟩
    · rw [Base.macFlit_open n (fun e => plain (ide ▸ e))] at takes
      exact takes
    · rw [Base.macFlit_counts (ide.trans secure) (by rw [flitsOf, epoch]; exact more)] at takes
      exact takes
    · rw [mac, Base.macFlit_releases (ide.trans secure) (by rw [flitsOf, epoch]; exact last)] at takes
      exact takes
    · rw [mac, Base.macFlit_fails (ide.trans secure) (by rw [flitsOf, epoch]; exact last)] at takes
      obtain ⟨own, rest⟩ := (b.flitTaken n f).port_insecure n
      exact ⟨(b.flitTaken n f).insecure n, takes, by rw [own], by rw [own], by rw [own, taken]; rfl, rfl, fun j ne => (rest j ne).trans (others j ne)⟩

end Sys2Proof.Machine
end

section
/-! SUPPORT. Recovery of a link (R61, R62, R65, R70, R71, R78, R84, R88). -/

namespace Sys2Proof.Machine

/-! ### Requests for a Recovery -/

section
variable (b : Base) (n : Nat)

/-- The Recoveries of a port within the last second (R84). -/
def Base.recentRecoveries : List Nat := (b.port n).recoveries.filter fun t => b.now < t + 1000000000

/-- The lanes of the width that L0p had left idle. -/
def Base.idleLanes : List Nat :=
  (b.lanesOf n).filter fun l => decide ((b.port n).activeWidth ≤ (b.lane l).logical) && decide ((b.lane l).logical < (b.port n).width)

/-- A Recovery entered, with re-equalisation or without it, counted and told to the host (R71). -/
def Base.inRecovery (reeq : Bool) : Base :=
  (((b.lockLanes (b.idleLanes n) (b.port n).rate).setPort n { b.port n with
    link := if reeq then .recoveryEq else .recovery, activeWidth := (b.port n).width, recoveries := (b.now :: b.recentRecoveries n).take 9
    frozen := false, idleRun := 0, phase2 := [] }).bump (Reg.RECOVERY_COUNT n)).emit (.recovery (BitVec.ofNat 4 n) reeq)

variable {b n}

theorem Base.lockLanes_now (b : Base) (ls : List Nat) (rate : Nat) : (b.lockLanes ls rate).now = b.now := by
  obtain ⟨_, _, same⟩ := (Base.LinksOnly.refl b).lockLanes ls rate
  rw [same]
  rfl

theorem Base.enterRecovery_enters (up : (b.port n).link = .l0 ∨ (b.port n).link = .l0p) (reeq : Bool) : b.enterRecovery n reeq =
    if (b.recentRecoveries n).length = 8 then (b.inRecovery n reeq).send .recoveryStorm (0x40 + n) (portAddr n) else b.inRecovery n reeq := by
  have other : ¬ ((b.port n).link = .recovery ∧ reeq = true) := by rcases up with e | e <;> rw [e] <;> simp
  unfold Base.enterRecovery
  dsimp only
  rw [if_neg other, if_pos up, Base.lockLanes_now]
  rfl

section
variable (runs : (b.port n).link = .recovery)
include runs

theorem Base.enterRecovery_joins : b.enterRecovery n false = b :=
  (if_neg (by simp)).trans (if_neg (by rw [runs]; simp))

theorem Base.enterRecovery_owes (earlier : (b.port n).recoveries.head? ≠ some b.now ∨ (b.port n).exiting = true) :
    b.enterRecovery n true = b.setPort n { b.port n with reeqOwed := true } := by
  refine (if_pos ⟨runs, rfl⟩).trans (if_neg ?_)
  rintro ⟨same, first⟩
  rcases earlier with old | exits
  · exact old same
  · rw [exits] at first
    cases first

theorem Base.enterRecovery_turns (same : (b.port n).recoveries.head? = some b.now) (entered : (b.port n).exiting = false) :
    b.enterRecovery n true = { b.setPort n { b.port n with link := .recoveryEq } with
      out := replaceFirst (fun e => e == .recovery (BitVec.ofNat 4 n) false) (.recovery (BitVec.ofNat 4 n) true) b.out } :=
  (if_pos ⟨runs, rfl⟩).trans (if_pos ⟨same, entered⟩)

end

theorem Base.enterRecovery_lapses (l0 : (b.port n).link ≠ .l0) (l0p : (b.port n).link ≠ .l0p) (recovery : (b.port n).link ≠ .recovery) (reeq : Bool) :
    b.enterRecovery n reeq = b :=
  (if_neg fun h => recovery h.1).trans (if_neg fun h => h.elim l0 l0p)

end

/-! ### Commands that ask for one -/

section
variable {s : State} {k : PortBlk} {l : LaneId}

theorem execAlignmentLost_recovers (train : s.base.canTrain k.toNat = true)
    (up : (s.base.port k.toNat).link = .l0 ∨ (s.base.port k.toNat).link = .l0p) (fast : (s.base.port k.toNat).rate = 5)
    (aligned : (s.base.port k.toNat).aligned = true) (run : 8 ≤ (s.base.port k.toNat).badRun) :
    execAlignmentLost k s = .next { s with
      base := ((s.base.setPort k.toNat { s.base.port k.toNat with aligned := false, badRun := 0 }).send .alignmentLost (0x40 + k.toNat)
        (portAddr k.toNat)).enterRecovery k.toNat false } :=
  State.training_pos train (by rcases up with e | e <;> rw [e] <;> rfl) (if_pos ⟨fast, aligned, run⟩)

/-- The base state once a lane has lost block lock, counted for its port and for the lane (R61). -/
def Base.lockLost (b : Base) (l : Nat) : Base :=
  ((b.setLane l { b.lane l with blockLock := false }).bump (Reg.LOCK_LOSS_COUNT (b.blockOfLane l))).bump (Reg.LANE_ERR_COUNT l)

theorem execLockLost_recovers (train : s.base.canTrain (s.base.blockOfLane l.toNat) = true)
    (runs : (s.base.port (s.base.blockOfLane l.toNat)).link = .l0 ∨ (s.base.port (s.base.blockOfLane l.toNat)).link = .l0p ∨
      (s.base.port (s.base.blockOfLane l.toNat)).link = .recovery ∨ (s.base.port (s.base.blockOfLane l.toNat)).link = .recoveryEq)
    (low : 2 ≤ (s.base.port (s.base.blockOfLane l.toNat)).rate) (high : (s.base.port (s.base.blockOfLane l.toNat)).rate ≤ 4)
    (inside : (s.base.lane l.toNat).logical < (s.base.port (s.base.blockOfLane l.toNat)).activeWidth)
    (locked : (s.base.lane l.toNat).blockLock = true) :
    execLockLost l s = .next { s with
      base := ((s.base.lockLost l.toNat).send .lockLost l.toNat (laneAddr l.toNat)).enterRecovery (s.base.blockOfLane l.toNat) false } :=
  State.training_pos train (by rcases runs with e | e | e | e <;> rw [e] <;> rfl) (if_pos ⟨low, high, inside, locked⟩)

theorem execHostRecoveryRequest_requests (train : s.base.canTrain k.toNat = true) (reeq : Bool) :
    execHostRecoveryRequest k reeq s = .next { s with base := s.base.enterRecovery k.toNat reeq } :=
  State.training_pos train rfl rfl

theorem execPortRequests (full : s.base.mgmtFull = true) (present : s.base.present_ k.toNat = true) :
    execPortRetrain k s = .next { s with base := s.base.enterRecovery k.toNat false } ∧
      execPortReeq k s = .next { s with base := s.base.enterRecovery k.toNat true } :=
  ⟨State.whenBase_pos (by rw [full, present]; rfl) rfl, State.whenBase_pos (by rw [full, present]; rfl) rfl⟩

end

/-! ### What an end of Recovery leaves of the port -/

/-- The link, the rate and the Recovery owed of a port. -/
def Port.standing (p : Port) : LinkState × Nat × Bool := (p.link, p.rate, p.reeqOwed)

section
variable (b : Base) (n : Nat)

theorem Base.standing_updPort {f : Port → Port} (keeps : ∀ p, (f p).standing = p.standing) (j : Nat) :
    ((b.updPort n f).port j).standing = (b.port j).standing := by
  rw [Base.port_updPort]
  split_ifs with own
  · rw [keeps, own]
  · rfl

theorem Base.standing_setPort {p : Port} (keeps : p.standing = (b.port n).standing) (j : Nat) :
    ((b.setPort n p).port j).standing = (b.port j).standing := by
  rw [Base.port_setPort]
  split_ifs with own
  · rw [keeps, own]
  · rfl

theorem Base.port_of_links {t : Base} (same : t.links = b.links) (j : Nat) : t.port j = b.port j :=
  congrArg (fun x : Links => Tab.get ({} : Port) x.ports j) same

theorem Base.standing_reportWidth (j : Nat) : ((b.reportWidth n).port j).standing = (b.port j).standing := by
  have told : ((b.setPort n { b.port n with narrowed := false }).port j).standing = (b.port j).standing := by
    refine b.standing_setPort n ?_ j
    rfl
  unfold Base.reportWidth
  dsimp only
  split_ifs
  · rw [Base.port_of_links _ (Base.send_links ..)]
    exact told
  · exact told
  · rfl

theorem Base.standing_releaseSnoops (j : Nat) : ((b.releaseSnoops n).port j).standing = (b.port j).standing := by
  unfold Base.releaseSnoops
  extract_lets due sent go
  show (sent.port j).standing = (b.port j).standing
  refine foldl_keeps (fun t : Base => (t.port j).standing) _ (fun t e => ?_) due b
  exact Base.standing_updPort (t.emit (.biSnp (BitVec.ofNat 4 n) e.2.host e.2.kind e.1)) n
    (f := fun x => x.sent (.biSnp (BitVec.ofNat 4 n) e.2.host e.2.kind e.1)) (fun _ => rfl) j

theorem Port.standing_foldl_sent (l : List Emit) (p : Port) : (l.foldl Port.sent p).standing = p.standing :=
  foldl_keeps Port.standing Port.sent (fun _ _ => rfl) l p

theorem Base.standing_flushLink (j : Nat) : ((b.flushLink n).port j).standing = (b.port j).standing := by
  unfold Base.flushLink
  dsimp only
  split_ifs
  · rw [Base.standing_releaseSnoops, Base.port_foldl_emit]
    refine b.standing_setPort n ?_ j
    exact (Port.standing_foldl_sent ..).trans rfl
  · rfl

theorem Base.standing_enterL0 : ((b.enterL0 n).port n).standing = (.l0, (b.port n).rate, (b.port n).reeqOwed) := by
  unfold Base.enterL0
  extract_lets p first up told
  have ups : (up.port n).standing = (.l0, p.rate, p.reeqOwed) := by
    rw [Base.port_setPort, if_pos rfl]
    rfl
  have tells : told.port n = up.port n := by
    show (if first = true then up.emit _ else up).port n = up.port n
    split_ifs <;> rfl
  rw [Base.standing_flushLink, Base.standing_reportWidth, tells, ups]

theorem Base.standing_checkRate (j : Nat) : ((b.checkRate n).port j).standing = (b.port j).standing := by
  unfold Base.checkRate
  split_ifs
  · rw [Base.port_of_links _ (Base.send_links ..)]
  · rfl

theorem Base.port_refreshActive (j : Nat) : (b.refreshActive n).port j = b.port j := by
  refine foldl_keeps (fun t : Base => t.port j) _ (fun t h => ?_) _ b
  split_ifs
  · rfl
  · exact Base.port_of_links _ (Base.msixHost_links ..) j

end

/-! ### RECOVERY_COMPLETE -/

section
variable {s : State} {k : PortBlk} {rate : Fin 6} {failed : BitVec 8}

/-- The end of a re-equalisation has set the new baselines (R65). -/
def Base.reequalised (b : Base) (n : Nat) : Base := if (b.port n).link = .recoveryEq then b.endPhase3 n (b.port n).rate true else b

/-- The lanes that a Recovery leaves out: those without lock, and those whose new baseline is below the floor (R70, R78). -/
def Base.badLanes (b : Base) (n : Nat) (lost : List Nat) : List Nat :=
  lost ++ ((b.reequalised n).activeLanes n).filter fun l => ((b.reequalised n).lane l).belowFloor && !lost.contains l

/-- The port as it goes on after a Recovery, at the width that is left. -/
def Base.recovered (b : Base) (n : Nat) (lost : List Nat) : Base :=
  if b.badLanes n lost = [] then b.reequalised n else (b.reequalised n).narrow n (b.badLanes n lost) true

/-- The port in L0 at the rate settled on, its lanes locked (R71). -/
def Base.lockedAt (b : Base) (n rate : Nat) : Base := b.lockLanes (b.activeLanes n) rate

def Base.resumed (b : Base) (n rate : Nat) : Base :=
  ((b.lockedAt n rate).setPort n { (b.lockedAt n rate).port n with rate := rate, reeqOwed := false, goodRun := 0, badRun := 0, aligned := false }).enterL0 n

/-- The end of a Recovery: a change of the rate is checked, and the label extension follows it (R52, R117). -/
def Base.recoveryEnded (b : Base) (n rate : Nat) : Base :=
  if rate = (b.port n).rate then b.resumed n rate else ((b.resumed n rate).checkRate n).refreshActive n

section
variable (b : Base) (n r : Nat)

theorem Base.standing_recoveryEnded : ((b.recoveryEnded n r).port n).standing = (.l0, r, false) := by
  have resumes : ((b.resumed n r).port n).standing = (.l0, r, false) := by
    rw [Base.resumed, Base.standing_enterL0, Base.port_setPort, if_pos rfl]
  unfold Base.recoveryEnded
  split_ifs
  · exact resumes
  · rw [Base.port_refreshActive, Base.standing_checkRate, resumes]

theorem Base.locks_lockedAt {l : Nat} (active : l ∈ b.activeLanes n) :
    ((b.lockedAt n r).lane l).bitLock = true ∧ ((b.lockedAt n r).lane l).blockLock = decide (2 ≤ r) := by
  rw [Base.lockedAt, b.lane_lockLanes (b.nodup_activeLanes n), if_pos active]
  exact ⟨rfl, rfl⟩

end

/-- What follows of a port whose link stands: it resumes, and a Recovery that was owed begins (R71). -/
def Base.goesOn (b : Base) (n rate : Nat) : Base :=
  if !(b.port n).linked then b
  else
    let c := b.lockLanes (b.activeLanes n) rate
    let owed := (c.port n).reeqOwed
    let moved := rate ≠ (c.port n).rate
    let d := (c.updPort n fun p => { p with rate := rate, reeqOwed := false, goodRun := 0, badRun := 0, aligned := false }).enterL0 n
    let e := if moved then (d.checkRate n).refreshActive n else d
    if owed then e.enterRecovery n true else e

section
variable {b : Base} {n r : Nat}

theorem Base.goesOn_down (down : (b.port n).linked = false) : b.goesOn n r = b := if_pos (by rw [down]; rfl)

theorem Base.goesOn_up (up : (b.port n).linked = true) :
    b.goesOn n r = if (b.port n).reeqOwed then (b.recoveryEnded n r).enterRecovery n true else b.recoveryEnded n r := by
  have ports := b.port_lockLanes (b.activeLanes n) r n
  unfold Base.goesOn Base.recoveryEnded Base.resumed Base.lockedAt
  rw [if_neg (by rw [up]; decide)]
  dsimp only
  rw [ports, ite_not]
  simp only [Base.updPort, ports]

end

section
variable (train : s.base.canTrain k.toNat = true)
  (runs : (s.base.port k.toNat).link = .recovery ∨ (s.base.port k.toNat).link = .recoveryEq)
include train runs

theorem execRecoveryComplete_lost (all : (s.base.maskLanes k.toNat failed).length = (s.base.port k.toNat).width) :
    execRecoveryComplete k rate failed s = .next { s with base := s.base.linkDownTo k.toNat .detect false } :=
  State.training_pos train (by rcases runs with e | e <;> rw [e] <;> rfl) (if_pos all)

theorem execRecoveryComplete_goesOn (some_ : (s.base.maskLanes k.toNat failed).length ≠ (s.base.port k.toNat).width) :
    execRecoveryComplete k rate failed s = .next { s with
      base := (s.base.recovered k.toNat (s.base.maskLanes k.toNat failed)).goesOn k.toNat rate.val } :=
  State.training_pos train (by rcases runs with e | e <;> rw [e] <;> rfl) ((if_neg some_).trans rfl)

end

end

/-- Settles O15: a request for a Recovery by the port's state, the commands that make one, and the end of a Recovery by what it leaves. -/
theorem recoveryOfALink : Obligations.recovery_of_a_link := by
  unfold Obligations.recovery_of_a_link
  refine ⟨fun s k l => ?_, fun s k reeq => ?_, fun s k rate failed train runs => ?_⟩
  · intro b n p i m unlocked counted unaligned
    exact ⟨execAlignmentLost_recovers, execLockLost_recovers⟩
  · intro n b p recent idle entered result
    have named : BitVec.ofNat 4 n = k := by simp only [n, BitVec.ofNat_toNat, BitVec.setWidth_eq]
    have enters (up : p.link = .l0 ∨ p.link = .l0p) (re : Bool) : b.enterRecovery n re = result re := by
      rw [Base.enterRecovery_enters up, Base.inRecovery, named]
      rfl
    have requests (full : b.mgmtFull = true) (present : b.present_ n = true) := execPortRequests (s := s) full present
    refine ⟨fun l => b.lane_lockLanes ((b.nodup_lanesOf n).filter _) p.rate l, fun up => ⟨fun train => ?_, fun full present => ?_⟩,
      fun runs full present => ⟨fun earlier => ?_, fun same entered => ?_, ?_⟩, fun l0 l0p recovery full present => ?_⟩
    · exact (execHostRecoveryRequest_requests train reeq).trans (by rw [enters up])
    · rw [← enters up, ← enters up]
      exact requests full present
    · exact (requests full present).2.trans (by rw [Base.enterRecovery_owes runs earlier])
    · exact (requests full present).2.trans (by rw [Base.enterRecovery_turns runs same entered, named])
    · exact (requests full present).1.trans (by rw [Base.enterRecovery_joins runs])
    · have lapses := Base.enterRecovery_lapses l0 l0p recovery
      obtain ⟨retrain, reequalise⟩ := requests full present
      rw [lapses] at retrain reequalise
      exact ⟨reequalise, retrain⟩
  · intro n b p lost measured bad kept locked inL0 ended
    refine ⟨execRecoveryComplete_lost train runs, fun some_ => ?_⟩
    have goesOn : exec (.recoveryComplete k rate failed) s = .next { s with base := kept.goesOn n rate.val } :=
      execRecoveryComplete_goesOn train runs some_
    refine ⟨fun down => ?_, fun up free => ?_, fun up owed => ?_, fun up => ?_⟩
    · exact goesOn.trans (by rw [Base.goesOn_down down])
    · exact goesOn.trans (by rw [Base.goesOn_up up, free]; rfl)
    · exact goesOn.trans (by rw [Base.goesOn_up up, owed]; rfl)
    · have standing := kept.standing_recoveryEnded n rate.val
      refine ⟨congrArg Prod.fst standing, congrArg (fun x => x.2.1) standing, congrArg (fun x => x.2.2) standing, fun l active => kept.locks_lockedAt n _ active⟩

end Sys2Proof.Machine
end

section
/-! SUPPORT. CXL.mem requests at the host-binding stage and the firewall (R94, R99, R104 to R109, R115, R121, R124, R338). -/

namespace Sys2Proof.Machine

/-! ### Requests that a port takes -/

/-- The command is a request of the host: it arrives in a flit, with a credit of its channel it does what its operation does at the
host-binding stage (R104, R109). -/
structure IsRequest (r : MemReq) (c : Instr) (op : ReqOp) : Prop where
  arrives : ∀ s : State, exec c s = s.fromFlit r.port c
  taken : ∀ b : Base, b.message c = b.m2s r op
  credit : msgRwd c = some op.rwd

theorem isRequest_memRd (r : MemReq) : IsRequest r (.memRd r) (.rd r.snp) := ⟨fun _ => rfl, fun _ => rfl, rfl⟩

theorem isRequest_memRdData (r : MemReq) : IsRequest r (.memRdData r) .rdData := ⟨fun _ => rfl, fun _ => rfl, rfl⟩

theorem isRequest_memInv (r : MemReq) (nt : Bool) : IsRequest r (.memInv r nt) .inv := ⟨fun _ => rfl, fun _ => rfl, rfl⟩

theorem isRequest_memWr (r : MemReq) (data : Data) (poison : Bool) : IsRequest r (.memWr r data poison) (.wr data poison) :=
  ⟨fun _ => rfl, fun _ => rfl, rfl⟩

/-- A partial write is the write of a whole line when it has every byte (R105). -/
def ptlOp (data : Data) (be : BitVec 64) : ReqOp := if be = BitVec.allOnes 64 then .wr data false else .ptl data be

theorem ptlOp_rwd (data : Data) (be : BitVec 64) : (ptlOp data be).rwd = true := by
  unfold ptlOp
  split <;> rfl

theorem ptlOp_isRead (data : Data) (be : BitVec 64) : (ptlOp data be).isRead = false := by
  unfold ptlOp
  split <;> rfl

theorem isRequest_memWrPtl (r : MemReq) (data : Data) (be : BitVec 64) : IsRequest r (.memWrPtl r data be) (ptlOp data be) :=
  ⟨fun _ => rfl, fun _ => rfl, congrArg some (ptlOp_rwd data be).symm⟩

/-- What holds of every request of the manual holds of the five commands. -/
theorem forall_requests {f : Instr → ReqOp → Prop} {r : MemReq} (each : ∀ c op, IsRequest r c op → f c op) (data : Data) (poison nt : Bool)
    (be : BitVec 64) :
    f (.memRd r) (.rd r.snp) ∧ f (.memRdData r) .rdData ∧ f (.memInv r nt) .inv ∧ f (.memWr r data poison) (.wr data poison) ∧
      f (.memWrPtl r data be) (ptlOp data be) :=
  ⟨each _ _ (isRequest_memRd r), each _ _ (isRequest_memRdData r), each _ _ (isRequest_memInv r nt), each _ _ (isRequest_memWr r data poison),
    each _ _ (isRequest_memWrPtl r data be)⟩

section
variable {b : Base} {k : Nat} {rwd : Bool} (credit : b.credits k rwd = true)
include credit

/-- A credit is returned by a port that carries messages. -/
theorem Base.carries_of_credits : (b.port k).carries = true := by
  simp only [Base.credits, Base.returnsCredits, Bool.and_eq_true] at credit
  exact credit.1.1.2

/-- A credit is not returned in an insecure stream. -/
theorem Base.secure_of_credits : ((b.port k).ide == 2) = false := by
  simp only [Base.credits, Base.returnsCredits, Bool.and_eq_true, bne_iff_ne] at credit
  exact beq_eq_false_iff_ne.mpr credit.1.2

end

section
variable {s : State} {r : MemReq} {c : Instr} {op : ReqOp} (is : IsRequest r c op)
include is

/-- A request with a credit, outside a MAC epoch that waits, reaches the host-binding stage. -/
theorem IsRequest.exec_eq (alive : s.base.alive = true) (verified : (s.base.port r.port.toNat).ide ≠ 1 ∨ (s.base.port r.port.toNat).ideFlits = 0)
    (credit : s.base.credits r.port.toNat op.rwd = true) : exec c s = .next { s with base := s.base.request r op } := by
  have now : ((s.base.port r.port.toNat).ide == 1 && (s.base.port r.port.toNat).ideFlits != 0) = false := by
    rcases verified with h | h <;> simp [h]
  refine (is.arrives s).trans (State.whenBase_pos alive ?_)
  rw [Base.fromFlit, if_neg (by rw [Base.carries_of_credits credit, Base.secure_of_credits credit]; decide), if_neg (by rw [now]; decide),
    is.taken, Base.m2s, if_pos credit]

/-- A request whose MAC epoch is not verified waits (R115). -/
theorem IsRequest.exec_waits (alive : s.base.alive = true) (epoch : (s.base.port r.port.toNat).ide = 1)
    (open_ : (s.base.port r.port.toNat).ideFlits ≠ 0) (credit : s.base.credits r.port.toNat op.rwd = true) :
    exec c s = .next { s with
      base := s.base.setPort r.port.toNat { s.base.port r.port.toNat with
        unverified := (s.base.port r.port.toNat).unverified ++
          [{ at_ := (s.base.port r.port.toNat).flitAt, flit := (s.base.port r.port.toNat).flitsRx, msg := c }] } } := by
  refine (is.arrives s).trans (State.whenBase_pos alive ?_)
  rw [Base.fromFlit, if_neg (by rw [Base.carries_of_credits credit, Base.secure_of_credits credit]; decide), if_pos (by simp [epoch, open_]),
    is.credit, if_pos credit]

/-- An insecure stream discards a request (R115). -/
theorem IsRequest.exec_insecure (insecure : (s.base.port r.port.toNat).ide = 2) : exec c s = .next s :=
  (is.arrives s).trans (State.whenBase_kept fun _ => if_pos (by simp [insecure]))

end

/-! ### Requests inside the ranges of their host -/

/-- The label and the deadline leave the line of a request. -/
theorem Base.labelled_line (b : Base) (q : Req) (h : Nat) : (b.labelled q h).line = q.line := by
  unfold Base.labelled
  dsimp only
  split
  · split <;> rfl
  · rfl

/-- A request with nothing that answers it at once takes its label and its charge and goes on to the map stage (R29, R107). -/
theorem Base.admitted_passes {b : Base} {q : Req} {h : Nat} {u : Upset} {b1 : Base} (counted : b.countSubst q h = b1)
    (unfenced : b1.fencedOct (b1.octantOf q.line) = false) (served : b1.retired (b1.place q.line).ch = false)
    (access : b1.idleReq (b1.labelled q h) = false) :
    let b2 := (b1.lookup (b1.labelled q h) 1).2
    b.admitted q h u = (((b2.updDram fun d => { d with passes := d.passes + 1 }).upset q.line u).present
      { (b1.lookup (b1.labelled q h) 1).1 with passed := b2.dram.passes }).pump := by
  subst counted
  have line := (b.countSubst q h).labelled_line q h
  rw [← line] at unfenced served
  unfold Base.admitted
  dsimp only
  rw [if_neg (by rw [unfenced]; decide), if_neg (by rw [served]; decide), if_neg (by rw [access]; decide)]
  have kept : ((b.countSubst q h).lookup ((b.countSubst q h).labelled q h) 1).1.line = q.line := line
  rw [← kept]
  rfl

section
variable {b : Base} {r : MemReq} {op : ReqOp}

theorem Base.request_unbound (unbound : b.carriesLd (b.ldOf r.port.toNat r.ld.toNat) r.port.toNat = false) :
    b.request r op = b.ldNotBound r.port.toNat := if_pos (by rw [unbound]; rfl)

variable (bound : b.carriesLd (b.ldOf r.port.toNat r.ld.toNat) r.port.toNat = true) (safe : b.flt.fatal = false)
include bound safe

theorem Base.request_admitted (there : b.coh.isolated.getLsbD (b.ldOf r.port.toNat r.ld.toNat) = false) {dpa : Nat}
    (hit : b.hdm (b.ldOf r.port.toNat r.ld.toNat) r.hpa.toNat = some dpa) (small : dpa < 2 ^ 37)
    (inside : b.inEff (b.ldOf r.port.toNat r.ld.toNat) (dpa / 268435456) = true)
    (free : b.heldForOther (b.ldOf r.port.toNat r.ld.toNat) (dpa / 268435456) = false) :
    b.request r op = b.admitted
      { who := .host r.port (BitVec.ofNat 4 (b.ldOf r.port.toNat r.ld.toNat)) r.tag, op := op, line := dpa / 64, metaField := r.metaField,
        arrived := b.now } (b.ldOf r.port.toNat r.ld.toNat) r.upset := by
  unfold Base.request
  dsimp only
  rw [if_neg (by rw [bound]; decide), if_neg (by rw [safe]; decide), if_neg (by rw [there]; decide), hit]
  dsimp only
  rw [if_neg (by rw [inside, free]; simp; omega)]

end

/-- Settles O18: each of the five commands is a request, and a request does by its stream, its binding and its range what the clause says. -/
theorem requestsPassTheHostBindingStage : Obligations.requests_pass_the_host_binding_stage := by
  unfold Obligations.requests_pass_the_host_binding_stage
  intro s r data poison nt be dpa b k p h line all passes
  have each (f : Instr → ReqOp → Prop) (holds : ∀ c op, IsRequest r c op → f c op) : all f := forall_requests holds data poison nt be
  clear_value all
  refine ⟨fun alive verified bound safe there hit small inside free => ?_, fun alive verified unbound => ?_, fun alive epoch open_ => ?_,
    fun insecure => ?_⟩
  · refine each _ fun c op is credit unfenced served access => ?_
    refine (is.exec_eq alive verified credit).trans ?_
    rw [Base.request_admitted bound safe there hit small inside free, Base.admitted_passes rfl unfenced served access]
  · refine each _ fun c op is => ?_
    exact fun credit => (is.exec_eq alive verified credit).trans (by rw [Base.request_unbound unbound]; rfl)
  · exact each _ fun c op is => is.exec_waits alive epoch open_
  · exact each _ fun c op is => is.exec_insecure insecure

end Sys2Proof.Machine
end

section
/-! SUPPORT. The firewall: requests that reach no line (R99). -/

namespace Sys2Proof.Machine

/-! ### Answers without an access -/

/-- What a request that reaches no line leaves: the channels, the directory, the map, the mover, the hosts' devices, the free data. -/
def Base.SameMemory (b t : Base) : Prop :=
  t.dram = b.dram ∧ t.coh = b.coh ∧ t.lay = b.lay ∧ t.mov = b.mov ∧ t.hosts = b.hosts ∧ t.free = b.free

section
variable {b : Base} {q : Req} {p : PortBlk} {ld : HostId} {tag : BitVec 16} (host : q.who = .host p ld tag)
  (carries : (b.port p.toNat).carries = true)
include host carries

/-- A refused request of a host that its port carries is answered at once. -/
theorem Base.refuse_host (d : Data) : b.refuse q d =
    ({ b with out := .rsp p ld tag (if q.op.isRead then .data d true 0 else .cmp) :: b.out }).setPort p.toNat
      ((b.port p.toNat).sent (.rsp p ld tag (if q.op.isRead then .data d true 0 else .cmp))) := by
  unfold Base.refuse Base.answer
  rw [host]
  exact if_pos carries

theorem Base.sameMemory_refuse (d : Data) : b.SameMemory (b.refuse q d) := by
  rw [Base.refuse_host host carries]
  exact ⟨rfl, rfl, rfl, rfl, rfl, rfl⟩

theorem Base.refuse_out (d : Data) : (b.refuse q d).out = .rsp p ld tag (if q.op.isRead then .data d true 0 else .cmp) :: b.out := by
  rw [Base.refuse_host host carries]
  rfl

theorem Base.reg_refuse (d : Data) (o : Nat) : (b.refuse q d).reg o = b.reg o := by
  rw [Base.refuse_host host carries]
  rfl

/-- A request of an isolated host is answered, and counted for Rind alone. -/
theorem Base.sameMemory_refused (h : Nat) : b.SameMemory ((b.refuse q 0).tallyRefused h) := b.sameMemory_refuse host carries 0

/-- A violation is answered and counted, and reaches no line. -/
theorem Base.sameMemory_violation (h addr : Nat) : b.SameMemory (b.violation q h addr) := by
  obtain ⟨dram, coh, lay, mov, hosts, free⟩ := Base.sameMemory_refused host carries h
  refine ⟨?_, ?_, ?_, ?_, ?_, ?_⟩ <;> simpa [Base.violation]

theorem Base.violation_out (h addr : Nat) :
    (b.violation q h addr).out = .rsp p ld tag (if q.op.isRead then .data 0 true 0 else .cmp) :: b.out := by
  refine Eq.trans ?_ (Base.refuse_out host carries 0)
  simp only [Base.violation, Base.send_out, Base.bump_out]
  rfl

theorem Base.violation_counts (h addr : Nat) :
    ((b.violation q h addr).reg (Reg.FIREWALL_COUNT h)).toNat = min 0xFFFFFFFF ((b.reg (Reg.FIREWALL_COUNT h)).toNat + 1) := by
  have kept : ((b.refuse q 0).tallyRefused h).reg (Reg.FIREWALL_COUNT h) = b.reg (Reg.FIREWALL_COUNT h) := Base.reg_refuse host carries 0 _
  rw [Base.violation, Base.reg_send _ _ _ _ _ _ (by show 0x40084 + 0x400 * h ≠ 0xD0058; omega) (by show 0x40084 + 0x400 * h ≠ 0xD005C; omega),
    Base.reg_bump, if_pos rfl, bumpWord_toNat, kept]

end

/-! ### Requests outside the ranges of their host -/

section
variable {b : Base} {r : MemReq} {op : ReqOp} (bound : b.carriesLd (b.ldOf r.port.toNat r.ld.toNat) r.port.toNat = true)
  (safe : b.flt.fatal = false)
include bound safe

/-- A request of an isolated host is refused. -/
theorem Base.request_isolated (isolated : b.coh.isolated.getLsbD (b.ldOf r.port.toNat r.ld.toNat) = true) :
    ∃ q : Req, q.who = .host r.port (BitVec.ofNat 4 (b.ldOf r.port.toNat r.ld.toNat)) r.tag ∧ q.op = op ∧
      b.request r op = (b.refuse q 0).tallyRefused (b.ldOf r.port.toNat r.ld.toNat) := by
  unfold Base.request
  dsimp only
  rw [if_neg (by rw [bound]; decide), if_neg (by rw [safe]; decide), if_pos isolated]
  exact ⟨_, rfl, rfl, rfl⟩

/-- A request outside the effective ranges of its host is a violation. -/
theorem Base.request_outside (there : b.coh.isolated.getLsbD (b.ldOf r.port.toNat r.ld.toNat) = false)
    (outside : ∀ dpa, b.hdm (b.ldOf r.port.toNat r.ld.toNat) r.hpa.toNat = some dpa → dpa < 2 ^ 37 →
      b.inEff (b.ldOf r.port.toNat r.ld.toNat) (dpa / 268435456) = false) :
    ∃ (q : Req) (addr : Nat), q.who = .host r.port (BitVec.ofNat 4 (b.ldOf r.port.toNat r.ld.toNat)) r.tag ∧ q.op = op ∧
      b.request r op = b.violation q (b.ldOf r.port.toNat r.ld.toNat) addr := by
  unfold Base.request
  dsimp only
  rw [if_neg (by rw [bound]; decide), if_neg (by rw [safe]; decide), if_neg (by rw [there]; decide)]
  cases hit : b.hdm (b.ldOf r.port.toNat r.ld.toNat) r.hpa.toNat with
  | none => exact ⟨_, _, rfl, rfl, rfl⟩
  | some dpa =>
    have refused : 2 ^ 37 ≤ dpa ∨ (!b.inEff (b.ldOf r.port.toNat r.ld.toNat) (dpa / 268435456)) = true ∨
        b.heldForOther (b.ldOf r.port.toNat r.ld.toNat) (dpa / 268435456) = true := by
      rcases Nat.lt_or_ge dpa (2 ^ 37) with small | large
      · exact .inr (.inl (by rw [outside dpa hit small]; rfl))
      · exact .inl large
    exact ⟨_, _, rfl, rfl, if_pos refused⟩

/-- A request of an isolated host, or outside the effective ranges of its host, is answered without an access (R99). -/
theorem Base.request_kept (carries : (b.port r.port.toNat).carries = true)
    (refused : b.coh.isolated.getLsbD (b.ldOf r.port.toNat r.ld.toNat) = true ∨
      ∀ dpa, b.hdm (b.ldOf r.port.toNat r.ld.toNat) r.hpa.toNat = some dpa → dpa < 2 ^ 37 →
        b.inEff (b.ldOf r.port.toNat r.ld.toNat) (dpa / 268435456) = false) :
    b.SameMemory (b.request r op) ∧
      (b.coh.isolated.getLsbD (b.ldOf r.port.toNat r.ld.toNat) = false →
        ((b.request r op).reg (Reg.FIREWALL_COUNT (b.ldOf r.port.toNat r.ld.toNat))).toNat =
          min 0xFFFFFFFF ((b.reg (Reg.FIREWALL_COUNT (b.ldOf r.port.toNat r.ld.toNat))).toNat + 1)) ∧
      (b.request r op).out =
        .rsp r.port (BitVec.ofNat 4 (b.ldOf r.port.toNat r.ld.toNat)) r.tag (if op.isRead then .data 0 true 0 else .cmp) :: b.out := by
  cases there : b.coh.isolated.getLsbD (b.ldOf r.port.toNat r.ld.toNat) with
  | true =>
    obtain ⟨q, host, rfl, eq⟩ := Base.request_isolated bound safe (op := op) there
    rw [eq]
    exact ⟨Base.sameMemory_refused host carries _, fun free => absurd free (by decide), Base.refuse_out host carries 0⟩
  | false =>
    have outside := refused.resolve_left (by rw [there]; decide)
    obtain ⟨q, addr, host, rfl, eq⟩ := Base.request_outside bound safe (op := op) there outside
    rw [eq]
    exact ⟨Base.sameMemory_violation host carries _ _, fun _ => Base.violation_counts host carries _ _, Base.violation_out host carries _ _⟩

end

/-- Settles O19: each of the five commands is a request, and one that the firewall refuses is answered without an access. -/
theorem firewallKeepsMemory : Obligations.firewall_keeps_memory := by
  unfold Obligations.firewall_keeps_memory
  intro s r data poison nt be b k h alive verified bound safe refused kept
  have each {c : Instr} {op : ReqOp} (is : IsRequest r c op) : kept c op.rwd (if op.isRead then .data 0 true 0 else .cmp) := by
    intro credit
    obtain ⟨⟨dram, coh, lay, mov, hosts, free⟩, counts, out⟩ :=
      Base.request_kept (op := op) bound safe (Base.carries_of_credits credit) refused
    exact ⟨_, is.exec_eq alive verified credit, dram, coh, lay, mov, hosts, free, counts, out⟩
  clear_value kept
  have partial_ := each (isRequest_memWrPtl r data be)
  rw [ptlOp_rwd, ptlOp_isRead] at partial_
  exact ⟨each (isRequest_memRd r), each (isRequest_memRdData r), each (isRequest_memInv r nt), each (isRequest_memWr r data poison), partial_⟩

end Sys2Proof.Machine
end

section
/-! SUPPORT. What the fabric's and the channels' work leaves of the collector: the FATAL state, FAULT_N and the log (R384, R387, R398, R399). -/

namespace Sys2Proof.Machine

/-- The FATAL state, the pin FAULT_N and the log: what only the collector's own work changes. -/
def Faults.pins (f : Faults) : Bool × Bool × Nat × List LogEntry := (f.fatal, f.faultNLow, f.nextSeq, f.log)

/-! ### Messages, records and counters -/

section
variable (b : Base)

theorem Base.pins_enqueue (m : Msg) : (b.enqueue m).flt.pins = b.flt.pins := by
  unfold Base.enqueue
  generalize enqueueMsg b.flt.outbox b.flt.waiting m = placed
  obtain ⟨outbox, waiting, dropped⟩ := placed
  cases dropped <;> rfl

theorem Base.pins_sendMsg (m : Msg) : (b.sendMsg m).flt.pins = b.flt.pins := by
  unfold Base.sendMsg
  split
  · rfl
  · exact b.pins_enqueue m

@[simp] theorem Base.pins_send (k : Kind) (src addr : Nat) (host : Option HostId) (inj : Bool) :
    (b.send k src addr host inj).flt.pins = b.flt.pins := by
  unfold Base.send
  dsimp only
  split
  · rfl
  · exact b.pins_sendMsg _

@[simp] theorem Base.pins_addRecord (h : Nat) (log : EvLog) (form : EvForm) (msg : Option Msg) (no : Nat) :
    (b.addRecord h log form msg no).flt.pins = b.flt.pins := by
  unfold Base.addRecord
  dsimp only
  split
  · rfl
  · rw [Base.msixHost_flt]
    rfl

@[simp] theorem Base.pins_mark (st : Nat) : (b.mark st).flt.pins = b.flt.pins := by
  unfold Base.mark
  split <;> rfl

@[simp] theorem Base.pins_release (q : Req) : (b.release q).flt.pins = b.flt.pins := by
  unfold Base.release Base.overIssued
  split <;> rfl

@[simp] theorem Base.pins_transmit (p : Nat) (e : Emit) : (b.transmit p e).flt.pins = b.flt.pins := by
  unfold Base.transmit
  dsimp only
  split
  · rfl
  · split <;> rfl

/-! ### Answers -/

@[simp] theorem Base.pins_answer (q : Req) (rs : List Rsp) : (b.answer q rs).flt.pins = b.flt.pins := by
  unfold Base.answer
  split
  · exact foldl_keeps (fun t : Base => t.flt.pins) _ (fun t _ => t.pins_transmit _ _) _ _
  · rfl

@[simp] theorem Base.pins_checkDeadline (q : Req) : (b.checkDeadline q).flt.pins = b.flt.pins := by
  unfold Base.checkDeadline
  split
  · split
    · exact Base.pins_send ..
    · rfl
  · rfl

@[simp] theorem Base.pins_diagResult (tag : Nat) (r : LineRes) : (b.diagResult tag r).flt.pins = b.flt.pins :=
  foldl_keeps (fun t : Base => t.flt.pins) Base.emit (fun _ _ => rfl) _ _

@[simp] theorem Base.pins_answerRead (q : Req) (d : Data) (m : Meta) : (b.answerRead q d m).flt.pins = b.flt.pins := by
  unfold Base.answerRead
  dsimp only
  split
  · rw [Base.pins_checkDeadline]
    exact Base.pins_answer ..
  · exact Base.pins_diagResult ..
  · rfl

@[simp] theorem Base.pins_answerCmp (q : Req) (r : Rsp) : (b.answerCmp q r).flt.pins = b.flt.pins := by
  unfold Base.answerCmp
  dsimp only
  split
  · rw [Base.pins_checkDeadline]
    split
    · split <;> exact Base.pins_answer ..
    · split <;> exact Base.pins_answer ..
    · exact Base.pins_answer ..
  · rfl

@[simp] theorem Base.pins_refuse (q : Req) (d : Data) : (b.refuse q d).flt.pins = b.flt.pins := Base.pins_answer ..

theorem Base.pins_refusePoison (q : Req) : (b.refusePoison q).flt.pins = b.flt.pins := Base.pins_refuse ..

@[simp] theorem Base.pins_finishRead (e : Entry) (d : Data) (m : Meta) : (b.finishRead e d m).flt.pins = b.flt.pins := by
  have released := b.pins_release e.req
  unfold Base.finishRead
  dsimp only
  split
  · exact (Base.pins_answerRead ..).trans released
  · exact (Base.pins_answerRead ..).trans released
  · exact (Base.pins_answerRead ..).trans released
  · exact released
  · exact released

@[simp] theorem Base.pins_answerPoison (q : Req) : (b.answerPoison q).flt.pins = b.flt.pins := Base.pins_finishRead ..

@[simp] theorem Base.pins_ackConflicts : b.ackConflicts.flt.pins = b.flt.pins :=
  foldl_keeps (fun t : Base => t.flt.pins) _ (fun t _ => t.pins_transmit _ _) _ _

@[simp] theorem Base.pins_retiredReq (q : Req) : (b.retiredReq q).flt.pins = b.flt.pins := by
  have released := b.pins_release q
  unfold Base.retiredReq
  by_cases read : q.op.isRead = true
  · rw [if_pos read]
    exact Base.pins_answerPoison ..
  · rw [if_neg read]
    generalize b.release q = t at released ⊢
    refine Eq.trans ?_ released
    cases q.who with
    | host | gone => simp
    | _ => rfl

/-! ### Power sets and the mover's domain -/

@[simp] theorem Base.pins_reportSet (s st : Nat) : (b.reportSet s st).flt.pins = b.flt.pins :=
  (foldl_keeps (fun t : Base => t.flt.pins) _ (fun _ _ => Base.pins_send ..) _ _).trans (Base.pins_send ..)

@[simp] theorem Base.pins_abandonEntry (s : Nat) : (b.abandonEntry s).flt.pins = b.flt.pins := Base.pins_reportSet ..

@[simp] theorem Base.pins_touchSet (ch : Nat) : (b.touchSet ch).flt.pins = b.flt.pins := by
  unfold Base.touchSet
  dsimp only
  split_ifs
  · rfl
  · rfl
  · exact Base.pins_abandonEntry ..
  · rfl

@[simp] theorem Base.pins_wakeMover : b.wakeMover.flt.pins = b.flt.pins := by
  unfold Base.wakeMover
  split <;> rfl

/-! ### The channels take reads and writes -/

@[simp] theorem Base.pins_pushWrite (ch : Nat) (e : Entry) : (b.pushWrite ch e).flt.pins = b.flt.pins := by
  unfold Base.pushWrite
  dsimp only
  split
  · split
    · exact Base.pins_release ..
    · exact Base.pins_release ..
  · rfl

@[simp] theorem Base.pins_armed (q : Req) (w : LineWrite) : (b.armed q w).2.flt.pins = b.flt.pins := by
  unfold Base.armed
  split
  · split <;> rfl
  · split <;> rfl
  · rfl

@[simp] theorem Base.pins_clearsPoison (line : Nat) (w : LineWrite) : (b.clearsPoison line w).flt.pins = b.flt.pins := by
  unfold Base.clearsPoison
  split <;> rfl

@[simp] theorem Base.pins_rewriteLost (ch line : Nat) (injects : Bool) : (b.rewriteLost ch line injects).flt.pins = b.flt.pins := by
  unfold Base.rewriteLost
  split
  · exact Base.pins_send ..
  · rfl

theorem Base.pins_fillEnds (st : Nat) : (b.fillEnds st).flt = b.flt := rfl

@[simp] theorem Base.pins_acceptWrite (ch : Nat) (e : Entry) : (b.acceptWrite ch e).flt.pins = b.flt.pins := by
  unfold Base.acceptWrite
  split
  · rfl
  · next w _ =>
    split
    · exact (Base.pins_rewriteLost ..).trans (Base.pins_release ..)
    · have armed := b.pins_armed e.req w
      generalize b.armed e.req w = x at armed ⊢
      obtain ⟨w', b'⟩ := x
      refine Eq.trans ?_ armed
      dsimp -zeta only
      extract_lets pushed noted claimed marked
      have note : noted.flt.pins = b'.flt.pins := by
        dsimp only [noted]
        split <;> simp [pushed, Base.noteWrite]
      have marks : marked.flt.pins = noted.flt.pins := by
        dsimp only [marked]
        split
        · rfl
        · split <;> simp [Base.pins_fillEnds]
      clear_value marked noted
      refine Eq.trans ?_ (marks.trans note)
      cases e.req.who with
      | host | gone => simp
      | _ => rfl

@[simp] theorem Base.pins_enterRead (ch : Nat) (e : Entry) : (b.enterRead ch e).flt.pins = b.flt.pins := rfl

@[simp] theorem Base.pins_acceptRead (ch : Nat) (e : Entry) : (b.acceptRead ch e).flt.pins = b.flt.pins := by
  unfold Base.acceptRead
  split
  · split
    · dsimp only
      split <;> simp
    · simp
  · simp

@[simp] theorem Base.pins_accept1 (ch : Nat) (e : Entry) : (b.accept1 ch e).flt.pins = b.flt.pins := by
  unfold Base.accept1
  split <;> simp

@[simp] theorem Base.pins_drainHeal (ch : Nat) : (b.drainHeal ch).flt.pins = b.flt.pins := by
  unfold Base.drainHeal
  dsimp only
  split
  · rfl
  · split_ifs
    · simp
    · simp [Base.inOrder]
    · rfl

@[simp] theorem Base.pins_drainFeed (ch : Nat) : (b.drainFeed ch).flt.pins = b.flt.pins := by
  unfold Base.drainFeed
  dsimp only
  split <;> simp

@[simp] theorem Base.pins_drainXbar (ch : Nat) : (b.drainXbar ch).flt.pins = b.flt.pins := by
  unfold Base.drainXbar
  dsimp only
  split <;> simp

@[simp] theorem Base.pins_drainChan (ch : Nat) : (b.drainChan ch).flt.pins = b.flt.pins := by
  have repeats (n : Nat) (f : Base → Nat → Base) (each : ∀ t, (f t ch).flt.pins = t.flt.pins) (t : Base) :
      (forN n (fun _ t => f t ch) t).flt.pins = t.flt.pins := forN_keeps (fun t : Base => t.flt.pins) n _ (fun _ t => each t) t
  unfold Base.drainChan
  dsimp only
  split
  · rfl
  · rw [repeats _ Base.drainXbar fun t => t.pins_drainXbar ch, repeats _ Base.drainFeed fun t => t.pins_drainFeed ch,
      repeats _ Base.drainHeal fun t => t.pins_drainHeal ch]

@[simp] theorem Base.pins_arrive (ch : Nat) (e : Entry) : (b.arrive ch e).flt.pins = b.flt.pins := by
  simp [Base.arrive, Base.inOrder]

@[simp] theorem Base.pins_feedIn (ch : Nat) (e : Entry) : (b.feedIn ch e).flt.pins = b.flt.pins := by
  simp [Base.feedIn, Base.inOrder]

/-! ### Charges and requests of the part itself -/

@[simp] theorem Base.pins_pass (q : Req) : (b.pass q).2.flt.pins = b.flt.pins := rfl

@[simp] theorem Base.pins_lookup (q : Req) (n : Nat) : (b.lookup q n).2.flt.pins = b.flt.pins := by
  show (b.charge q.label.toNat n).2.flt.pins = b.flt.pins
  unfold Base.charge
  dsimp only
  split_ifs <;> rfl

@[simp] theorem Base.pins_internal (who : Who) (op : ReqOp) (line : Nat) (label : Label) (n : Nat) :
    (b.internal who op line label n).2.flt.pins = b.flt.pins := Base.pins_lookup ..

/-! ### The directory -/

@[simp] theorem Base.pins_park (w : Waiter) : (b.park w).flt.pins = b.flt.pins := rfl

@[simp] theorem Base.pins_waitHome (q : Req) : (b.waitHome q).flt.pins = b.flt.pins := rfl

@[simp] theorem Base.pins_dropRec (line : Nat) : (b.dropRec line).flt.pins = b.flt.pins := rfl

@[simp] theorem Base.pins_freeTracker (q : Req) : (b.freeTracker q).flt.pins = b.flt.pins := rfl

@[simp] theorem Base.pins_touchRec (line : Nat) : (b.touchRec line).flt.pins = b.flt.pins := by
  unfold Base.touchRec
  split <;> rfl

@[simp] theorem Base.pins_updateLine (line : Nat) (r : DirRec) (l : Label) : (b.updateLine line r l).flt.pins = b.flt.pins :=
  Base.pins_internal ..

@[simp] theorem Base.pins_putRec (line : Nat) (r : DirRec) (dirty : Bool) : (b.putRec line r dirty).flt.pins = b.flt.pins := by
  unfold Base.putRec
  dsimp only
  split
  · simp
  · rw [Base.updCoh_flt]
    split
    · split
      · split <;> simp
      · rfl
    · rfl

@[simp] theorem Base.pins_stampedRec (line : Nat) (r : DirRec) : (b.stampedRec line r).flt.pins = b.flt.pins := rfl

@[simp] theorem Base.pins_placeRec (line : Nat) (r : DirRec) (writes changed : Bool) : (b.placeRec line r writes changed).flt.pins = b.flt.pins := by
  unfold Base.placeRec
  split_ifs <;> simp

@[simp] theorem Base.pins_sendSnoop (h line : Nat) (k : SnoopKind) : (b.sendSnoop h line k).2.flt.pins = b.flt.pins := by
  unfold Base.sendSnoop
  dsimp only
  split_ifs <;> rfl

@[simp] theorem Base.pins_listPoison (line : Nat) : (b.listPoison line).flt.pins = b.flt.pins := by
  unfold Base.listPoison
  split_ifs <;> rfl

@[simp] theorem Base.pins_loseLine (line h : Nat) : (b.loseLine line h).flt.pins = b.flt.pins := by
  have own := b.pins_internal .stamp (.ptl 0 0) line b.healLabel 1
  unfold Base.loseLine
  dsimp only
  generalize b.internal .stamp (.ptl 0 0) line b.healLabel = x at own ⊢
  obtain ⟨q, t⟩ := x
  simpa using own

@[simp] theorem Base.pins_foundRec (line : Nat) (r : DirRec) : (b.foundRec line r).2.flt.pins = b.flt.pins := by
  unfold Base.foundRec
  dsimp only
  split
  · simp
  · rfl

/-! ### The home agent -/

@[simp] theorem Base.pins_readMeta (q : Req) : (b.readMeta q).flt.pins = b.flt.pins := by
  unfold Base.readMeta
  split
  · split
    · split
      · simp [Base.pass]
      · simp [Base.pass]
      · rfl
    · rfl
  · rfl

@[simp] theorem Base.pins_toChannel (q : Req) : (b.toChannel q).flt.pins = b.flt.pins := by
  unfold Base.toChannel
  dsimp only
  split
  · simp
  · split <;> simp

@[simp] theorem Base.pins_waitRoom (q : Req) (r0 after : DirRec) (grant : Rsp) (changed : Bool) :
    (b.waitRoom q r0 after grant changed).flt.pins = b.flt.pins := by
  unfold Base.waitRoom
  split
  · split <;> rfl
  · rfl

@[simp] theorem Base.pins_finishFlow (q : Req) (r0 : DirRec) (changed : Bool) (after : DirRec) (grant : Rsp) (data : Option (Data × Meta)) :
    (b.finishFlow q r0 changed after grant data).flt.pins = b.flt.pins := by
  unfold Base.finishFlow
  dsimp only
  split
  · simp
  · split <;> simp

@[simp] theorem Base.pins_startFlow (q : Req) (r : DirRec) (k : SnoopKind) (purge : Bool) : (b.startFlow q r k purge).flt.pins = b.flt.pins :=
  foldl_keeps (fun x : List Snoop × Base => x.2.flt.pins) _ (fun x _ => x.2.pins_sendSnoop _ _ _) _ _

@[simp] theorem Base.pins_decide (q : Req) (r0 : DirRec) (data : Option (Data × Meta)) : (b.decide_ q r0 data).flt.pins = b.flt.pins := by
  have found := b.pins_foundRec q.line r0
  unfold Base.decide_
  dsimp only
  generalize b.foundRec q.line r0 = x at found ⊢
  obtain ⟨r, t⟩ := x
  refine Eq.trans ?_ found
  dsimp only
  split
  · split <;> simp
  · simp

@[simp] theorem Base.pins_startMeta (q : Req) : (b.startMeta q).flt.pins = b.flt.pins := by
  have own := b.pins_internal .directory (.rd .cur) q.line b.dirLabel 1
  unfold Base.startMeta
  generalize b.internal .directory (.rd .cur) q.line b.dirLabel = x at own ⊢
  obtain ⟨m, t⟩ := x
  simpa using own

@[simp] theorem Base.pins_homeAgent (q : Req) : (b.homeAgent q).flt.pins = b.flt.pins := by
  unfold Base.homeAgent
  split
  · simp
  · split
    · simp
    · split
      · simp
      · dsimp only
        split_ifs <;> simp

@[simp] theorem Base.pins_retryHome (w : Waiter) : (b.retryHome w).flt.pins = b.flt.pins := by
  unfold Base.retryHome
  dsimp only
  generalize (if w.need = .tracker then !b.trackersBusy else b.hasRoom w.req.line) = free
  split
  · simp
  · split <;> simp

@[simp] theorem Base.pins_access (q : Req) : (b.access q).flt.pins = b.flt.pins := by
  unfold Base.access
  dsimp only
  generalize (_ && _ && _ : Bool) = home
  cases home <;> simp

/-! ### The map stage -/

theorem Base.pins_zeroAnswer {q : Req} {t : Base} (answered : b.zeroAnswer q = some t) : t.flt.pins = b.flt.pins := by
  unfold Base.zeroAnswer at answered
  dsimp only at answered
  split at answered
  · split_ifs at answered
    obtain rfl := Option.some.inj answered
    simp
  · split_ifs at answered
    obtain rfl := Option.some.inj answered
    simp
  · split at answered
    · cases answered
    · split at answered
      · obtain rfl := Option.some.inj answered
        simp
      · split_ifs at answered
        obtain rfl := Option.some.inj answered
        simp
  · split_ifs at answered
    obtain rfl := Option.some.inj answered
    simp
  · obtain rfl := Option.some.inj answered
    simp
  · cases answered

@[simp] theorem Base.pins_waitFill (q : Req) (since : Nat) : (b.waitFill q since).flt.pins = b.flt.pins := rfl

@[simp] theorem Base.pins_endDrop (line : Nat) : (b.endDrop line).flt.pins = b.flt.pins := by
  unfold Base.endDrop
  dsimp only
  split_ifs <;> simp

@[simp] theorem Base.pins_startFill (q : Req) : (b.startFill q).flt.pins = b.flt.pins := by
  unfold Base.startFill
  split
  · rfl
  · simp

@[simp] theorem Base.pins_present (q : Req) : (b.present q).flt.pins = b.flt.pins := by
  unfold Base.present
  dsimp only
  split
  · simp
  · split
    · split <;> simp
    · split
      · simp
      · split
        · simp
        · split
          · next answered => exact b.pins_zeroAnswer answered
          · simp

@[simp] theorem Base.pins_retryFill (e : Req × Nat) : (b.retryFill e).flt.pins = b.flt.pins := by
  unfold Base.retryFill
  dsimp only
  split <;> simp

@[simp] theorem Base.pins_pump1 : b.pump1.flt.pins = b.flt.pins := by
  have fills (l : List (Req × Nat)) (t : Base) : (l.foldl (fun t e => t.retryFill e) t).flt.pins = t.flt.pins :=
    foldl_keeps (fun t : Base => t.flt.pins) _ (fun t e => t.pins_retryFill e) _ _
  have homes (l : List Waiter) (t : Base) :
      (l.foldl (fun t e => if e.need = .line then t.present e.req else t.retryHome e) t).flt.pins = t.flt.pins :=
    foldl_keeps (fun t : Base => t.flt.pins) _ (fun t e => by split <;> simp) _ _
  unfold Base.pump1
  extract_lets w cleared homed f emptied
  refine (fills f emptied).trans (Eq.trans ?_ (homes w cleared))
  dsimp only [emptied]
  split <;> rfl

@[simp] theorem Base.pins_clearBits (hit : Nat → Bool) : (b.clearBits hit).flt.pins = b.flt.pins := rfl

@[simp] theorem Base.pins_dropMasks : b.dropMasks.flt.pins = b.flt.pins := by
  refine forN_keeps (fun t : Base => t.flt.pins) _ _ (fun k t => ?_) b
  dsimp only
  split
  · simp
  · rfl

@[simp] theorem Base.pins_lateClears : b.lateClears.flt.pins = b.flt.pins := by
  simp [Base.lateClears]

@[simp] theorem Base.pins_endFlows : b.endFlows.flt.pins = b.flt.pins :=
  foldl_keeps (fun t : Base => t.flt.pins) _ (fun t _ => t.pins_finishFlow ..) _ _

@[simp] theorem Base.pins_pump : b.pump.flt.pins = b.flt.pins := by
  simp [Base.pump]

end

end Sys2Proof.Machine
end

section
/-! SUPPORT. The collector: acceptance of a message, the log and the FATAL state (R384, R387, R388, R398, R399, R408). -/

namespace Sys2Proof.Machine

/-! ### The FATAL state -/

section
variable (b : Base)

theorem Base.pins_closeGuard (d : Nat) : (b.closeGuard d).flt.pins = b.flt.pins := by
  refine Eq.trans (forN_keeps (fun t : Base => t.flt.pins) 4 _ (fun q t => ?_) _) rfl
  dsimp only
  split <;> rfl

theorem Base.pins_guardAll : b.guardAll.flt.pins = b.flt.pins := by
  refine forN_keeps (fun t : Base => t.flt.pins) 16 _ (fun d t => ?_) b
  dsimp only
  split
  · exact (congrArg Faults.pins (Base.updGuard_flt ..)).trans (t.pins_closeGuard d)
  · rfl

theorem Base.pins_dropRequests (k : Nat) : (b.dropRequests k).flt.pins = b.flt.pins := by
  refine Eq.trans (foldl_keeps (fun t : Base => t.flt.pins) _ (fun t q => ?_) _ _) rfl
  split <;> simp

theorem Base.pins_answerPending : b.answerPending.flt.pins = b.flt.pins := by
  unfold Base.answerPending
  extract_lets waiting acks dropped answered
  have drops : dropped.flt.pins = b.flt.pins := forN_keeps (fun t : Base => t.flt.pins) 16 _ (fun k t => t.pins_dropRequests k) b
  have answers : answered.flt.pins = dropped.flt.pins := by
    refine foldl_keeps (fun t : Base => t.flt.pins) _ (fun t q => ?_) _ _
    cases q.who with
    | diag => exact t.pins_answerPoison q
    | _ => exact t.pins_refusePoison q
  exact (foldl_keeps (fun t : Base => t.flt.pins) _ (fun t _ => t.pins_transmit _ _) _ _).trans (answers.trans drops)

theorem Base.pins_resetMover : b.resetMover.flt.pins = b.flt.pins := by
  unfold Base.resetMover
  extract_lets kept held mine released stopped unfilled unlocked
  have releases : released.flt.pins = b.flt.pins := foldl_keeps (fun t : Base => t.flt.pins) _ (fun t q => t.pins_release q) _ _
  have presents : (held.foldl (fun t q => t.present q) unlocked).flt.pins = unlocked.flt.pins :=
    foldl_keeps (fun t : Base => t.flt.pins) _ (fun t q => t.pins_present q) _ _
  have stops : unlocked.flt = released.flt := by rw [Base.updCoh_flt, Base.updLay_flt, Base.updMov_flt]
  rw [Base.pins_pump, presents, stops, releases]

theorem Base.pins_signalViral : b.signalViral.flt.pins = b.flt.pins := by
  refine forN_keeps (fun t : Base => t.flt.pins) 16 _ (fun p t => ?_) b
  dsimp only
  split <;> rfl

theorem Base.pins_deliver (m : Msg) : (b.deliver m).flt.pins = b.flt.pins := by
  unfold Base.deliver
  split
  exact foldl_keeps (fun t : Base => t.flt.pins) _ (fun t _ => t.pins_addRecord ..) _ _

/-- The FATAL state is entered and FAULT_N falls, and what is answered, stopped and told keeps both. -/
theorem Base.pins_enterFatal (m : Msg) : (b.enterFatal m).flt.pins = (true, true, b.flt.nextSeq, b.flt.log) := by
  unfold Base.enterFatal
  extract_lets _ entered answered stopped
  have answers : answered.flt.pins = entered.driveFaultN.flt.pins := by
    rw [Base.pins_answerPending, Base.pins_guardAll]
  have stops : stopped.flt.pins = answered.flt.pins := by rw [Base.updMov_flt, Base.pins_resetMover]
  calc ((stopped.signalViral.deliver m).msixMgmt 1).flt.pins
    _ = (stopped.signalViral.deliver m).flt.pins := by rw [Base.msixMgmt_flt]
    _ = stopped.flt.pins := (Base.pins_deliver ..).trans (Base.pins_signalViral _)
    _ = entered.driveFaultN.flt.pins := stops.trans answers

/-! ### The log -/

theorem Base.pins_checkWatermark : b.checkWatermark.flt.pins = b.flt.pins := by
  unfold Base.checkWatermark
  dsimp only
  split
  · rw [Base.pins_send, Base.msixMgmt_flt]
    rfl
  · rfl

/-- A message enters the log under the next sequence number. -/
theorem Base.pins_logMsg (m : Msg) : ∃ older, (b.logMsg m).flt.pins =
    (b.flt.fatal, b.flt.faultNLow, b.flt.nextSeq + 1, older ++ [{ seq := b.flt.nextSeq, msg := m, atEp := b.pl.epochs }]) :=
  ⟨_, Base.pins_checkWatermark _⟩

theorem Base.logMsg_nextSeq (m : Msg) : (b.logMsg m).flt.nextSeq = b.flt.nextSeq + 1 := by
  obtain ⟨older, pins⟩ := b.pins_logMsg m
  exact congrArg (fun x => x.2.2.1) pins

theorem Base.mem_logMsg (m : Msg) : ∃ e ∈ (b.logMsg m).flt.log, e.seq = b.flt.nextSeq ∧ e.msg = m := by
  obtain ⟨older, pins⟩ := b.pins_logMsg m
  have log : (b.logMsg m).flt.log = _ := congrArg (fun x => x.2.2.2) pins
  rw [log]
  exact ⟨_, List.mem_append_right _ (List.mem_singleton_self _), rfl, rfl⟩

/-! ### Acceptance -/

/-- The limited kind of the message is in its window (R388). -/
def Base.InWindow (m : Msg) : Prop :=
  m.kind.limited = true ∧ ∃ w ∈ b.flt.windows, w.1 = m.source ∧ w.2.1 = m.kind ∧ b.pl.epochs < w.2.2 + 1000

theorem Base.suppressed_iff (m : Msg) : b.suppressed m = true ↔ b.InWindow m := by
  simp [Base.suppressed, Base.InWindow, and_assoc]

/-- What a message that is not suppressed leaves of the windows: a limited kind opens its own anew. -/
def Base.windowsAfter (m : Msg) : List (Nat × Kind × Nat) :=
  if m.kind.limited then (m.source, m.kind, b.pl.epochs) :: b.flt.windows.filter (fun w => !(w.1 == m.source && w.2.1 == m.kind)) else b.flt.windows

/-- The message is logged and its window opens. -/
def Base.logged (m : Msg) : Base := ({ b with flt := { b.flt with windows := b.windowsAfter m } }).logMsg m

/-- The entry of the log waits for MRAM (R410). -/
def Base.noted : Base := { b with flt := { b.flt with unpersisted := b.flt.unpersisted ++ [b.flt.nextSeq - 1] } }

/-- The message is taken, and what it reports is recorded. -/
def Base.taken (m : Msg) : Base := ((b.takeMsg m).countNotice m).recordRepair m

variable {b} {m : Msg}

theorem Base.accept_suppressed (window : (b.taken m).InWindow m) : b.accept m = (b.taken m).bump Reg.SUPPRESSED_COUNT :=
  if_pos ((Base.suppressed_iff _ m).mpr window)

theorem Base.accept_logged (outside : ¬ (b.taken m).InWindow m) : b.accept m = ((b.taken m).logged m).react m := by
  unfold Base.accept
  extract_lets taken others _ windowed
  refine (if_neg fun h => outside ((Base.suppressed_iff taken m).mp h)).trans ?_
  have opened : windowed = { taken with flt := { taken.flt with windows := taken.windowsAfter m } } := by
    dsimp only [windowed, Base.windowsAfter]
    split <;> rfl
  rw [opened]
  rfl

theorem Base.react_corrected (cls : m.kind.cls = .corrected) (other : m.kind ≠ .bucketOverflow) : b.react m = b := by
  unfold Base.react
  rw [cls]
  exact if_neg other

theorem Base.react_contained (cls : m.kind.cls = .contained) : b.react m = ((b.noted.msixMgmt 0).deliver m).startTimer (b.noted.scopeOf m) := by
  unfold Base.react
  rw [cls]
  rfl

theorem Base.react_fatal (cls : m.kind.cls = .fatal) : b.react m = if b.noted.flt.fatal then b.noted else b.noted.enterFatal m := by
  unfold Base.react
  rw [cls]
  rfl

end

section
variable {s : State} (alive : s.base.alive = true)
include alive

theorem execFaultMessageAccept_none (none_ : nextMsg s.base.flt.rr s.base.flt.outbox = none) : execFaultMessageAccept s = .next s :=
  State.whenBase_pos alive (by rw [none_])

theorem execFaultMessageAccept_twice (accepted : s.base.flt.acceptedAt = some s.base.now) : execFaultMessageAccept s = .next s :=
  State.whenBase_pos alive (by
    split
    · exact if_pos accepted
    · rfl)

theorem execFaultMessageAccept_takes {m : Msg} (next : nextMsg s.base.flt.rr s.base.flt.outbox = some m)
    (first : s.base.flt.acceptedAt ≠ some s.base.now) :
    execFaultMessageAccept s = .next { s with
      base := ({ s.base with flt := { s.base.flt with acceptedAt := some s.base.now } } : Base).accept m } :=
  State.whenBase_pos alive (by
    rw [next]
    exact if_neg first)

end

/-- Settles O38: the message taken is suppressed or logged, and its class acts; the FATAL state and FAULT_N stand through all that follows them. -/
theorem messageAcceptance : Obligations.message_acceptance := by
  unfold Obligations.message_acceptance
  intro s m alive b0 run
  refine ⟨execFaultMessageAccept_none alive, execFaultMessageAccept_twice alive, fun next first => ?_⟩
  have accepts : run = _ := execFaultMessageAccept_takes alive next first
  intro b windows logged noted inWindow
  refine ⟨fun window => ?_, fun outside => ⟨fun cls other => ?_, fun cls => ?_, fun cls => ?_⟩, Base.logMsg_nextSeq _ m, Base.mem_logMsg _ m,
    fun _ _ => ?_⟩
  · exact accepts.trans (by rw [Base.accept_suppressed window]; rfl)
  · exact accepts.trans (by rw [Base.accept_logged outside, Base.react_corrected cls other]; rfl)
  · exact accepts.trans (by rw [Base.accept_logged outside, Base.react_contained cls]; rfl)
  · exact accepts.trans (by rw [Base.accept_logged outside, Base.react_fatal cls]; rfl)
  · have pins := noted.pins_enterFatal m
    exact ⟨congrArg Prod.fst pins, congrArg (fun x => x.2.1) pins⟩

end Sys2Proof.Machine
end
